-- ==== Sys2Proof/Word.lean ====
section
/-! DEFINITION. The words of the device: 32-bit registers, bytes, the 56-bit cycle counters, little-endian
byte strings (R5, R6, R8, R645). -/

namespace Sys2Proof

/-- A BAR0 register: 32 bits (R645). -/
abbrev Word := BitVec 32
abbrev Byte := BitVec 8
abbrev DWord := BitVec 64
/-- The fc and sc counters (R8); every sum and difference is modulo 2^56 (R22). -/
abbrev Cnt := BitVec 56

/-- The number that a little-endian byte string spells (R6). -/
def leNat : List Byte → Nat
  | [] => 0
  | b :: r => b.toNat + 256 * leNat r

/-- The `n` little-endian bytes of a number (R6). -/
def leBytes : Nat → Nat → List Byte
  | 0, _ => []
  | n + 1, v => BitVec.ofNat 8 v :: leBytes n (v / 256)

/-- The number that a big-endian byte string spells (fields whose table names that order). -/
def beNat (l : List Byte) : Nat := leNat l.reverse

/-- A sparse table: index and entry, indices strictly rising, no entry equal to what an unlisted index reads as. -/
abbrev Tab (α : Type) := List (Nat × α)

end Sys2Proof
end

