-- ==== Sys2Proof/Syntax.lean ====
section
/-! DEFINITION. The commands of the block: one constructor of `Instr` per row of the opcode table. The 73 host commands
(R615 to R634) carry their descriptor (Table 18-6); register writes with a row of their own carry the writing function
and the value; events carry what the outside world decides (bytes received, levels, measured values, which of several
waiting operations ends). -/

namespace Sys2Proof

/-- Where a command came from (R589, R690): a ring pair of the function, or its management mailbox. -/
inductive Via where
  | ring (k : Nat)
  | mailbox
  deriving DecidableEq, Repr

/-- A taken descriptor (Table 18-6). `buf` is what the device reads from the host buffer the descriptor names (R597)
and `bufErr` says that a buffer access ends with a PCIe error (R620). -/
structure Call where
  fn : Nat := 0
  via : Via := .ring 0
  flags : Byte := 0
  tag : BitVec 16 := 0
  part : Byte := 0xFF
  rsv : BitVec 24 := 0
  job : Word := 0
  layer : BitVec 16 := 0
  oper : BitVec 16 := 0
  param : List Byte := []
  buf : List Byte := []
  bufErr : Bool := false
  deriving DecidableEq, Repr

/-- A 32-bit BAR0 write to a register that the command's row names: writing function and value. -/
structure Wr where
  fn : Nat := 0
  val : Word := 0
  deriving DecidableEq, Repr

/-- A BAR0 write (R586): function, offset in that function's BAR0, width in bytes, value. -/
structure Acc where
  fn : Nat := 0
  off : Nat := 0
  width : Nat := 4
  val : DWord := 0
  deriving DecidableEq, Repr

/-- A counter: group (0 unit, 1 and 2 cluster, 3 device), unit ID for group 0, index (Table 12-21). -/
structure CtrId where
  group : Nat := 0
  unit : Nat := 0
  idx : Nat := 0
  deriving DecidableEq, Repr

/-- One slot of a link frame (Table 9-3) in plaintext: kind of Table 9-4, DEST, payload of 128 bytes. -/
structure Flit where
  kind : Nat := 0
  dest : Nat := 0
  payload : List Byte := []
  deriving DecidableEq, Repr

/-- A received frame (Tables 9-3 and 9-4), with the outcome of FEC and of the tag (R311) and the Toll value at its first
symbol. -/
structure Frame where
  syncOk : Bool := true
  fecOk : Bool := true
  tagOk : Bool := true
  corr : Nat := 0
  src : Nat := 0
  fcnt : Nat := 0
  epoch : Nat := 0
  holdUp : Bool := false
  holdDown : Bool := false
  lateV : Bool := false
  lateSlot : Nat := 0
  lateDseq : Nat := 0
  dseq : Nat := 0
  slots : List Flit := []
  deriving DecidableEq, Repr

/-- A control flit HELLO, LATREQ or LATRSP (Table 9-5), with the port's stamp of its arrival. -/
structure CtrlMsg where
  peerPort : Nat := 0
  dev : Nat := 0
  tag : Word := 0
  seq : Nat := 0
  t1 : DWord := 0
  t2 : DWord := 0
  t3 : DWord := 0
  arrive : DWord := 0
  depart : DWord := 0
  deriving DecidableEq, Repr

/-- A Toll message (Table 7-7), with the stamps of its arrival and of the departure of the answer (R245). -/
structure TollMsg where
  typ : Nat := 0
  depth : Nat := 0
  state : Nat := 0
  interval : Nat := 0
  seq : Nat := 0
  root : Nat := 0
  t : DWord := 0
  tEcho : DWord := 0
  arrive : DWord := 0
  depart : DWord := 0
  deriving DecidableEq, Repr

/-- What an entry of a planned-release queue holds (Table 7-4). -/
inductive EntryData where
  /-- A word of an HBM inbound queue or of a push: 64 bytes, error code of Table 8-6 carried with it. -/
  | word (bytes : List Byte) (err : Nat)
  /-- A received flit. -/
  | flit (dest : Nat) (bytes : List Byte)
  /-- A LOST entry (R312). -/
  | lost
  /-- A strike (R199): bell, striker, peer device when remote. -/
  | strike (bell unit : Nat) (peer : Option Nat)
  deriving DecidableEq, Repr


/-- A migration message received whole (Table 22-10): header flit, payload, and whether a DSEQ gap fell in it. -/
structure MigMsg where
  hdr : List Byte := []
  payload : List Byte := []
  gap : Bool := false
  deriving DecidableEq, Repr

/-- What a cold reset finds outside the device: strap levels as DEV_STRAP lays them out (R686), TEST_EN, SYS_RST_N low, and
the SPI flash (Table 22-3): whether it answers, firmware slots A and B, firmware configuration block. -/
structure BootIn where
  strap : Word := 0
  testEn : Bool := false
  rstLow : Bool := false
  flashOk : Bool := true
  fwA : List Byte := []
  fwB : List Byte := []
  cfg : List Byte := []
  deriving DecidableEq, Repr

/-- What the end of a boot finds: pseudo-channels 32s + 2c + q that failed training, causes of SAF_CAUSE whose condition
still holds (CLOCK 10, VOLTAGE 11), an OTP bit read with low margin. -/
structure ReadyIn where
  badPcs : List Nat := []
  hold : Nat := 0
  otpMargin : Bool := false
  deriving DecidableEq, Repr

/-- What the sensors report in one period (R745): nine junction temperatures, none for a sensor that does not report, and
Vout (mV) and Iout (mA) of each AVSBus rail. -/
structure ThermIn where
  tj : List (Option Byte) := []
  rails : List (Nat × Nat) := []
  deriving DecidableEq, Repr
/-- The commands of the block, in the order of the opcode table. -/
inductive Instr where
  /-- NOP (R624): Command with no effect; with FENCE it marks the point at which every earlier command of the pair is final. -/
  | nop (c : Call)
  /-- QUERY_CAPS (R624): Returns the capabilities and writes the availability map to a host buffer. -/
  | queryCaps (c : Call)
  /-- ERRLOG_READ (R684): Returns the device error log flags and optionally clears exactly the flags returned. -/
  | errlogRead (c : Call)
  /-- FW_SVN_COMMIT (R551): Raises the FW_OTP counter to the FW_SVN of the running firmware. -/
  | fwSvnCommit (c : Call)
  /-- PART_QUERY (R625): Returns PART_STAT, PART_GEN and EXPERT of a partition. -/
  | partQuery (c : Call)
  /-- PART_ASSIGN (R528): Starts a holder change of a partition mask through the phases HALT to ASSIGN. -/
  | partAssign (c : Call)
  /-- PART_SWITCH_GO (R527): A register write of PART_SWITCH.GO starts a holder change as the expert form of PART_ASSIGN. -/
  | partSwitchGo (w : Wr)
  /-- HOLDER_CHANGE_PHASE_END (R528): A timed phase of a holder change ends and the next phase begins, ending with ASSIGN, which records the new holder and increments PART_GEN. -/
  | holderChangePhaseEnd (bad : Byte)
  /-- ZFILL (R534): The zero-fill of the half-stacks of a holder change completes. -/
  | zfill
  /-- PART_RESET (R535): Command that starts a partition reset, with KEYS and TABLES when ERASE is set. -/
  | partReset (c : Call)
  /-- PART_CTL_RESET (R535): A register write of PART_CTL_p.RESET starts a partition reset. -/
  | partCtlReset (w : Wr) (p : Nat)
  /-- PARTITION_RESET_END (R535): A partition or function reset completes and RESET clears. -/
  | partitionResetEnd (p : Nat) (bad : Bool)
  /-- PART_EXPERT (R525): Command that sets or clears expert control for the holder of a partition. -/
  | partExpert (c : Call)
  /-- BELL_SET (R212): Writes the selected COUNT, TARGET, WAIT_TO or IRQ_EN fields of a bell. -/
  | bellSet (c : Call)
  /-- BELL_STRIKE (R625): One host strike enters the strike queue of the partition. -/
  | bellStrike (c : Call)
  /-- BEL_STRK (R211): A write to BEL_STRK enters one strike into the owning partition's strike queue. -/
  | belStrk (w : Wr)
  /-- BELL_WAIT (R625): Starts an unplanned host wait for a bell COUNT to reach a threshold. -/
  | bellWait (c : Call)
  /-- BELL_WAIT_END (R625): A host wait ends with OK when COUNT reaches THRESH on an MCLK edge. -/
  | bellWaitEnd (i : Nat)
  /-- BELL_WAIT_TIMEOUT (R625): A host wait ends with E_TIMEOUT after TIMEOUT µs. -/
  | bellWaitTimeout (i : Nat)
  /-- IDLE_STRIKE_APPLY (R201): While no context runs, a strike takes effect on the second FCLK edge after it reaches the strike queue. -/
  | idleStrikeApply (p : Nat)
  /-- PLAN_ADMIT (R180): Verifies a plan image through the ordered admission checks and copies it into the plan store. -/
  | planAdmit (c : Call)
  /-- PLAN_ADMIT_DONE (R181): Admission of a plan image completes and the new image replaces the earlier one. -/
  | planAdmitDone (i : Nat)
  /-- PLAN_LOAD (R626): Copies one context from the plan store into a free context slot. -/
  | planLoad (c : Call)
  /-- CONTEXT_LOAD_DONE (R182): A context load into its slots completes and the context becomes resident. -/
  | contextLoadDone (i : Nat) (bad : Nat)
  /-- PLAN_START (R626): Starts or resumes a resident context in a slip domain, at once or at a Toll start time. -/
  | planStart (c : Call)
  /-- TOLL_START (R185): The 704-fc switch of a pending PLAN_START begins on the first FCLK edge at which Toll time reaches T. -/
  | tollStart (d : Nat)
  /-- PLAN_SWITCH (R626): Requests a switch of a running domain to another resident context. -/
  | planSwitch (c : Call)
  /-- PLN_SWITCH_GO (R187): A write that sets PLN_SWITCH_p.GO requests a switch as PLAN_SWITCH with FCLASS 0. -/
  | plnSwitchGo (w : Wr) (p : Nat)
  /-- PLAN_EVICT (R192): Frees the slots of a resident context that is not running. -/
  | planEvict (c : Call)
  /-- PLAN_STOP (R626): Stops a running domain on the first FCLK edge after any switch in progress, closing it without a FAULT packet. -/
  | planStop (c : Call)
  /-- PLAN_CLEAR (R626): Returns a HALTED domain to IDLE and empties its queues as a plan boundary does. -/
  | planClear (c : Call)
  /-- CLASS_CHANGE_DONE (R234): The synthesiser relocks after a frequency class change and the 704-fc switch follows. -/
  | classChangeDone (d : Nat)
  /-- CLASS_LOCK (R235): The synthesiser fails to lock within 12 µs and the domain faults with kind CLASS_LOCK. -/
  | classLock (d : Nat)
  /-- SWITCH_END (R183): The 704 edges of a context switch end and score cycle 0 of the incoming context begins at the new base. -/
  | switchEnd (d : Nat)
  /-- RUN_END (R168): The sc counter reaches base + LENGTH_SC; the run ends and switches to NEXT or goes idle. -/
  | runEnd (d : Nat)
  /-- RGN_SET (R627): Defines an HBM region and starts its initialisation or zero-fill sweep. -/
  | rgnSet (c : Call)
  /-- RGN_CLEAR (R627): Clears VALID of a region and leaves its contents encrypted in place. -/
  | rgnClear (c : Call)
  /-- RGN_ZFILL (R295): Starts a zero-fill of a valid region. -/
  | rgnZfill (c : Call)
  /-- MEM_RGNA (R295): A write of a region table entry defines a region or requests ZFILL under the region rules. -/
  | memRgna (w : Wr) (h r : Nat)
  /-- SWEEP_END (R295): An initialisation or zero-fill sweep of a region ends and INIT_BUSY clears. -/
  | sweepEnd (h r : Nat)
  /-- REKEY_REGION (R296): Starts or resumes a sweep that re-encrypts a region under a new key version. -/
  | rekeyRegion (c : Call)
  /-- MEM_RKCTL_GO (R296): A write of MEM_RKCTL.GO starts or resumes a rekey sweep. -/
  | memRkctlGo (w : Wr) (h : Nat)
  /-- REKEY_END (R296): A rekey sweep ends and KEY_VER becomes NEW_VER. -/
  | rekeyEnd (h : Nat) (unread : List Nat)
  /-- MEM_READ (R627): Reads HBM region lines into a host buffer in unplanned slots. -/
  | memRead (c : Call)
  /-- MEM_WRITE (R627): Writes HBM region lines from a host buffer in offset order. -/
  | memWrite (c : Call)
  /-- ROLL_GRANT (R488): Binds and grants a Roll engine while it is idle. -/
  | rollGrant (c : Call)
  /-- ROLL_JOB (R511): Runs a compress or decompress job from one region into another. -/
  | rollJob (c : Call)
  /-- JCTL_GO (R510): A write of ROL_r_JCTL.GO starts a Roll job. -/
  | jctlGo (w : Wr) (r : Nat)
  /-- ROLL_JOB_DONE (R511): A Roll job ends, sets DONE and raises the job interrupt. -/
  | rollJobDone (r : Nat)
  /-- DP_PUSH (R226): Reads a host buffer, or decrypts a sealed one, into the PCIe or MRP inbound queue of the partition. -/
  | dpPush (c : Call)
  /-- PUSH_WORD_ENTER (R226): A pushed word enters its queue once the queue holds fewer entries than its depth. -/
  | pushWordEnter (i : Nat)
  /-- PUSH_TIMEOUT (R628): A DP_PUSH ends with E_TIMEOUT after TIMEOUT µs. -/
  | pushTimeout (i : Nat)
  /-- ATTEST (R555): Signs and returns an attestation report bound to a nonce. -/
  | attest (c : Call)
  /-- CERT_GET (R628): Returns the DID certificate. -/
  | certGet (c : Call)
  /-- KEY_SESSION (R556): Opens a key session with an ephemeral key pair and returns a report with the SESSION TLV. -/
  | keySession (c : Call)
  /-- SESSION_EXPIRY (R556): A key session closes 10 s after it opened and its ephemeral key is destroyed. -/
  | sessionExpiry (holder : Nat)
  /-- KEY_INSTALL (R558): Unwraps a key message and replaces the holder's staging area. -/
  | keyInstall (c : Call)
  /-- KEY_COMMIT (R559): Moves every staged key into its live slot at once, or none. -/
  | keyCommit (c : Call)
  /-- KEY_DISCARD (R560): Empties the staging area. -/
  | keyDiscard (c : Call)
  /-- KEY_DELETE (R560): Removes one live memory key version. -/
  | keyDelete (c : Call)
  /-- SET_ENROL (R562): Enrols a device set and stores its set key in the trust record. -/
  | setEnrol (c : Call)
  /-- SET_LEAVE (R563): Removes a device set from the trust record. -/
  | setLeave (c : Call)
  /-- WEIGHT_UNWRAP (R565): Decrypts a weight package sealed to an enrolled set into a region. -/
  | weightUnwrap (c : Call)
  /-- TOOLKEY_ENROL (R570): Adds a toolchain key to the trust record. -/
  | toolkeyEnrol (c : Call)
  /-- TOOLKEY_REVOKE (R570): Removes a toolchain key from the trust record. -/
  | toolkeyRevoke (c : Call)
  /-- DBGKEY_ENROL (R570): Adds a debug key to the trust record. -/
  | dbgkeyEnrol (c : Call)
  /-- DBGKEY_REVOKE (R570): Removes a debug key from the trust record. -/
  | dbgkeyRevoke (c : Call)
  /-- DBG_NONCE (R571): Returns a fresh outstanding debug nonce. -/
  | dbgNonce (c : Call)
  /-- NONCE_EXPIRY (R571): An outstanding debug nonce expires after 60 s. -/
  | nonceExpiry
  /-- DBG_ADMIT (R571): Checks and admits a debug authorisation token. -/
  | dbgAdmit (c : Call)
  /-- DBG_END (R572): Ends the active debug token and clears its effects. -/
  | dbgEnd (c : Call)
  /-- TOKEN_EXPIRY (R572): An active debug token ends after DURATION seconds. -/
  | tokenExpiry
  /-- CH_CONFIG (R630): Configures a trace channel's policy, sink, classes and ranges. -/
  | chConfig (c : Call)
  /-- CH_WINDOW (R358): Sets one address window of a trace channel. -/
  | chWindow (c : Call)
  /-- CH_ENABLE (R359): Enables a trace channel, disables it, or requests a flush. -/
  | chEnable (c : Call)
  /-- CHANNEL_EN (R359): A write of OBS_CH_n_CTL.EN enables or disables a channel with ALIGN or END packets. -/
  | channelEn (w : Wr) (n : Nat)
  /-- RING_SET (R479): Configures a channel or ingest ring set. -/
  | ringSet (c : Call)
  /-- SINK_PORT (R630): Enables or configures the remote, parallel or serial sink. -/
  | sinkPort (c : Call)
  /-- SNK_PAR_EN (R463): A write of SNK_PAR_CTL.EN starts or stops the parallel trace port. -/
  | snkParEn (w : Wr)
  /-- SNK_SER_EN (R467): A write of SNK_SER_CTL.EN starts or stops the serial trace port. -/
  | snkSerEn (w : Wr)
  /-- GOV_SET (R366): Writes the governor pins or hint of a half-stack. -/
  | govSet (c : Call)
  /-- CLAP_LOAD (R630): Loads the Clapper register image and sets ARM. -/
  | clapLoad (c : Call)
  /-- CLP_ARM (R436): A write of CLP_CTL.ARM arms or disarms the sequencer. -/
  | clpArm (w : Wr)
  /-- CLP_LEVEL_RELEASE (R439): A write of 0 to CLP_OUT.LEVEL releases a held CLAP_OUT pin. -/
  | clpLevelRelease (w : Wr)
  /-- CNT_SET (R444): Selects an event code for a counter or loads its value. -/
  | cntSet (c : Call)
  /-- EVSEL_WRITE (R444): A write of a new select code sets PENDING until the counter's next sample boundary. -/
  | evselWrite (w : Wr) (ctr : CtrId)
  /-- VALH_LOAD (R446): A write of VALH loads the counter on the next edge of its source. -/
  | valhLoad (w : Wr) (ctr : CtrId)
  /-- CNT_SNAP (R447): Command that snapshots counter scopes and copies the values to a buffer. -/
  | cntSnap (c : Call)
  /-- CNT_SNAP_GO (R447): A write of CNT_SNAP.GO copies the scopes into their shadow registers. -/
  | cntSnapGo (w : Wr)
  /-- CNT_FRZ_RELEASE (R448): A write of 1 to a CNT_FRZ bit releases a frozen scope. -/
  | cntFrzRelease (w : Wr)
  /-- LINK_CTL (R315): Enables, disables or retrains a link port. -/
  | linkCtl (c : Call)
  /-- RETRAIN (R315): A write of LNK_n_CTL.RETRAIN restarts TRAIN. -/
  | retrain (w : Wr) (n : Nat)
  /-- LINK_ASSIGN (R328): Assigns a link port to a partition. -/
  | linkAssign (c : Call)
  /-- LINK_QUERY (R631): Returns port state, latency and peer. -/
  | linkQuery (c : Call)
  /-- LINK_CAPTURE (R340): Configures monitor capture of a port. -/
  | linkCapture (c : Call)
  /-- LINK_IMPAIR (R336): Writes entries of a port's impairment table. -/
  | linkImpair (c : Call)
  /-- PEAL_SET (R631): Writes the device ID, peal tag or lock-step control. -/
  | pealSet (c : Call)
  /-- PEAL_ROUTE (R329): Writes routing table entries. -/
  | pealRoute (c : Call)
  /-- TOLL_SET (R631): Writes the selected Toll control registers. -/
  | tollSet (c : Call)
  /-- TOL_CTL_SRC (R830): A write that changes TOL_CTL.SRC or PARENT replaces the Toll reference and sets the Toll state. -/
  | tolCtlSrc (w : Wr)
  /-- TOL_SETSEC (R249): A write of TOL_SETSEC sets the Toll second, at once under FREE or at the next PPS edge. -/
  | tolSetsec (w : Wr)
  /-- TOLL_QUERY (R631): Returns Toll time, state, depth, root and offset. -/
  | tollQuery (c : Call)
  /-- TOL_NOWL_READ (R253): A read of TOL_NOWL latches TOL_NOWH from the same TKCLK edge. -/
  | tolNowlRead (fn : Nat)
  /-- CLK_FCL_READ (R253): A read of CLK_FCL_p latches the other counter halves from the same FCLK edge. -/
  | clkFclRead (fn p : Nat)
  /-- PWR_PIN (R740): Sets or releases an operator pin of a loop. -/
  | pwrPin (c : Call)
  /-- PWR_HINT (R740): Sets a tenant hint of a loop. -/
  | pwrHint (c : Call)
  /-- PWR_QUERY (R632): Returns the value in force and bounds of a loop. -/
  | pwrQuery (c : Call)
  /-- FAULT_READ (R773): Returns the fault records of a partition or of the device. -/
  | faultRead (c : Call)
  /-- SAF_RSEL_GO (R777): A write of SAF_RSEL.GO copies a selected fault record into SAF_RDATA. -/
  | safRselGo (w : Wr)
  /-- SELFTEST (R772): Runs a full self-test of every unit of the named partitions. -/
  | selftest (c : Call)
  /-- DRAIN (R716): Stops a domain and writes its drain image into a DRAIN region. -/
  | drain (c : Call)
  /-- MIGRATE (R724): Streams a complete drain image to the peer over a link. -/
  | migrate (c : Call)
  /-- MIGRATE_RECV (R725): Receives a drain image from the peer and commits it. -/
  | migrateRecv (c : Call)
  /-- MIGRATION_MESSAGE (R725): A migration OFFER, CHUNK, END, ACK or NAK message is received whole and handled. -/
  | migrationMessage (port : Nat) (m : MigMsg)
  /-- MIGRATE_TIMEOUT (R724): No ACK or NAK arrives within 100 ms and MIGRATE ends with E_TIMEOUT. -/
  | migrateTimeout (i : Nat)
  /-- STALL (R726): No migration message arrives for 1 ms after OFFER and the receiver discards the image. -/
  | stall (i : Nat)
  /-- OFFER_TIMEOUT (R726): No OFFER arrives within TIMEOUT ms and MIGRATE_RECV ends with E_TIMEOUT. -/
  | offerTimeout (i : Nat)
  /-- RESTORE (R728): Checks a drain image and loads its state into a domain as the resume target. -/
  | restore (c : Call)
  /-- REG_READ (R634): Reads registers of the caller's BAR0 view. -/
  | regRead (c : Call)
  /-- REG_WRITE (R634): Writes registers of the caller's BAR0 view as BAR0 writes. -/
  | regWrite (c : Call)
  /-- REGISTER_WRITE (R13): A BAR0 write to a register with no row of its own acts on each field by its type and the permission rules. -/
  | registerWrite (a : Acc)
  /-- INJECTION_ARM (R86): A write that sets ARM of CU_RESINJ, SRAM_EINJ or NET_CINJ arms one fault injection. -/
  | injectionArm (w : Wr) (which : Nat)
  /-- DOORBELL (R592): A write of SQ_TAIL offers descriptors to the device. -/
  | doorbell (w : Wr) (k : Nat)
  /-- CQ_HEAD_WRITE (R594): A write of CQ_HEAD returns completion ring space. -/
  | cqHeadWrite (w : Wr) (k : Nat)
  /-- RQ_EN (R591): A write of RQ_k_CTL.EN enables a ring pair and resets its pointers, or disables it. -/
  | rqEn (w : Wr) (k : Nat)
  /-- DESCRIPTOR_FETCH (R599): The device takes and tests an offered descriptor once the completion ring has room. -/
  | descriptorFetch (fn k : Nat) (desc : List Byte) (readErr : Bool) (buf : List Byte) (bufErr : Bool)
  /-- MBX_GO (R689): A write of MBX_CTL.GO submits a mailbox request or is refused. -/
  | mbxGo (w : Wr)
  /-- RNG_RD (R470): A write of RNG_RD returns ring slots to the device. -/
  | rngRd (w : Wr) (n : Nat) (ingest : Bool)
  /-- FLUSH (R458): A write of SNK_CFG.FLUSH requests a flush of a channel. -/
  | flush (w : Wr) (n : Nat)
  /-- DEV_LOCK (R687): A write of DEV_LOCK locks the RWL fields of blocks until cold reset. -/
  | devLock (w : Wr)
  /-- IMR_WRITE (R681): A write that unmasks a pending interrupt cause issues one MSI-X message. -/
  | imrWrite (w : Wr) (f : Nat) (high : Bool)
  /-- B2W_CTL (R661): A write of B2W_k_CTL enables a BAR2 window onto a region. -/
  | b2wCtl (w : Wr) (k : Nat)
  /-- BAR2_ACCESS (R662): A BAR2 read or write request reaches an HBM region through a window. -/
  | bar2Access (fn : Nat) (addr : Nat) (write : Bool) (len : Nat) (data : List Byte) (en : List Bool)
  /-- BAR2_READ_TIMEOUT (R664): A BAR2 read not served within 40 µs completes with Completer Abort. -/
  | bar2ReadTimeout (fn : Nat) (addr : Nat)
  /-- SAF_ENTER (R766): A write of SAF_ENTER.GO requests the device safe state. -/
  | safEnter (w : Wr)
  /-- COLD_RESET (R708): SYS_PWRGD rising starts a cold reset and the boot timeline. -/
  | coldReset (b : BootIn)
  /-- MRP_READY (R675): Boot ends: the availability map is written, registers are filled and MRP_READY is set. -/
  | mrpReady (b : ReadyIn)
  /-- POWER_LOSS (R701): SYS_PWRGD falling stops new flash and OTP programming. -/
  | powerLoss
  /-- WARM_RESET (R704): SYS_RST_N low or the watchdog starts a warm reset that halts every domain. -/
  | warmReset
  /-- CONVENTIONAL_RESET (R609): PCIE_PERST_N, hot reset or link down resets the PCIe state of every function. -/
  | conventionalReset (perst : Bool)
  /-- FUNCTION_RESET (R607): PCIe FLR of a VF runs a partition reset or a VF-only reset. -/
  | functionReset (fn : Nat)
  /-- PF0_FLR (R608): PCIe FLR of PF0 resets its rings and MSI-X state. -/
  | pf0Flr
  /-- BUS_MASTER_ENABLE (R610): Bus Master Enable returning to 1 lets waiting replies be written in order. -/
  | busMasterEnable (fn : Nat) (en : Bool)
  /-- RECOVERY_PIECE (R710): A firmware image piece submitted through the PF0 mailbox during host recovery is copied. -/
  | recoveryPiece
  /-- SAFE_REQ (R766): A low level on SAFE_REQ_N for 100 ns requests the device safe state. -/
  | safeReq (low : Bool)
  /-- CLOCK_LOSS (R223): A monitored clock stops or deviates and its reaction follows. -/
  | clockLoss (clk : Nat)
  /-- VOLTAGE (R767): A rail lies outside its window for 2 µs and a VOLTAGE fault is detected. -/
  | voltage (rail : Nat) (high : Bool) (mV : Nat)
  /-- WATCHDOG_EXPIRY (R768): The MRP watchdog expires after 1 ms without restart. -/
  | watchdogExpiry
  /-- WATCHDOG_WARM_RESET (R768): A warm reset starts 100 µs after watchdog safe-state entry. -/
  | watchdogWarmReset
  /-- THERMAL_LOOP (R745): Every 100 µs the thermal and power terms, the throttle and the thermal trip are updated. -/
  | thermalLoop (r : ThermIn)
  /-- VOLTAGE_LOOP (R741): Every 10 µs a rail steps 5 mV up or down by its margin monitors. -/
  | voltageLoop (rail : Nat) (early : Bool) (settled : Bool)
  /-- GOVERNOR_LOOP (R752): Every 100 µs the governor loop adjusts LOOP_h and EFF_h. -/
  | governorLoop (h : Nat)
  /-- LINK_EQ (R750): The equalisation loop adapts a receiver CTLE code. -/
  | linkEq (n : Nat) (code : Nat)
  /-- REFRESH_RATE (R288): A stack temperature read sets the refresh rate. -/
  | refreshRate (stack : Nat) (tempC : Option Nat)
  /-- THROTTLE_WINDOW (R747): A throttle window begins and cause THERMAL is active for its first L edges. -/
  | throttleWindow (d : Nat)
  /-- PERIODIC_SELFTEST (R769): The safety monitor tests an idle array unit. -/
  | periodicSelftest (unit : Nat) (fail : Bool)
  /-- ARRIVAL (R227): An entry becomes visible at a planned-release queue on an FCLK edge. -/
  | arrival (q : Nat)
  /-- RELEASE (R228): A planned release is tested and the queue presents its entry, slips or faults. -/
  | release (q : Nat)
  /-- SLIP_END (R33): No slip cause is active and score time resumes; the slip record is written. -/
  | slipEnd (d : Nat)
  /-- SLIP_LIMIT (R35): A slip reaches its limit and the domain faults with a slip-limit fault. -/
  | slipLimit (d : Nat)
  /-- WAIT_TIMEOUT (R208): A pending wait has not ended by b + WAIT_TO and the domain faults with TIMEOUT. -/
  | waitTimeout (d : Nat) (i : Nat)
  /-- SLOT_SWITCH (R77): A scheduled op slot switch takes effect for the next S0 acceptance. -/
  | slotSwitch (unit : Nat) (slot : Nat)
  /-- DOT_STEP (R53): A CU performs one dot step and its residue checks. -/
  | dotStep (unit : Nat) (bad : List Nat)
  /-- AG_RUN (R102): An address generator run starts at its scheduled score cycle. -/
  | agRun (unit ag prog : Nat)
  /-- AG_ACCESS (R103): An address generator issues one access of its run. -/
  | agAccess (unit ag : Nat) (ecc : Nat)
  /-- ECC_WRITE_BACK (R114): A corrected word is written back in the first sc with no planned access to its bank. -/
  | eccWriteBack (unit : Nat)
  /-- ROUTE (R138): A route set takes effect at its scheduled score cycle. -/
  | route (unit set : Nat)
  /-- STEER (R140): A steer-node or relay run starts at its scheduled score cycle. -/
  | steer (unit elem len : Nat)
  /-- CREDIT_LATE (R149): A credit has not returned by t + BOUND and the domain faults. -/
  | creditLate (unit src : Nat)
  /-- DMA_ISSUE (R291): An occurrence of a DMA record issues its requests at its score cycle. -/
  | dmaIssue (d : Nat) (ri occ : Nat)
  /-- DMA_COMPLETE (R292): An occurrence completes and strikes its bell when STRIKE_EN is set. -/
  | dmaComplete (d : Nat) (ri occ : Nat)
  /-- HBM_READ_RETURN (R287): A planned line read returns its data to the inbound queue, with poison or error capture. -/
  | hbmReadReturn (d : Nat) (ri occ line : Nat) (fault : Nat)
  /-- ROLL_BLOCK (R508): The engine decodes or encodes one Roll block of a DMA occurrence. -/
  | rollBlock (r : Nat) (ev : Nat)
  /-- TX (R331): A TX occurrence commits its flit to the port's transmit queue. -/
  | tx (port : Nat) (ri occ : Nat)
  /-- FRAME_SEND (R309): A port sends one frame with the next frame counter. -/
  | frameSend (port : Nat)
  /-- FRAME_RECEIVE (R311): A port accepts or rejects a received frame and takes its flits. -/
  | frameReceive (port : Nat) (f : Frame)
  /-- LINK_DOWN (R342): A port with records in a running context leaves UP and the domain faults. -/
  | linkDown (port : Nat) (reason : Nat)
  /-- TRAIN (R315): PMD training of a port completes and the port moves to FRAME. -/
  | train (port : Nat)
  /-- TRAIN_TIMEOUT (R315): TRAIN does not complete within 1 s and the port goes to DOWN_ERR. -/
  | trainTimeout (port : Nat)
  /-- AUTO_RETRAIN (R315): A port with AUTO starts TRAIN again 10 ms after DOWN_ERR. -/
  | autoRetrain (port : Nat)
  /-- HELLO (R316): A HELLO flit from the peer is checked and the peer recorded. -/
  | hello (port : Nat) (m : CtrlMsg)
  /-- LATRSP (R317): A latency exchange answer is received and WL_MAX and DELAY are computed after 64. -/
  | latrsp (port : Nat) (m : CtrlMsg)
  /-- SYNC (R245): A Toll SYNC message arrives at a child, which stamps it and answers with DREQ. -/
  | sync (port : Nat) (m : TollMsg)
  /-- DREQ (R245): A Toll DREQ arrives at the parent, which answers with DRESP. -/
  | dreq (port : Nat) (m : TollMsg)
  /-- DRESP (R246): A Toll DRESP completes an exchange and the child updates offset, state and INCR. -/
  | dresp (port : Nat) (m : TollMsg)
  /-- SYNC_SEND (R245): The parent sends a SYNC every exchange interval. -/
  | syncSend (port : Nat)
  /-- REFERENCE_LOST (R241): No SYNC for 8 intervals or no PPS edge in two seconds loses the Toll reference. -/
  | referenceLost (cause : Nat)
  /-- HOLDOVER_LIMIT (R241): A device in HOLDOVER for TOL_HOLD seconds enters FREERUN. -/
  | holdoverLimit
  /-- PPS_EDGE (R248): A TOLL_PPS_IN edge is stamped and used for Toll discipline. -/
  | ppsEdge
  /-- TOLL_REFCLK_LOSS (R813): TOLL_REFCLK is lost and lanes move to the fallback synthesiser. -/
  | tollRefclkLoss
  /-- TOLL_REFCLK_PRESENT (R240): TOLL_REFCLK has been present for 1 ms and a FREE root locks. -/
  | tollRefclkPresent
  /-- CLAP_IN (R433): A CLAP_IN edge matches an input comparator. -/
  | clapIn (pin : Nat) (level : Bool)
  /-- TAP_RECORD (R349): A tap records an event of its unit and forwards it to the concentrator. -/
  | tapRecord (unit : Nat) (data : Bool)
  /-- PACKET_WRITE (R352): The concentrator writes a packet into the buffer of each channel that accepts it. -/
  | packetWrite
  /-- SCORE_CLOSE (R383): The checker closes a score cycle, compares it and emits flams. -/
  | scoreClose (d cluster : Nat)
  /-- CLAPPER_MATCH (R435): The Clapper takes a match and may fire an arc with its actions. -/
  | clapperMatch
  /-- STOP_COUNT_END (R438): A post-trigger stop count ends and the channels write END. -/
  | stopCountEnd
  /-- PULSE_END (R439): A CLAP_OUT pulse ends after WIDTH ns. -/
  | pulseEnd (pin : Nat)
  /-- SAMPLE (R442): A unit sample boundary emits a COUNTER packet. -/
  | sample (unit : Nat)
  /-- GROUP_SAMPLE (R443): Toll time crosses a multiple of 2^TEXP and cluster and device groups are sampled. -/
  | groupSample (group : Nat)
  /-- THRESHOLD (R432): A counter crosses THRESH and its threshold comparator matches. -/
  | threshold (t : Nat)
  /-- OVERFLOW (R445): A counter wraps and its group emits an OVERFLOW packet. -/
  | overflow (ctr : CtrId)
  /-- FRAME_FORM (R457): A trace frame is formed from 244 stream bytes. -/
  | frameForm (n : Nat)
  /-- FLUSH_TIMER (R458): A stream byte waits FLUSH_US µs and the sink flushes. -/
  | flushTimer (n : Nat)
  /-- RING_DELIVER (R471): A trace frame is delivered to a ring and RNG_WR advances. -/
  | ringDeliver (n : Nat) (ok : Bool)
  /-- PORT_FRAME (R464): A parallel or serial port sends one staged frame. -/
  | portFrame (serial : Bool)
  /-- FCLK_EDGE (R8): Each FCLK edge of a slip domain advances fc and, outside a slip, sc, evaluates slip causes and moves entries, credits and steer and relay actions through the network. -/
  | fclkEdge (d : Nat)
  /-- LATREQ (R317): A LATREQ control flit from the peer is stamped and answered with a LATRSP carrying t1, t2 and t3. -/
  | latreq (port : Nat) (m : CtrlMsg)
  /-- FRAME_LOCK (R315): A port in FRAME finds 8 consecutive SYNC pairs at 1,072-byte spacing and moves to KEY. -/
  | frameLock (port : Nat)
  /-- TOLL_REFCLK_RETURN (R240): TOLL_REFCLK returns while Toll is in HOLDOVER and the root enters ACQUIRE. -/
  | tollRefclkReturn
  /-- SYS_RST_RELEASE (R735): SYS_RST_N rises and a held cold reset or a warm reset resumes its boot steps. -/
  | sysRstRelease
  /-- PERST_RELEASE (R709): PCIE_PERST_N deasserts and configuration requests are answered 20 ms later instead of with retry status. -/
  | perstRelease
  /-- PCIE_LINK_TRAINED (R676): The PCIe link completes training or retraining and DEV_PCIE takes the new rate and width within 1 µs. -/
  | pcieLinkTrained (rate width : Nat)
  /-- MSIX_UNMASK (R588): Clearing an MSI-X vector or function mask with its pending bit set sends one message. -/
  | msixUnmask (fn : Nat) (vec : Option Nat)
  /-- NUMVFS_WRITE (R584): A write of NumVFs enables or disables VFs, changing which partitions are reached only through PF0. -/
  | numvfsWrite (n : Nat)
  /-- JTAG_INSTRUCTION_LOAD (R804): The TAP loads an instruction, with EXTEST-class instructions replaced by BYPASS unless every domain is idle or halted, and MRP_DEBUG acting only under a token. -/
  | jtagInstructionLoad (ir : Nat)
  /-- REGULATOR_TIMEOUT (R744): An AVSBus regulator does not answer within 1 ms and a regulator fault is raised. -/
  | regulatorTimeout (rail : Nat)
  /-- DRAIN_DONE (R720): A drain finishes writing its chunks and header, and DRAIN posts its final reply. -/
  | drainDone (i : Nat)
  /-- RESTORE_DONE (R729): A restore finishes loading a drain image and the context becomes the resume target. -/
  | restoreDone (i : Nat)
  /-- SELFTEST_DONE (R772): A commanded self-test ends, sets or clears SAF_FAIL bits and posts its result. -/
  | selftestDone (i : Nat) (failed : List Nat)
  /-- RECORD_UPDATE_DONE (R567): A trust record update finishes its read-back and OTP advance, clears REC_BUSY and completes. -/
  | recordUpdateDone (i : Nat) (ok : Bool)
  /-- WEIGHT_UNWRAP_DONE (R565): A weight unwrap finishes decrypting its chunks, or stops on a failed tag, and posts its final reply. -/
  | weightUnwrapDone (i : Nat)
  deriving DecidableEq, Repr

end Sys2Proof
end

