-- ==== Sys2Proof/Decode.lean ====
section
/-! DEFINITION. The opcode table gives no row any bits: a word spells no command. (Descriptors, which the device itself
reads, are taken apart in Machine/Host.lean.) -/

namespace Sys2Proof

/-- The command that a table word spells: none, since the table gives no row any bits. (log entry 110, DESIGN CHOICE) -/
def decodeTableWord (_nbits _w : Nat) : Option Instr := none

end Sys2Proof
end

