-- ==== Sys2Proof/Config.lean ====
section
/-! DEFINITION. What one implementation fixes and the specification leaves open, as constants without a body, and the
outside standards the specification names (AES-256, SHA-384, ECDSA P-384) as functions without a body. Nothing in Lean
can evaluate them: a statement holds whatever they are. -/

namespace Sys2Proof.Config

/-- A fresh free value each time: the value the specification leaves open at the `n`-th such point of a run.
(log entry 11, DESIGN CHOICE) -/
opaque freeValue : Nat → BitVec 512

/-- S4 element-wise functions (R73): within 2 ulp of the exact result, a fixed function of the operand bits.
(log entry 13, DESIGN CHOICE) -/
opaque eltwise : (fn : Nat) → BitVec 32 → BitVec 32

/-- What an HBM line that nothing has written under the key in force reads as, when unprotected (R831): 128 bytes,
stable for one line and one key generation. (log entry 10, DESIGN CHOICE) -/
opaque staleByte : (gen dla i : Nat) → BitVec 8

/-- AES-256 of one block (key, 16-byte block). (log entry 12, PRESUMED) -/
opaque aesBlock : List (BitVec 8) → List (BitVec 8) → List (BitVec 8)

/-- GHASH of the GCM mode: hash key block, data blocks (padded) to one block. (log entry 12, PRESUMED) -/
opaque ghash : List (BitVec 8) → List (BitVec 8) → List (BitVec 8)

/-- SHA-384 of a byte string: 48 bytes. (log entry 12, PRESUMED) -/
opaque sha384 : List (BitVec 8) → List (BitVec 8)

/-- HMAC-SHA-384 (key, message), on which HKDF-SHA-384 stands. (log entry 12, PRESUMED) -/
opaque hmac384 : List (BitVec 8) → List (BitVec 8) → List (BitVec 8)

/-- ECDSA P-384 verification: public point (97 bytes), digest (48), r (48), s (48). (log entry 12, PRESUMED) -/
opaque ecdsaVerify : List (BitVec 8) → List (BitVec 8) → List (BitVec 8) → List (BitVec 8) → Bool

/-- The `n`-th ECDSA P-384 signature: private key, digest, to 96 bytes, r then s. (log entry 12, PRESUMED) -/
opaque ecdsaSign : (n : Nat) → List (BitVec 8) → List (BitVec 8) → List (BitVec 8)

/-- ECDH on P-384: private scalar, public point, to the shared 48 bytes. (log entry 12, PRESUMED) -/
opaque ecdh : List (BitVec 8) → List (BitVec 8) → List (BitVec 8)

/-- The public point (97 bytes) of a private scalar. (log entry 12, PRESUMED) -/
opaque pubPoint : List (BitVec 8) → List (BitVec 8)

/-- A point lies on the curve and is not the identity. (log entry 12, PRESUMED) -/
opaque pointOk : List (BitVec 8) → Bool

/-- The inverse of AES-256 of one block (key, 16-byte block). (log entry 12, PRESUMED) -/
opaque aesBlockInv : List (BitVec 8) → List (BitVec 8) → List (BitVec 8)

/-- The unique device secret in OTP (R549): 32 bytes. (log entry 19, DESIGN CHOICE) -/
opaque uds : List (BitVec 8)

/-- Public point of the firmware key whose digest is fused into OTP (R548). (log entry 19, DESIGN CHOICE) -/
opaque fwKey : List (BitVec 8)

/-- The DID certificate in flash (R550). (log entry 19, DESIGN CHOICE) -/
opaque didCert : List (BitVec 8)

/-- SHA-384 of the boot ROM, fused at manufacture. (log entry 19, DESIGN CHOICE) -/
opaque romDigest : List (BitVec 8)

/-- The schedule of a CU's block shows an S5 overrun (R89): the specification gives the rule and no procedure.
(log entry 16, DESIGN CHOICE) -/
opaque s5Overrun : List (BitVec 8) → Bool

/-- The random generator of the MRP: the `n`-th value drawn, 48 bytes. (log entry 11, DESIGN CHOICE) -/
opaque random : Nat → List (BitVec 8)

/-- The token choice of the device's Roll encoder (R500): a fixed function of the data of a block.
(log entry 18, DESIGN CHOICE) -/
opaque rollEncode : (table : Nat) → List (BitVec 8) → List (BitVec 8)

/-- Class of Table 24-2 that a fault record of an MU access fault (BLOCK 2) carries: no row of the table names it.
(log entry 17, DESIGN CHOICE) -/
opaque muAccessClass : BitVec 4

/-- Class of Table 24-2 that a fault record of a CLASS_LOCK fault carries: no row of the table names R235.
(log entry 17, DESIGN CHOICE) -/
opaque classLockClass : BitVec 4

/-- FP32 bits that S3 takes from an INT32 accumulator: the specification gives S3 binary32 operands and no conversion.
(log entry 14, DESIGN CHOICE) -/
opaque intToF32 : BitVec 32 → BitVec 32

/-- Condition of a packed vector whose results have different conditions (R70, R75): by format and the conditions.
(log entry 15, DESIGN CHOICE) -/
opaque packCond : Nat → List Bool → Bool

/-- Upper lanes of WIDE in a BYPASS slot that accepts no IN1 vector, by IN0 bytes and lane.
(log entry 15, DESIGN CHOICE) -/
opaque wideLane : List (BitVec 8) → Nat → BitVec 32

/-- BLOCK, KIND and class of an S5 overrun fault (R89): no row of Tables 12-24 and 24-2 names it.
(log entry 16, DESIGN CHOICE) -/
opaque s5Block : BitVec 8
/-- Log entry 16, DESIGN CHOICE. -/
opaque s5Kind : BitVec 8
/-- Log entry 16, DESIGN CHOICE. -/
opaque s5Class : BitVec 4

/-- INCR that the discipline chooses after an update (R246, R248), in 2^-32 tt, before the bound of R238: the specification
gives no formula for its trim. (log entry 42, DESIGN CHOICE) -/
opaque tollTrim : (n : Nat) → BitVec 40

/-- Toll time from a frame's entry into the transmit path to its first symbol at the serialiser (R317).
(log entry 18, DESIGN CHOICE) -/
opaque txLatency : BitVec 64

/-- Words that an outbound DMA queue holds (R224): the specification gives its rule and no depth.
(log entry 18, DESIGN CHOICE) -/
opaque outDepth : Nat

/-- Fused limits of a rail in mV (R741): rail 0 and 1 by class 1 to 4, the uncore rail under class 0.
(log entry 18, DESIGN CHOICE) -/
opaque vmin : (rail cls : Nat) → BitVec 16
/-- Log entry 18, DESIGN CHOICE. -/
opaque vmax : (rail cls : Nat) → BitVec 16

/-- KIND of the memory fault that a lost HCLK_n raises (Table 7-3): no row of Table 8-6 names it.
(log entry 17, DESIGN CHOICE) -/
opaque hclkKind : BitVec 4

/-- Byte of a control chunk of the drain image with a DRAIN_ID (R717): readable by a device of the same stepping only.
(log entry 18, DESIGN CHOICE) -/
opaque drainByte : (id chunk i : Nat) → BitVec 8

end Sys2Proof.Config
end

