-- ==== Sys2Proof/Machine/Bits.lean ====
section
/-! DEFINITION. Bit fields of registers and numbers (R5), and the small numeric helpers the chapters share. -/

namespace Sys2Proof.Machine

/-- Field of `w` bits from bit `lo` of a register (R5). -/
def fld (r : Word) (lo w : Nat) : Nat := r.toNat / 2 ^ lo % 2 ^ w

/-- One bit of a register. -/
def bit (r : Word) (i : Nat) : Bool := r.getLsbD i

/-- The mask of bits `lo` to `lo + w - 1`. -/
def fmask (lo w : Nat) : Word := BitVec.ofNat 32 ((2 ^ w - 1) * 2 ^ lo)

/-- A register with a field replaced; a value wider than the field loses its upper bits. -/
def putFld (r : Word) (lo w v : Nat) : Word :=
  (r &&& ~~~ fmask lo w) ||| (BitVec.ofNat 32 (v % 2 ^ w * 2 ^ lo))

/-- A register with one bit replaced. -/
def putBit (r : Word) (i : Nat) (b : Bool) : Word := putFld r i 1 (if b then 1 else 0)

def b2n (b : Bool) : Nat := if b then 1 else 0

/-- Field of a number. -/
def nfld (n lo w : Nat) : Nat := n / 2 ^ lo % 2 ^ w

/-- Bit of a number. -/
def nbit (n i : Nat) : Bool := n.testBit i

/-- Increment that stops at the largest value of a `w`-bit count (saturating counts). -/
def satInc (w v : Nat) : Nat := if v + 1 < 2 ^ w then v + 1 else 2 ^ w - 1

def satAdd (w v n : Nat) : Nat := if v + n < 2 ^ w then v + n else 2 ^ w - 1

/-- Byte `i` of a byte string; 0 beyond its end. -/
def byteAt (l : List Byte) (i : Nat) : Nat := (l.getD i 0).toNat

/-- The little-endian number in `n` bytes from byte `i` (R6). -/
def leAt (l : List Byte) (i n : Nat) : Nat := leNat ((l.drop i).take n)

/-- A byte string cut or padded with zeros to `n` bytes. -/
def padTo (n : Nat) (l : List Byte) : List Byte := (l ++ List.replicate (n - l.length) 0).take n

/-- A byte from a number, its low 8 bits. -/
def bite (n : Nat) : Byte := BitVec.ofNat 8 n

def zeros (n : Nat) : List Byte := List.replicate n 0

/-- Replace bytes of a string from index `i`. -/
def spliceAt (l : List Byte) (i : Nat) (v : List Byte) : List Byte := l.take i ++ v ++ l.drop (i + v.length)

/-- The set bits of a mask below `n`, rising. -/
def maskBits (n m : Nat) : List Nat := (List.range n).filter (fun i => m.testBit i)

/-- The mask of a list of bit numbers. -/
def maskOf (l : List Nat) : Nat := l.foldl (fun a i => a ||| 2 ^ i) 0

/-- How many of the low n bits of a mask are set. -/
def popCount (n m : Nat) : Nat := (maskBits n m).length

/-- Lowest set bit below `n`, or `n` when none is set. -/
def lowBit (n m : Nat) : Nat := ((List.range n).find? (fun i => m.testBit i)).getD n

/-- Replace element `i` of a list. -/
def setAt {α : Type} (l : List α) (i : Nat) (v : α) : List α := l.set i v

/-- A fold over the first `n` numbers, rising. -/
def forN {σ : Type} (n : Nat) (f : Nat → σ → σ) (s : σ) : σ := (List.range n).foldl (fun a i => f i a) s

/-- A fold over a list, in order. -/
def forL {α σ : Type} (l : List α) (f : α → σ → σ) (s : σ) : σ := l.foldl (fun a i => f i a) s

end Sys2Proof.Machine
end

