-- ==== Sys2Proof/Machine/Float.lean ====
section
/-! DEFINITION. The number formats of the compute units (Table 2-3, R59 to R74): exact values, rounding, the IEEE 754
binary32 operations of S2 to S4 and the narrowings of S5. -/

namespace Sys2Proof.Machine

/-- An exact value: NaN, a signed infinity, or ± m × 2^e. -/
inductive Fx where
  | nan
  | inf (neg : Bool)
  | fin (neg : Bool) (m : Nat) (e : Int)
  deriving DecidableEq, Repr

def cnan : Nat := 0x7FC00000

/-- Shift right by a whole number of bits with rounding: nearest, ties to even, or toward zero. -/
def roundShr (rtz : Bool) (m sh : Nat) : Nat :=
  let q := m / 2 ^ sh
  let r := m % 2 ^ sh
  if rtz then q
  else if 2 * r < 2 ^ sh then q
  else if 2 * r = 2 ^ sh then q + q % 2
  else q + 1

/-- Round m × 2^e to precision p with least exponent emin of the last place: significand and exponent of the last place. -/
def roundTo (rtz : Bool) (p : Nat) (emin : Int) (m : Nat) (e : Int) : Nat × Int :=
  let len := if m = 0 then 0 else Nat.log2 m + 1
  let q := max (e + len - p) emin
  if q ≤ e then (m * 2 ^ (e - q).toNat, q)
  else
    let r := roundShr rtz m (q - e).toNat
    if r = 2 ^ p then (2 ^ (p - 1), q + 1) else (r, q)

/-- Bits of a binary format of precision p, last-place floor emin, from a rounded value: exponent field above fraction. -/
def packBits (p : Nat) (emin : Int) (m : Nat) (q : Int) : Nat :=
  if m < 2 ^ (p - 1) then m
  else (q - emin + 1).toNat * 2 ^ (p - 1) + (m - 2 ^ (p - 1))

/-- FP32 bits of an exact value, one rounding to nearest even (R64, R66). -/
def enc32 : Fx → Nat
  | .nan => cnan
  | .inf neg => b2n neg * 2 ^ 31 + 0x7F800000
  | .fin neg m e =>
    let r := roundTo false 24 (-149) m e
    let b := packBits 24 (-149) r.1 r.2
    b2n neg * 2 ^ 31 + (if 0x7F800000 ≤ b then 0x7F800000 else b)

/-- Value of an IEEE-style code with `w` exponent bits and `f` fraction bits. -/
def decIeee (w f : Nat) (bias : Int) (b : Nat) : Fx :=
  let neg := b.testBit (w + f)
  let e := nfld b f w
  let m := b % 2 ^ f
  if e = 2 ^ w - 1 then (if m = 0 then .inf neg else .nan)
  else if e = 0 then .fin neg m (1 - bias - f)
  else .fin neg (2 ^ f + m) (e - bias - f)

def dec32 (b : Nat) : Fx := decIeee 8 23 127 b
def decBf16 (b : Nat) : Fx := dec32 (b % 2 ^ 16 * 2 ^ 16)
def decE5m2 (b : Nat) : Fx := decIeee 5 2 15 b
def decE4m3 (b : Nat) : Fx :=
  let neg := b.testBit 7
  let e := nfld b 3 4
  let m := b % 8
  if e = 15 ∧ m = 7 then .nan
  else if e = 0 then .fin neg m (-9) else .fin neg (8 + m) ((e : Int) - 10)
def decE2m1 (b : Nat) : Fx :=
  let neg := b.testBit 3
  let e := nfld b 1 2
  let m := b % 2
  if e = 0 then .fin neg m (-1) else .fin neg (2 + m) ((e : Int) - 2)
def decInt (w b : Nat) : Fx := if b.testBit (w - 1) then .fin true (2 ^ w - b % 2 ^ w) 0 else .fin false (b % 2 ^ w) 0

/-- Element of format f (Table 2-3). -/
def decElem (f b : Nat) : Fx :=
  match f with
  | 1 => decE2m1 b | 2 => decE4m3 b | 3 => decE5m2 b | 4 => decInt 4 b | 5 => decInt 8 b | 6 => decBf16 b | 7 => dec32 b
  | _ => .fin false 0 0
/-- Element width in bits. -/
def elemBits (f : Nat) : Nat := match f with | 1 => 4 | 4 => 4 | 2 => 8 | 3 => 8 | 5 => 8 | 6 => 16 | _ => 32
def isMx (f : Nat) : Bool := decide (1 ≤ f) && decide (f ≤ 3)

/-! ### Exact arithmetic -/

def Fx.isNan : Fx → Bool | .nan => true | _ => false
def Fx.neg? : Fx → Bool | .nan => false | .inf n => n | .fin n _ _ => n
def Fx.isZero : Fx → Bool | .fin _ 0 _ => true | _ => false
def Fx.scale (k : Int) : Fx → Fx | .fin n m e => .fin n m (e + k) | x => x
def signed (n : Bool) (m : Nat) : Int := if n then -(m : Int) else m

def Fx.mul : Fx → Fx → Fx
  | .nan, _ => .nan
  | _, .nan => .nan
  | .inf a, .inf b => .inf (a != b)
  | .inf a, .fin b m _ => if m = 0 then .nan else .inf (a != b)
  | .fin a m _, .inf b => if m = 0 then .nan else .inf (a != b)
  | .fin a m e, .fin b n f => .fin (a != b) (m * n) (e + f)

/-- Exact sum; an exact zero is +0 unless both are −0. -/
def Fx.add : Fx → Fx → Fx
  | .nan, _ => .nan
  | _, .nan => .nan
  | .inf a, .inf b => if a = b then .inf a else .nan
  | .inf a, .fin _ _ _ => .inf a
  | .fin _ _ _, .inf b => .inf b
  | .fin a m e, .fin b n f =>
    let q := min e f
    let s := signed a (m * 2 ^ (e - q).toNat) + signed b (n * 2 ^ (f - q).toNat)
    if s = 0 then .fin (a && b && decide (m = 0) && decide (n = 0)) 0 q else .fin (decide (s < 0)) s.natAbs q

def Fx.negate : Fx → Fx | .nan => .nan | .inf n => .inf (!n) | .fin n m e => .fin (!n) m e
/-- a < b, for values that are not NaN. -/
def Fx.lt (a b : Fx) : Bool :=
  match a, b with
  | .nan, _ => false
  | _, .nan => false
  | .inf x, .inf y => x && !y
  | .inf x, .fin _ _ _ => x
  | .fin _ _ _, .inf y => !y
  | .fin x m e, .fin y n f =>
    let q := min e f
    decide (signed x (m * 2 ^ (e - q).toNat) < signed y (n * 2 ^ (f - q).toNat))

/-- The dot product of a chunk with a WRF entry (R61, R63): exact; an exact zero sum of finite products is +0. -/
def dotFx (l : List (Fx × Fx)) : Fx :=
  (l.map (fun x => x.1.mul x.2)).foldl Fx.add (.fin false 0 0)

/-- S2 in FP32 mode (R64). -/
def accF32 (acc : Nat) (d : Fx) : Nat := enc32 ((dec32 acc).add d)

/-- S2 in INT32 mode (R65): the saturated sum and whether it saturated. -/
def accI32 (acc : Nat) (d : Int) : Nat × Bool :=
  let s := (BitVec.ofNat 32 acc).toInt + d
  if 2 ^ 31 ≤ s then (2 ^ 31 - 1, true) else if s < -(2 ^ 31 : Int) then (2 ^ 31, true) else ((BitVec.ofInt 32 s).toNat, false)

def fxInt : Fx → Int | .fin n m e => signed n (m * 2 ^ e.toNat) | _ => 0

/-! ### S3 and S4 -/

def add32 (a b : Nat) : Nat := enc32 ((dec32 a).add (dec32 b))
def one32 : Nat := 0x3F800000
/-- The larger or smaller of two; on equal values the first. -/
def max32 (a b : Nat) : Nat := if (dec32 a).isNan || (dec32 b).isNan then cnan else if (dec32 a).lt (dec32 b) then b else a
def min32 (a b : Nat) : Nat := if (dec32 a).isNan || (dec32 b).isNan then cnan else if (dec32 b).lt (dec32 a) then b else a
def canon (a : Nat) : Nat := if (dec32 a).isNan then cnan else a

/-- S3 (Table 2-5, R66). A reserved code passes A; the load check refuses it. -/
def s3 (op a b c : Nat) : Nat :=
  let x := dec32 a
  let y := dec32 b
  match op with
  | 1 => enc32 (x.add y)
  | 2 => enc32 (x.add y.negate)
  | 3 => enc32 (x.mul y)
  | 4 => enc32 ((x.mul y).add (dec32 c))
  | 5 => max32 a b
  | 6 => min32 a b
  | 7 => if x.isNan then cnan else a % 2 ^ 31
  | 8 => if (Fx.fin false 0 0).lt x then a else 0
  | 9 => if x.isNan || y.isNan then 0 else if x.lt y then one32 else 0
  | 10 => if x.isNan || y.isNan then 0 else if !(x.lt y) && !(y.lt x) then one32 else 0
  | 11 => if (dec32 c).isNan then canon a else if (dec32 c).isZero then canon b else canon a
  | _ => canon a

/-- S4 element-wise functions (R73): the stated special values, elsewhere a fixed function of the input.
(log entry 13, DESIGN CHOICE) -/
def s4Elem (op a : Nat) : Nat :=
  let x := dec32 a
  let f := (Config.eltwise op (BitVec.ofNat 32 a)).toNat
  if x.isNan then cnan
  else
    match op with
    | 1 => (match x with | .inf true => 0 | _ => f)
    | 2 => if x.isZero then 0xFF800000 else if x.neg? then cnan else f
    | 3 => if x.isZero then b2n x.neg? * 2 ^ 31 + 0x7F800000 else f
    | 4 => if x.neg? && !x.isZero then cnan else f
    | 5 => (match x with | .inf n => b2n n * 2 ^ 31 + one32 | _ => f)
    | _ => a

/-- One level of the pairwise tree of RSUM. -/
def pairUp (g : Nat → Nat → Nat) : List Nat → List Nat
  | a :: b :: r => g a b :: pairUp g r
  | l => l
def reduce32 (g : Nat → Nat → Nat) (l : List Nat) : Nat := ((pairUp g (pairUp g (pairUp g (pairUp g (pairUp g l))))).headD 0)

/-- S4 on the 32 lanes, SHUF after S4_OP (Table 2-6, R74). -/
def s4 (op shuf : Nat) (l : List Nat) : List Nat :=
  let l := match op with
    | 0 => l
    | 6 => List.replicate 32 (reduce32 add32 l)
    | 7 => List.replicate 32 (reduce32 max32 l)
    | 8 => List.replicate 32 (reduce32 min32 l)
    | o => if o ≤ 5 then l.map (s4Elem o) else l
  let src (i : Nat) : Nat := match shuf with
    | 1 => 31 - i | 2 => (i + 1) % 32 | 3 => i ^^^ 1 | 4 => i ^^^ 2 | 5 => i ^^^ 4 | 6 => i ^^^ 8 | 7 => i ^^^ 16 | 8 => 0 | _ => i
  (List.range 32).map (fun i => l.getD (src i) 0)

/-! ### S5 (R67 to R70) -/

/-- BF16 narrowing. -/
def toBf16 (rtz sat : Bool) (a : Nat) : Nat :=
  match dec32 a with
  | .nan => 0x7FC0
  | .inf n => b2n n * 2 ^ 15 + 0x7F80
  | .fin n m e =>
    let r := roundTo rtz 8 (-133) m e
    let b := packBits 8 (-133) r.1 r.2
    b2n n * 2 ^ 15 + (if 0x7F80 ≤ b then (if sat then 0x7F7F else 0x7F80) else b)

/-- INT narrowing to w bits: the code and whether a NaN became 0. -/
def toInt (rtz : Bool) (w a : Nat) : Nat × Bool :=
  let hi := 2 ^ (w - 1) - 1
  let lo := 2 ^ (w - 1)
  match dec32 a with
  | .nan => (0, true)
  | .inf n => (if n then lo else hi, false)
  | .fin n m e =>
    let k := if 0 ≤ e then m * 2 ^ e.toNat else roundShr rtz m (-e).toNat
    (if n then (if lo ≤ k then lo else (2 ^ w - k) % 2 ^ w) else min k hi, false)

/-- Precision, last-place floor, code of the largest finite magnitude, emax, sign bit of an MX element format. -/
def mxFmt (f : Nat) : Nat × Int × Nat × Int × Nat :=
  match f with
  | 1 => (2, -1, 7, 2, 3)
  | 2 => (4, -9, 0x7E, 8, 7)
  | _ => (3, -16, 0x7B, 15, 7)

/-- One MX block of 32 lanes (R68): scale byte and element codes. -/
def mxBlock (f : Nat) (rtz : Bool) (l : List Nat) : Nat × List Nat :=
  let k := mxFmt f
  if l.any (fun a => match dec32 a with | .fin _ _ _ => false | _ => true) then (0xFF, l.map (fun _ => 0))
  else
    let mag (a : Nat) : Nat := a % 2 ^ 31
    let big := l.foldl (fun m a => max m (mag a)) 0
    let lg : Int := match dec32 big with | .fin _ m e => e + Nat.log2 m | _ => 0
    let x : Int := if big = 0 then -127 else max (-127) (min 127 (lg - k.2.2.2.1))
    let elem (a : Nat) : Nat := match dec32 a with
      | .fin n m e =>
        let r := roundTo rtz k.1 k.2.1 m (e - x)
        let c := packBits k.1 k.2.1 r.1 r.2
        b2n n * 2 ^ k.2.2.2.2 + min c k.2.2.1
      | _ => 0
    ((x + 127).toNat, l.map elem)

/-- Codes of `w` bits packed from bit 0 (element i at bits w·i and up). -/
def packCodes (w : Nat) (l : List Nat) : Nat := (l.foldr (fun c acc => acc * 2 ^ w + c % 2 ^ w) 0)

end Sys2Proof.Machine
end

