-- ==== Sys2Proof/Machine/RegMap.lean ====
section
/-! DEFINITION. The register map: where every register lies (Tables 20-2, 20-7 and the tables they name), its fields with
their access types (R13) and reset values. A register is named by its offset in PF0's BAR0; the function-local blocks
CMD and MBX (R647, R656) of function f lie at 0x1000_0000 * (f + 1) above. -/

namespace Sys2Proof.Machine

/-- Access types of Table 0-5. -/
inductive Ty where
  | rw | ro | w1c | w1s | wo | rws | rwl
  deriving DecidableEq, Repr

/-- One field: lowest bit, width, type, reset value. -/
structure RField where
  lo : Nat
  w : Nat
  ty : Ty
  rst : Nat := 0
  deriving DecidableEq, Repr

/-- Bases of Table 20-2. -/
def bDev : Nat := 0x0000000
def bCmd : Nat := 0x0100000
def bMbx : Nat := 0x0200000
def bFab : Nat := 0x0400000
def bBel : Nat := 0x0800000
def bTol : Nat := 0x0A00000
def bMem : Nat := 0x0C00000
def bLnk : Nat := 0x1000000
def bObs : Nat := 0x2000000
def bClp : Nat := 0x2800000
def bCnt : Nat := 0x2C00000
def bRol : Nat := 0x3000000
def bSnk : Nat := 0x3400000
def bPwr : Nat := 0x3800000
def bSaf : Nat := 0x3C00000

/-- Index of the block of Table 20-2 that an offset lies in (R654). -/
def blockOf (o : Nat) : Nat :=
  if o < bCmd then 0 else if o < bMbx then 1 else if o < bFab then 2 else if o < bBel then 3 else if o < bTol then 4
  else if o < bMem then 5 else if o < bLnk then 6 else if o < bObs then 7 else if o < bClp then 8 else if o < bCnt then 9
  else if o < bRol then 10 else if o < bSnk then 11 else if o < bPwr then 12 else if o < bSaf then 13 else 14

/-- Where function-local registers of function f lie (R647). -/
def fnBase (f : Nat) : Nat := 0x10000000 * (f + 1)

def isLocal (o : Nat) : Bool := decide (bCmd ≤ o) && decide (o < bFab)

/-- The key of PF0-map offset `o` as function `f` reaches it. CMD_EXPERT belongs to PF0 alone (R656).
(log entry 9, DESIGN CHOICE) -/
def keyOf (f o : Nat) : Nat := if isLocal o && decide (o ≠ bCmd + 0x8000) then fnBase f + o else o

/-- The PF0-map offset of a key. -/
def offOf (k : Nat) : Nat := k % 0x10000000

-- DEV block (Tables 16-6 to 16-9, 17-12, 21-2 to 21-10)
def aDevId : Nat := bDev + 0x00
def aDevStatus : Nat := bDev + 0x04
def aDevCaps : Nat := bDev + 0x08
def aDevPcie : Nat := bDev + 0x0C
def aDevFwver : Nat := bDev + 0x10
def aDevFwsvn : Nat := bDev + 0x14
def aDevStrap : Nat := bDev + 0x18
def aDevCfg : Nat := bDev + 0x20
def aDevLock : Nat := bDev + 0x24
def aDevIdent (i : Nat) : Nat := bDev + 0x40 + 4 * i
def aDevErrl : Nat := bDev + 0x100
def aDevErrh : Nat := bDev + 0x104
def aErrCapA : Nat := bDev + 0x108
def aErrCapB : Nat := bDev + 0x10C
def aErrCapC : Nat := bDev + 0x110
def aSlotErr : Nat := bDev + 0x114
def aIsrL (f : Nat) : Nat := bDev + 0x200 + 0x10 * f
def aIsrH (f : Nat) : Nat := bDev + 0x204 + 0x10 * f
def aImrL (f : Nat) : Nat := bDev + 0x208 + 0x10 * f
def aImrH (f : Nat) : Nat := bDev + 0x20C + 0x10 * f
def aAmap (i : Nat) : Nat := bDev + 0x400 + 4 * i
def aPartCtl (p : Nat) : Nat := bDev + 0x10000 + 0x20 * p
def aPartStat (p : Nat) : Nat := bDev + 0x10004 + 0x20 * p
def aPartGen (p : Nat) : Nat := bDev + 0x10008 + 0x20 * p
def aPartSwitch : Nat := bDev + 0x10100
def aKeyStat (p : Nat) : Nat := bDev + 0x20000 + 0x10 * p
def aKeyMemv (p : Nat) : Nat := bDev + 0x20004 + 0x10 * p
def aTruStat : Nat := bDev + 0x20100
def aTruRseq : Nat := bDev + 0x20104
-- CMD block, function-local (Tables 18-5, 20-6)
def aRqCtl (f k : Nat) : Nat := fnBase f + bCmd + 0x1000 * k
def aRqStat (f k : Nat) : Nat := aRqCtl f k + 0x04
def aSqBaseL (f k : Nat) : Nat := aRqCtl f k + 0x08
def aSqBaseH (f k : Nat) : Nat := aRqCtl f k + 0x0C
def aCqBaseL (f k : Nat) : Nat := aRqCtl f k + 0x10
def aCqBaseH (f k : Nat) : Nat := aRqCtl f k + 0x14
def aSqTail (f k : Nat) : Nat := aRqCtl f k + 0x18
def aSqHead (f k : Nat) : Nat := aRqCtl f k + 0x1C
def aCqHead (f k : Nat) : Nat := aRqCtl f k + 0x20
def aCqTail (f k : Nat) : Nat := aRqCtl f k + 0x24
def aCmdExpert : Nat := bCmd + 0x8000
def aB2wCtl (f k : Nat) : Nat := fnBase f + bCmd + 0x9000 + 0x10 * k
def aB2wBaseL (f k : Nat) : Nat := aB2wCtl f k + 4
def aB2wBaseH (f k : Nat) : Nat := aB2wCtl f k + 8
def aB2wStat (f : Nat) : Nat := fnBase f + bCmd + 0x9100
-- MBX block, function-local (Table 21-11)
def aMbxCtl (f : Nat) : Nat := fnBase f + bMbx
def aMbxStat (f : Nat) : Nat := fnBase f + bMbx + 4
def aMbxDesc (f i : Nat) : Nat := fnBase f + bMbx + 0x100 + 4 * i
def aMbxReply (f i : Nat) : Nat := fnBase f + bMbx + 0x200 + 4 * i
def aMbxIn (f i : Nat) : Nat := fnBase f + bMbx + 0x10000 + 4 * i
def aMbxOut (f i : Nat) : Nat := fnBase f + bMbx + 0x20000 + 4 * i
-- FAB block (Tables 2-9 to 2-11, 3-5 to 3-10, 4-6 to 4-9, 5-18 to 5-20)
def aCuRfltA (p : Nat) : Nat := bFab + 0x30000 + 0x10 * p
def aCuRfltB (p : Nat) : Nat := bFab + 0x30004 + 0x10 * p
def aCuResinj : Nat := bFab + 0x30100
def aMuAfltA (p : Nat) : Nat := bFab + 0x31000 + 0x10 * p
def aMuAfltB (p : Nat) : Nat := bFab + 0x31004 + 0x10 * p
def aMuEccA (p : Nat) : Nat := bFab + 0x32000 + 0x10 * p
def aMuEccB (p : Nat) : Nat := bFab + 0x32004 + 0x10 * p
def aMuEccC (p : Nat) : Nat := bFab + 0x32008 + 0x10 * p
def aSramEinj : Nat := bFab + 0x33000
def aNetFltA (p : Nat) : Nat := bFab + 0x34000 + 0x10 * p
def aNetFltB (p : Nat) : Nat := bFab + 0x34004 + 0x10 * p
def aNetFltC (p : Nat) : Nat := bFab + 0x34008 + 0x10 * p
def aNetDisc (p : Nat) : Nat := bFab + 0x3400C + 0x10 * p
def aNetCinj : Nat := bFab + 0x34100
def aPlnStat (p : Nat) : Nat := bFab + 0x38000 + 0x20 * p
def aPlnBaseL (p : Nat) : Nat := bFab + 0x38004 + 0x20 * p
def aPlnBaseH (p : Nat) : Nat := bFab + 0x38008 + 0x20 * p
def aPlnSwitch (p : Nat) : Nat := bFab + 0x3800C + 0x20 * p
def aPlnSlotA (n : Nat) : Nat := bFab + 0x39000 + 0x10 * n
def aPlnSlotB (n : Nat) : Nat := bFab + 0x39004 + 0x10 * n
-- BEL block (Tables 6-3 to 6-6)
def aBelCnt (n : Nat) : Nat := bBel + 0x10 * n
def aBelTgt (n : Nat) : Nat := bBel + 0x10 * n + 4
def aBelCfg (n : Nat) : Nat := bBel + 0x10 * n + 8
def aBelStat (n : Nat) : Nat := bBel + 0x10 * n + 12
def aBelStrk : Nat := bBel + 0x2000
def aBelFltA (p : Nat) : Nat := bBel + 0x3000 + 0x10 * p
def aBelFltB (p : Nat) : Nat := bBel + 0x3004 + 0x10 * p
-- TOL block (Tables 7-9 to 7-12)
def aTolCtl : Nat := bTol + 0x00
def aTolStat : Nat := bTol + 0x04
def aTolNowL : Nat := bTol + 0x08
def aTolNowH : Nat := bTol + 0x0C
def aTolIncrL : Nat := bTol + 0x10
def aTolIncrH : Nat := bTol + 0x14
def aTolPpsoff : Nat := bTol + 0x18
def aTolSetsec : Nat := bTol + 0x1C
def aTolOffset : Nat := bTol + 0x20
def aTolPath : Nat := bTol + 0x24
def aTolHold : Nat := bTol + 0x28
def aTolAsym (n : Nat) : Nat := bTol + 0x100 + 4 * n
def aClkFcL (p : Nat) : Nat := bTol + 0x1000 + 0x40 * p
def aClkFcH (p : Nat) : Nat := bTol + 0x1004 + 0x40 * p
def aClkScL (p : Nat) : Nat := bTol + 0x1008 + 0x40 * p
def aClkScH (p : Nat) : Nat := bTol + 0x100C + 0x40 * p
def aClkSlip (p : Nat) : Nat := bTol + 0x1010 + 0x40 * p
def aRqFltA (p : Nat) : Nat := bTol + 0x1014 + 0x40 * p
def aRqFltB (p : Nat) : Nat := bTol + 0x1018 + 0x40 * p
def aRqDisc (p : Nat) : Nat := bTol + 0x101C + 0x40 * p
def aClkMon : Nat := bTol + 0x2000
def aClkMonH : Nat := bTol + 0x2004
-- MEM block (Tables 8-9 to 8-12)
def aRgnA (h r : Nat) : Nat := bMem + 0x200 * h + 0x10 * r
def aRgnB (h r : Nat) : Nat := bMem + 0x200 * h + 0x10 * r + 4
def aRkCtl (h : Nat) : Nat := bMem + 0x10000 + 0x20 * h
def aRkPtr (h : Nat) : Nat := bMem + 0x10004 + 0x20 * h
def aMemErrA (h : Nat) : Nat := bMem + 0x20000 + 0x20 * h
def aMemErrB (h : Nat) : Nat := bMem + 0x20004 + 0x20 * h
def aMemErrC (h : Nat) : Nat := bMem + 0x20008 + 0x20 * h
def aMemCe (h : Nat) : Nat := bMem + 0x2000C + 0x20 * h
def aMemRef (s : Nat) : Nat := bMem + 0x30000 + 4 * s
-- LNK block (Tables 9-10 to 9-12)
def aLnk (n o : Nat) : Nat := bLnk + 0x40000 * n + o
def aLnkCtl (n : Nat) : Nat := aLnk n 0x00
def aLnkStat (n : Nat) : Nat := aLnk n 0x04
def aLnkOwn (n : Nat) : Nat := aLnk n 0x08
def aLnkWlat (n : Nat) : Nat := aLnk n 0x0C
def aLnkLat (n c : Nat) : Nat := aLnk n (0x10 + 4 * (c - 1))
def aLnkCap (n : Nat) : Nat := aLnk n 0x20
def aLnkPat (n : Nat) : Nat := aLnk n 0x24
def aLnkPeer (n : Nat) : Nat := aLnk n 0x28
def aLnkEcnt (n i : Nat) : Nat := aLnk n (0x40 + 4 * i)
def aLnkFltA (n : Nat) : Nat := aLnk n 0x80
def aLnkFltB (n : Nat) : Nat := aLnk n 0x84
def aLnkImpA (n k : Nat) : Nat := aLnk n (0x1000 + 8 * k)
def aLnkImpB (n k : Nat) : Nat := aLnk n (0x1004 + 8 * k)
def aPealId : Nat := bLnk + 0x400000
def aPealTag : Nat := bLnk + 0x400004
def aPealCtl : Nat := bLnk + 0x400008
def aPealRt (d : Nat) : Nat := bLnk + 0x401000 + 4 * d
-- OBS block (Tables 10-6 to 10-9, 11-5)
def aChCtl (n : Nat) : Nat := bObs + 0x100 * n
def aChCls (n : Nat) : Nat := bObs + 0x100 * n + 0x04
def aChUr (n i : Nat) : Nat := bObs + 0x100 * n + 0x08 + 4 * i
def aChStat (n : Nat) : Nat := bObs + 0x100 * n + 0x10
def aChLostP (n : Nat) : Nat := bObs + 0x100 * n + 0x14
def aChLostB (n : Nat) : Nat := bObs + 0x100 * n + 0x18
def aChAwSel (n a : Nat) : Nat := bObs + 0x100 * n + 0x20 + 0x10 * a
def aChAwLo (n a : Nat) : Nat := bObs + 0x100 * n + 0x24 + 0x10 * a
def aChAwHi (n a : Nat) : Nat := bObs + 0x100 * n + 0x28 + 0x10 * a
def aGov (h : Nat) : Nat := bObs + 0x10000 + 0x10 * h
def aGovStat (h : Nat) : Nat := bObs + 0x10004 + 0x10 * h
def aObsDbg : Nat := bObs + 0x11000
def aTapL (p : Nat) : Nat := bObs + 0x12000 + 4 * p
def aScfFltA (p : Nat) : Nat := bObs + 0x13000 + 0x10 * p
def aScfFltB (p : Nat) : Nat := bObs + 0x13004 + 0x10 * p
def aScfCnt (p : Nat) : Nat := bObs + 0x13008 + 0x10 * p
-- CLP and CNT blocks (Tables 13-5 to 13-7)
def aClpCtl : Nat := bClp + 0x00
def aClpStat : Nat := bClp + 0x04
def aClpExt : Nat := bClp + 0x08
def aClpOut : Nat := bClp + 0x0C
def aClpCmp (c i : Nat) : Nat := bClp + 0x100 + 0x20 * c + 4 * i
def aClpThr (t i : Nat) : Nat := bClp + 0x200 + 0x10 * t + 4 * i
def aClpArc (st a : Nat) : Nat := bClp + 0x300 + 8 * (2 * st + a)
def aClpStart : Nat := bClp + 0x400
def aClpStop : Nat := bClp + 0x404
def aClpStopn : Nat := bClp + 0x408
def aClpScope : Nat := bClp + 0x40C
/-- SEL register of a counter; VALL, VALH and STAT follow at +4, +8 and +12. -/
def aCntSel (group unit idx : Nat) : Nat :=
  if group = 0 then bCnt + 0x40 * unit + 0x10 * idx
  else if group = 3 then bCnt + 0x42000 + 0x10 * idx
  else bCnt + 0x40000 + 0x1000 * (group - 1) + 0x10 * idx
def aCntCtl (p : Nat) : Nat := bCnt + 0x50000 + 0x10 * p
def aCntGctl : Nat := bCnt + 0x51000
def aCntSnap : Nat := bCnt + 0x52000
def aCntFrz : Nat := bCnt + 0x53000
-- ROL block (Table 15-6)
def aRol (r o : Nat) : Nat := bRol + 0x1000 * r + o
-- SNK block (Tables 14-6, 14-7)
/-- Register `o` of the ring set of channel n, or of ingest port n. -/
def aRng (ingest : Bool) (n o : Nat) : Nat := bSnk + (if ingest then 0x10000 else 0) + 0x40 * n + o
def aSnkCfg (n : Nat) : Nat := bSnk + 0x40 * n + 0x24
def aSnkPar : Nat := bSnk + 0x20000
def aSnkSer : Nat := bSnk + 0x20010
def aSnkRem : Nat := bSnk + 0x20020
def aSnkRemStat : Nat := bSnk + 0x20024
def aSnkIngLost (n : Nat) : Nat := bSnk + 0x20100 + 4 * n
-- PWR block (Tables 23-3, 23-4): loop 3 VLT, 4 THM, 5 LEQ, 6 REF, 7 FCL (Table 12-9)
def aPwr (loop inst i : Nat) : Nat := bPwr + 0x1000 * (loop - 3) + 0x10 * inst + 4 * i
def aPwrLim : Nat := bPwr + 0x10000
def aPwrPower : Nat := bPwr + 0x10004
def aPwrTj (i : Nat) : Nat := bPwr + 0x10100 + 4 * i
def aPwrStat : Nat := bPwr + 0x10200
-- SAF block (Table 24-7)
def aSafStat : Nat := bSaf + 0x00
def aSafCause : Nat := bSaf + 0x04
def aSafEsc : Nat := bSaf + 0x08
def aSafEnter : Nat := bSaf + 0x0C
def aSafStctl : Nat := bSaf + 0x10
/-- Log entry 100, DESIGN CHOICE. -/
def aSafStstat : Nat := bSaf + 0x14
def aSafWdt : Nat := bSaf + 0x18
def aSafRsel : Nat := bSaf + 0x40
def aSafRstat : Nat := bSaf + 0x44
def aSafRdata (i : Nat) : Nat := bSaf + 0x60 + 4 * i
def aSafFail (i : Nat) : Nat := bSaf + 0x100 + 4 * i

/-- Capture pair of the usual form: VALID, MULTI as W1C, the rest read-only. -/
def capA : List RField := [⟨31, 1, .w1c, 0⟩, ⟨30, 1, .w1c, 0⟩, ⟨0, 30, .ro, 0⟩]
def roAll (v : Nat) : List RField := [⟨0, 32, .ro, v⟩]
def rwAll (v : Nat) : List RField := [⟨0, 32, .rw, v⟩]

/-- DEV block. -/
def devFields (o : Nat) : List RField :=
  if o < 0x20 then (if o = 0x1C then [] else roAll 0)
  else if o = 0x20 then [⟨31, 1, .rwl, 1⟩, ⟨30, 1, .rwl, 1⟩, ⟨29, 1, .rwl, 1⟩]
  else if o = 0x24 then [⟨0, 15, .w1s, 0⟩]
  else if 0x40 ≤ o ∧ o < 0x70 then roAll 0
  else if o = 0x100 then [⟨0, 13, .w1c, 0⟩]
  else if o = 0x104 then roAll 0
  else if o = 0x108 then capA
  else if o = 0x10C ∨ o = 0x110 then roAll 0
  else if o = 0x114 then [⟨0, 8, .w1c, 0⟩]
  else if 0x200 ≤ o ∧ o < 0x290 then
    let w := if 0x210 ≤ o then (if o % 8 = 0 then 8 else 0) else if o % 8 = 0 then 32 else 16
    let w := if o = 0x204 ∨ o = 0x20C then 16 else w
    if w = 0 then [] else if o % 0x10 < 8 then [⟨0, w, .w1c, 0⟩] else [⟨0, w, .rw, 0⟩]
  else if 0x400 ≤ o ∧ o < 0x540 then roAll 0
  else if 0x10000 ≤ o ∧ o < 0x10100 then
    (if o % 0x20 = 0 then [⟨31, 1, .w1s, 0⟩, ⟨30, 1, .rw, 0⟩, ⟨29, 1, .rw, 0⟩]
     else if o % 0x20 = 4 then
       [⟨29, 3, .ro, 0⟩, ⟨28, 1, .w1c, 0⟩, ⟨27, 1, .ro, 0⟩, ⟨16, 8, .ro, 2 ^ ((o - 0x10000) / 0x20)⟩, ⟨0, 16, .ro, 0⟩]
     else if o % 0x20 = 8 then roAll 0 else [])
  else if o = 0x10100 then [⟨31, 1, .w1s, 0⟩, ⟨30, 1, .rw, 0⟩, ⟨29, 1, .ro, 0⟩, ⟨16, 8, .rw, 0⟩, ⟨0, 16, .rw, 0⟩]
  else if 0x20000 ≤ o ∧ o < 0x20080 then
    (if o % 0x10 = 0 then roAll 0x00FF0000 else if o % 0x10 = 4 then roAll 0xFFFFFFFF else [])
  else if o = 0x20100 ∨ o = 0x20104 then roAll 0
  else []

/-- CMD block of one function. -/
def cmdFields (o : Nat) : List RField :=
  if o < 0x4000 then
    (let r := o % 0x1000
     if r = 0x00 then [⟨31, 1, .rw, 0⟩, ⟨30, 1, .rw, 0⟩, ⟨16, 4, .rw, 4⟩, ⟨12, 4, .rw, 5⟩]
     else if r = 0x04 then [⟨31, 1, .ro, 0⟩, ⟨30, 1, .w1c, 0⟩, ⟨0, 30, .ro, 0⟩]
     else if r = 0x08 ∨ r = 0x10 then [⟨12, 20, .rw, 0⟩]
     else if r = 0x0C ∨ r = 0x14 then rwAll 0
     else if r = 0x18 then [⟨0, 12, .rw, 0⟩]
     else if r = 0x1C then [⟨0, 12, .ro, 0⟩]
     else if r = 0x20 then [⟨0, 13, .rw, 0⟩]
     else if r = 0x24 then [⟨31, 1, .ro, 1⟩, ⟨0, 13, .ro, 0⟩]
     else [])
  else if o = 0x8000 then [⟨31, 1, .rwl, 1⟩, ⟨0, 8, .ro, 0⟩]
  else if 0x9000 ≤ o ∧ o < 0x9100 then
    (let r := o % 0x10
     if r = 0 then [⟨31, 1, .rw, 0⟩, ⟨30, 1, .rw, 0⟩, ⟨4, 3, .rw, 0⟩, ⟨0, 4, .rw, 0⟩]
     else if r = 4 then [⟨12, 20, .rw, 0⟩] else if r = 8 then [⟨0, 2, .rw, 0⟩] else [])
  else if o = 0x9100 then [⟨28, 4, .w1c, 0⟩]
  else []

/-- MBX block of one function. -/
def mbxFields (o : Nat) : List RField :=
  if o = 0 then [⟨31, 1, .w1s, 0⟩]
  else if o = 4 then [⟨31, 1, .ro, 0⟩, ⟨30, 1, .w1c, 0⟩, ⟨29, 1, .ro, 0⟩, ⟨28, 1, .w1c, 0⟩, ⟨26, 2, .ro, 0⟩]
  else if 0x100 ≤ o ∧ o < 0x140 then rwAll 0
  else if 0x200 ≤ o ∧ o < 0x220 then roAll 0
  else if 0x10000 ≤ o ∧ o < 0x20000 then rwAll 0
  else if 0x20000 ≤ o ∧ o < 0x30000 then roAll 0
  else []

/-- FAB block. -/
def fabFields (o : Nat) : List RField :=
  if 0x30000 ≤ o ∧ o < 0x30080 then (if o % 0x10 = 0 then capA else if o % 0x10 = 4 then roAll 0 else [])
  else if o = 0x30100 then [⟨31, 1, .w1s, 0⟩, ⟨29, 2, .rw, 0⟩, ⟨24, 5, .rw, 0⟩, ⟨0, 12, .rw, 0⟩]
  else if 0x31000 ≤ o ∧ o < 0x31080 then (if o % 0x10 = 0 then capA else if o % 0x10 = 4 then roAll 0 else [])
  else if 0x32000 ≤ o ∧ o < 0x32080 then
    (if o % 0x10 = 0 then capA else if o % 0x10 = 4 then roAll 0 else if o % 0x10 = 8 then rwAll 0 else [])
  else if o = 0x33000 then [⟨31, 1, .w1s, 0⟩, ⟨30, 1, .rw, 0⟩, ⟨28, 2, .rw, 0⟩, ⟨12, 3, .rw, 0⟩, ⟨0, 12, .rw, 0⟩]
  else if 0x34000 ≤ o ∧ o < 0x34080 then
    (if o % 0x10 = 0 then capA else if o % 0x10 = 12 then rwAll 0 else roAll 0)
  else if o = 0x34100 then [⟨31, 1, .w1s, 0⟩, ⟨12, 5, .rw, 0⟩, ⟨0, 12, .rw, 0⟩]
  else if 0x38000 ≤ o ∧ o < 0x38100 then
    (let r := o % 0x20
     if r = 0 then roAll 0xFF00FF00 else if r = 4 ∨ r = 8 then roAll 0
     else if r = 12 then [⟨31, 1, .w1s, 0⟩, ⟨16, 8, .rw, 0⟩] else [])
  else if 0x39000 ≤ o ∧ o < 0x39080 then (if o % 0x10 = 0 ∨ o % 0x10 = 4 then roAll 0 else [])
  else []

/-- BEL block. -/
def belFields (o : Nat) : List RField :=
  if o < 0x1000 then
    (let r := o % 0x10
     if r = 0 ∨ r = 4 then rwAll 0 else if r = 8 then [⟨0, 20, .rw, 0⟩]
     else [⟨31, 1, .w1c, 0⟩, ⟨30, 1, .rw, 0⟩, ⟨29, 1, .w1c, 0⟩, ⟨28, 1, .w1c, 0⟩, ⟨24, 4, .ro, 0⟩, ⟨0, 13, .ro, 0⟩])
  else if o = 0x2000 then [⟨0, 8, .wo, 0⟩]
  else if 0x3000 ≤ o ∧ o < 0x3080 then (if o % 0x10 = 0 then capA else if o % 0x10 = 4 then roAll 0 else [])
  else []

/-- TOL block. -/
def tolFields (o : Nat) : List RField :=
  if o = 0x00 then [⟨24, 4, .rws, 4⟩, ⟨20, 4, .rws, 0⟩, ⟨18, 2, .rws, 0⟩, ⟨17, 1, .rws, 1⟩, ⟨16, 1, .rws, 0⟩, ⟨0, 16, .rws, 0⟩]
  else if o = 0x04 then
    [⟨30, 2, .ro, 0⟩, ⟨26, 4, .ro, 0⟩, ⟨25, 1, .w1c, 0⟩, ⟨24, 1, .w1c, 0⟩, ⟨23, 1, .ro, 0⟩, ⟨22, 1, .w1c, 0⟩,
     ⟨16, 6, .w1c, 0⟩, ⟨10, 6, .w1c, 0⟩, ⟨0, 10, .ro, 0⟩]
  else if o = 0x08 ∨ o = 0x0C then roAll 0
  else if o = 0x10 then roAll 0xCCCCCCCD
  else if o = 0x14 then [⟨0, 8, .ro, 12⟩]
  else if o = 0x18 then [⟨0, 32, .rws, 0⟩]
  else if o = 0x1C then [⟨0, 32, .wo, 0⟩]
  else if o = 0x20 ∨ o = 0x24 then roAll 0
  else if o = 0x28 then [⟨0, 12, .rws, 10⟩]
  else if 0x100 ≤ o ∧ o < 0x140 then [⟨0, 16, .rws, 0⟩]
  else if 0x1000 ≤ o ∧ o < 0x1200 then
    (let r := o % 0x40
     if r = 0 ∨ r = 8 then roAll 0 else if r = 4 ∨ r = 12 then [⟨0, 24, .ro, 0⟩]
     else if r = 0x10 then [⟨27, 5, .rw, 19⟩, ⟨16, 8, .w1c, 0⟩, ⟨0, 16, .w1c, 0⟩]
     else if r = 0x14 then capA else if r = 0x18 then roAll 0 else if r = 0x1C then rwAll 0 else [])
  else if o = 0x2000 then [⟨0, 32, .w1c, 0⟩]
  else if o = 0x2004 then [⟨0, 2, .w1c, 0⟩]
  else []

/-- MEM block. -/
def memFields (o : Nat) : List RField :=
  if o < 0x1000 then
    (if 0x100 ≤ o % 0x200 then []
     else if o % 0x10 = 0 then
       [⟨31, 1, .rw, 0⟩, ⟨30, 1, .rw, 0⟩, ⟨27, 3, .rw, 0⟩, ⟨26, 1, .ro, 0⟩, ⟨25, 1, .w1s, 0⟩, ⟨16, 8, .ro, 0⟩, ⟨0, 14, .rw, 0⟩]
     else if o % 0x10 = 4 then [⟨0, 14, .rw, 0⟩] else [])
  else if 0x10000 ≤ o ∧ o < 0x10100 then
    (if o % 0x20 = 0 then [⟨31, 1, .w1s, 0⟩, ⟨30, 1, .ro, 0⟩, ⟨29, 1, .w1c, 0⟩, ⟨16, 8, .rw, 0⟩, ⟨0, 4, .rw, 0⟩]
     else if o % 0x20 = 4 then [⟨0, 23, .rws, 0⟩] else [])
  else if 0x20000 ≤ o ∧ o < 0x20100 then
    (let r := o % 0x20
     if r = 0 then capA else if r = 4 ∨ r = 8 then roAll 0 else if r = 12 then rwAll 0 else [])
  else if 0x30000 ≤ o ∧ o < 0x30010 then roAll 0
  else []

/-- Port registers and peal registers. PMD is strapped (R315, Table 21-9): the reset value here is that of strap 0. -/
def lnkFields (o : Nat) : List RField :=
  if o < 0x400000 then
    (let n := o / 0x40000
     let r := o % 0x40000
     if r = 0x00 then [⟨31, 1, .rw, 0⟩, ⟨30, 1, .rw, 1⟩, ⟨29, 1, .w1s, 0⟩, ⟨27, 2, .rws, 0⟩]
     else if r = 0x04 then roAll 0
     else if r = 0x08 then [⟨31, 1, .rw, 1⟩, ⟨0, 3, .rw, n / 2⟩]
     else if 0x0C ≤ r ∧ r < 0x20 then roAll 0
     else if r = 0x20 then [⟨31, 1, .rw, 0⟩, ⟨30, 1, .rw, 0⟩, ⟨28, 2, .rw, 0⟩, ⟨25, 3, .rw, 0⟩, ⟨24, 1, .rw, 0⟩]
     else if r = 0x24 then [⟨0, 31, .rw, 1⟩]
     else if r = 0x28 then roAll 0
     else if 0x40 ≤ r ∧ r < 0x70 then rwAll 0
     else if r = 0x80 then capA
     else if r = 0x84 then roAll 0
     else if 0x1000 ≤ r ∧ r < 0x1100 then
       (if r % 8 = 0 then [⟨28, 4, .rw, 0⟩, ⟨20, 8, .rw, 0⟩, ⟨10, 10, .rw, 0⟩]
        else if r % 8 = 4 then [⟨10, 10, .rw, 0⟩, ⟨0, 10, .rw, 0⟩] else [])
     else [])
  else
    (let r := o - 0x400000
     if r = 0 then [⟨0, 10, .rws, 0⟩] else if r = 4 then [⟨0, 32, .rws, 0⟩]
     else if r = 8 then [⟨31, 1, .rws, 0⟩, ⟨0, 8, .rws, 0⟩]
     else if 0x1000 ≤ r ∧ r < 0x2000 then [⟨0, 5, .rws, 0⟩] else [])

/-- OBS block. -/
def obsFields (o : Nat) : List RField :=
  if o < 0x1800 then
    (let r := o % 0x100
     if r = 0x00 then
       [⟨31, 1, .rw, 0⟩, ⟨30, 1, .rw, 0⟩, ⟨29, 1, .rw, 0⟩, ⟨26, 3, .rw, 0⟩, ⟨21, 5, .rw, 20⟩, ⟨16, 5, .rw, 2⟩]
     else if r = 0x04 then [⟨0, 10, .rw, 0⟩]
     else if r = 0x08 ∨ r = 0x0C then [⟨16, 12, .rw, 0⟩, ⟨0, 12, .rw, 0xFFF⟩]
     else if r = 0x10 then [⟨31, 1, .ro, 0⟩, ⟨30, 1, .w1c, 0⟩]
     else if r = 0x14 ∨ r = 0x18 then rwAll 0
     else if 0x20 ≤ r ∧ r < 0x60 then
       (if r % 0x10 = 0 then [⟨30, 2, .rw, 0⟩, ⟨0, 12, .rw, 0⟩] else if r % 0x10 = 4 ∨ r % 0x10 = 8 then rwAll 0 else [])
     else [])
  else if 0x10000 ≤ o ∧ o < 0x10080 then
    (if o % 0x10 = 0 then [⟨24, 4, .rw, 10⟩, ⟨20, 4, .rw, 0⟩, ⟨16, 4, .rw, 15⟩]
     else if o % 0x10 = 4 then [⟨31, 1, .w1c, 0⟩, ⟨24, 4, .ro, 0⟩, ⟨16, 4, .ro, 0⟩, ⟨0, 8, .ro, 0⟩] else [])
  else if o = 0x11000 then roAll 0
  else if 0x12000 ≤ o ∧ o < 0x12020 then rwAll 0
  else if 0x13000 ≤ o ∧ o < 0x13080 then
    (if o % 0x10 = 0 then capA else if o % 0x10 = 4 then roAll 0 else if o % 0x10 = 8 then rwAll 0 else [])
  else []

/-- CLP block. -/
def clpFields (o : Nat) : List RField :=
  if o = 0x00 then [⟨31, 1, .rw, 0⟩]
  else if o = 0x04 then [⟨31, 1, .w1c, 0⟩, ⟨30, 1, .ro, 0⟩, ⟨28, 2, .ro, 0⟩]
  else if o = 0x08 then [⟨0, 8, .rw, 0⟩]
  else if o = 0x0C then [⟨24, 8, .rw, 16⟩, ⟨12, 4, .rw, 0⟩, ⟨4, 4, .rw, 0⟩, ⟨0, 4, .rw, 0⟩]
  else if 0x100 ≤ o ∧ o < 0x200 then
    (let r := o % 0x20
     if r = 0 then [⟨28, 4, .rw, 0⟩, ⟨16, 12, .rw, 0⟩, ⟨0, 12, .rw, 0xFFF⟩] else if r < 0x14 then rwAll 0 else [])
  else if 0x200 ≤ o ∧ o < 0x240 then
    (let r := o % 0x10
     if r = 0 then [⟨30, 2, .rw, 0⟩, ⟨24, 6, .rw, 0⟩, ⟨0, 12, .rw, 0⟩] else if r = 4 then rwAll 0
     else if r = 8 then [⟨0, 16, .rw, 0⟩] else [])
  else if 0x300 ≤ o ∧ o < 0x340 then (if o % 8 = 0 then rwAll 0 else [])
  else if o = 0x400 then [⟨0, 24, .rw, 0⟩]
  else if o = 0x404 then [⟨30, 2, .rw, 0⟩, ⟨24, 3, .rw, 0⟩, ⟨0, 24, .rw, 0⟩]
  else if o = 0x408 then rwAll 0
  else if o = 0x40C then [⟨16, 11, .rw, 0⟩, ⟨0, 11, .rw, 0⟩]
  else []

/-- One counter's four registers (Table 13-7). -/
def ctrFields (r : Nat) : List RField :=
  if r = 0 then [⟨31, 1, .rw, 0⟩, ⟨19, 1, .rw, 0⟩, ⟨16, 3, .rw, 0⟩, ⟨8, 8, .ro, 0⟩, ⟨0, 8, .rw, 0⟩]
  else if r = 4 then rwAll 0 else if r = 8 then [⟨0, 16, .rw, 0⟩]
  else [⟨31, 1, .w1c, 0⟩, ⟨30, 1, .ro, 0⟩, ⟨29, 1, .ro, 0⟩]

/-- CNT block. -/
def cntFields (o : Nat) : List RField :=
  if o < 0x22000 then ctrFields (o % 0x10)
  else if 0x40000 ≤ o ∧ o < 0x40400 then ctrFields (o % 0x10)
  else if 0x41000 ≤ o ∧ o < 0x41400 then ctrFields (o % 0x10)
  else if 0x42000 ≤ o ∧ o < 0x42200 then ctrFields (o % 0x10)
  else if 0x50000 ≤ o ∧ o < 0x50080 then (if o % 0x10 = 0 then [⟨0, 5, .rw, 16⟩] else [])
  else if o = 0x51000 then [⟨0, 6, .rw, 32⟩]
  else if o = 0x52000 then [⟨31, 1, .w1s, 0⟩, ⟨0, 11, .rw, 0⟩]
  else if o = 0x53000 then [⟨0, 11, .w1c, 0⟩]
  else []

/-- ROL block (Table 15-6): CTL 0x00, STAT 0x04, ERRA 0x08, ERRB 0x0C, JCTL 0x10, JSRC 0x14, JLEN 0x18, JDST 0x1C,
JMAX 0x20, JERR 0x24, JOUT 0x28, JBLK 0x2C, JECNT 0x30. -/
def rolFields (o : Nat) : List RField :=
  if o < 0x4000 then
    (let n := o / 0x1000
     let r := o % 0x1000
     if r = 0x00 then [⟨30, 2, .rw, n % 2⟩, ⟨24, 4, .rw, if n % 2 = 0 then 8 else 15⟩, ⟨18, 2, .rw, 2⟩, ⟨14, 4, .rw, 15⟩]
     else if r = 0x04 then [⟨31, 1, .ro, 0⟩, ⟨30, 1, .ro, 0⟩, ⟨0, 16, .w1c, 0⟩]
     else if r = 0x08 then capA
     else if r = 0x0C then roAll 0
     else if r = 0x10 then
       [⟨31, 1, .w1s, 0⟩, ⟨30, 1, .ro, 0⟩, ⟨29, 1, .rw, 0⟩, ⟨28, 1, .rw, 0⟩, ⟨24, 4, .rw, 0⟩, ⟨20, 4, .rw, 0⟩,
        ⟨16, 4, .rw, 0⟩, ⟨12, 4, .ro, 0⟩, ⟨11, 1, .w1c, 0⟩, ⟨10, 1, .ro, 0⟩, ⟨7, 3, .rw, 0⟩]
     else if r = 0x14 ∨ r = 0x1C then [⟨0, 28, .rw, 0⟩]
     else if r = 0x18 ∨ r = 0x20 then rwAll 0
     else if r = 0x24 then [⟨28, 4, .rw, 0⟩, ⟨0, 28, .rw, 0⟩]
     else if r = 0x28 ∨ r = 0x2C ∨ r = 0x30 then roAll 0
     else [])
  else []

/-- A ring set; `ch` for a channel's. -/
def rngFields (ch : Bool) (r : Nat) : List RField :=
  if r = 0x00 then
    [⟨31, 1, .rw, 0⟩, ⟨27, 4, .rw, 8⟩, ⟨26, 1, .rw, 0⟩, ⟨23, 3, .rw, 0⟩, ⟨19, 4, .rw, 0⟩] ++
      (if ch then [] else [⟨18, 1, .rw, 0⟩, ⟨17, 1, .rw, 0⟩])
  else if r = 0x04 then [⟨31, 1, .w1c, 0⟩, ⟨30, 1, .w1c, 0⟩, ⟨29, 1, .ro, 0⟩, ⟨28, 1, .w1c, 0⟩]
  else if r = 0x08 ∨ r = 0x0C then rwAll 0
  else if r = 0x10 then [⟨0, 25, .rw, 16⟩]
  else if r = 0x14 then roAll 0
  else if r = 0x18 ∨ r = 0x1C ∨ r = 0x20 then rwAll 0
  else if r = 0x24 ∧ ch = true then [⟨31, 1, .rw, 0⟩, ⟨28, 2, .rw, 0⟩, ⟨8, 1, .w1s, 0⟩, ⟨0, 8, .rw, 0⟩]
  else []

/-- SNK block. -/
def snkFields (o : Nat) : List RField :=
  if o < 0x600 then rngFields true (o % 0x40)
  else if 0x10000 ≤ o ∧ o < 0x10400 then rngFields false (o % 0x40)
  else if o = 0x20000 then [⟨31, 1, .rw, 0⟩, ⟨29, 2, .rw, 0⟩]
  else if o = 0x20010 ∨ o = 0x20020 then [⟨31, 1, .rw, 0⟩, ⟨0, 4, .rw, 0⟩]
  else if o = 0x20024 then roAll 0
  else if 0x20100 ≤ o ∧ o < 0x20140 then rwAll 0
  else []

/-- Range limits of a loop's bounds (Table 23-2): LO and HI at reset. -/
def pwrLimits (loop : Nat) : Nat × Nat :=
  if loop = 3 then (600, 950) else if loop = 4 then (0, 255) else if loop = 5 then (0, 15)
  else if loop = 6 then (1, 2) else (1, 4)

/-- PWR block. -/
def pwrFields (o : Nat) : List RField :=
  if o < 0x5000 then
    (let loop := 3 + o / 0x1000
     let inst := o % 0x1000 / 0x10
     let n := if loop = 3 then 3 else if loop = 5 then 16 else if loop = 6 then 4 else 8
     let lim := pwrLimits loop
     if inst < n then
       (let r := o % 0x10
        if r = 0 then roAll 0
        else if r = 4 then [⟨16, 16, .rws, lim.2⟩, ⟨0, 16, .rws, lim.1⟩]
        else if r = 8 then
          (if loop = 4 ∨ loop = 7 then [⟨16, 16, .rw, lim.2⟩, ⟨0, 16, .rw, lim.1⟩]
           else [⟨16, 16, .ro, lim.2⟩, ⟨0, 16, .ro, lim.1⟩])
        else [⟨31, 1, .rws, 0⟩, ⟨30, 1, if loop = 4 ∨ loop = 7 then .rw else .ro, 0⟩, ⟨29, 1, .w1c, 0⟩])
     else [])
  else if o = 0x10000 then [⟨24, 8, .rws, 95⟩, ⟨0, 10, .rws, 800⟩]
  else if o = 0x10004 then [⟨0, 16, .ro, 0⟩]
  else if 0x10100 ≤ o ∧ o < 0x10124 then roAll 0
  else if o = 0x10200 then roAll 0
  else []

/-- SAF block. -/
def safFields (o : Nat) : List RField :=
  if o = 0x00 then roAll 0x40000000
  else if o = 0x04 then roAll 0
  else if o = 0x08 then [⟨15, 2, .rwl, 0⟩, ⟨1, 9, .rwl, 0⟩]
  else if o = 0x0C then [⟨31, 1, .w1s, 0⟩]
  else if o = 0x10 then [⟨31, 1, .rwl, 1⟩, ⟨0, 4, .rwl, 7⟩]
  else if o = 0x14 then roAll 0
  else if o = 0x18 then [⟨0, 16, .ro, 0⟩]
  else if o = 0x40 then [⟨31, 1, .w1s, 0⟩, ⟨8, 8, .rw, 0⟩, ⟨0, 4, .rw, 0⟩]
  else if o = 0x44 then roAll 0
  else if 0x60 ≤ o ∧ o < 0x80 then roAll 0
  else if 0x100 ≤ o ∧ o < 0x200 then roAll 0
  else []

/-- The fields of the register at a key; none where no register lies (R646). -/
def regFields (k : Nat) : List RField :=
  let o := offOf k
  if o % 4 ≠ 0 then [] else
  match blockOf o with
  | 0 => if k < 0x10000000 then devFields o else []
  | 1 => if k < 0x10000000 then (if o = aCmdExpert then cmdFields 0x8000 else []) else cmdFields (o - bCmd)
  | 2 => if k < 0x10000000 then [] else mbxFields (o - bMbx)
  | 3 => fabFields (o - bFab)
  | 4 => belFields (o - bBel)
  | 5 => tolFields (o - bTol)
  | 6 => memFields (o - bMem)
  | 7 => lnkFields (o - bLnk)
  | 8 => obsFields (o - bObs)
  | 9 => clpFields (o - bClp)
  | 10 => cntFields (o - bCnt)
  | 11 => rolFields (o - bRol)
  | 12 => snkFields (o - bSnk)
  | 13 => pwrFields (o - bPwr)
  | _ => safFields (o - bSaf)

/-- The mask of the fields of one type. -/
def tyMask (fs : List RField) (t : Ty) : Word :=
  fs.foldl (fun m f => if f.ty = t then m ||| fmask f.lo f.w else m) 0

/-- The reset value of a field list. -/
def fieldsReset (fs : List RField) : Word :=
  fs.foldl (fun m f => m ||| BitVec.ofNat 32 (f.rst % 2 ^ f.w * 2 ^ f.lo)) 0

/-- What a register that nothing has changed since cold reset holds. (log entry 9, DESIGN CHOICE) -/
def regReset (k : Nat) : Word := fieldsReset (regFields k)

/-- Every bit some field defines; the others are reserved and read zero (R15). -/
def definedMask (k : Nat) : Word := (regFields k).foldl (fun m f => m ||| fmask f.lo f.w) 0

/-- The value a register takes from a write, by the types of its fields (R13, R19). RWL fields keep their value while
the block is locked (R14); RO and reserved bits ignore the write (R15). -/
def writeFields (fs : List RField) (locked : Bool) (old v : Word) : Word :=
  let st := tyMask fs .rw ||| tyMask fs .rws ||| (if locked then 0 else tyMask fs .rwl)
  let a := (old &&& ~~~ st) ||| (v &&& st)
  let a := a &&& ~~~ (v &&& tyMask fs .w1c)
  a ||| (v &&& tyMask fs .w1s)

/-- The VF view of BAR0 (R648): the PF0-map offset that VF offset `o` reaches; none for a reserved window. -/
def vfMap (o : Nat) : Option Nat :=
  let w := o / 0x100000 % 16
  let x := o % 0x100000
  match w with
  | 0 => some (bDev + x) | 1 => some (bCmd + x) | 2 => some (bMbx + x) | 3 => some (bFab + x) | 4 => some (bBel + x)
  | 5 => some (bTol + x) | 6 => some (bMem + x)
  | 7 => some (bLnk + 0x40000 * (x / 0x10000) + x % 0x10000)
  | 8 => some (bObs + x) | 10 => some (bCnt + x) | 11 => some (bRol + x) | 12 => some (bSnk + x)
  | 13 => some (bPwr + x) | 14 => some (bSaf + x)
  | _ => none

end Sys2Proof.Machine
end

