-- ==== Sys2Proof/Machine/State.lean ====
section
/-! DEFINITION. The state of the block as plain data: the fuses, the registers of BAR0, the host side (rings, MSI-X,
taken commands), the slip domains with their queues and bells, the plan store and the resident contexts, observation,
faults, and everything the device has sent out. Every field without a reset value of the specification is named in the
assumption log. -/

namespace Sys2Proof.Machine

/-- Stops of the model that are not device faults: an access to an address the specification says does not exist.
(log entry 6, DESIGN CHOICE) -/
inductive Fault where
  /-- An operand names a unit, queue, half-stack, port, channel, engine or function number beyond the device's range
  (raised by the meanings of events that take such a number; safe: the outside world cannot name it). -/
  | noSuchInstance (what : String) (n : Nat)
  deriving DecidableEq, Repr

/-- No meaning. -/
inductive Refusal where
  /-- The command has no meaning yet (raised by exec's arm alone; safe). -/
  | notModelled (mnemonic : String)
  deriving DecidableEq, Repr

/-- Fuses (R2, R20, R549, R675): variant 0 PU8, 1 PU4, 2 PU4L; grade; stepping; harvested units by ID; HBM stacks that
failed training (R264). (log entry 21, DESIGN CHOICE) -/
structure Fuse where
  variant : Nat := 0
  grade : Nat := 0
  stepping : Nat := 0
  harvested : List Nat := []
  badStacks : Nat := 0
  badPorts : Nat := 0
  deriving DecidableEq, Repr

/-- What the device has sent out, oldest first in `State.out`. (log entry 7, DESIGN CHOICE) -/
inductive Emit where
  /-- A reply or asynchronous record written to slot `slot` of the completion ring (R594). -/
  | reply (fn pair slot : Nat) (bytes : List Byte)
  /-- One MSI-X message (R588). -/
  | msix (fn vec : Nat)
  /-- Bytes written to host memory through a function (R597, R471). -/
  | host (fn : Nat) (addr : Nat) (bytes : List Byte)
  /-- Data of a BAR0 read (R652). -/
  | read (fn off : Nat) (val : Word)
  /-- A BAR0 access completed with Unsupported Request (R586). -/
  | unsupported (fn off : Nat)
  /-- A BAR2 read completion (R664): data, EP bits per 128-byte line, Completer Abort. -/
  | bar2 (fn : Nat) (bytes : List Byte) (poison : List Bool) (abort : Bool)
  /-- A frame sent by a link port (R309). -/
  | frame (port : Nat) (f : Frame)
  /-- A link control or Toll message sent by a port (R245, R316, R317). -/
  | ctrl (port ctype : Nat) (bytes : List Byte)
  /-- A level driven on a pin. -/
  | pin (name : String) (idx : Nat) (level : Bool)
  /-- Control rows sent by the serial port: one AM row with its AMCNT, or IDLE rows (R467). -/
  | serCtl (am : Option Nat) (rows : Nat)
  /-- A frame sent by the parallel (0) or serial (1) trace port. -/
  | port (serial : Bool) (bytes : List Byte)
  /-- A set-point written to a regulator (rail, mV) or another board-side action. -/
  | rail (idx mV : Nat)
  /-- An uncorrectable error reported through AER (R611). -/
  | aer (fn : Nat)
  deriving DecidableEq, Repr

/-- A command taken and not final (R595, R600): its opcode, its call, and what its end needs. -/
structure Outst where
  op : Nat := 0
  call : Call := {}
  /-- ACCEPTED has been posted and the final reply is due (R600). -/
  acc : Bool := false
  a : Nat := 0
  b : Nat := 0
  c : Nat := 0
  data : List Byte := []
  deriving DecidableEq, Repr

/-- PCIe side of one function: Bus Master Enable, FLR in progress, MSI-X masks, replies that wait (R610),
pairs stopped by a ring error (R592), descriptors read and held by FENCE (R601). (log entry 22, PRESUMED) -/
structure FnRt where
  bme : Bool := false
  flr : Bool := false
  msixMask : Bool := false
  vmask : DWord := BitVec.allOnes 64
  vpend : DWord := 0
  held : List (Nat × List Byte) := []
  stopped : List Nat := []
  fenced : List Call := []
  deriving DecidableEq, Repr

/-- Host side. -/
structure HostRt where
  fns : Tab FnRt := []
  outst : List Outst := []
  numVf : Nat := 0
  cfgReady : Bool := false
  deriving DecidableEq, Repr

/-- A partition's cycle counters and their latched halves (R8, R253), the class at which its FCLK runs (R742), whether its
last scrub failed (R533), and whether the reset in progress erases keys (R536). -/
structure PartRt where
  fc : Cnt := 0
  sc : Cnt := 0
  cls : Nat := 1
  latFch : Word := 0
  latScl : Word := 0
  latSch : Word := 0
  quar : Bool := false
  erase : Bool := false
  deriving DecidableEq, Repr

/-- The open slip of a domain (R31 to R35): where it began, slipping edges so far, causes gathered. -/
structure SlipRt where
  sc : Cnt := 0
  fc : Cnt := 0
  toll : DWord := 0
  len : Nat := 0
  mask : Nat := 0
  deriving DecidableEq, Repr

/-- A 704-fc switch (R183): edges left, incoming context, its PART_MASK and reason (2 START, 3 SWITCH), the job of its
command; whether it resumes a restored run (R730), during which both counters hold. -/
structure SwitchRt where
  left : Nat := 704
  ctx : Nat := 0xFF
  mask : Nat := 0
  reason : Nat := 2
  job : Word := 0
  jobKey : List Byte := []
  resume : Bool := false
  deriving DecidableEq, Repr

/-- A start or switch that waits: for the class change (R234), for Toll time (R185), for the slip to end (R39), or for the
next FCLK edge. `armed` says that an edge has come since. -/
structure WaitSw where
  ctx : Nat := 0xFF
  mask : Nat := 0
  fclass : Nat := 0
  reason : Nat := 2
  atToll : Option DWord := none
  job : Word := 0
  jobKey : List Byte := []
  armed : Bool := false
  deriving DecidableEq, Repr

/-- The resume target of a restored run (R729, R730): context, class, STOP_SC, SC and FC of the image. -/
structure ResumeRt where
  ctx : Nat := 0xFF
  fclass : Nat := 1
  stop : Nat := 0
  sc : Nat := 0
  fc : Nat := 0
  job : Word := 0
  deriving DecidableEq, Repr

/-- A pending planned wait (R204): bell, waiting unit, begin sc (relative) and fc, ADV, the waiting action by record. -/
structure WaitRt where
  bell : Nat := 0
  unit : Nat := 0
  sc : Nat := 0
  begSc : Cnt := 0
  begFc : Cnt := 0
  adv : Nat := 0
  kind : Nat := 0
  ri : Nat := 0
  occ : Nat := 0
  deriving DecidableEq, Repr

/-- A fault detected and not yet answered by the halt (R126, R419, Table 12-24). -/
structure FaultInfo where
  block : Nat := 0
  kind : Nat := 0
  unit : Nat := 0x876
  cls : Nat := 0
  detail : Nat := 0
  injected : Bool := false
  sc : Nat := 2 ^ 48 - 1
  toll : DWord := 0
  react : Nat := 1
  deriving DecidableEq, Repr

/-- A scored event (Table 11-2) with its relative sc and the Toll value of its edge. -/
structure Scored where
  sc : Nat := 0
  unit : Nat := 0
  cls : Nat := 0
  arg : Nat := 0
  toll : DWord := 0
  deriving DecidableEq, Repr

/-- The checker of one slip domain in one cluster (R383 to R402): the next relative sc to close, observed records of the
open score cycles, open waited expectations, expectations that a MOVED flam removed from the stream, the digest of the
interval, its expected occurrences, records and flams so far. -/
structure ClRt where
  next : Nat := 0
  obs : List Scored := []
  lost : List Scored := []
  opened : List Scored := []
  gone : List Scored := []
  crc : Nat := 0
  exps : List Scored := []
  recs : Nat := 0
  flams : Nat := 0
  deriving DecidableEq, Repr

/-- A queued entry with its arrival edge (R227). -/
structure QEntry where
  data : EntryData := .lost
  fc : Cnt := 0
  sc : Cnt := 0
  held : Bool := false
  deriving DecidableEq, Repr

/-- A slip domain, kept under its lowest partition. `jobKey` is the job key of its chain of runs (R560). `thermal` is the throttle T in force in the current window (R747) and
`carry` a THERMAL cause of the switch that takes effect after it (R755), `caught` the capture registers that took an event of
the current edge (R121). (log entry 89, DESIGN CHOICE) -/
structure DomRt where
  base : Cnt := 0
  lastCtx : Nat := 0xFF
  job : Word := 0
  jobKey : List Byte := []
  slip : Option SlipRt := none
  late : List (Nat × Cnt) := []
  thermal : Nat := 0
  carry : Bool := false
  causes : Nat := 0
  resume : Option ResumeRt := none
  sw : Option SwitchRt := none
  chg : Option WaitSw := none
  pend : Option WaitSw := none
  waits : List WaitRt := []
  ended : List WaitRt := []
  faults : List FaultInfo := []
  limit : Nat := 19
  lastStop : Nat := 2 ^ 48 - 1
  chks : Tab ClRt := []
  edges : List (Nat × DWord) := []
  winT : List Nat := []
  advs : List (Nat × Nat × Nat) := []
  done : List (Nat × Nat × Nat) := []
  txPend : List (Nat × Nat × Nat) := []
  prs : List (Nat × QEntry) := []
  rels : List (Nat × Nat) := []
  marked : List Nat := []
  caught : List Nat := []
  deriving DecidableEq, Repr

/-- A planned-release queue (R225): entries, releases made, arrivals matched, entry presented on this edge. -/
structure QueueRt where
  entries : List QEntry := []
  made : Nat := 0
  arrived : Nat := 0
  deriving DecidableEq, Repr

/-- Schedule records of a plan context (Tables 5-9 to 5-15). -/
structure RelRec where
  sc : Nat := 0
  queue : Nat := 0
  slip : Bool := false
  rep : Nat := 0
  period : Nat := 0
  tol : Nat := 0
  dest : Nat := 0
  deriving DecidableEq, Repr

structure LinkRec where
  sc : Nat := 0
  port : Nat := 0
  kind : Nat := 0
  rep : Nat := 0
  period : Nat := 0
  arg : Nat := 0
  deriving DecidableEq, Repr

structure BellRec where
  bell : Nat := 0
  count : Nat := 0
  target : Nat := 0
  waitTo : Nat := 0
  deriving DecidableEq, Repr

structure ScoreRec where
  sc : Nat := 0
  unit : Nat := 0
  cls : Nat := 0
  arg : Nat := 0
  rep : Nat := 0
  period : Nat := 0
  deriving DecidableEq, Repr

structure LotRec where
  unit : Nat := 0
  slot : Nat := 0
  layer : Nat := 0
  oper : Nat := 0
  deriving DecidableEq, Repr

structure SchedRec where
  sc : Nat := 0
  elem : Nat := 0
  index : Nat := 0
  len : Nat := 0
  deriving DecidableEq, Repr

/-- A unit block (Table 5-7): objects as their bytes, schedule entries, channel descriptors (source, word). -/
structure UnitBlk where
  unit : Nat := 0
  kind : Nat := 0
  objs : List (List Byte) := []
  sched : List SchedRec := []
  descs : List (Nat × Nat) := []
  deriving DecidableEq, Repr

/-- One plan context: its descriptor (Table 5-6) and its sections. DMA records are kept as their 32 bytes. -/
structure Ctx where
  index : Nat := 0
  fmask : Nat := 0
  chk : Nat := 16
  next : Nat := 0xFF
  bgload : Bool := false
  len : Nat := 0
  res0 : Nat := 0
  res1 : Nat := 0
  units : List UnitBlk := []
  score0 : List ScoreRec := []
  score1 : List ScoreRec := []
  rels : List RelRec := []
  links : List LinkRec := []
  bells : List BellRec := []
  lotb : List LotRec := []
  dmas : List (List Byte) := []
  deriving DecidableEq, Repr

/-- An admitted image (R180, R181). -/
structure Image where
  imageId : Nat := 0
  partMask : Nat := 0
  tenant : Nat := 0
  keyId : List Byte := []
  len : Nat := 0
  ctxs : List Ctx := []
  deriving DecidableEq, Repr

/-- A context in its slots (R182): ID, slip domain, holder, image, slot numbers 4k + s. -/
structure Resident where
  id : Nat := 0
  mask : Nat := 0
  tenant : Nat := 0
  imageId : Nat := 0
  ctx : Ctx := {}
  slots : List Nat := []
  loading : Bool := false
  deriving DecidableEq, Repr

structure PlanRt where
  store : Tab (Option Image) := []
  resident : List Resident := []
  deriving DecidableEq, Repr

/-- Toll (R236, R240 to R250): value and 32-bit fraction; latched high half; kept offsets and the correction still to be
removed, in 2^-32 tt; the last INCR values; filtered offsets in band so far; the exchange under way (SEQ, t1, t2, t3); second
to be set; PPS edges not used in a row; TOLL_REFCLK (0 absent, 1 present, 2 present for 1 ms); TKCLK from the fallback
synthesiser; what the parent's last SYNC announced; SEQ of the next SYNC by port; lanes on the fallback synthesiser (bit n for port n, bit 16 the serial port, R813). -/
structure TollRt where
  now : DWord := 0
  frac : Word := 0
  latHi : Word := 0
  offsets : List Int := []
  pendCorr : Int := 0
  incrs : List Nat := []
  inBand : Nat := 0
  exch : Option (Nat × DWord × DWord × DWord) := none
  setSec : Option Nat := none
  badPps : Nat := 0
  refclk : Nat := 0
  fallback : Bool := false
  parentInt : Option Nat := none
  parentDepth : Nat := 0
  parentLocked : Bool := false
  seqTx : Tab Nat := []
  laneFb : Nat := 0
  deriving DecidableEq, Repr

/-- A trace packet on its way to the channels: header, class (0 to 9 of Table 10-4, 10 mandatory, 11 channel), source
unit, partitions concerned, owner partition (8 the operator) and its tenant at the tap, stamp, bytes, and for DATA the
space, target and index that windows test. `plain` marks a packet that carries a data value (R368). -/
structure Pkt where
  cls : Nat := 2
  unit : Nat := 0
  concern : Nat := 0
  owner : Nat := 8
  tenant : Nat := 0
  stamp : DWord := 0
  bytes : List Byte := []
  space : Nat := 0
  target : Nat := 0
  index : Nat := 0
  plain : Bool := false
  only : Option Nat := none
  deriving DecidableEq, Repr

/-- One record in a tap queue: the scored event it is, the packet it becomes. -/
structure TapItem where
  ev : Option (Nat × Scored) := none
  pkts : List Pkt := []
  deriving DecidableEq, Repr

/-- The queues of a tap (R350): 8 event records, 2 data records. -/
structure TapRt where
  evs : List TapItem := []
  dats : List TapItem := []
  deriving DecidableEq, Repr

/-- A trace channel (R359 to R368, R405 to R412), with its sink's part (R456 to R461): stream offsets of packets and flush
boundaries (offset past the PAD, PAD bytes) not yet in a frame, offset past END, staged frames with LAST, next FSEQ; original
bytes in the Roll engine, blocks made, compressed bytes not yet framed with their offset, block headers, flush boundaries
and end in them. -/
structure ChRt where
  buf : List Byte := []
  stamp : DWord := 0
  lastToll : DWord := 0
  stepped : Bool := false
  bytePos : Nat := 0
  packets : Nat := 0
  aligns : Nat := 0
  nextAlign : Nat := 0
  lossPkts : Nat := 0
  lossBytes : Nat := 0
  lossCause : Nat := 0
  lossTap : Nat := 0
  eseq : Nat := 0
  eseqVer : Option Nat := none
  ending : Bool := false
  marks : List Nat := []
  flushes : List (Nat × Nat) := []
  endPos : Option Nat := none
  frames : List (List Byte × Bool) := []
  fseq : Nat := 0
  rbuf : List Byte := []
  rseq : Nat := 0
  zbuf : List Byte := []
  zpos : Nat := 0
  zmarks : List Nat := []
  zflush : List Nat := []
  zend : Option Nat := none
  deriving DecidableEq, Repr

/-- Observation: staged packets in their order, channels, taps; channel served last by the parallel and the serial port;
AMCNT and rows since the last AM row of the serial port (R464, R467); channels that reported FULL and HBM lines that trace
moved, by half-stack, since the governor loop last ran (R752). -/
structure ObsRt where
  staged : List Pkt := []
  chans : Tab ChRt := []
  taps : Tab TapRt := []
  lastPar : Nat := 23
  lastSer : Nat := 23
  amcnt : Nat := 0
  rows : Nat := 0
  fullSeen : Nat := 0
  used : Tab Nat := []
  deriving DecidableEq, Repr

/-- The loops (R745, R757): thermal terms by partition, power term of the device, sensors known not valid, stacks whose last
read failed, stacks at the hard limit of R288. -/
structure PwrRt where
  therm : Tab Nat := []
  power : Nat := 0
  sensorBad : Nat := 0
  stackBad : Nat := 0
  hot : Nat := 0
  deriving DecidableEq, Repr

/-- One buffer of fault records (R773): records oldest first, records overwritten. -/
structure FaultBuf where
  recs : List (List Byte) := []
  missed : Nat := 0
  deriving DecidableEq, Repr

structure SafeRt where
  bufs : Tab FaultBuf := []
  seq : Nat := 0
  reqLow : Bool := false
  active : Nat := 0
  deriving DecidableEq, Repr

/-- A holder change in progress (R528): mask, new tenant, zero-fill asked, phase of Table 16-3 now running (0 HALT to 6
ASSIGN), partitions that failed their scrub, partitions that nobody held before it. -/
structure HolderRt where
  mask : Nat := 0
  tenant : Nat := 0
  zfill : Bool := false
  phase : Nat := 0
  bad : Nat := 0
  free : Nat := 0
  deriving DecidableEq, Repr

/-- The key slots of one holder (R524, R558): memory keys in the order of their installation as (slot, version, key), link
key, job key, trace key with its version, the staging area as (TYPE, VER, key). -/
structure KeySlots where
  mem : List (Nat × Nat × List Byte) := []
  link : Option (List Byte) := none
  job : Option (List Byte) := none
  trace : Option (Nat × List Byte) := none
  staged : List (Nat × Nat × List Byte) := []
  deriving DecidableEq, Repr

/-- An open key session (R556): SID, nonce, PART_GEN and tenant of its holder, the scalar of E_dev. -/
structure SessRt where
  sid : Nat := 0
  nonce : List Byte := []
  gen : Nat := 0
  tenant : Nat := 0
  scalar : List Byte := []
  deriving DecidableEq, Repr

/-- A device set of the trust record (Table 17-9), K_set wrapped under K_seal. -/
structure SetRt where
  id : List Byte := []
  gen : Nat := 0
  member : Nat := 0
  owner : List Byte := []
  wrapped : List Byte := []
  deriving DecidableEq, Repr

/-- Entries of a trust record (Table 17-9): toolchain keys, debug keys, sets. -/
structure RecRt where
  tools : List (List Byte) := []
  dbgs : List (List Byte) := []
  sets : List SetRt := []
  deriving DecidableEq, Repr

/-- Trust (chapter 17): the two record slots in flash and REC_OTP, the active record and its slot (true B), FW_OTP, the
firmware that runs (digests, SVN, version, source), key sessions by holder (8 the operator), the outstanding debug nonce,
the active token (TOKEN, SCOPE, DURATION), tokens admitted, digest and KEY_ID of the last, reports signed. -/
structure TrustRt where
  slotA : List Byte := []
  slotB : List Byte := []
  flashOk : Bool := true
  recOtp : Nat := 0
  active : Option Bool := none
  entries : RecRt := {}
  fwOtp : Nat := 0
  lifecycle : Nat := 1
  fwDigest : List Byte := []
  cfgDigest : List Byte := []
  fwSvn : Nat := 0
  fwVer : Nat := 0
  fwSrc : Nat := 0
  sessions : Tab (Option SessRt) := []
  sids : Nat := 0
  nonce : Option (List Byte) := none
  token : Option (Nat × Nat × Nat) := none
  admitted : Nat := 0
  lastDigest : List Byte := []
  lastKey : List Byte := []
  reports : Nat := 0
  deriving DecidableEq, Repr

/-- A rekey sweep begun and not ended (R296): region and target version. -/
structure RekeyRt where
  region : Nat := 0
  ver : Nat := 0
  deriving DecidableEq, Repr

/-- The HBM: stored lines by device line address (R272), tag lines among them; the MEM half of sweeps; power-ups so far, each
of which leaves other stale contents. -/
structure MemRt where
  gen : Nat := 0
  cells : Tab (Option (List Byte)) := []
  rekey : Tab (Option RekeyRt) := []
  hot : List Nat := []
  deriving DecidableEq, Repr

/-- An issued occurrence of a DMA record (R291): half-stack and slice, LBD port, direction, lines read (words and error
code) by offset order, lines returned, words entered; outbound: first byte, bytes left, words taken. For a ROLL record `words`
are lines, `pos` is the offset in the stream of blocks and `dec` holds decoded or encoded bytes that wait. `old` marks a
request made before the last plan boundary (R232). -/
structure DmaRt where
  dom : Nat := 0
  ri : Nat := 0
  occ : Nat := 0
  part : Nat := 0
  lbd : Nat := 0
  outb : Bool := false
  region : Nat := 0
  off : Nat := 0
  words : List (List Byte × Nat) := []
  lines : List Nat := []
  back : List Nat := []
  sent : Nat := 0
  left : Nat := 0
  roll : Bool := false
  pos : Nat := 0
  dec : List Byte := []
  strike : Bool := false
  old : Bool := false
  bell : Nat := 0
  deriving DecidableEq, Repr

/-- An entry of the fabric network (R133, R145): data, VALID, COND, its source, the sc of its send, path length so far,
the sc on which it reached its queue. -/
structure Ent where
  data : List Byte := []
  valid : Bool := true
  cond : Bool := false
  src : Nat := 0
  sent : Nat := 0
  lf : Nat := 0
  arr : Nat := 0
  deriving DecidableEq, Repr

/-- A switch box: route set in force, runs (start sc, length) of SN0, SN1, RQ0, RQ1 by ELEM 1 to 4. -/
structure SbRt where
  set : Nat := 0
  runs : Tab (Option (Nat × Nat)) := []
  deriving DecidableEq, Repr

/-- A channel source: credits, sends whose credit is out (sc, copies not yet returned), the outputs its entries took. -/
structure SrcRt where
  credits : Nat := 0
  sends : List (Nat × Nat) := []
  path : List Nat := []
  deriving DecidableEq, Repr

/-- The network: boxes, entries at or on their way to an SB input (sc left, SB and input), entries on their way to a local
destination, queues by 32 × SB + output, sources by 32 × SB + source, credits on their way, sends to come. -/
structure NetRt where
  sbs : Tab SbRt := []
  fly : List (Nat × Nat × Ent) := []
  loc : List (Nat × Nat × Ent) := []
  queues : Tab (List Ent) := []
  srcs : Tab SrcRt := []
  creds : List (Nat × Nat × Nat) := []
  later : List (Nat × Nat × Ent) := []
  deriving DecidableEq, Repr

/-- A vector in a CU's pipeline (Table 2-2): its age in sc, the op slot entry and slot it was accepted under, VALID, first
of its slot, first row of its pass, emission, accumulator, dot results by lane (0 finite with mantissa and exponent,
1 +infinity, 2 -infinity, 3 NaN), lane values and WIDE as FP32 bits, residue mismatches (32 × stage + lane), low sc bits of
its acceptance. -/
structure PipeEnt where
  age : Nat := 0
  seq : Nat := 0
  slot : Nat := 0
  valid : Bool := true
  fresh : Bool := false
  row0 : Bool := false
  emit : Bool := false
  ai : Nat := 0
  dots : List (Nat × Int × Int) := []
  vals : List Nat := []
  wide : List Nat := []
  bad : List Nat := []
  cond : Bool := false
  sc : Nat := 0
  deriving DecidableEq, Repr

/-- A compute unit: op slot in force and how many were entered, pending switch, ACC_CLR due, counters, load pointer and
vectors of the entry being loaded, WRF (lane words and lane scales), accumulators, pass validity, scale register, chunk
buffer and next chunk, vectors left of the group, pipeline, write-backs (sc left), S5: results packed so far (codes, VALID,
condition), blocks held, the format and slot entry they belong to, vectors that leave; sticky flags by lane; layer and
operator of the slot left. -/
structure CuRt where
  cur : Option Nat := none
  seq : Nat := 0
  pend : Option Nat := none
  fresh : Bool := false
  a : Nat := 0
  w : Nat := 0
  ldp : Nat := 0
  ldv : List (List Byte) := []
  wrf : Tab (List Nat × List Nat) := []
  acc : Tab (List Nat) := []
  pass : Tab Bool := []
  scale : List Byte := []
  chunk : Option (List Byte × Bool) := none
  chunkAt : Nat := 0
  gpos : Nat := 0
  pipe : List PipeEnt := []
  wb : List (Nat × Nat × List Nat) := []
  pack : List (List Nat × Bool × Bool) := []
  packFmt : Nat := 0
  blocks : List (Nat × List Nat × Bool × Bool) := []
  blkFmt : Nat := 0
  blkSeq : Nat := 0
  out : List Ent := []
  sat : Nat := 0
  nan : Nat := 0
  deriving DecidableEq, Repr

/-- An access that an AG or its lagged write makes on this sc (R98 to R107): AG, port, write, word address, suppressed,
bank conflict. -/
structure AgAct where
  ag : Nat := 0
  port : Nat := 0
  wr : Bool := false
  addr : Nat := 0
  supp : Bool := false
  clash : Bool := false
  deriving DecidableEq, Repr

/-- An address generator (R102 to R105): program and start sc of its run, next access, index in force, whether that index
suppresses its accesses, lagged writes (sc, word, suppressed). -/
structure AgRt where
  prog : Option Nat := none
  start : Nat := 0
  k : Nat := 0
  idx : Nat := 0
  supp : Bool := false
  lag : List (Nat × Nat × Bool) := []
  deriving DecidableEq, Repr

/-- An MU, or slice p as unit 0x1000 + p: address generators, indices by port (index, sc of acceptance, from a valid
vector), pending write-back (R115), sticky OOB, accesses of this sc still to make, words an LBD port delivered or will take
for a link port (port, sc, word). -/
structure MuRt where
  ags : Tab AgRt := []
  idxs : Tab (List (Nat × Nat × Bool)) := []
  wback : Option Nat := none
  oob : Bool := false
  acts : List AgAct := []
  outs : List (Nat × Nat × List Byte × Bool) := []
  ins : List (Nat × Nat × List Byte) := []
  deriving DecidableEq, Repr

structure FabRt where
  net : NetRt := {}
  cus : Tab CuRt := []
  mus : Tab MuRt := []
  sram : Tab (List Byte) := []
  serr : Tab Nat := []
  deriving DecidableEq, Repr

/-- A counter beside its registers (R440 to R448): value, staged low word, value to load, the value counted by the edge on
which a load lands, an unreported wrap, edges until a new code takes effect outside a context. -/
structure CtrRt where
  val : Nat := 0
  lo : Nat := 0
  load : Option Nat := none
  hold : Option Nat := none
  wrap : Bool := false
  sel : Nat := 0
  deriving DecidableEq, Repr

/-- A match waiting to be taken (R434): source (0 and 1 concentrators, 2 edge collector, 3 thresholds, 4 inputs),
comparator, unit, relative sc and stamp of the record, CLAP_IN levels on its edge. -/
structure MatchRt where
  src : Nat := 0
  cmp : Nat := 0
  unit : Nat := 0xFFFF
  sc : Nat := 2 ^ 48 - 1
  stamp : DWord := 0
  inputs : Nat := 0
  deriving DecidableEq, Repr

/-- One armed stop count (R438): unit, what is left (sc), the Toll value it ends at, byte positions by channel. -/
structure StopRt where
  unit : Nat := 0
  part : Nat := 0
  left : Nat := 0
  toll : DWord := 0
  chans : List (Nat × Nat) := []
  deriving DecidableEq, Repr

/-- The Clapper: sequencer state stands in CLP_STAT; counts of its eight arcs, matches that wait, thresholds crossed and
not yet matched, input levels, pins in a pulse, the armed stop count; snapshots that wait for their edge (new, armed), scopes whose
snapshot emits packets, scopes that CNT_SNAP.GO still waits for. -/
structure ClapRt where
  counts : Tab Nat := []
  waits : List MatchRt := []
  crossed : List Nat := []
  inputs : Nat := 0
  pulse : List Nat := []
  stop : Option StopRt := none
  snapNew : Nat := 0
  snapArm : Nat := 0
  snapPkt : Nat := 0
  snapGo : Nat := 0
  deriving DecidableEq, Repr

/-- A flit in a port's transmit queue (R332): its slot, the impairment record that applies, DSEQ once it has one (R310),
frames it still waits under DELAY (R313). -/
structure TxFlit where
  flit : Flit := {}
  imp : Option Nat := none
  dseq : Option Nat := none
  wait : Nat := 0
  late : Bool := false
  deriving DecidableEq, Repr

/-- A link port: transmit queue, flits held by DELAY, control flits to send (CTYPE and 128 bytes), trace halves to send,
next (EPOCH, FCNT) to send, last accepted pair, next DSEQ each way, consecutive rejections, frames without SYNC and frames
accepted in KEY, HELLO received, LATREQ sent, measured round trips, HOLD flags received, first half of a trace frame received and of one cut in sending, PATTERN
flits sent in the run, migration flits to send (ACK and NAK), trace frames received whole. -/
structure LinkRt where
  txq : List TxFlit := []
  held : List TxFlit := []
  ctl : List (Nat × List Byte) := []
  trace : List (List Byte) := []
  fcnt : Nat := 0
  epoch : Nat := 0
  rxLast : Option (Nat × Nat) := none
  dseqTx : Nat := 0
  dseqRx : Option Nat := none
  rej : Nat := 0
  noSync : Nat := 0
  acc : Nat := 0
  hello : Bool := false
  latSent : Nat := 0
  rtts : List Int := []
  rxUp : Bool := false
  rxDown : Bool := false
  half : Option (List Byte) := none
  sentHalf : Option (List Byte) := none
  pseq : Nat := 0
  mig : List Flit := []
  ingest : List (List Byte) := []
  deriving DecidableEq, Repr

/-- An E2E stream of the job that runs (R324 to R326): partition, direction, peer device, group, flits of the group, its
ciphertext so far, whether a LOST entry broke it. -/
structure StreamRt where
  part : Nat := 0
  tx : Bool := false
  peer : Nat := 0
  job : Word := 0
  g : Nat := 0
  n : Nat := 0
  ct : List Byte := []
  broken : Bool := false
  deriving DecidableEq, Repr

/-- What a drain captures (R716), as the device that wrote the image reads it back; `head` is its header, bytes 0 to 63. -/
structure DrainCap where
  id : Nat := 0
  head : List Byte := []
  mask : Nat := 0
  dom : DomRt := {}
  parts : Tab PartRt := []
  regs : Tab Word := []
  queues : Tab QueueRt := []
  fab : FabRt := {}
  ctrs : Tab CtrRt := []
  links : Tab LinkRt := []
  streams : List StreamRt := []
  dmas : List DmaRt := []
  outq : Tab (List (List Byte × Bool)) := []
  deriving DecidableEq, Repr

/-- Boot (R700 to R711, R735): phase 0 no power, 1 held at step 1, 2 the boot runs, 3 the MRP runs, 4 the ROM waits for host
recovery, 5 a warm reset restarts the firmware; SYS_RST_N low; what the boot found outside; the image assembled from
recovery pieces. -/
structure BootRt where
  phase : Nat := 2
  rstLow : Bool := false
  found : BootIn := {}
  image : List Byte := []
  deriving DecidableEq, Repr

/-- Log entry 111, DESIGN CHOICE. -/
structure State where
  pending : List Instr := []
  fuse : Fuse := {}
  regs : Tab Word := []
  out : List Emit := []
  host : HostRt := {}
  parts : Tab PartRt := []
  doms : Tab DomRt := []
  queues : Tab QueueRt := []
  plan : PlanRt := {}
  toll : TollRt := {}
  obs : ObsRt := {}
  safe : SafeRt := {}
  pwr : PwrRt := {}
  holder : Option HolderRt := none
  keys : Tab KeySlots := []
  trust : TrustRt := {}
  mem : MemRt := {}
  dmas : List DmaRt := []
  xing : Tab (List (EntryData × Bool)) := []
  outq : Tab (List (List Byte × Bool)) := []
  fab : FabRt := {}
  ctrs : Tab CtrRt := []
  clap : ClapRt := {}
  links : Tab LinkRt := []
  streams : List StreamRt := []
  caps : List DrainCap := []
  boot : BootRt := {}
  /-- Instruction of the TAP (R803): 0 BYPASS, 1 IDCODE, 2 SAMPLE/PRELOAD, 3 EXTEST, 4 CLAMP, 5 HIGHZ, 6 EXTEST_PULSE,
  7 EXTEST_TRAIN, 8 MRP_DEBUG. -/
  jtag : Nat := 1
  /-- Free values used so far (the model's own field). -/
  freeCtr : Nat := 0
  deriving DecidableEq, Repr

/-- The device right after a cold reset, before its boot ends (R45, R194, R218, R260, R675, R708): every register at its reset
value, no command taken, no context resident, every partition a slip domain of its own with fc = sc = 0, Toll 0 in
FREERUN, nothing listed in any memory, no command waiting. Fields the specification gives no value stand at the defaults
that the assumption log names.
(log entry 9, DESIGN CHOICE; log entry 20, DESIGN CHOICE; log entry 21, DESIGN CHOICE; log entry 23, PRESUMED) -/
def State.reset : State := {}

end Sys2Proof.Machine
end

