-- ==== Sys2Proof/Machine/Tab.lean ====
section
/-! DEFINITION. Sparse tables in one canonical form. A table is read with the value `d k` that an unlisted index `k`
holds; a write of that value removes the entry, so equal contents are equal data. -/

namespace Sys2Proof.Machine

/-- What index `k` of the table holds. -/
def tabGet {α : Type} (d : Nat → α) : Tab α → Nat → α
  | [], k => d k
  | (j, v) :: r, k => if j = k then v else tabGet d r k

/-- Insert an entry at its place, replacing an entry of the same index. -/
def tabInsert {α : Type} (k : Nat) (v : α) : Tab α → Tab α
  | [] => [(k, v)]
  | (j, w) :: r =>
    if k < j then (k, v) :: (j, w) :: r
    else if k = j then (k, v) :: r
    else (j, w) :: tabInsert k v r

/-- Remove the entry of an index. -/
def tabErase {α : Type} (k : Nat) (t : Tab α) : Tab α := t.filter (fun e => decide (e.1 ≠ k))

/-- Write index `k`, in canonical form. (log entry 104, DESIGN CHOICE) -/
def tabSet {α : Type} [DecidableEq α] (d : Nat → α) (k : Nat) (v : α) (t : Tab α) : Tab α :=
  if v = d k then tabErase k t else tabInsert k v t

/-- Every index of the table is above `b`, indices rise, and no entry holds the unlisted value. -/
def tabWfAbove {α : Type} [DecidableEq α] (d : Nat → α) (b : Nat) : Tab α → Bool
  | [] => true
  | (j, v) :: r => decide (b ≤ j) && decide (v ≠ d j) && tabWfAbove d (j + 1) r

/-- The canonical form. -/
def tabWf {α : Type} [DecidableEq α] (d : Nat → α) (t : Tab α) : Bool := tabWfAbove d 0 t

/-- Write consecutive indices from `k`. -/
def tabSetList {α : Type} [DecidableEq α] (d : Nat → α) (k : Nat) : List α → Tab α → Tab α
  | [], t => t
  | v :: r, t => tabSetList d (k + 1) r (tabSet d k v t)

/-- Drop every entry whose index passes a test: those indices read as unlisted again. -/
def tabDrop {α : Type} (p : Nat → Bool) (t : Tab α) : Tab α := t.filter (fun e => !p e.1)

end Sys2Proof.Machine
end

