-- ==== Sys2Proof/Machine/Ops.lean ====
section
/-! DEFINITION. The named operations over registers, presence, interrupt causes, the device error log and replies that every
family of commands shares. -/

namespace Sys2Proof.Machine

/-! ### Registers -/

/-- The register at a key. -/
def State.reg (s : State) (a : Nat) : Word := tabGet regReset s.regs a

/-- Set a register. Bits that no field defines stay zero (R15), so an offset that no register occupies reads zero for
ever (R646). -/
def State.setReg (s : State) (a : Nat) (v : Word) : State :=
  { s with regs := tabSet regReset a (v &&& definedMask a) s.regs }

/-- Field of `w` bits from `lo` of a register. -/
def State.rf (s : State) (a lo w : Nat) : Nat := fld (s.reg a) lo w

def State.rbit (s : State) (a i : Nat) : Bool := bit (s.reg a) i

/-- Set a field of a register. -/
def State.put (s : State) (a lo w v : Nat) : State := s.setReg a (putFld (s.reg a) lo w v)

def State.setBit (s : State) (a i : Nat) (b : Bool) : State := s.put a i 1 (b2n b)

/-- Count in a field, stopping at its largest value. -/
def State.countSat (s : State) (a lo w n : Nat) : State := s.put a lo w (satAdd w (s.rf a lo w) n)

/-- Return a register to its reset value. -/
def State.clearReg (s : State) (a : Nat) : State := s.setReg a (regReset a)

/-- Return every register whose key passes a test to its reset value. -/
def State.dropRegs (s : State) (p : Nat → Bool) : State := { s with regs := tabDrop p s.regs }

/-- A reset that covers an instance: RW, W1C, W1S and RO fields return to reset, RWS and RWL fields keep (R13). -/
def resetKeep (a : Nat) (v : Word) : Word :=
  let keep := tyMask (regFields a) .rws ||| tyMask (regFields a) .rwl
  (v &&& keep) ||| (regReset a &&& ~~~ keep)

def State.coverReg (s : State) (a : Nat) : State := s.setReg a (resetKeep a (s.reg a))

def State.coverRegs (s : State) (p : Nat → Bool) : State :=
  forL ((s.regs.map Prod.fst).filter p) (fun a t => t.coverReg a) s

/-- 64-bit value of a register pair, low half first. -/
def State.reg64 (s : State) (l h : Nat) : Nat := (s.reg l).toNat + 2 ^ 32 * (s.reg h).toNat

def State.emit (s : State) (e : Emit) : State := { s with out := s.out ++ [e] }

/-- A free value: the next of the run's open values, and the state that has used it. (log entry 11, DESIGN CHOICE) -/
def State.bump (s : State) : State := { s with freeCtr := s.freeCtr + 1 }

/-! ### Presence (R2, R3, R20, R521, R678, R679) -/

/-- Bits of a half-stack of a stack that trained (R264, R678). -/
def hsPresent (s : State) (h : Nat) : Bool := decide (h < 8) && !s.fuse.badStacks.testBit (h / 2)

def partPresent (s : State) (p : Nat) : Bool :=
  decide (p < if s.fuse.variant = 0 then 8 else 4) && hsPresent s p

/-- Link ports of Table 0-2; PU4L has ports 0, 2, 4 and 6 (R785). -/
def portPresent (s : State) (n : Nat) : Bool :=
  (match s.fuse.variant with
   | 0 => decide (n < 16)
   | 1 => decide (n < 8)
   | _ => decide (n < 8) && decide (n % 2 = 0)) && !s.fuse.badPorts.testBit n

def engineCount (s : State) : Nat := match s.fuse.variant with | 0 => 4 | 1 => 2 | _ => 0

def enginePresent (s : State) (r : Nat) : Bool := decide (r < engineCount s) && !(s.fuse.harvested.contains (0x850 + r))

/-- CH16 to CH23 are absent on PU4 and PU4L (R355); a channel of an absent partition too. -/
def chanPresent (s : State) (n : Nat) : Bool :=
  if n < 8 then true else decide (n < 24) && partPresent s ((n - 8) / 2)

/-- Array units by ID (R11): cluster, row below 24, column; harvested ones are absent (R20). -/
def arrayUnit (u : Nat) : Bool := decide (u < 0x800) && decide (u / 32 % 32 < 24)
def isMu (u : Nat) : Bool := arrayUnit u && decide ((u / 32 % 32 + u % 32) % 3 = 2)
def isCu (u : Nat) : Bool := arrayUnit u && decide ((u / 32 % 32 + u % 32) % 3 ≠ 2)
/-- Partition of an array unit (R12). -/
def unitPart (u : Nat) : Nat := 4 * (u / 1024 % 2) + u % 32 / 8
/-- Cluster of an array unit. -/
def unitCluster (u : Nat) : Nat := u / 1024 % 2

def unitPresent (s : State) (u : Nat) : Bool :=
  !(s.fuse.harvested.contains u) &&
  (if u < 0x800 then arrayUnit u && partPresent s (unitPart u)
   else if u < 0x840 then partPresent s ((u - 0x800) / 8)
   else if u < 0x850 then portPresent s (u - 0x840)
   else if u < 0x854 then enginePresent s (u - 0x850)
   else if u = 0x858 then true
   else if 0x859 ≤ u ∧ u < 0x861 then partPresent s (u - 0x859)
   else if 0x868 ≤ u ∧ u < 0x870 then hsPresent s (u - 0x868)
   else decide (0x870 ≤ u) && decide (u < 0x877))

/-- Mask of the present partitions. -/
def partMaskPresent (s : State) : Nat := maskOf ((List.range 8).filter (partPresent s))
def portMaskPresent (s : State) : Nat := maskOf ((List.range 16).filter (portPresent s))
def engineMask (s : State) : Nat := maskOf ((List.range 4).filter (enginePresent s))

/-! ### Partitions and holders (Tables 16-7, 16-8) -/

def partState (s : State) (p : Nat) : Nat := s.rf (aPartStat p) 29 3
def tenantOf (s : State) (p : Nat) : Nat := s.rf (aPartStat p) 0 16
/-- A tenant holds p. -/
def held (s : State) (p : Nat) : Bool := decide (tenantOf s p ≠ 0)
/-- PART_MASK of p's slip domain. -/
def domMask (s : State) (p : Nat) : Nat := s.rf (aPartStat p) 16 8
/-- Lowest partition of p's slip domain. -/
def domLow (s : State) (p : Nat) : Nat := lowBit 8 (domMask s p)
def setPartState (p v : Nat) (s : State) : State := s.put (aPartStat p) 29 3 v

/-- The function of partition p's holder: VF(p+1) while a tenant holds p and its VF is enabled, else PF0 (R584, R587). -/
def partFn (s : State) (p : Nat) : Nat := if held s p && decide (p + 1 ≤ s.host.numVf) then p + 1 else 0

/-- Holder of a link port (R320): partition of LNK_n_OWN, or 8 for the operator. -/
def portPart (s : State) (n : Nat) : Nat := if s.rbit (aLnkOwn n) 31 then s.rf (aLnkOwn n) 0 3 else 8

/-- The owner of a unit: a partition, or 8 for the operator (Table 10-3, R265, R487). -/
def unitOwner (s : State) (u : Nat) : Nat :=
  if u < 0x800 then unitPart u
  else if u < 0x840 then (u - 0x800) / 8
  else if u < 0x850 then portPart s (u - 0x840)
  else if u < 0x854 then
    (if s.rf (aRol (u - 0x850) 0) 30 2 = 0 then 8
     else if s.rf (aRol (u - 0x850) 0) 24 4 < 8 then s.rf (aRol (u - 0x850) 0) 24 4 else 8)
  else if 0x859 ≤ u ∧ u < 0x861 then u - 0x859
  else if 0x868 ≤ u ∧ u < 0x870 then (if partPresent s (u - 0x868) then u - 0x868 else 8)
  else 8

/-! ### Lists kept by index -/

def fnRt (s : State) (f : Nat) : FnRt := tabGet (fun _ => {}) s.host.fns f
def setFnRt (f : Nat) (r : FnRt) (s : State) : State :=
  { s with host := { s.host with fns := tabSet (fun _ => {}) f r s.host.fns } }
def partRt (s : State) (p : Nat) : PartRt := tabGet (fun _ => {}) s.parts p
def setPartRt (p : Nat) (r : PartRt) (s : State) : State := { s with parts := tabSet (fun _ => {}) p r s.parts }
def domRt (s : State) (d : Nat) : DomRt := tabGet (fun _ => {}) s.doms d
def setDomRt (d : Nat) (r : DomRt) (s : State) : State := { s with doms := tabSet (fun _ => {}) d r s.doms }
def queueRt (s : State) (q : Nat) : QueueRt := tabGet (fun _ => {}) s.queues q
def setQueueRt (q : Nat) (r : QueueRt) (s : State) : State := { s with queues := tabSet (fun _ => {}) q r s.queues }
def chRt (s : State) (n : Nat) : ChRt := tabGet (fun _ => {}) s.obs.chans n
def setChRt (n : Nat) (r : ChRt) (s : State) : State :=
  { s with obs := { s.obs with chans := tabSet (fun _ => {}) n r s.obs.chans } }

/-! ### Interrupt causes (R587, R588, R681) -/

/-- Issue the message of a vector, or leave its pending bit set while it is masked or cannot be sent.
(log entry 22, PRESUMED) -/
def msixSend (f v : Nat) (s : State) : State :=
  let r := fnRt s f
  if r.msixMask || r.vmask.getLsbD v || !r.bme || r.flr then setFnRt f { r with vpend := r.vpend ||| BitVec.ofNat 64 (2 ^ v) } s
  else s.emit (.msix f v)

/-- A cause of vector v of function f occurs. -/
def raise (f v : Nat) (s : State) : State :=
  let isr := if v < 32 then aIsrL f else aIsrH f
  let imr := if v < 32 then aImrL f else aImrH f
  let s := s.setBit isr (v % 32) true
  if s.rbit imr (v % 32) then s else msixSend f v s

/-- A cause of partition p (R587): to VF(p+1) while a tenant holds p; while p is FREE, to PF0's operator-wide vector
and to the split vector of p. -/
def raisePart (pfVec vfVec split p : Nat) (s : State) : State :=
  if held s p then (if p + 1 ≤ s.host.numVf then raise (p + 1) vfVec s else raise 0 pfVec s)
  else raise 0 (split + p) (raise 0 pfVec s)

/-! ### Expert control (R604) -/

def expertOf (s : State) (f : Nat) : Bool :=
  if f = 0 then s.rbit aCmdExpert 31 else s.rbit (aPartCtl (f - 1)) 29

def mrpReady (s : State) : Bool := s.rbit aDevStatus 31
def inSafe (s : State) : Bool := s.rbit aSafStat 31

/-! ### Score time (R8, R22, R24) -/

def fcOf (s : State) (p : Nat) : Cnt := (partRt s p).fc
def scOf (s : State) (p : Nat) : Cnt := (partRt s p).sc
def plnState (s : State) (d : Nat) : Nat := s.rf (aPlnStat d) 16 4
def stIdle : Nat := 0
def stRun : Nat := 1
def stSwitch : Nat := 2
def stHalted : Nat := 3
/-- A context runs in the domain (R829): in RUN, and in the 704 edges of a switch, not in a class change before it. -/
def ctxRuns (s : State) (d : Nat) : Bool :=
  decide (plnState s d = stRun) || (decide (plnState s d = stSwitch) && (domRt s d).sw.isSome)
/-- Score cycle of the running context (R24), negative in two's complement over 48 bits during its switch (R230, R388),
all ones in 48 bits when none runs (R404). -/
def relSc (s : State) (p : Nat) : Nat :=
  let d := domLow s p
  if ctxRuns s d then (scOf s d - (domRt s d).base).toNat % 2 ^ 48 else 2 ^ 48 - 1
/-- The domain is slipping on this edge. -/
def slipping (s : State) (d : Nat) : Bool := (domRt s d).slip.isSome

def allOnes48 : Nat := 2 ^ 48 - 1

end Sys2Proof.Machine
end

