-- ==== Sys2Proof/Machine/Flags.lean ====
section
/-! DEFINITION. Status and error flags: the device error log (R684, R685), a refused register write, and the fault capture
registers (R121). -/

namespace Sys2Proof.Machine

/-! ### Device error log (R684, R685, Table 21-7) -/

def flagPerm : Nat := 0
def flagState : Nat := 1
/-- Log entry 28, DESIGN CHOICE. -/
def flagLock : Nat := 2
def flagPlan : Nat := 3
def flagResval : Nat := 4
def flagUr : Nat := 5
def flagSlotUe : Nat := 6
def flagMbx : Nat := 7

/-- Set a flag of DEV_ERRL; a change from 0 to 1 raises PF0 vector 11. Captured flags take the capture registers when
VALID is 0, and set MULTI otherwise. (log entry 85, DESIGN CHOICE) -/
def errFlag (flag fn src wher : Nat) (s : State) : State :=
  let was := s.rbit aDevErrl flag
  let s := s.setBit aDevErrl flag true
  let s :=
    if flag = 6 ∨ 8 ≤ flag then s
    else if s.rbit aErrCapA 31 then s.setBit aErrCapA 30 true
    else
      let s := s.setReg aErrCapA (BitVec.ofNat 32 (2 ^ 31 + flag * 2 ^ 24 + fn * 2 ^ 20 + src * 2 ^ 18))
      let s := s.setReg aErrCapB (BitVec.ofNat 32 wher)
      s.setReg aErrCapC (BitVec.ofNat 32 (s.toll.now.toNat / 64))
  if was then s else raise 0 11 s

/-- A register write under way: function, SRC of DEV_ERRCAPA (0 BAR0, 1 command, 3 mailbox), key of the register, opcode
of the command that writes it when that is no REG_WRITE. -/
structure RegW where
  fn : Nat := 0
  src : Nat := 0
  key : Nat := 0
  op : Option Nat := none
  deriving DecidableEq, Repr

/-- The write is refused, wholly or in a field, with a flag of Table 21-7. -/
def refuse (flag : Nat) (w : RegW) (s : State) : State := errFlag flag w.fn w.src (w.op.getD (offOf w.key)) s

/-! ### Capture registers (R121) -/

/-- First fault after VALID was last cleared takes the registers; a further one sets MULTI. -/
def capture (aA aB : Nat) (a b : Word) (s : State) : State :=
  if s.rbit aA 31 then s.setBit aA 30 true
  else (s.setReg aA ((a &&& 0x3FFFFFFF#32) ||| 0x80000000#32)).setReg aB b

end Sys2Proof.Machine
end

