-- ==== Sys2Proof/Machine/Operands.lean ====
section
/-! DEFINITION. Operands of the host commands: status codes, the descriptor's PARAM fields, its host and mailbox buffers, and
the operand bytes that each opcode lists (Tables 18-6, 19-2 to 19-14, R597, R619, R620, R690). -/

namespace Sys2Proof.Machine

/-! ### Status codes (Table 19-2) -/
def sOk : Nat := 0x00
def sAccepted : Nat := 0x01
def sOpcode : Nat := 0x10
def sParam : Nat := 0x11
def sState : Nat := 0x12
def sPerm : Nat := 0x13
def sAbsent : Nat := 0x14
def sBusy : Nat := 0x15
def sAuth : Nat := 0x16
def sResource : Nat := 0x17
def sTimeout : Nat := 0x18
def sIntegrity : Nat := 0x19
def sPolicy : Nat := 0x1A
def sKey : Nat := 0x1B
def sFault : Nat := 0x20

/-- Bytes of the mailbox input area. -/
def mbxInBytes (s : State) (f off n : Nat) : List Byte :=
  (List.range n).map (fun j => bite ((s.reg (aMbxIn f ((off + j) / 4))).toNat / 256 ^ ((off + j) % 4)))

/-- Write one byte of the mailbox output area. -/
def putMbxOut (f off : Nat) (b : Byte) (s : State) : State :=
  s.put (aMbxOut f (off / 4)) (8 * (off % 4)) 8 b.toNat

end Sys2Proof.Machine

namespace Sys2Proof
open Sys2Proof.Machine

/-! ### Operands of a descriptor -/

/-- Byte `i` of the descriptor, 16 to 63. -/
def Call.b (c : Call) (i : Nat) : Nat := byteAt c.param (i - 16)
/-- Little-endian number in `n` bytes from byte `i` of the descriptor. -/
def Call.le (c : Call) (i n : Nat) : Nat := leAt c.param (i - 16) n
def Call.bytes (c : Call) (i n : Nat) : List Byte := padTo n ((c.param.drop (i - 16)).take n)
def Call.bit (c : Call) (i j : Nat) : Bool := (c.b i).testBit j

/-- SRC of an error that a command causes (Table 21-8): 1 from a ring, 3 from a mailbox. -/
def Call.src (c : Call) : Nat := match c.via with | .ring _ => 1 | .mailbox => 3

/-- The input buffer named by ADDR and LEN (R597, R620, R690): its bytes, or the status that ends the command.
(log entry 7, DESIGN CHOICE) -/
def Call.input (c : Call) (s : State) (addr len : Nat) : Except Nat (List Byte) :=
  match c.via with
  | .ring _ =>
    if addr % 64 ≠ 0 then .error sParam
    else if c.bufErr then .error sFault
    else .ok (padTo len c.buf)
  | .mailbox =>
    if addr < 0x10000 ∨ 0x20000 < addr + len then .error sParam
    else .ok (mbxInBytes s c.fn (addr - 0x10000) len)

/-- An output buffer is acceptable. -/
def Call.outOk (c : Call) (addr len : Nat) : Option Nat :=
  if len = 0 then none
  else match c.via with
  | .ring _ => if addr % 64 ≠ 0 then some sParam else none
  | .mailbox => if addr < 0x20000 ∨ 0x30000 < addr + len then some sParam else none

/-- Write an output buffer (R597): host memory, or the mailbox output area (R690). (log entry 7, DESIGN CHOICE) -/
def Call.output (c : Call) (addr : Nat) (bytes : List Byte) (s : State) : State :=
  if bytes = [] then s
  else match c.via with
  | .ring _ => s.emit (.host c.fn addr bytes)
  | .mailbox => (List.zip (List.range bytes.length) bytes).foldl (fun s x => putMbxOut c.fn (addr - 0x20000 + x.1) x.2 s) s

end Sys2Proof

namespace Sys2Proof.Machine

/-! ### The opcode catalogue -/

/-- What Table 19-4 to 19-14 say of an opcode: PF0-only, PART names a partition, LONG, and the bytes of PARAM it lists
as (first, last, mask of listed bits). -/
structure OpInfo where
  pf0 : Bool := false
  partRow : Bool := false
  keyRow : Bool := false
  long : Bool := false
  used : List (Nat × Nat × Nat) := []
  deriving DecidableEq, Repr

def full (a b : Nat) : Nat × Nat × Nat := (a, b, 0xFF)

/-- The opcode catalogue (R624 to R634): none for an undefined opcode. -/
def opInfo (op : Nat) : Option OpInfo :=
  match op with
  | 0x00 => some {}
  | 0x01 => some { used := [full 16 27] }
  | 0x02 => some { pf0 := true, used := [(16, 16, 1)] }
  | 0x03 => some { pf0 := true, long := true }
  | 0x10 => some { partRow := true }
  | 0x11 => some { pf0 := true, long := true, used := [full 16 16, (17, 17, 1), full 18 19] }
  | 0x12 => some { pf0 := true, partRow := true, long := true, used := [(16, 16, 1)] }
  | 0x13 => some { pf0 := true, partRow := true, used := [(16, 16, 1)] }
  | 0x14 => some { partRow := true, used := [full 16 16, (17, 17, 15), (18, 18, 1), full 20 31] }
  | 0x15 => some { partRow := true, used := [full 16 16] }
  | 0x16 => some { partRow := true, long := true, used := [full 16 16, full 20 27] }
  | 0x20 => some { partRow := true, long := true, used := [full 16 16, full 24 39] }
  | 0x21 => some { partRow := true, long := true, used := [full 16 17] }
  | 0x22 => some { partRow := true, long := true, used := [full 16 17, (18, 18, 1), full 24 31] }
  | 0x23 => some { partRow := true, long := true, used := [full 16 17] }
  | 0x24 => some { partRow := true, used := [full 16 16] }
  | 0x25 => some { partRow := true, long := true }
  | 0x26 => some { partRow := true }
  | 0x30 => some { long := true, used := [full 16 17, (18, 18, 3), full 19 24] }
  | 0x31 => some { used := [full 16 17] }
  | 0x32 => some { long := true, used := [full 16 17] }
  | 0x33 => some { long := true, used := [full 16 18, (19, 19, 1)] }
  | 0x34 => some { long := true, used := [full 16 17, full 24 35, full 40 47] }
  | 0x35 => some { long := true, used := [full 16 17, full 24 35, full 40 47] }
  | 0x36 => some { pf0 := true, used := [full 16 18] }
  | 0x37 => some { long := true, used := [full 16 16, (17, 17, 3), full 18 22, full 24 43] }
  | 0x38 => some { partRow := true, long := true, used := [(16, 16, 1), full 24 39] }
  | 0x40 => some { long := true, used := [full 16 59] }
  | 0x41 => some { used := [full 48 59] }
  | 0x42 => some { keyRow := true, long := true, used := [full 16 59] }
  | 0x43 => some { keyRow := true, long := true, used := [full 16 27] }
  | 0x44 => some { keyRow := true }
  | 0x45 => some { keyRow := true }
  | 0x46 => some { partRow := true, used := [full 16 16] }
  | 0x47 => some { pf0 := true, long := true, used := [full 16 27] }
  | 0x48 => some { pf0 := true, long := true, used := [full 16 31] }
  | 0x49 => some { partRow := true, long := true, used := [full 16 17, full 24 39] }
  | 0x4A => some { pf0 := true, long := true, used := [full 16 27] }
  | 0x4B => some { pf0 := true, long := true, used := [full 16 63] }
  | 0x4C => some { pf0 := true, long := true, used := [full 16 27] }
  | 0x4D => some { pf0 := true, long := true, used := [full 16 63] }
  | 0x50 => some { used := [full 16 16, (17, 17, 7), full 18 20, full 24 35] }
  | 0x51 => some { used := [full 16 18, full 20 21, full 24 31] }
  | 0x52 => some { used := [full 16 16, (17, 17, 3)] }
  | 0x53 => some { used := [(16, 16, 0x9F), (17, 17, 15), full 18 20, (21, 21, 1), full 22 35, full 40 47] }
  | 0x54 => some { pf0 := true, used := [full 16 16, (17, 17, 1), full 18 18] }
  | 0x55 => some { used := [full 16 19] }
  | 0x56 => some { pf0 := true, used := [full 16 27, (28, 28, 1)] }
  | 0x57 => some { used := [full 16 20, (21, 21, 7), full 22 22, full 24 29] }
  | 0x58 => some { used := [full 16 17, full 24 35] }
  | 0x60 => some { pf0 := true, used := [full 16 16, (17, 17, 7), full 18 18] }
  | 0x61 => some { pf0 := true, used := [full 16 16, (17, 17, 1), full 18 18] }
  | 0x62 => some { used := [full 16 17] }
  | 0x63 => some { used := [full 16 16, (17, 17, 7), full 18 23] }
  | 0x64 => some { used := [full 16 18, full 24 55] }
  | 0x65 => some { pf0 := true, used := [(16, 16, 7), full 18 23, (24, 24, 1), full 25 25] }
  | 0x66 => some { pf0 := true, used := [full 16 19, full 24 31] }
  | 0x67 => some { pf0 := true, used := [(16, 16, 31), full 17 19, (20, 20, 3), full 22 29, full 32 36, full 38 39] }
  | 0x68 => some {}
  | 0x70 => some { pf0 := true, used := [full 16 17, (18, 18, 3), full 20 27] }
  | 0x71 => some { partRow := true, used := [full 16 17, (18, 18, 1), full 20 27] }
  | 0x72 => some { used := [full 16 17] }
  | 0x80 => some { used := [full 16 16, full 24 35] }
  | 0x81 => some { pf0 := true, long := true, used := [full 16 16] }
  | 0x82 => some { partRow := true, long := true, used := [full 16 16, (17, 17, 1), full 24 31] }
  | 0x83 => some { partRow := true, long := true, used := [full 16 19, full 24 31] }
  | 0x84 => some { partRow := true, long := true, used := [full 16 19, full 24 35] }
  | 0x85 => some { partRow := true, long := true, used := [full 16 16, full 24 31] }
  | 0x86 => some { pf0 := true, used := [full 24 31] }
  | 0x87 => some { pf0 := true, long := true, used := [full 16 27] }
  | 0x88 => some { pf0 := true }
  | 0xF0 => some { used := [full 16 20] }
  | 0xF1 => some { used := [full 16 20, full 24 55] }
  | _ => none

/-- The listed bits of byte `i` of a descriptor (R619). -/
def usedMask (u : List (Nat × Nat × Nat)) (i : Nat) : Nat :=
  u.foldl (fun m x => if x.1 ≤ i ∧ i ≤ x.2.1 then m ||| x.2.2 else m) 0

def paramZero (o : OpInfo) (c : Call) : Bool :=
  (List.range 48).all (fun j => decide (byteAt c.param j &&& (0xFF - usedMask o.used (16 + j)) = 0))

end Sys2Proof.Machine
end

