-- ==== Sys2Proof/Machine/Crypto.lean ====
section
/-! DEFINITION. The modes of the outside standards the chapters name, over the block functions of Config: AES-256-GCM
(R226, R321, R325, R368), HKDF-SHA-384 (R226, R321, R324, R368), and the checks the specification gives by their
parameters, CRC-32C (R456) and CRC-64/ECMA-182 (R390). -/

namespace Sys2Proof.Machine

def xorBytes (a b : List Byte) : List Byte := List.zipWith (· ^^^ ·) a b

/-- Counter block `i` of GCM over a 12-byte IV. -/
def gcmCtr (iv : List Byte) (i : Nat) : List Byte := padTo 12 iv ++ (leBytes 4 i).reverse

/-- GCM counter-mode stream of `n` bytes, from counter value 2. -/
def gcmStream (key iv : List Byte) (n : Nat) : List Byte :=
  ((List.range ((n + 15) / 16)).flatMap (fun i => Config.aesBlock key (gcmCtr iv (i + 2)))).take n

def pad16 (l : List Byte) : List Byte := l ++ zeros ((16 - l.length % 16) % 16)

/-- The 16-byte GCM tag of AAD and ciphertext. -/
def gcmTag (key iv aad ct : List Byte) : List Byte :=
  let h := Config.aesBlock key (zeros 16)
  let lens := (leBytes 8 (8 * aad.length)).reverse ++ (leBytes 8 (8 * ct.length)).reverse
  padTo 16 (xorBytes (Config.ghash h (pad16 aad ++ pad16 ct ++ lens)) (Config.aesBlock key (gcmCtr iv 1)))

/-- Encryption: ciphertext then tag. -/
def gcmSeal (key iv aad pt : List Byte) : List Byte :=
  let ct := xorBytes pt (padTo pt.length (gcmStream key iv pt.length))
  ct ++ gcmTag key iv aad ct

/-- Decryption: the plaintext when the tag verifies. -/
def gcmOpen (key iv aad ct tag : List Byte) : Option (List Byte) :=
  if gcmTag key iv aad ct = tag then some (xorBytes ct (padTo ct.length (gcmStream key iv ct.length))) else none

/-- HKDF-SHA-384 with a salt of 48 zero bytes; the first 32 bytes of output (one expand round suffices). -/
def hkdf32 (ikm info : List Byte) : List Byte :=
  padTo 32 (Config.hmac384 (Config.hmac384 (zeros 48) ikm) (info ++ [1]))

/-- `n` bytes of HKDF-SHA-384 (RFC 5869). -/
def hkdf (salt ikm info : List Byte) (n : Nat) : List Byte :=
  let prk := Config.hmac384 salt ikm
  let x := (List.range ((n + 47) / 48)).foldl (fun (a : List Byte × List Byte) i =>
    let t := Config.hmac384 prk (a.1 ++ info ++ [BitVec.ofNat 8 (i + 1)])
    (t, a.2 ++ t)) ([], [])
  padTo n x.2

/-- Key wrap of RFC 3394 with the default initial value: steps j = 0 to 5 over the 8-byte blocks. -/
def keyWrap (kek key : List Byte) : List Byte :=
  let n := key.length / 8
  let r := (List.range n).map (fun i => (key.drop (8 * i)).take 8)
  let x := (List.range (6 * n)).foldl (fun (a : List Byte × List (List Byte)) t =>
    let i := t % n
    let b := padTo 16 (Config.aesBlock kek (a.1 ++ a.2.getD i []))
    (xorBytes (b.take 8) (leBytes 8 (t + 1)).reverse, a.2.set i (b.drop 8))) (List.replicate 8 0xA6, r)
  x.1 ++ x.2.flatMap id

/-- Key unwrap of RFC 3394: the key when the initial value comes back. -/
def keyUnwrap (kek w : List Byte) : Option (List Byte) :=
  let n := w.length / 8 - 1
  let r := (List.range n).map (fun i => (w.drop (8 * (i + 1))).take 8)
  let x := (List.range (6 * n)).reverse.foldl (fun (a : List Byte × List (List Byte)) t =>
    let i := t % n
    let b := padTo 16 (Config.aesBlockInv kek (xorBytes a.1 (leBytes 8 (t + 1)).reverse ++ a.2.getD i []))
    (b.take 8, a.2.set i (b.drop 8))) (w.take 8, r)
  if x.1 = List.replicate 8 0xA6 then some (x.2.flatMap id) else none

/-- ASCII bytes of a label. -/
def ascii (t : String) : List Byte := t.toList.map (fun c => BitVec.ofNat 8 c.toNat)

/-- One step of a reflected CRC over one byte. -/
def crcByte (poly : Nat) (crc : Nat) (b : Byte) : Nat :=
  (List.range 8).foldl (fun c _ => if c % 2 = 1 then (c / 2) ^^^ poly else c / 2) (crc ^^^ b.toNat)

/-- CRC-32C (R456): polynomial 0x1EDC6F41 reflected, initial and final XOR all ones. (log entry 96, DESIGN CHOICE) -/
def crc32c (l : List Byte) : Nat := (l.foldl (crcByte 0x82F63B78) 0xFFFFFFFF) ^^^ 0xFFFFFFFF

/-- CRC-64/ECMA-182 over one byte: polynomial 0x42F0E1EBA9EA3693, not reflected. -/
def crc64Byte (crc : Nat) (b : Byte) : Nat :=
  (List.range 8).foldl
    (fun c _ => if c / 2 ^ 63 = 1 then (c * 2 % 2 ^ 64) ^^^ 0x42F0E1EBA9EA3693 else c * 2 % 2 ^ 64)
    (crc ^^^ (b.toNat * 2 ^ 56))

/-- CRC-64 continued from a value. (log entry 96, DESIGN CHOICE) -/
def crc64 (init : Nat) (l : List Byte) : Nat := l.foldl crc64Byte init

end Sys2Proof.Machine
end

