-- ==== Sys2Proof/Machine/Watch.lean ====
section
/-! DEFINITION. What follows records and events without delaying them: counters (R440 to R448) and the comparators of the
Clapper (R430 to R433). -/

namespace Sys2Proof.Machine

/-! ### Counters -/

def ctrRt (s : State) (a : Nat) : CtrRt := tabGet (fun _ => {}) s.ctrs a
def setCtr (a : Nat) (r : CtrRt) (s : State) : State := { s with ctrs := tabSet (fun _ => {}) a r s.ctrs }
def setClap (r : ClapRt) (s : State) : State := { s with clap := r }
/-- The register SEL of a counter names it: `a`. Code in force. -/
def ctrCode (s : State) (a : Nat) : Nat := s.rf a 8 8
/-- Scope of a counter (CLP_SCOPE bits): its unit's partition, a cluster or the device; none for operator-owned units. -/
def ctrScope (s : State) (a : Nat) : Option Nat :=
  let o := a - bCnt
  if o < 0x40000 then (if unitOwner s (o / 0x40) < 8 then some (unitOwner s (o / 0x40)) else none)
  else some (8 + (o - 0x40000) / 0x1000)
/-- A counter of a frozen scope (R448). -/
def ctrFrozen (s : State) (a : Nat) : Bool := match ctrScope s a with | some b => s.rbit aCntFrz b | none => false
def ctrValue (s : State) (a : Nat) : Nat := let r := ctrRt s a; r.hold.getD r.val

/-- Counter named by threshold comparator t (Table 13-6). -/
def thrCtr (s : State) (t : Nat) : Nat :=
  aCntSel (s.rf (aClpThr t 0) 30 2) (s.rf (aClpThr t 0) 0 12) (s.rf (aClpThr t 0) 24 6)
def thrVal (s : State) (t : Nat) : Nat := s.reg64 (aClpThr t 1) (aClpThr t 2)

/-- The value of a counter changes from below a threshold to it or above: the comparator will match (R432). -/
def noteCross (a old new : Nat) (s : State) : State :=
  forN 4 (fun t s =>
    if s.rbit aClpCtl 31 ∧ thrCtr s t = a ∧ old < thrVal s t ∧ thrVal s t ≤ new then setClap { s.clap with crossed := s.clap.crossed ++ [t] } s else s) s

/-- A counter adds n events (R445, R446, R448): it wraps modulo 2^48; events of the edge on which a load lands are not
added to the loaded value. -/
def addCtr (a n : Nat) (s : State) : State :=
  if n = 0 || ctrFrozen s a then s
  else
    let r := ctrRt s a
    let v := r.hold.getD r.val
    let w := decide (2 ^ 48 ≤ v + n)
    let v' := (v + n) % 2 ^ 48
    let s := if w then s.setBit (a + 12) 31 true else s
    match r.hold with
    | some _ => setCtr a { r with hold := some v', wrap := r.wrap || w } s
    | none => noteCross a (if w then 0 else v) v' (setCtr a { r with val := v', wrap := r.wrap || w } s)

/-- Add events of a code to the counters at `as` that select it. -/
def countIn (as : List Nat) (ok : Nat → Bool) (code n : Nat) (s : State) : State :=
  forL as (fun a s => if ctrCode s a = code && ok a then addCtr a n s else s) s

/-- Events of a unit (Table 13-4, codes 0x01 to 0x56). -/
def countUnit (u code n : Nat) (s : State) : State :=
  countIn ((List.range 4).map (aCntSel 0 u)) (fun _ => true) code n s

/-- A cluster or device counter counts an instance (R441). -/
def instOk (s : State) (inst a : Nat) : Bool := !s.rbit a 19 || decide (s.rf a 16 3 = inst)
def countCluster (cl code inst n : Nat) (s : State) : State :=
  countIn ((List.range 64).map (aCntSel (1 + cl) 0)) (instOk s inst) code n s
/-- Device codes whose events have instances (Table 13-4). -/
def devInst (code : Nat) : Bool := decide (code ≤ 0xC2) || decide (code = 0xC7)
/-- Log entry 88, DESIGN CHOICE. -/
def countDevice (code inst n : Nat) (s : State) : State :=
  countIn ((List.range 32).map (aCntSel 3 0)) (fun a => !devInst code || instOk s inst a) code n s

/-- A group counts an event of several partitions once, for each instance among them. -/
def countMask (g code mask : Nat) (s : State) : State :=
  countIn ((List.range (if g = 3 then 32 else 64)).map (aCntSel g 0))
    (fun a => !s.rbit a 19 || mask.testBit (s.rf a 16 3)) code 1 s

/-- SEL keys of counters that some write has changed: unit counters of the domain's units, say. -/
def ctrKeys (s : State) : List Nat :=
  (s.regs.map Prod.fst).filter (fun a => decide (bCnt ≤ a) && decide (a < bCnt + 0x22000) && decide (a % 16 = 0))

def ctrUnit (a : Nat) : Nat := (a - bCnt) / 0x40

/-- The units of a mask of partitions count a code (SC and SLIP_FC, once for each edge). -/
def countDomain (mask code : Nat) (s : State) : State :=
  countIn (ctrKeys s) (fun a => decide (unitOwner s (ctrUnit a) < 8) && mask.testBit (unitOwner s (ctrUnit a))) code 1 s

/-! ### Comparators -/

/-- TYPE of Table 13-2 and key of a packet; TYPE 0 for those no comparator sees. -/
def recKey (b : List Byte) : Nat × Nat :=
  match byteAt b 0 with
  | 0x10 => (1, byteAt b 1 * 2 ^ 16 + leAt b 10 2)
  | 0x0C => (2, byteAt b 1 * 2 ^ 16 + byteAt b 3 * 2 ^ 8 + byteAt b 26)
  | 0x11 => (3, (byteAt b 1 % 2) * 2 ^ 23 + (byteAt b 1 / 2 % 4) * 2 ^ 21)
  | 0x0E => (4, (byteAt b 1 % 2) * 2 ^ 16 + byteAt b 2)
  | 0x0B => (5, (byteAt b 2 % 8) * 2 ^ 8 + byteAt b 1)
  | 0x17 => (6, byteAt b 1 * 2 ^ 8 + byteAt b 2)
  | 0x15 => (7, (byteAt b 1 % 2) * 2 ^ 10 + (byteAt b 1 / 16 % 4) * 2 ^ 8 + byteAt b 2)
  | _ => (0, 0)

/-- Record comparator c matches a packet (R431). -/
def cmpMatches (s : State) (c : Nat) (k : Pkt) : Bool :=
  let t := recKey k.bytes
  let cfg := aClpCmp c 0
  decide (t.1 ≠ 0) && decide (s.rf cfg 28 4 = t.1) &&
  (decide (t.1 = 5) || (decide (s.rf cfg 0 12 ≤ k.unit) && decide (k.unit ≤ s.rf cfg 16 12))) &&
  decide (BitVec.ofNat 32 t.2 &&& s.reg (aClpCmp c 2) = s.reg (aClpCmp c 1)) &&
  (decide (t.1 ≠ 3) || (decide ((s.reg (aClpCmp c 3)).toNat ≤ k.index) && decide (k.index ≤ (s.reg (aClpCmp c 4)).toNat)))

/-- The relative sc a record carries. -/
def recSc (k : Pkt) : Nat :=
  match byteAt k.bytes 0 with
  | 0x0F => leAt k.bytes 4 6 | 0x10 => leAt k.bytes 4 6 | 0x11 => leAt k.bytes 4 6 | 0x0C => leAt k.bytes 16 6 | 0x0E => leAt k.bytes 6 6
  | 0x17 => leAt k.bytes 6 6 | _ => 2 ^ 48 - 1

/-- Source of R434: the concentrator of an array unit's record, of a flam (Table 12-12) and of a fault (Table 12-24), or
the edge collector. -/
def recSrc (k : Pkt) : Nat :=
  if k.unit < 0x800 then k.unit / 1024 % 2
  else match byteAt k.bytes 0 with
  | 0x0C => byteAt k.bytes 2 / 8 % 2
  | 0x17 => byteAt k.bytes 3 / 8 % 2
  | _ => 2

/-- A record reaches the armed Clapper: each comparator that matches it waits to be taken. Slip records are matched when their
slip ends, whatever unit they carry. -/
def watchRecord (k : Pkt) (s : State) : State :=
  forN 8 (fun c s =>
    if s.rbit aClpCtl 31 && cmpMatches s c k then
      setClap { s.clap with waits := s.clap.waits ++ [{ src := recSrc k, cmp := c, unit := k.unit, sc := recSc k, stamp := k.stamp, inputs := s.clap.inputs }] } s
    else s) s

end Sys2Proof.Machine
end

