-- ==== Sys2Proof/Machine/Packets.lean ====
section
/-! DEFINITION. Trace packets: their bytes (Tables 12-3 to 12-24), where they may go (R355 to R358, Table 10-5), and how a
channel writes its stream (R359 to R368, R403 to R418). -/

namespace Sys2Proof.Machine

/-- Classes of Table 10-4; 10 is mandatory. -/
def clsFlam : Nat := 0
def clsCheckpoint : Nat := 1
def clsEvent : Nat := 2
def clsMarker : Nat := 3
def clsData : Nat := 4
def clsBell : Nat := 5
def clsCounter : Nat := 6
def clsTrigger : Nat := 7
def clsLinkcap : Nat := 8
def clsFirmware : Nat := 9
def clsMandatory : Nat := 10

def devId (s : State) : Nat := s.rf aPealId 0 10
def tollState (s : State) : Nat := s.rf aTolStat 30 2
/-- Root device ID (R239): a device with SRC FREE or PPS is a root itself. -/
def tollRoot (s : State) : Nat := if s.rf aTolCtl 18 2 = 2 then s.rf aTolStat 0 10 else devId s

/-- A packet from a unit, with its owner and that owner's tenant as they stand at the tap (R349, R428).
(log entry 102, DESIGN CHOICE) -/
def mkPkt (s : State) (cls unit : Nat) (concern : Nat) (stamp : DWord) (bytes : List Byte) : Pkt :=
  let o := unitOwner s unit
  { cls := cls, unit := unit, concern := concern, owner := o, tenant := if o < 8 then tenantOf s o else 0,
    stamp := stamp, bytes := bytes }

/-! ### Bodies -/

/-- POLICY (Table 12-9). `part` is none when no partition is concerned. -/
def policyBytes (loop prevailed yielded : Nat) (part : Option Nat) (inst origin req app : Nat) : List Byte :=
  [0x09, bite loop, bite (prevailed + 16 * yielded), bite (part.getD 0x80)] ++ leBytes 2 inst ++ [bite origin, 0] ++
    leBytes 2 req ++ leBytes 2 app ++ zeros 4

/-- SLIP (Table 12-11). -/
def slipBytes (causes low : Nat) (faulted : Bool) (sc fc : Cnt) (len : Nat) : List Byte :=
  [0x0B, bite causes, bite low, bite (b2n faulted)] ++ leBytes 7 sc.toNat ++ leBytes 7 fc.toNat ++ leBytes 4 len ++ zeros 2

/-- FLAM (Table 12-12). -/
def flamBytes (kind low cluster cls unit expArg obsArg expSc obsSc late queue : Nat) : List Byte :=
  [0x0C, bite kind, bite (low + 8 * cluster), bite cls] ++ leBytes 2 unit ++ leBytes 2 expArg ++ leBytes 2 obsArg ++
    leBytes 6 expSc ++ leBytes 6 obsSc ++ leBytes 4 late ++ [bite queue, 0]

/-- CHECKPOINT (Table 12-13). -/
def ckptBytes (flags low cluster index digest records flams : Nat) : List Byte :=
  [0x0D, bite flags, bite (low + 8 * cluster), 0] ++ leBytes 5 index ++ zeros 3 ++ leBytes 8 digest ++
    leBytes 4 records ++ leBytes 4 flams

/-- BELL (Table 12-14). -/
def bellBytes (isEnd : Bool) (bell waiter sc a b releaser : Nat) (peer : Option Nat) : List Byte :=
  [0x0E, bite (b2n isEnd + 2 * b2n peer.isSome), bite bell, 0] ++ leBytes 2 waiter ++ leBytes 6 sc ++ leBytes 4 a ++
    leBytes 4 b ++ leBytes 2 releaser ++ leBytes 2 (peer.getD 0)

/-- MARKER (Table 12-15). -/
def markerBytes (form unit sc id layer oper job : Nat) : List Byte :=
  [0x0F, bite form] ++ leBytes 2 unit ++ leBytes 6 sc ++ [bite id, 0] ++ leBytes 2 layer ++ leBytes 2 oper ++ leBytes 4 job

/-- EVENT (Table 12-16). -/
def eventBytes (code unit sc arg : Nat) : List Byte :=
  [0x10, bite code] ++ leBytes 2 unit ++ leBytes 6 sc ++ leBytes 2 arg

/-- DATA (Table 12-18). -/
def dataBytes (flags unit sc index wher : Nat) (value : List Byte) : List Byte :=
  [0x11, bite flags] ++ leBytes 2 unit ++ leBytes 6 sc ++ leBytes 4 index ++ [bite wher, 0] ++ value

/-- COUNTER (Table 12-21): entries are value, select, flags. -/
def counterBytes (reason group first unit sc : Nat) (entries : List (Nat × Nat × Nat)) : List Byte :=
  [0x13, bite reason, bite group, bite first] ++ leBytes 2 unit ++ [bite entries.length, 0] ++ leBytes 6 sc ++ zeros 2 ++
    entries.flatMap (fun e => leBytes 6 e.1 ++ [bite e.2.1, bite e.2.2])

/-- TRIGGER (Table 12-22). -/
def triggerBytes (states cmp actions unit inputs stop sc chans : Nat) : List Byte :=
  [0x14, bite states, bite cmp, bite actions] ++ leBytes 2 unit ++ [bite inputs, bite stop] ++ leBytes 6 sc ++ zeros 2 ++
    leBytes 3 chans ++ [0]

/-- FIRMWARE (Table 12-23). -/
def firmwareBytes (code pc addr info : Nat) : List Byte :=
  [0x16, bite code, 0, 0] ++ leBytes 4 pc ++ leBytes 4 addr ++ leBytes 4 info

/-- FAULT (Table 12-24). -/
def faultBytes (block kind wher unit sc detail : Nat) : List Byte :=
  [0x17, bite block, bite kind, bite wher] ++ leBytes 2 unit ++ leBytes 6 sc ++ leBytes 4 detail ++ zeros 4

/-- The context running in p's domain, by its ID and the domain's PART_MASK (R827). -/
def residentOf (s : State) (mask id : Nat) : Option Resident :=
  s.plan.resident.find? (fun r => decide (r.id = id) && decide (r.mask = mask) && !r.loading)

/-- The context that runs in domain d, from the end of its switch. -/
def runCtx (s : State) (d : Nat) : Option Resident :=
  if plnState s d = stRun then residentOf s (domMask s d) (s.rf (aPlnStat d) 24 8) else none

/-- OWNCTX for partition p (Table 12-10). The context fields are those of the running context, or say that none runs. -/
def ownctxBytes (s : State) (reason p : Nat) : List Byte :=
  let d := domLow s p
  let t := leBytes 2 (tenantOf s p)
  let r := runCtx s d
  let ctxPart := match r with
    | some x => [bite x.id, bite (s.rf (aPlnStat d) 20 4)] ++ leBytes 8 x.imageId ++ [bite x.ctx.index, bite x.ctx.chk]
    | none => [0xFF, bite (s.rf (aPlnStat d) 20 4)] ++ zeros 8 ++ [0xFF, 0]
  let job := match r with | some _ => (domRt s d).job.toNat | none => 0
  [0x0A, bite reason, bite p, bite (domMask s p)] ++ t ++ ctxPart ++ zeros 2 ++ leBytes 4 job ++
    leBytes 7 (scOf s p).toNat ++ leBytes 7 (fcOf s p).toNat ++ zeros 2

/-- The source unit under which a packet that concerns partition p alone is kept: its VF unit. -/
def partUnit (p : Nat) : Nat := 0x859 + p

/-! ### Where a packet may go -/

/-- Partition of a self-trace channel. -/
def chanPart (n : Nat) : Nat := (n - 8) / 2

def inRange (s : State) (n u : Nat) : Bool :=
  (List.range 2).any (fun i => decide (s.rf (aChUr n i) 0 12 ≤ u) && decide (u ≤ s.rf (aChUr n i) 16 12))

def overlap (lo hi a b : Nat) : Bool := decide (lo ≤ b) && decide (a ≤ hi) && decide (lo ≤ hi)

/-- The channel's ranges cover a unit that partition p owns (R357, R364). -/
def coversPart (s : State) (n p : Nat) : Bool :=
  (List.range 2).any (fun i =>
    let lo := s.rf (aChUr n i) 0 12
    let hi := s.rf (aChUr n i) 16 12
    (List.range 24).any (fun r => overlap lo hi (1024 * (p / 4) + 32 * r + 8 * (p % 4)) (1024 * (p / 4) + 32 * r + 8 * (p % 4) + 7))
      || overlap lo hi (0x800 + 8 * p) (0x807 + 8 * p) || overlap lo hi (0x859 + p) (0x859 + p)
      || overlap lo hi (0x868 + p) (0x868 + p)
      || (List.range 16).any (fun k => decide (portPart s k = p) && overlap lo hi (0x840 + k) (0x840 + k))
      || (List.range 4).any (fun r => decide (unitOwner s (0x850 + r) = p) && overlap lo hi (0x850 + r) (0x850 + r)))

/-- A channel acts as an operator channel (R355). -/
def opChan (s : State) (n : Nat) : Bool := decide (n < 8) || !held s (chanPart n)

/-- Table 10-5 permits the packets of partition q on channel n: q held by tenant t (0 for none). -/
def permitsPart (s : State) (n q t : Nat) : Bool :=
  if n < 8 then true
  else if held s (chanPart n) then decide (t ≠ 0) && decide (tenantOf s (chanPart n) = t)
  else decide (t = 0) && decide (q = chanPart n)

/-- Class and source together pass Table 10-5. -/
def permits (s : State) (n : Nat) (k : Pkt) : Bool :=
  if k.cls = clsFirmware then decide (n < 8) && s.rbit aObsDbg 31
  else if k.owner < 8 then
    permitsPart s n k.owner k.tenant && !(decide (n < 8) && decide (k.cls = clsData) && decide (k.tenant ≠ 0))
  else decide (n < 8)

/-- A DATA record passes an enabled address window (R358). -/
def windowPass (s : State) (n : Nat) (k : Pkt) : Bool :=
  (List.range 4).any (fun a =>
    decide (s.rf (aChAwSel n a) 30 2 ≠ 0) && decide (s.rf (aChAwSel n a) 30 2 = k.space)
      && (if k.space = 3 ∧ 8 ≤ n then decide (s.rf (aChAwSel n a) 0 4 = k.target % 16) && decide (chanPart n = k.target / 16)
          else if k.space = 3 then decide (s.rf (aChAwSel n a) 0 7 = k.target)
          else if k.space = 2 then decide (s.rf (aChAwSel n a) 0 3 = k.target)
          else decide (s.rf (aChAwSel n a) 0 12 = k.target))
      && decide ((s.reg (aChAwLo n a)).toNat ≤ k.index) && decide (k.index ≤ (s.reg (aChAwHi n a)).toNat))

/-- The channel accepts the packet (R356, R357). -/
def accepts (s : State) (n : Nat) (k : Pkt) : Bool :=
  chanPresent s n && s.rbit (aChCtl n) 31 && (k.only.getD n == n) &&
  (if k.cls = clsMandatory then
     (if k.concern = 0 then inRange s n k.unit && decide (n < 8)
      else (maskBits 8 k.concern).any (fun p => coversPart s n p && permitsPart s n p (tenantOf s p)))
   else if k.cls = clsCheckpoint then
     -- R393: the domain's units in the packet's cluster, with the privilege of its lowest partition
     (maskBits 8 k.concern).any (fun p => coversPart s n p) && permits s n k && (s.reg (aChCls n)).getLsbD k.cls
   else
     -- samples of cluster and device groups enter every operator channel, whatever its ranges (R443)
     (if k.unit = 0xFFFF then decide (n < 8) else inRange s n k.unit) && permits s n k && (s.reg (aChCls n)).getLsbD k.cls
       && (decide (k.cls ≠ clsData) || windowPass s n k))

/-! ### The stream of a channel -/

def chanCap (s : State) (n : Nat) : Nat := 65536 * s.rf (aChCtl n) 16 5
/-- PAD bytes in the buffer occupy no space (R457). -/
def chanFree (s : State) (n : Nat) : Nat :=
  chanCap s n - ((chRt s n).buf.length - ((chRt s n).flushes.map (·.2)).foldl (· + ·) 0)
/-- FULL as R363 and R364 define it. -/
def chanFull (s : State) (n : Nat) : Bool :=
  if s.rbit (aChCtl n) 30 then decide (chanFree s n < 16384) else decide (chanFree s n ≤ 64)

def refreshFull (n : Nat) (s : State) : State :=
  let f := s.rbit (aChCtl n) 31 && chanFull s n
  let s := s.setBit (aChStat n) 31 f
  if f then { s with obs := { s.obs with fullSeen := s.obs.fullSeen ||| 2 ^ n } } else s

/-- Append bytes to a channel's stream. `count` says whether they count as a packet in END (Table 12-7). -/
def chanPut (n : Nat) (b : List Byte) (count : Bool) (s : State) : State :=
  let r := chRt s n
  refreshFull n (setChRt n { r with buf := r.buf ++ b, bytePos := r.bytePos + b.length, marks := r.marks ++ [r.bytePos],
                                    packets := r.packets + b2n count } s)

/-- TOLL with T (Table 12-3, R407). -/
def tollBytes (s : State) (step : Bool) (t : DWord) : List Byte :=
  [0x03, bite (tollState s + 4 * b2n step)] ++ leBytes 2 (tollRoot s) ++ leBytes 8 t.toNat

def writeToll (n : Nat) (t : DWord) (s : State) : State :=
  let r := chRt s n
  let s := chanPut n (tollBytes s r.stepped t) true s
  setChRt n { chRt s n with stamp := t, lastToll := t, stepped := false } s

def xorAll (l : List Byte) : Byte := l.foldl (· ^^^ ·) 0

/-- ALIGN (Table 12-6). -/
def alignBytes (s : State) (n pos : Nat) : List Byte :=
  let m := [(0x5A : Byte)] ++ leBytes 5 (pos % 2 ^ 40) ++ leBytes 2 (devId s + 1024 * n) ++ [0x01]
  zeros 6 ++ m ++ [xorAll m]

/-- The stamp packet that R406 asks for before stamp `x`: bytes, or none when X = S, or TOLL. -/
def stampBytes (s : State) (n : Nat) (x : DWord) : Option (List Byte) :=
  let r := chRt s n
  let exp := s.rf (aChCtl n) 21 5
  let d : Int := (x - r.stamp).toInt
  if r.stepped || decide (2 ^ exp ≤ (x - r.lastToll).toInt) then none
  else if d = 0 then some []
  else if 1 ≤ d ∧ d ≤ 127 then some [bite (0x80 + d.toNat)]
  else if -32768 ≤ d ∧ d ≤ 32767 then some (0x04 :: leBytes 2 (BitVec.ofInt 16 d).toNat)
  else if -8388608 ≤ d ∧ d ≤ 8388607 then some (0x05 :: leBytes 3 (BitVec.ofInt 24 d).toNat)
  else none

/-- Write the stamp packet that stamp `x` needs. -/
def writeStamp (n : Nat) (x : DWord) (s : State) : State :=
  match stampBytes s n x with
  | none => writeToll n x s
  | some [] => s
  | some b => let s := chanPut n b true s; setChRt n { chRt s n with stamp := x } s

def stampLen (s : State) (n : Nat) (x : DWord) : Nat :=
  match stampBytes s n x with | none => 12 | some b => b.length

/-- A packet is discarded by a channel (R363). -/
def loseTo (n cause : Nat) (len : Nat) (s : State) : State :=
  let r := chRt s n
  let s := setChRt n { r with lossCause := r.lossCause ||| 2 ^ cause, lossPkts := r.lossPkts + 1, lossBytes := r.lossBytes + len } s
  (s.countSat (aChLostP n) 0 32 1).countSat (aChLostB n) 0 32 len

/-- Partitions whose slip domain a channel's ranges cover and Table 10-5 permits, ascending (R359, R410).
(log entry 57, DESIGN CHOICE) -/
def chanParts (s : State) (n : Nat) : List Nat :=
  (List.range 8).filter (fun p => partPresent s p && (maskBits 8 (domMask s p)).any (fun q => coversPart s n q) &&
    permitsPart s n p (tenantOf s p))

/-- A stamped packet of the channel itself or a mandatory one written now, with its stamp packet. -/
def writePlainPkt (n : Nat) (x : DWord) (b : List Byte) (s : State) : State :=
  chanPut n b true (writeStamp n x s)

/-- ALIGN with its TOLL, and after every 16th the REFRESH packets (R409, R410). -/
def writeAlign (n : Nat) (x : DWord) (s : State) : State :=
  let r := chRt s n
  let s := chanPut n (alignBytes s n r.bytePos) true s
  let s := writeToll n x s
  let r2 := chRt s n
  let s := setChRt n { r2 with aligns := r2.aligns + 1, nextAlign := (r.bytePos / 4096 + 1) * 4096 } s
  if (r2.aligns + 1) % 16 = 0 then
    forL (chanParts s n) (fun p s => if stampLen s n x + 40 + 64 ≤ chanFree s n then writePlainPkt n x (ownctxBytes s 1 p) s else loseTo n 0 40 s) s
  else s

/-- ALIGN at the first packet boundary at or after each multiple of 4,096 (R409). -/
def alignDue (n : Nat) (x : DWord) (s : State) : State :=
  if (chRt s n).nextAlign ≤ (chRt s n).bytePos then writeAlign n x s else s

/-- The stamp packet of `x`, and the ALIGN that falls due behind it, whose TOLL then carries `x`. -/
def stampAt (n : Nat) (x : DWord) (s : State) : State := alignDue n x (writeStamp n x s)

/-- LOSS (Table 12-8) with the counts since the last one, which then restart (R363). -/
def writeLoss (n : Nat) (x : DWord) (s : State) : State :=
  let r := chRt s n
  if r.lossCause = 0 then s
  else
    let s := stampAt n x s
    let b := [0x08, bite r.lossCause] ++ leBytes 2 (min r.lossTap 0xFFFF) ++ leBytes 4 (min r.lossPkts 0xFFFFFFFF) ++
      leBytes 6 (min r.lossBytes (2 ^ 48 - 1)) ++ zeros 2
    let s := chanPut n b true s
    alignDue n x (setChRt n { chRt s n with lossCause := 0, lossTap := 0, lossPkts := 0, lossBytes := 0 } s)

/-- The trace key of the tenant that a channel's partition belongs to. -/
def traceKey (s : State) (p : Nat) : Option (Nat × List Byte) := (tabGet (fun _ => {}) s.keys p).trace

/-- The sealed form of a packet on a self-trace channel (R368, Table 12-19): none when no key is installed or ESEQ is
spent. -/
def envelope (s : State) (n : Nat) (inner : List Byte) : Option (List Byte × Nat) :=
  match traceKey s (chanPart n) with
  | none => none
  | some (v, key) =>
    let r := chRt s n
    let e := if r.eseqVer = some v then r.eseq else 0
    if 2 ^ 48 - 1 < e then none
    else
      let hdr := [0x12, bite v, bite n, 0] ++ leBytes 2 inner.length ++ leBytes 6 e ++ leBytes 2 (devId s) ++ zeros 2
      let k := hkdf32 key (ascii "SCEUX-TRC" ++ [bite n, bite v])
      let iv := leBytes 6 e ++ leBytes 2 (devId s) ++ [bite n] ++ zeros 3
      some (hdr ++ gcmSeal k iv hdr inner, v)

/-- Concentrator of a packet (R351): its owner's cluster; its own for a cluster group; 0 for the operator's. -/
def pktCluster (k : Pkt) : Nat :=
  if k.owner < 8 then k.owner / 4 else if k.unit = 0xFFFF ∧ byteAt k.bytes 2 = 2 then 1 else 0

/-- A channel takes the packet in an envelope (R368). -/
def sealedOn (n : Nat) (k : Pkt) : Bool := k.plain && decide (8 ≤ n) && decide (k.tenant ≠ 0)
/-- The packet in clear: link payload in plaintext leaves no operator channel while a tenant holds the port (Table 10-5). -/
def bareFor (n : Nat) (k : Pkt) : List Byte :=
  if k.plain && decide (k.cls = clsLinkcap) && decide (n < 8) && decide (k.tenant ≠ 0)
  then (k.bytes.take 24).set 1 (bite (byteAt k.bytes 1 % 64)) else k.bytes
/-- Bytes of the packet as the channel writes it. -/
def wireLen (n : Nat) (k : Pkt) : Nat := if sealedOn n k then k.bytes.length + 32 else (bareFor n k).length

/-- One channel takes an accepted packet: ALIGN when due, LOSS, the stamp packet, the packet (R418); or discards it
(R363, R364, R412, R427). -/
def chanWrite (n : Nat) (k : Pkt) (s : State) : State :=
  let s := alignDue n k.stamp s
  let sld := sealedOn n k
  let enc := if sld then envelope s n k.bytes else some (bareFor n k, 0)
  match enc with
  | none => loseTo n 2 (wireLen n k) s
  | some (b, v) =>
    let need := stampLen s n k.stamp + b.length + (if (chRt s n).lossCause = 0 then 0 else 16)
    if need + 64 ≤ chanFree s n then
      let s := writeLoss n k.stamp s
      let s := chanPut n b true (stampAt n k.stamp s)
      let s := countCluster (pktCluster k) 0x82 k.owner b.length (countCluster (pktCluster k) 0x81 k.owner 1 s)
      if sld then
        let r := chRt s n
        setChRt n { r with eseq := (if r.eseqVer = some v then r.eseq else 0) + 1, eseqVer := some v } s
      else s
    else loseTo n (if s.rbit (aChCtl n) 30 && decide (0x800 ≤ k.unit) then 4 else 0) b.length (refreshFull n s)

/-- A staging queue holds 64 packets per owner and concentrator (R352). -/
def stagedFor (s : State) (o cl : Nat) : Nat :=
  (s.obs.staged.filter (fun k => decide (k.owner = o) && decide (pktCluster k = cl))).length

/-- Hand a packet to the concentrator. With the staging queue of its owner full, each channel that accepts it counts it
as lost (R352, R375). -/
def stage (k : Pkt) (s : State) : State :=
  let s := watchRecord k s
  if stagedFor s k.owner (pktCluster k) < 64 then { s with obs := { s.obs with staged := s.obs.staged ++ [k] } }
  else
    let s := countCluster (pktCluster k) 0x84 k.owner 1 s
    forL ((List.range 24).filter (fun n => accepts s n k)) (fun n s => loseTo n 0 (wireLen n k) s) s

/-- Stage a packet of a unit, stamped now. -/
def stagePkt (cls unit concern : Nat) (bytes : List Byte) (s : State) : State :=
  stage (mkPkt s cls unit concern s.toll.now bytes) s

/-- POLICY packet from the governor (0x872) or the loops (0x875). -/
def stagePolicy (unit loop prevailed yielded : Nat) (part : Option Nat) (inst origin req app : Nat) (s : State) : State :=
  stagePkt clsMandatory unit (match part with | some p => domMask s p | none => 0)
    (policyBytes loop prevailed yielded part inst origin req app) s

/-- One OWNCTX packet for each partition of a mask, ascending (R414). (log entry 57, DESIGN CHOICE) -/
def stageOwnctx (reason mask : Nat) (s : State) : State :=
  forL (maskBits 8 mask) (fun p s => stagePkt clsMandatory (partUnit p) (2 ^ p) (ownctxBytes s reason p) s) s

/-- Write one packet into every channel that accepts it, ascending (R352). -/
def distribute (k : Pkt) (s : State) : State :=
  forL (List.range 24) (fun n s => if accepts s n k then chanWrite n k s else s) s

/-- The concentrator empties its staging in order. -/
def drainStaged (s : State) : State :=
  s.obs.staged.foldl (fun s k => distribute k s) { s with obs := { s.obs with staged := [] } }

/-- END (Table 12-7). The channel then takes no packet until EN is set again. -/
def writeEnd (n reason : Nat) (s : State) : State :=
  let s := alignDue n s.toll.now s
  let s := writeLoss n s.toll.now s
  let s := stampAt n s.toll.now s
  let b := [0x02, bite reason] ++ leBytes 6 ((chRt s n).packets % 2 ^ 48)
  let s := chanPut n b false s
  setChRt n { chRt s n with ending := true, endPos := some (chRt s n).bytePos } s

/-- The first packets of an enabled channel: ALIGN at offset 0, TOLL, OWNCTX for each slip domain covered (R359, R409). -/
def startChannel (n : Nat) (s : State) : State :=
  let r := chRt s n
  let s := setChRt n { r with buf := [], bytePos := 0, packets := 0, aligns := 0, nextAlign := 0, lossCause := 0,
                              lossTap := 0, lossPkts := 0, lossBytes := 0, ending := false, stepped := false, marks := [],
                              flushes := [], endPos := none, frames := [], fseq := 0, rbuf := [], rseq := 0, zbuf := [],
                              zpos := 0, zmarks := [], zflush := [], zend := none } s
  let s := writeAlign n s.toll.now s
  forL (chanParts s n) (fun p s => writePlainPkt n s.toll.now (ownctxBytes s 0 p) s) s

end Sys2Proof.Machine
end

