-- ==== Sys2Proof/Machine/Host.lean ====
section
/-! DEFINITION. Replies, completion rings and the mailbox (R593 to R603, R689 to R692), the tests that every descriptor
meets (Table 18-7, R616 to R623), and the frame in which every host command runs. -/

namespace Sys2Proof.Machine

/-! ### Rings -/

/-- Ring pairs of a function: 4 on PF0, 2 on a VF (R589). -/
def pairCount (f : Nat) : Nat := if f = 0 then 4 else 2

/-- Commands of a pair taken and not final (R595). -/
def outCount (s : State) (f k : Nat) : Nat :=
  (s.host.outst.filter (fun o => decide (o.call.fn = f) && decide (o.call.via = .ring k))).length

/-- Replies of a pair that wait for Bus Master Enable (R610). -/
def heldCount (s : State) (f k : Nat) : Nat := ((fnRt s f).held.filter (fun h => decide (h.1 % 16 = k))).length

/-- OUT and ACTIVE follow the outstanding commands (Table 18-5, R596). -/
def refreshPair (f k : Nat) (s : State) : State :=
  let n := outCount s f k
  let s := s.put (aRqStat f k) 0 13 n
  s.setBit (aRqStat f k) 31 (s.rbit (aRqCtl f k) 31 || decide (n ≠ 0) || decide (heldCount s f k ≠ 0))

/-- Free completion space (R595). -/
def cqFree (s : State) (f k : Nat) : Nat :=
  let n := 2 ^ s.rf (aRqCtl f k) 12 4
  n - ((s.rf (aCqTail f k) 0 13 + n - s.rf (aCqHead f k) 0 13) % n) - 1

/-- Write one reply into the completion ring now (R594): PHASE in byte 1, tail on, PHASE inverts after the last entry. -/
def writeReply (f k : Nat) (irq : Bool) (b : List Byte) (s : State) : State :=
  if f ≠ 0 ∧ s.host.numVf < f then
    -- the function cannot issue the write (R611)
    errFlag 12 f 0 0 (((s.setBit (aRqStat f k) 30 true).put (aRqStat f k) 28 2 3).emit (.aer f))
  else
    let t := s.rf (aCqTail f k) 0 13
    let ph := s.rbit (aCqTail f k) 31
    let b := b.set 1 (bite (byteAt b 1 + b2n ph))
    let s := s.emit (.reply f k t b)
    let last := decide (t + 1 = 2 ^ s.rf (aRqCtl f k) 12 4)
    let s := s.put (aCqTail f k) 0 13 (if last then 0 else t + 1)
    let s := s.setBit (aCqTail f k) 31 (if last then !ph else ph)
    if irq && s.rbit (aRqCtl f k) 31 then raise f k s else s

/-- Pair under which a command whose replies a PF0 reset discards is kept (R608). -/
def mutePair : Nat := 16

/-- Post a reply: at once, or held while Bus Master Enable is 0 (R610); discarded while the function is in reset. -/
def postRing (f k : Nat) (irq : Bool) (b : List Byte) (s : State) : State :=
  let r := fnRt s f
  if r.flr || decide (k = mutePair) then s
  else if !r.bme || decide (r.held ≠ []) then refreshPair f k (setFnRt f { r with held := r.held ++ [(k + 16 * b2n irq, b)] } s)
  else writeReply f k irq b s

/-- The replies that waited are written in order (R610). -/
def flushHeld (f : Nat) (s : State) : State :=
  let r := fnRt s f
  let s := setFnRt f { r with held := [] } s
  let s := forL r.held (fun h s => writeReply f (h.1 % 16) (decide (16 ≤ h.1)) h.2 s) s
  forN (pairCount f) (fun k s => refreshPair f k s) s

/-- The 32 bytes of a reply, PHASE 0 (Table 18-8). -/
def replyBytes (s : State) (status flags tag op part sqHead : Nat) (res : List Byte) : List Byte :=
  [bite status, bite flags] ++ leBytes 2 tag ++ [bite op, bite part] ++ leBytes 2 sqHead ++ padTo 16 res ++
    leBytes 8 s.toll.now.toNat

/-- Mailbox vector (Table 18-4). -/
def mbxVec (f : Nat) : Nat := if f = 0 then 4 else 2

/-- Write the mailbox reply registers (R691). -/
def writeMbxReply (f : Nat) (b : List Byte) (s : State) : State :=
  forN 8 (fun i s => s.setReg (aMbxReply f i) (BitVec.ofNat 32 (leAt b (4 * i) 4))) s

/-- Post one reply of a command (R600, R691). -/
def postReply (c : Call) (op status : Nat) (more : Bool) (res : List Byte) (s : State) : State :=
  match c.via with
  | .ring k =>
    let irq := !s.rbit (aRqCtl c.fn k) 30 || c.flags.getLsbD 1
    postRing c.fn k irq (replyBytes s status (4 * b2n more) c.tag.toNat op c.part.toNat (s.rf (aSqHead c.fn k) 0 12) res) s
  | .mailbox =>
    if (fnRt s c.fn).flr then s
    else
      let s := writeMbxReply c.fn (replyBytes s status (4 * b2n more) c.tag.toNat op c.part.toNat 0 res) s
      if more then s.setBit (aMbxStat c.fn) 29 true
      else raise c.fn (mbxVec c.fn) (((s.setBit (aMbxStat c.fn) 29 false).setBit (aMbxStat c.fn) 31 false).setBit (aMbxStat c.fn) 30 true)

/-- Outstanding command `o` is call `c` of opcode `op`. -/
def isCall (c : Call) (op : Nat) (o : Outst) : Bool :=
  decide (o.op = op) && decide (o.call.fn = c.fn) && decide (o.call.via = c.via) && decide (o.call.tag = c.tag)

def setOutst (l : List Outst) (s : State) : State := { s with host := { s.host with outst := l } }

def refreshCall (c : Call) (s : State) : State :=
  match c.via with | .ring k => refreshPair c.fn k s | .mailbox => s

/-- Post the final reply: the command is outstanding no more (R595, R600). -/
def finish (c : Call) (op status : Nat) (res : List Byte) (s : State) : State :=
  let s := countDevice 0xC5 0 1 (setOutst (s.host.outst.eraseP (isCall c op)) s)
  refreshCall c (postReply c op status false res s)

/-- Post ACCEPTED; the command stays outstanding with what its end needs (R600). -/
def accept (o : Outst) (s : State) : State :=
  let s := setOutst ((s.host.outst.eraseP (isCall o.call o.op)) ++ [{ o with acc := true }]) s
  refreshCall o.call (postReply o.call o.op sAccepted true [] s)

/-- End outstanding command `o` with a status and RESULT. -/
def finishO (o : Outst) (status : Nat) (res : List Byte) (s : State) : State := finish o.call o.op status res s

/-- The outstanding command at index `i`, when it is of one of the opcodes and running. (log entry 4, DESIGN CHOICE) -/
def outstAt (s : State) (i : Nat) (ops : List Nat) : Option Outst :=
  match s.host.outst[i]? with
  | some o => if ops.contains o.op && o.acc then some o else none
  | none => none

/-- Replace an outstanding command's data. -/
def updOutst (o o' : Outst) (s : State) : State :=
  setOutst (s.host.outst.map (fun x => if x = o then o' else x)) s

/-- End every running command that passes a test with one status (R544, R635, R780). -/
def finishWhere (p : Outst → Bool) (status : Nat) (s : State) : State :=
  forL (s.host.outst.filter p) (fun o s => finishO o status [] s) s

/-! ### The tests of every descriptor -/

/-- Opcodes served in the safe state (Table 19-1). -/
def safeOps : List Nat := [0x00, 0x01, 0x02, 0x40, 0x41, 0x80, 0x68]

/-- Opcodes that DEV_CFG can withdraw (R688, Table 21-10): the bit that must be 1. -/
def cfgBit (op : Nat) : Option Nat :=
  if op = 0x86 ∨ op = 0x87 then some 31
  else if op = 0x4A ∨ op = 0x4B ∨ op = 0x4C ∨ op = 0x4D ∨ op = 0x47 ∨ op = 0x48 then some 30
  else if op = 0x03 then some 29
  else none

/-- The first failing entry of a list of checks, in order (R618). -/
def firstFail : List (Bool × Nat) → Option Nat
  | [] => none
  | (ok, st) :: r => if ok then firstFail r else some st

/-- Table 18-7, in order, for a descriptor of a defined opcode. -/
def descTests (o : OpInfo) (op : Nat) (c : Call) (s : State) : Option Nat :=
  firstFail
    [ (decide (c.fn = 0) || partPresent s (c.fn - 1), sAbsent),
      (!(o.pf0 && decide (c.fn ≠ 0)) && !(decide (0xF0 ≤ op) && !expertOf s c.fn), sPerm),
      (if c.part = 0xFF then !o.partRow else partPresent s c.part.toNat, sAbsent),
      (decide (c.fn = 0) || decide (c.part = 0xFF) || decide (c.part.toNat + 1 = c.fn), sPerm),
      (decide (c.flags.toNat < 8) && decide (c.rsv = 0) && paramZero o c, sParam) ]

/-- DEV_CFG withdraws the opcode (R688). -/
def cfgAllows (op : Nat) (s : State) : Bool := match cfgBit op with | some b => s.rbit aDevCfg b | none => true

/-- The tests common to every opcode: the safe state (R623), Table 18-7, PART of rows that name no partition (R617). -/
def commonTests (op : Nat) (c : Call) (s : State) : Option Nat :=
  match opInfo op with
  | none => some sOpcode
  | some o =>
    match (if inSafe s && !(safeOps.contains op) then some sFault else descTests o op c s) with
    | some e => some e
    | none =>
      firstFail [ (o.partRow || o.keyRow || decide (c.part = 0xFF), sParam) ]

/-! ### Running a command -/

/-- What a command's own checks and effect come to. -/
inductive CmdRes where
  /-- A failing check: no effect (R618). -/
  | fail (st : Nat) (res : List Byte) (s : State)
  /-- Final now. -/
  | done (st : Nat) (res : List Byte) (s : State)
  /-- LONG: ACCEPTED now, final later (R600). -/
  | long (o : Outst) (s : State)

/-- A failed check. -/
def CmdRes.no (st : Nat) (s : State) : CmdRes := .fail st [] s

/-- Partition whose score time a COMMAND marker carries (Table 12-15): that of the function. -/
def markSc (s : State) (f : Nat) : Nat := if f = 0 then allOnes48 else relSc s (f - 1)

/-- MARKER of FORM COMMAND when the descriptor asks for it (R598). -/
def mark (c : Call) (op : Nat) (s : State) : State :=
  if c.flags.getLsbD 2 then
    stagePkt clsMarker (0x858 + c.fn) 0 (markerBytes 1 (0x858 + c.fn) (markSc s c.fn) op c.layer.toNat c.oper.toNat c.job.toNat) s
  else s

/-- Run a command: the common tests, the row's caller test (R616), its checks and effect; replies as R600 says. A LONG
command that passes Table 18-7 posts ACCEPTED before its final reply. -/
def runCmd (op : Nat) (caller : Call → State → Bool) (body : Call → State → CmdRes) (c : Call) (s : State) : State :=
  match commonTests op c s with
  | some e => finish c op e [] s
  | none =>
    let isLong := match opInfo op with | some o => o.long | none => false
    let s := if isLong then accept { op := op, call := c } s else s
    if !cfgAllows op s || !caller c s then finish c op sPerm [] s
    else match body c s with
      | .fail st res s' => finish c op st res s'
      | .done st res s' => finish c op st res (mark c op s')
      | .long o s' =>
        let s' := setOutst (s'.host.outst.map (fun x => if isCall c op x then { o with op := op, call := c, acc := true } else x)) s'
        mark c op s'

/-! ### Caller classes (Table 19-3) -/

def callA (_ : Call) (_ : State) : Bool := true
def callP (c : Call) (_ : State) : Bool := decide (c.fn = 0)
def callT (c : Call) (s : State) : Bool :=
  let p := c.part.toNat
  if c.fn = 0 then decide (partState s p = 0) else decide (c.fn = p + 1) && held s p
def callV (c : Call) (s : State) : Bool := decide (c.fn = c.part.toNat + 1) && held s c.part.toNat
def callK (c : Call) (s : State) : Bool := if c.fn = 0 then decide (c.part = 0xFF) else callV c s

/-- Class M on half-stack `h`, region `r`: `r0` and `r15` say whether the row admits those regions through PF0. -/
def callM (r0 r15 : Bool) (c : Call) (s : State) (h r : Nat) : Bool :=
  if c.fn = 0 then
    (decide (r = 15) && r15) ||
    (decide (r = 0) && r0) ||
    (decide (1 ≤ r) && decide (r ≤ 14) && (!partPresent s h || decide (partState s h = 0)))
  else decide (h + 1 = c.fn) && held s h && decide (1 ≤ r) && decide (r ≤ 14)

/-- R355: who writes channel n. -/
def chanWriter (s : State) (f n : Nat) : Bool :=
  if n < 8 then decide (f = 0)
  else if held s (chanPart n) then decide (f = chanPart n + 1) else decide (f = 0)

/-- Class H: the holder of a port. -/
def callH (c : Call) (s : State) (n : Nat) : Bool :=
  let p := portPart s n
  if p < 8 then (if held s p then decide (c.fn = p + 1) else decide (c.fn = 0)) else decide (c.fn = 0)

/-- The outcome of a meaning that always answers a next state. -/
abbrev Out := Host.Outcome State Fault Refusal

end Sys2Proof.Machine
end

