-- ==== Sys2Proof/Machine/Faults.lean ====
section
/-! DEFINITION. Fault records (R760, R773, Tables 24-2 and 24-4), captured faults that wait for the halt edge, and
asynchronous records (R603). -/

namespace Sys2Proof.Machine

/-- Class of Table 24-2 by BLOCK and KIND of Table 12-24. The two that no row names are constants of Config.
(log entry 97, DESIGN CHOICE) -/
def faultClass (block kind : Nat) : Nat :=
  match block with
  | 1 => 1
  | 2 => Config.muAccessClass.toNat
  | 3 => 3
  | 4 => 5
  | 5 => if kind = 6 then 9 else if kind = 5 then Config.classLockClass.toNat else 6
  | 6 => 7
  | 7 => 8
  | 8 => 4
  | 9 => 2
  | _ => if kind ≤ 5 then kind + 9 else if kind = 8 then 16 else 15

/-- Reaction of Table 24-2: 1 domain halt, 2 device safe state, 3 record only. -/
def classReact (c : Nat) : Nat := if c ≤ 9 then 1 else if c ≤ 14 then 2 else 3

/-- A fault detected now in the domain of partition `d`. -/
def mkFault (s : State) (d block kind unit detail : Nat) : FaultInfo :=
  let c := faultClass block kind
  { block := block, kind := kind, unit := unit, cls := c, detail := detail, sc := relSc s d, toll := s.toll.now,
    react := classReact c }

/-- A domain fault waits for the edge on which it halts the domain (R126, R387). Nothing faults a HALTED domain. -/
def addFault (d : Nat) (f : FaultInfo) (s : State) : State :=
  if plnState s d = stHalted then s
  else
    let r := domRt s d
    setDomRt d { r with faults := r.faults ++ [f] } s

/-- Capture in a register pair of partition p, for events of one edge of its domain: VALID clear takes it; of several events of
the capturing edge the one with the least key stands, and MULTI is set (R121). Says whether this event is recorded. -/
def captureTie (p aA aB : Nat) (key : Word → Nat) (a b : Word) (s : State) : Bool × State :=
  let d := domLow s p
  if !s.rbit aA 31 then
    let s := capture aA aB a b s
    (true, setDomRt d { domRt s d with caught := aA :: (domRt s d).caught } s)
  else if (domRt s d).caught.contains aA && decide (key a < key (s.reg aA)) then
    (true, (s.setReg aA ((a &&& 0x3FFFFFFF#32) ||| 0xC0000000#32)).setReg aB b)
  else (false, capture aA aB a b s)

/-- Fault record (Table 24-4). (log entry 48, DESIGN CHOICE) -/
def recordBytes (seq : Nat) (f : FaultInfo) (wher sc ctx : Nat) (esc : Bool) : List Byte :=
  leBytes 4 seq ++ [bite f.block, bite f.kind, bite wher, bite f.cls] ++ leBytes 2 f.unit ++ leBytes 6 sc ++
    leBytes 8 f.toll.toNat ++ leBytes 4 f.detail ++ [bite f.react, bite (b2n esc + 2 * b2n f.injected), bite ctx, 0]

/-- The device buffer among the record buffers; 0 to 7 are the partitions'. -/
def devBuf : Nat := 8

/-- A new record in buffer b: 16 are held, the oldest is overwritten (R773). -/
def pushRecord (b : Nat) (l : List Byte) (s : State) : State :=
  let r := tabGet (fun _ => {}) s.safe.bufs b
  let all := r.recs ++ [l]
  let r' : FaultBuf := if all.length ≤ 16 then { r with recs := all } else { recs := all.drop 1, missed := min (r.missed + 1) 0xFFFF }
  { s with safe := { s.safe with bufs := tabSet (fun _ => {}) b r' s.safe.bufs } }

/-- The next SEQ (R773). -/
def nextSeq (s : State) : State := { s with safe := { s.safe with seq := (s.safe.seq + 1) % 2 ^ 32 } }

/-- SAF_ESC escalates class c (R761). (log entry 97, DESIGN CHOICE) -/
def escalates (s : State) (c : Nat) : Bool := decide (1 ≤ c) && decide (c ≤ 16) && (s.reg aSafEsc).getLsbD c

/-- WHERE of a FAULT packet (Table 12-24). -/
def faultWhere (s : State) (low unit : Nat) : Nat :=
  let cl := if unit < 0x800 then unitCluster unit
    else if unitOwner s unit < 8 then unitOwner s unit / 4 else low / 4
  low + 8 * cl

/-- One record in the buffer of each partition of a mask. -/
def recordParts (f : FaultInfo) (mask wher sc ctx : Nat) (s : State) : State :=
  let b := recordBytes s.safe.seq f wher sc ctx (escalates s f.cls)
  forL (maskBits 8 mask) (fun p s => pushRecord p b s) s

/-- A record in the device buffer. -/
def recordDev (f : FaultInfo) (s : State) : State :=
  pushRecord devBuf (recordBytes s.safe.seq f 0x80 allOnes48 0xFF (escalates s f.cls)) s

/-- Asynchronous record (Table 18-9) to pair 0 of one function (R595, R603). -/
def asyncTo (f status part kind inst sc : Nat) (s : State) : State :=
  let n := outCount s f 0
  if s.rbit (aRqCtl f 0) 31 && decide (2 * n + 1 ≤ cqFree s f 0) then
    let res := [bite kind, bite inst] ++ leBytes 6 sc
    postRing f 0 true (replyBytes s status 2 0xFFFF 0xFF part (s.rf (aSqHead f 0) 0 12) res) s
  else s.countSat (aRqStat f 0) 16 12 1

/-- The functions that take the events of a mask of partitions, each once (R587). -/
def partFns (s : State) (mask : Nat) : List Nat := ((maskBits 8 mask).map (partFn s)).eraseDups

/-- Log entry 97, DESIGN CHOICE. -/
def asyncParts (status kind inst sc mask : Nat) (s : State) : State :=
  forL (partFns s mask) (fun f s => asyncTo f status inst kind inst sc s) s

/-- FAULT packet of a domain fault. -/
def stageFault (f : FaultInfo) (mask wher : Nat) (s : State) : State :=
  stage (mkPkt s clsMandatory f.unit mask f.toll (faultBytes f.block f.kind wher f.unit f.sc f.detail)) s

/-- A fault of class 15 or 16 is recorded only, unless its SAF_ESC bit is set (R761): record, packet, vector 12. -/
def recordOnly (f : FaultInfo) (s : State) : State :=
  let s := recordDev f (nextSeq s)
  let s := stage (mkPkt s clsMandatory f.unit 0 f.toll (faultBytes f.block f.kind 0x80 f.unit allOnes48 f.detail)) s
  raise 0 12 s

end Sys2Proof.Machine
end

