-- ==== Sys2Proof/Machine/Taps.lean ====
section
/-! DEFINITION. Taps and their queues (R349, R350, R382), and the checker of each cluster (R378 to R402). -/

namespace Sys2Proof.Machine

def tapRt (s : State) (u : Nat) : TapRt := tabGet (fun _ => {}) s.obs.taps u
def setTapRt (u : Nat) (r : TapRt) (s : State) : State :=
  { s with obs := { s.obs with taps := tabSet (fun _ => {}) u r s.obs.taps } }
def clRt (s : State) (d c : Nat) : ClRt := tabGet (fun _ => {}) (domRt s d).chks c
def setClRt (d c : Nat) (r : ClRt) (s : State) : State :=
  let x := domRt s d
  setDomRt d { x with chks := tabSet (fun _ => {}) c r x.chks } s

/-- Cluster of a unit for the checker: non-array units of partition p belong to cluster p / 4. -/
def scoreCluster (s : State) (u : Nat) : Nat :=
  if u < 0x800 then unitCluster u else if unitOwner s u < 8 then unitOwner s u / 4 else 0

/-- A tap of a unit counts a discarded record in OBS_TAPL_p (R350). -/
def tapLost (u : Nat) (s : State) : State :=
  countUnit u 0x04 1 (if unitOwner s u < 8 then s.countSat (aTapL (unitOwner s u)) 0 32 1 else s)

/-- Remove the last element that passes a test. -/
def eraseLastP {α : Type} (p : α → Bool) (l : List α) : List α := (l.reverse.eraseP p).reverse

/-- An event enters its tap's queue (R350, R382): a scored record displaces the newest unscored one. -/
def tapEvent (u : Nat) (x : TapItem) (s : State) : State :=
  let r := tapRt s u
  if r.evs.length < 8 then setTapRt u { r with evs := r.evs ++ [x] } s
  else
    match x.ev with
    | none => tapLost u s
    | some (d, e) =>
      if r.evs.any (fun y => y.ev.isNone) then
        tapLost u (setTapRt u { r with evs := eraseLastP (fun y => y.ev.isNone) r.evs ++ [x] } s)
      else
        let c := scoreCluster s u
        let k := clRt s d c
        tapLost u (setClRt d c { k with lost := k.lost ++ [e] } s)

/-- A data record enters its tap's data queue of 2; one that finds it full is reported in the next LOSS packet of each
channel whose sources include the unit (R350). -/
def tapData (u : Nat) (k : Pkt) (s : State) : State :=
  let r := tapRt s u
  if r.dats.length < 2 then setTapRt u { r with dats := r.dats ++ [{ pkts := [k] }] } s
  else
    let s := tapLost u s
    forL ((List.range 24).filter (fun n => chanPresent s n && s.rbit (aChCtl n) 31 && inRange s n u &&
        (if k.owner < 8 then permitsPart s n k.owner k.tenant else decide (n < 8))))
      (fun n s => let c := chRt s n
        setChRt n { c with lossTap := c.lossTap + 1, lossCause := c.lossCause ||| 2 } s) s

/-- The EVENT packet of an event of unit u in the domain of its owner. -/
def eventPkt (s : State) (code u sc arg : Nat) : Pkt := mkPkt s clsEvent u 0 s.toll.now (eventBytes code u sc arg)

/-- Relative sc of the domain that owns a unit; all ones for an operator-owned unit. -/
def unitSc (s : State) (u : Nat) : Nat := if unitOwner s u < 8 then relSc s (unitOwner s u) else allOnes48

/-- An unscored event (Table 12-17). -/
def plainEvent (code u arg : Nat) (s : State) : State :=
  tapEvent u { pkts := [eventPkt s code u (unitSc s u) arg] } s

/-- An event of a scored class on domain d at relative sc `sc` (Table 11-2), its record behind the packets of the same
record that precede EVENT (R421). -/
def scoredEvent (d cls u arg sc : Nat) (pre : List Pkt) (s : State) : State :=
  tapEvent u { ev := some (d, { sc := sc, unit := u, cls := cls, arg := arg, toll := s.toll.now }),
               pkts := pre ++ [eventPkt s cls u sc arg] } s

/-! ### The score (Table 5-11, R173, R378) -/

def scoreOf (c : Ctx) (cl : Nat) : List ScoreRec := if cl = 0 then c.score0 else c.score1
def unitScored (c : Ctx) (cl u : Nat) : Bool := (scoreOf c cl).any (fun r => decide (r.unit = u))
/-- sc of occurrence k of a record. -/
def occSc (sc period k : Nat) : Nat := sc + k * period
/-- Occurrence of a record (first sc, REP_M1, PERIOD) that falls at score cycle s. -/
def occAt (sc rep period s : Nat) : Option Nat :=
  if s < sc then none
  else if rep = 0 then (if s = sc then some 0 else none)
  else if period ≠ 0 ∧ (s - sc) % period = 0 ∧ (s - sc) / period ≤ rep then some ((s - sc) / period) else none

def expectAt (c : Ctx) (cl s : Nat) : List Scored :=
  (scoreOf c cl).filterMap (fun r =>
    (occAt r.sc r.rep r.period s).map (fun _ => { sc := s, unit := r.unit, cls := r.cls, arg := r.arg }))

def waitedCls (c : Nat) : Bool := decide (c = 6) || decide (c = 8) || decide (c = 11)
def internalCls (c : Nat) : Bool :=
  decide (c = 1) || decide (c = 2) || decide (c = 3) || decide (c = 4) || decide (c = 5) || decide (c = 7)

/-- Order of the checker: unit, then class. -/
def scoredLe (a b : Scored) : Bool := decide (a.unit < b.unit) || (decide (a.unit = b.unit) && decide (a.cls ≤ b.cls))
/-- Stable insertion sort. -/
def insLe {α : Type} (le : α → α → Bool) (x : α) : List α → List α
  | [] => [x]
  | y :: r => if le y x then y :: insLe le x r else x :: y :: r
def sortLe {α : Type} (le : α → α → Bool) (l : List α) : List α := l.foldl (fun a x => insLe le x a) []

/-- Same event: unit, class and ARG. -/
def sameEv (a b : Scored) : Bool := decide (a.unit = b.unit) && decide (a.cls = b.cls) && decide (a.arg = b.arg)
def sameOcc (a b : Scored) : Bool := sameEv a b && decide (a.sc = b.sc)

/-- First expectation of o's unit, class and ARG in s+1 .. s+2^19 that the stream still holds. -/
def futureExp (c : Ctx) (cl s : Nat) (gone : List Scored) (o : Scored) : Option Scored :=
  let all := (scoreOf c cl).flatMap (fun r =>
    if r.unit = o.unit ∧ r.cls = o.cls ∧ r.arg = o.arg then
      ((List.range (r.rep + 1)).map (fun k => ({ o with sc := occSc r.sc r.period k } : Scored))).filter
        (fun q => decide (s < q.sc) && decide (q.sc ≤ s + 2 ^ 19) && !gone.any (sameOcc q))
    else [])
  (sortLe (fun a b => decide (a.sc ≤ b.sc)) all).head?

/-! ### Flams (R386, Table 11-3) -/

structure FlamInfo where
  kind : Nat := 0
  cls : Nat := 0xFF
  unit : Nat := 0
  expArg : Nat := 0xFFFF
  obsArg : Nat := 0xFFFF
  expSc : Nat := 2 ^ 48 - 1
  obsSc : Nat := 2 ^ 48 - 1
  late : Nat := 0xFFFFFFFF
  queue : Nat := 0xFF
  toll : DWord := 0
  deriving DecidableEq, Repr

/-- Write a flam of domain d from cluster c and count it (R392, Table 11-5). -/
def emitFlam (d c : Nat) (f : FlamInfo) (s : State) : State :=
  let s := stage (mkPkt s clsFlam f.unit 0 f.toll
    (flamBytes f.kind d c f.cls f.unit f.expArg f.obsArg f.expSc f.obsSc f.late f.queue)) s
  let s := s.countSat (aScfCnt d) 0 32 1
  let s := countCluster c 0x83 (if unitOwner s f.unit < 8 then unitOwner s f.unit else d) 1 (countUnit f.unit 0x03 1 s)
  let k := clRt s d c
  setClRt d c { k with flams := min (k.flams + 1) 0xFFFFFFFF } s

/-- SCF capture (R396): a SCORE or CHECKER fault of domain d. -/
def scfCapture (d c : Nat) (checker : Bool) (kind cls unit sc : Nat) (s : State) : State :=
  capture (aScfFltA d) (aScfFltB d)
    (BitVec.ofNat 32 (b2n checker * 2 ^ 29 + c * 2 ^ 28 + kind * 2 ^ 24 + cls * 2 ^ 16 + unit)) (BitVec.ofNat 32 sc) s

/-- R387: flams that fault the domain. -/
def flamFaults (f : FlamInfo) : Bool :=
  decide (f.kind = 8) || (decide (1 ≤ f.kind) && decide (f.kind ≤ 3) && internalCls f.cls)

/-- Relative sc that a flam's fault names: the observed one, or the expected one of a MISSING. -/
def flamSc (f : FlamInfo) : Nat := if f.kind = 1 then f.expSc else f.obsSc

def flamAndFault (d c : Nat) (f : FlamInfo) (s : State) : State :=
  let s := emitFlam d c f s
  if flamFaults f then
    let s := scfCapture d c false f.kind f.cls f.unit (flamSc f) s
    addFault d (mkFault s d 8 f.kind f.unit 0) s
  else s

def missing (q : Scored) : FlamInfo :=
  { kind := 1, cls := q.cls, unit := q.unit, expArg := q.arg, expSc := q.sc, toll := q.toll }

/-- TAP_LOSS of a lost record (R383). -/
def tapLossFlam (e : Scored) : FlamInfo :=
  { kind := 8, cls := e.cls, unit := e.unit, obsArg := e.arg, obsSc := e.sc, toll := e.toll }

/-! ### Closing a score cycle -/

/-- What the comparison of one score cycle works on. -/
structure CmpSt where
  exp : List Scored := []
  opened : List Scored := []
  gone : List Scored := []
  flams : List FlamInfo := []
  deriving DecidableEq, Repr

/-- One unmatched observation (the procedure of chapter 11). -/
def cmpObs (c : Ctx) (cl s : Nat) (x : CmpSt) (o : Scored) : CmpSt :=
  match x.exp.find? (fun e => decide (e.unit = o.unit) && decide (e.cls = o.cls)) with
  | some e =>
    { x with exp := x.exp.erase e,
             flams := x.flams ++ [{ kind := 3, cls := o.cls, unit := o.unit, expArg := e.arg, obsArg := o.arg, expSc := e.sc,
                                    obsSc := o.sc, toll := o.toll }] }
  | none =>
    let moved (q : Scored) : FlamInfo :=
      { kind := 4, cls := o.cls, unit := o.unit, expArg := q.arg, obsArg := o.arg, expSc := q.sc, obsSc := o.sc, toll := o.toll }
    if waitedCls o.cls then
      match x.opened.find? (sameEv o) with
      | some q => { x with opened := x.opened.erase q, flams := x.flams ++ [moved q] }
      | none =>
        match futureExp c cl s x.gone o with
        | some q => { x with gone := x.gone ++ [q], flams := x.flams ++ [moved q] }
        | none => { x with flams := x.flams ++ [{ kind := 2, cls := o.cls, unit := o.unit, obsArg := o.arg, obsSc := o.sc, toll := o.toll }] }
    else { x with flams := x.flams ++ [{ kind := 2, cls := o.cls, unit := o.unit, obsArg := o.arg, obsSc := o.sc, toll := o.toll }] }

/-- Remove from both lists the pairs that match. -/
def cancelPairs : List Scored → List Scored → List Scored × List Scored
  | exp, [] => (exp, [])
  | exp, o :: r =>
    match exp.find? (sameEv o) with
    | some e => cancelPairs (exp.erase e) r
    | none => let t := cancelPairs exp r; (t.1, o :: t.2)

def flamLe (a b : FlamInfo) : Bool := decide (a.unit < b.unit) || (decide (a.unit = b.unit) && decide (a.cls ≤ b.cls))

/-- Digest record (Table 11-4). -/
def digestRec (o : Scored) : List Byte := leBytes 6 o.sc ++ leBytes 2 o.unit ++ [bite o.cls, 0] ++ leBytes 2 o.arg
/-- Digest preamble (Table 11-4). -/
def preamble (img : Nat) (c : Ctx) (cl index : Nat) : List Byte :=
  leBytes 8 img ++ [bite c.index, bite cl, bite c.chk] ++ leBytes 5 index

/-- The Toll value of the edge on which the domain reached relative sc k, as far as it is still held.
(log entry 102, DESIGN CHOICE) -/
def edgeToll (s : State) (d k : Nat) : DWord :=
  match (domRt s d).edges.find? (fun e => decide (e.1 = k)) with | some e => e.2 | none => s.toll.now

/-- Emit the checkpoint of the interval that holds score cycle k, stamped with the edge of score cycle tk, and start the next (R391, R392, R395). -/
def emitCheckpoint (d cl k tk : Nat) (r : Resident) (final halted : Bool) (s : State) : State :=
  let x := clRt s d cl
  let index := k / 2 ^ r.ctx.chk
  let self := crc64 0 (preamble r.imageId r.ctx cl index ++
    (x.exps.filter (fun e => !x.opened.any (sameOcc e) && !x.gone.any (sameOcc e))).flatMap digestRec)
  let bad := !halted && decide (x.flams = 0) && decide (self ≠ x.crc)
  let s := if bad then
      let s := scfCapture d cl true 15 0 0 k s
      addFault d (mkFault s d 8 15 0x876 0) s
    else s
  let mask := maskOf ((maskBits 8 (domMask s d)).filter (fun p => decide (p / 4 = cl)))
  let p := mkPkt s clsCheckpoint (partUnit d) mask (edgeToll s d tk)
    (ckptBytes (b2n final + 2 * b2n halted + 4 * b2n bad) d cl index x.crc x.recs x.flams)
  let s := stage p s
  setClRt d cl { clRt s d cl with crc := crc64 0 (preamble r.imageId r.ctx cl (index + 1)), exps := [], recs := 0, flams := 0 } s

/-- Close the next score cycle of a domain in one cluster (R383, R384); at the last sc of an interval or of the run, the
checkpoint. Open waited expectations turn MISSING at the end of the run (R398). -/
def closeOne (d cl : Nat) (r : Resident) (s : State) : State :=
  let x := clRt s d cl
  let k := x.next
  let c := r.ctx
  let exp := (sortLe scoredLe (expectAt c cl k)).filter (fun e => !x.gone.any (sameOcc e))
  let exp := exp.map (fun e => { e with toll := edgeToll s d k })
  let obs := sortLe scoredLe (x.obs.filter (fun o => decide (o.sc = k) && unitScored c cl o.unit))
  let m := cancelPairs exp obs
  let y := m.2.foldl (cmpObs c cl k) { exp := m.1, opened := x.opened, gone := x.gone }
  let late := y.opened.filter (fun q => decide (q.sc + 2 ^ 19 ≤ k))
  let lost := x.lost.filter (fun o => decide (o.sc ≤ k) && unitScored c cl o.unit)
  let last := decide (k + 1 = c.len)
  let opened := y.opened.filter (fun q => !decide (q.sc + 2 ^ 19 ≤ k)) ++ y.exp.filter (fun e => waitedCls e.cls)
  let flams := sortLe flamLe (y.flams ++ (y.exp.filter (fun e => !waitedCls e.cls)).map missing ++ late.map missing ++
    lost.map tapLossFlam) ++ (if last then (sortLe scoredLe opened).map missing else [])
  let s := setClRt d cl { x with
      next := k + 1, obs := x.obs.filter (fun o => !decide (o.sc = k)), lost := x.lost.filter (fun o => !decide (o.sc ≤ k)),
      opened := if last then [] else opened, gone := y.gone, crc := crc64 x.crc (obs.flatMap digestRec),
      exps := x.exps ++ exp, recs := min (x.recs + obs.length) 0xFFFFFFFF } s
  let s := forL flams (fun f s => flamAndFault d cl f s) s
  if last || decide ((k + 1) % 2 ^ c.chk = 0) then
    emitCheckpoint d cl k k r last (last && (domRt s d).faults.any (fun f => decide (f.block = 8))) s
  else s

/-- Close every score cycle below `upto`. -/
def closeUpto (d cl : Nat) (r : Resident) (upto : Nat) (s : State) : State :=
  forN (upto - (clRt s d cl).next) (fun _ s => closeOne d cl r s) s

/-- The clusters in which a domain has partitions. -/
def domClusters (mask : Nat) : List Nat := (if mask % 16 = 0 then [] else [0]) ++ (if mask / 16 = 0 then [] else [1])

/-- A tapped record reaches its concentrator: the checker takes a scored one, unless its sc is closed (R383), and the
packet enters the staging queue (R349, R352). -/
def forward (x : TapItem) (s : State) : State :=
  let s := forL (x.pkts.take 1) (fun p s => countCluster (pktCluster p) 0x80 p.owner 1 s) s
  let s := match x.ev with
    | none => s
    | some (d, e) =>
      let c := scoreCluster s e.unit
      let k := clRt s d c
      match runCtx s d with
      | none => s
      | some r =>
        if !unitScored r.ctx c e.unit then s
        else if e.sc < k.next then flamAndFault d c (tapLossFlam e) s
        else setClRt d c { k with obs := k.obs ++ [e] } s
  forL x.pkts (fun p s => stage p s) s

/-- Order of a tap's record within its slip domain: sc, then unit, then events before data (R353, R421). -/
def itemKey (u : Nat) (data : Bool) (x : TapItem) : Nat :=
  (match x.pkts with | p :: _ => recSc p | [] => 0) * 2 ^ 13 + u * 2 + b2n data
/-- Every record of a tap, by its key. -/
def tapItems (t : Nat × TapRt) : List (Nat × TapItem) :=
  t.2.evs.map (fun x => (itemKey t.1 false x, x)) ++ t.2.dats.map (fun x => (itemKey t.1 true x, x))

/-- The records of a domain's taps all reach the concentrator, in the order of R353. -/
def flushTaps (mask : Nat) (s : State) : State :=
  let ts := s.obs.taps.filter (fun t => decide (unitOwner s t.1 < 8) && mask.testBit (unitOwner s t.1))
  let s := forL ts (fun t s => setTapRt t.1 {} s) s
  forL (sortLe (fun a b => decide (a.1 ≤ b.1)) (ts.flatMap tapItems)) (fun x s => forward x.2 s) s

/-- The record may leave its tap. Those of a slip domain's array units leave in the order of R353, none on its own edge.
(log entry 118, DESIGN CHOICE) -/
def tapFirst (s : State) (u : Nat) (data : Bool) (x : TapItem) : Bool :=
  decide (0x800 ≤ u) ||
  (x.pkts.all (fun p => decide (p.stamp ≠ s.toll.now)) &&
   s.obs.taps.all (fun t => decide (0x800 ≤ t.1) || decide (domLow s (unitOwner s t.1) ≠ domLow s (unitOwner s u)) ||
     (tapItems t).all (fun y => decide (itemKey u data x ≤ y.1))))

/-- A halt or a stop closes every score cycle up to the last edge before it, then writes the checkpoint with HALTED
(R397); no MISSING for what lies beyond. `upto` is the first relative sc not reached. -/
def closeHalted (d : Nat) (r : Resident) (upto : Nat) (s : State) : State :=
  let s := flushTaps (domMask s d) s
  let cls := domClusters (domMask s d)
  let s := forL cls (fun c s => closeUpto d c r upto s) s
  forL cls (fun c s => emitCheckpoint d c upto (upto - 1) r false true s) s

/-- The run has ended: close all of it (R398). -/
def closeRun (d : Nat) (r : Resident) (s : State) : State :=
  let s := flushTaps (domMask s d) s
  forL (domClusters (domMask s d)) (fun c s => closeUpto d c r r.ctx.len s) s

/-- The checker follows a new context, or none (R402). -/
def startChecker (d : Nat) (r : Option Resident) (s : State) : State :=
  let x := domRt s d
  let mk (c : Nat) : ClRt := match r with
    | some r => { crc := crc64 0 (preamble r.imageId r.ctx c 0) }
    | none => {}
  let chks := (domClusters (domMask s d)).foldl (fun t c => tabSet (fun _ => {}) c (mk c) t) ([] : Tab ClRt)
  setDomRt d { x with chks := chks, edges := [] } s

/-- TAP_RECORD: the oldest record of a tap's queue reaches the concentrator (R349). -/
def execTapRecord (unit : Nat) (data : Bool) (s : State) : Out :=
  if !decide (unit < 0x1000) then .fault (.noSuchInstance "unit" unit)
  else
    let t := tapRt s unit
    match if data then t.dats else t.evs with
    | [] => .next s
    | x :: r => .next (if !tapFirst s unit data x then s else forward x (setTapRt unit (if data then { t with dats := r } else { t with evs := r }) s))

/-- SCORE_CLOSE: the checker of a cluster closes the next score cycle the domain has reached (R383). -/
def execScoreClose (d cluster : Nat) (s : State) : Out :=
  if !decide (d < 8) then .fault (.noSuchInstance "partition" d)
  else if !decide (cluster < 2) then .fault (.noSuchInstance "cluster" cluster)
  else
    let l := domLow s d
    match runCtx s l with
    | none => .next s
    | some r =>
      if (domClusters (domMask s l)).contains cluster && decide ((clRt s l cluster).next ≤ relSc s l)
          && decide ((clRt s l cluster).next < r.ctx.len) then
        .next (closeOne l cluster r s)
      else .next s

end Sys2Proof.Machine
end

