-- ==== Sys2Proof/Machine/Halt.lean ====
section
/-! DEFINITION. How a slip domain stops: slip records (R31 to R36, R48, R826), the halt on a fault (R419, R762, R773), the
stop without a fault (R529, R636, R826), and the device safe state (R763, R778 to R780). -/

namespace Sys2Proof.Machine

/-! ### Slips -/

/-- SLIP packet of an open slip (Table 12-11). -/
def stageSlip (d : Nat) (sl : SlipRt) (faulted : Bool) (s : State) : State :=
  stage (mkPkt s clsMandatory (partUnit d) (domMask s d) sl.toll (slipBytes sl.mask d faulted sl.sc sl.fc sl.len)) s

/-- The open slip ends with its one record (R34). A slip without a slipping edge leaves none.
(log entry 103, DEDUCED) -/
def endSlip (d : Nat) (faulted : Bool) (s : State) : State :=
  let r := domRt s d
  match r.slip with
  | none => s
  | some sl =>
    let s := setDomRt d { r with slip := none } s
    if sl.len = 0 then s else stageSlip d sl faulted s

/-- Set a field of a register of every partition of a mask. -/
def putParts (a : Nat → Nat) (lo w v mask : Nat) (s : State) : State := forL (maskBits 8 mask) (fun p s => s.put (a p) lo w v) s

/-- STATE, CTX_ID and PEND_ID of a domain stand in PLN_STAT of each of its partitions. (log entry 48, DESIGN CHOICE) -/
def setPln (d st ctx pend : Nat) (s : State) : State :=
  let m := domMask s d
  putParts aPlnStat 8 8 pend m (putParts aPlnStat 24 8 ctx m (putParts aPlnStat 16 4 st m s))

/-- WAITERS of every bell of a mask (Table 6-4) counts its pending waits. -/
def refreshWaiters (d : Nat) (s : State) : State :=
  let ws := (domRt s d).waits
  forL (maskBits 8 (domMask s d)) (fun p s =>
    forN 32 (fun i s => s.put (aBelStat (32 * p + i)) 24 4 (ws.filter (fun w => decide (w.bell = 32 * p + i))).length) s) s

/-- What a stop leaves of a domain's run: no waits, no switch, no pending start, no open queue test. -/
def clearRun (d : Nat) (s : State) : State :=
  let r := domRt s d
  let s := setDomRt d { r with slip := none, late := [], sw := none, chg := none, pend := none, waits := [], ended := [],
                               faults := [], chks := [], edges := [], advs := [], done := [], txPend := [], prs := [], rels := [], causes := 0,
                               marked := [], winT := [], caught := [] } s
  refreshWaiters d (forL (maskBits 8 (domMask s d)) (fun p s => s.setBit (aPlnSwitch p) 31 false) s)

/-- The strikes that stand in the strike queues of a mask stay there as entries of the run (R232, R716).
(log entry 113, DEDUCED) -/
def holdStrikes (mask : Nat) (s : State) : State :=
  forL (maskBits 8 mask) (fun p s =>
    let x := queueRt s (32 * p + 26)
    setQueueRt (32 * p + 26) { x with entries := x.entries.map (fun e => { e with held := true }) } s) s

/-- The relative sc of the first score cycle not performed: the current one. -/
def nextSc (s : State) (d : Nat) : Nat := (scOf s d - (domRt s d).base).toNat

/-- End the commands that wait on a domain's run: the one that began the switch, and those that wait for it (R834). The
opcodes are PLAN_START 0x22, PLAN_SWITCH 0x23 and PLAN_STOP 0x25; `a` of the entry is the domain. -/
def endWaiters (d : Nat) (began waiting : Nat) (s : State) : State :=
  let hit (o : Outst) : Bool := o.acc && decide (o.a = d) && (decide (o.op = 0x22) || decide (o.op = 0x23) || decide (o.op = 0x25))
  let s := finishWhere (fun o => hit o && decide (o.b = 1)) began s
  finishWhere (fun o => hit o && decide (o.b ≠ 1)) waiting s

/-- Ascending BLOCK, in order of capture within one block. -/
def byBlock (l : List FaultInfo) : List FaultInfo := sortLe (fun a b => decide (a.block ≤ b.block)) l

/-- One record of a domain fault and its FAULT packet. A device fault also stands in the device buffer (R773, R779).
(log entry 103, DEDUCED) -/
def reportFault (d ctx : Nat) (f : FaultInfo) (s : State) : State :=
  let m := domMask s d
  let w := faultWhere s d f.unit
  let s := nextSeq s
  let s := recordParts f m w f.sc ctx s
  stageFault f m w s

/-- What follows once the checker of a halting domain has closed: the open slip ends with FAULTED, the FAULT packets and
records of every captured fault follow, and the recipients hear of it. `ctx` and `sc` are the context and the relative sc
of the halt; `dev` is the device fault that halts it, if one does: its record takes no further SEQ (R773).
(log entry 103, DEDUCED) -/
def haltCore (d ctx sc : Nat) (dev : Option FaultInfo) (s : State) : State :=
  let fs := byBlock (domRt s d).faults
  let s := endSlip d true s
  let s := forL fs (fun f s => reportFault d ctx f s) s
  let s := match dev with
    | none => s
    | some f =>
      let w := faultWhere s d f.unit
      let f := { f with sc := sc }
      let s := recordParts f (domMask s d) w sc ctx s
      stageFault f (domMask s d) w s
  let s := endWaiters d sFault sState s
  let s := holdStrikes (domMask s d) (clearRun d s)
  let s := setPln d stHalted 0xFF 0xFF s
  let s := putParts aPlnStat 20 4 0 (domMask s d) s
  let s := setDomRt d { domRt s d with lastCtx := ctx, lastStop := sc } s
  let s := asyncParts sFault 3 d sc (domMask s d) s
  forL (maskBits 8 (domMask s d)) (fun p s => raisePart 9 7 40 p s) s

/-- The first half of a halt: the context and the relative sc of the halt, and the state with the checker closed up to the
last edge. (log entry 48, DESIGN CHOICE) -/
def haltClose (d : Nat) (s : State) : Nat × Nat × State :=
  -- a fault during a switch names the incoming context (R191)
  let ctx := match (domRt s d).sw, (domRt s d).chg with
    | some w, _ => w.ctx
    | none, some w => w.ctx
    | none, none => s.rf (aPlnStat d) 24 8
  (ctx, relSc s d, match runCtx s d with | some r => closeHalted d r (nextSc s d) s | none => flushTaps (domMask s d) s)

/-- A slip domain halts (R419, R762): the checker closes, then all of haltCore. -/
def haltDomain (d : Nat) (dev : Option FaultInfo) (s : State) : State :=
  let x := haltClose d s
  haltCore d x.1 x.2.1 dev x.2.2

/-- Stop a domain without a fault: the checker closes with HALTED, an open slip ends unfaulted (R826, R529). STATE is the
caller's to set. -/
def closeStopped (d : Nat) (s : State) : State :=
  let s := match runCtx s d with | some r => closeHalted d r (nextSc s d) s | none => flushTaps (domMask s d) s
  endSlip d false s

/-- The slip domains that run or switch, by their lowest partition. -/
def activeDoms (s : State) : List Nat :=
  (List.range 8).filter (fun p => partPresent s p && decide (domLow s p = p) && (decide (plnState s p = stRun) || decide (plnState s p = stSwitch)))

/-! ### The device safe state -/

/-- Opcodes of LONG commands that the safe state leaves running: those of Table 19-1. -/
def safeKeeps (o : Outst) : Bool := safeOps.contains o.op

/-- Step 3 of Table 24-3: rekey sweeps stop with ABORTED, Roll jobs with STOPPED (Table 15-6). -/
def safeMemory (s : State) : State :=
  let s := forN 8 (fun h s => if s.rbit (aRkCtl h) 30 then ((s.setBit (aRkCtl h) 30 false).setBit (aRkCtl h) 29 true) else s) s
  forN 4 (fun r s => if s.rbit (aRol r 0x10) 30 then ((s.setBit (aRol r 0x10) 30 false).setBit (aRol r 0x10) 10 true) else s) s

/-- A start that waits is dropped; PEND_ID names a resume target again, if there is one. Its command ends with those of R780. -/
def dropStart (p : Nat) (s : State) : State :=
  let r := domRt s p
  if r.pend.isNone then s
  else putParts aPlnStat 8 8 (match r.resume with | some x => x.ctx | none => 0xFF) (domMask s p) (setDomRt p { r with pend := none } s)

/-- Safe-state entry, all steps of Table 24-3 in order; their bounds are left out (log entry 8). A fault in the safe
state is recorded, joins SAF_CAUSE and raises vector 12 without a second entry (R778). (log entry 8, DESIGN CHOICE) -/
def safeEntry (f : FaultInfo) (s : State) : State :=
  let s := nextSeq s
  let was := inSafe s
  let s := s.setBit aSafCause f.cls true
  if was then raise 0 12 (recordDev f s)
  else
    let ds := activeDoms s
    let s := forL ds (fun d s => haltDomain d (some f) s) s
    let s := recordDev f (forN 8 (fun p s => dropStart p s) s)
    -- a fault that halts no domain has a packet of its own (Table 12-24)
    let s := if ds.isEmpty && decide (f.block = 10) then
        stage (mkPkt s clsMandatory f.unit 0 f.toll (faultBytes f.block f.kind 0x80 f.unit allOnes48 f.detail)) s else s
    let s := forN 4 (fun i s => s.emit (.pin "CLAP_OUT" i false)) s
    let s := setClap { s.clap with pulse := [] } (s.put aClpOut 0 4 0)
    let s := safeMemory s
    let s := finishWhere (fun o => o.acc && !safeKeeps o && decide (o.op ≠ 0x11)) sFault s
    let s := (s.setBit aSafStat 31 true).setBit aSafStat 30 true
    let s := (s.setBit aDevStatus 30 true).emit (.pin "GONG_N" 0 false)
    raise 0 12 s

/-- A device fault is detected: record only for classes 15 and 16 unless escalated, else the safe state (R761). -/
def deviceFault (kind unit detail : Nat) (injected : Bool) (s : State) : State :=
  let c := faultClass 10 kind
  let f : FaultInfo := { block := 10, kind := kind, unit := unit, cls := c, detail := detail, injected := injected,
                         sc := allOnes48, toll := s.toll.now, react := if c ≤ 14 || escalates s c then 2 else 3 }
  if c ≤ 14 || escalates s c then safeEntry f s else recordOnly f s

/-- The halt of a domain on its captured faults, then the escalation of each whose class escalates (R761): the first enters
the safe state, the others join its cause. -/
def haltOnFaults (d : Nat) (s : State) : State :=
  match (domRt s d).faults with
  | [] => s
  | _ :: _ =>
    let x := haltClose d s
    let esc := (byBlock (domRt x.2.2 d).faults).filter (fun f => escalates s f.cls)
    forL esc (fun f s => safeEntry { f with react := 2, sc := allOnes48 } s) (haltCore d x.1 x.2.1 none x.2.2)

end Sys2Proof.Machine
end

