-- ==== Sys2Proof/Machine/Bells.lean ====
section
/-! DEFINITION. Bells (chapter 6): strikes, planned waits, their ends and timeouts. -/

namespace Sys2Proof.Machine

def bellPart (b : Nat) : Nat := b / 32
def bellCount (s : State) (b : Nat) : Nat := (s.reg (aBelCnt b)).toNat
def bellTarget (s : State) (b : Nat) : Nat := (s.reg (aBelTgt b)).toNat
/-- REACHED of Table 6-2. -/
def reached (s : State) (b : Nat) : Bool := decide (bellTarget s b ≤ bellCount s b)
/-- WAIT_TO in sc; 0 selects 2^17 (R208). -/
def bellTimeout (s : State) (b : Nat) : Nat := if s.rf (aBelCfg b) 0 20 = 0 then 2 ^ 17 else s.rf (aBelCfg b) 0 20
/-- Pending planned waits of a bell. -/
def waitersOf (s : State) (b : Nat) : Nat := ((domRt s (domLow s (bellPart b))).waits.filter (fun w => decide (w.bell = b))).length
/-- State of a bell (R197, Table 6-2): 0 OPEN, 1 WAITING, 2 REACHED. -/
def bellState (s : State) (b : Nat) : Nat := if reached s b then 2 else if waitersOf s b = 0 then 0 else 1

def refreshBell (b : Nat) (s : State) : State := s.put (aBelStat b) 24 4 (waitersOf s b)

/-- A bell fault of the domain, captured for the bell's own partition (R213): KIND 1 TIMEOUT, 2 OVERFLOW, 3 WAITERS. -/
def bellFault (kind b unit : Nat) (s : State) : State :=
  let p := bellPart b
  let d := domLow s p
  let s := (captureTie p (aBelFltA p) (aBelFltB p) (fun w => fld w 20 8 * 2 ^ 12 + fld w 0 12)
    (BitVec.ofNat 32 (kind * 2 ^ 28 + b * 2 ^ 20 + unit)) (BitVec.ofNat 32 (scOf s p).toNat) s).2
  addFault d (mkFault s d 4 kind unit b) s

/-- A strike takes effect (R198, R199, R203). -/
def applyStrike (b unit : Nat) (peer : Option Nat) (s : State) : State :=
  let was := reached s b
  let n := bellCount s b
  let s := (s.put (aBelStat b) 0 12 unit).setBit (aBelStat b) 12 peer.isSome
  if n = 0xFFFFFFFF then
    let s := s.setBit (aBelStat b) 29 true
    if ctxRuns s (domLow s (bellPart b)) then bellFault 2 b unit s else s
  else
    let s := s.setReg (aBelCnt b) (BitVec.ofNat 32 (n + 1))
    if !was && reached s b then
      let s := s.setBit (aBelStat b) 31 true
      if s.rbit (aBelStat b) 30 then raisePart 5 3 16 (bellPart b) s else s
    else s

/-- The strike released on this edge for a bell, if any: its unit and peer (R206). -/
def releaser (s : State) (b : Nat) : Option (Nat × Option Nat) :=
  (domRt s (domLow s (bellPart b))).prs.findSome? (fun x => match x.2.data with
    | .strike b' u peer => if b' = b then some (u, peer) else none
    | _ => none)

/-- A wait ends on this edge (R204, R210): its events, and ADV noted for the end of the edge (R205). -/
def endWait (d : Nat) (w : WaitRt) (s : State) : State :=
  let r := domRt s d
  let e := relSc s d
  let len := (scOf s d - w.begSc).toNat
  let fcs := (fcOf s d - w.begFc).toNat
  let rel := (releaser s w.bell).getD (s.rf (aBelStat w.bell) 0 12, none)
  let bp := mkPkt s clsBell w.unit 0 s.toll.now (bellBytes true w.bell w.unit e len fcs rel.1 rel.2)
  let s := setDomRt d { r with waits := r.waits.erase w, ended := r.ended ++ [w], advs := r.advs ++ [(w.bell, w.adv, w.unit)] } s
  refreshBell w.bell (scoredEvent d 0x0B w.unit w.bell e [bp] s)

/-- Compare COUNT with TARGET for every pending wait of the domain (R205). -/
def evalWaits (d : Nat) (s : State) : State :=
  forL (domRt s d).waits (fun w s => if reached s w.bell then endWait d w s else s) s

/-- A planned wait begins (R204, R209). A wait on a REACHED bell has zero length and ends at once. -/
def beginWait (d bell unit kind ri occ adv : Nat) (s : State) : State :=
  let r := domRt s d
  let w : WaitRt := { bell := bell, unit := unit, sc := relSc s d, begSc := scOf s d, begFc := fcOf s d, adv := adv,
                      kind := kind, ri := ri, occ := occ }
  if reached s bell then setDomRt d { r with ended := r.ended ++ [w], advs := r.advs ++ [(bell, adv, unit)] } s
  else if 8 ≤ waitersOf s bell then bellFault 3 bell unit s
  else
    let s := setDomRt d { r with waits := r.waits ++ [w] } s
    let s := refreshBell bell s
    let bp := mkPkt s clsBell unit 0 s.toll.now
      (bellBytes false bell unit (relSc s d) (bellCount s bell) (bellTarget s bell) 0 none)
    scoredEvent d 0x0A unit bell (relSc s d) [bp] s

/-- ADV of the waits that ended on this edge enters TARGET last (R205, R220). -/
def applyAdvs (d : Nat) (s : State) : State :=
  let r := domRt s d
  let s := setDomRt d { r with advs := [] } s
  forL r.advs (fun x s =>
    let t := bellTarget s x.1 + x.2.1
    if t < 2 ^ 32 then s.setReg (aBelTgt x.1) (BitVec.ofNat 32 t)
    else
      let s := (s.setReg (aBelTgt x.1) (BitVec.ofNat 32 (2 ^ 32 - 1))).setBit (aBelStat x.1) 29 true
      if ctxRuns s d then bellFault 2 x.1 x.2.2 s else s) s

/-- The wait has lasted WAIT_TO and has not ended (R208). -/
def timedOut (s : State) (d : Nat) (w : WaitRt) : Bool := decide (bellTimeout s w.bell ≤ (scOf s d - w.begSc).toNat)

/-- Time-outs of the edge, after its strikes (R208, R215). -/
def timeoutWaits (d : Nat) (s : State) : State :=
  forL (domRt s d).waits (fun w s => if timedOut s d w && !reached s w.bell then bellFault 1 w.bell w.unit s else s) s

/-- A bell record of the incoming context, or none (R176, R217): the flags and IRQ_EN keep their values. -/
def loadBell (b : Nat) (x : Option BellRec) (s : State) : State :=
  let x := x.getD {}
  ((s.setReg (aBelCnt b) (BitVec.ofNat 32 x.count)).setReg (aBelTgt b) (BitVec.ofNat 32 x.target)).setReg (aBelCfg b) (BitVec.ofNat 32 x.waitTo)

def loadBells (mask : Nat) (rs : List BellRec) (s : State) : State :=
  forL (maskBits 8 mask) (fun p s => forN 32 (fun i s => loadBell (32 * p + i) (rs.find? (fun r => decide (r.bell = 32 * p + i))) s) s) s

/-- Bells at reset (R218). -/
def resetBells (p : Nat) (s : State) : State :=
  let s := forN 32 (fun i s =>
    ((s.clearReg (aBelCnt (32 * p + i))).clearReg (aBelTgt (32 * p + i))).clearReg (aBelCfg (32 * p + i)) |>.clearReg (aBelStat (32 * p + i))) s
  setQueueRt (32 * p + 26) {} s

end Sys2Proof.Machine
end

