-- ==== Sys2Proof/Machine/Queues.lean ====
section
/-! DEFINITION. Planned-release queues (R225 to R232): arrivals, the test of a release, plan boundaries. -/

namespace Sys2Proof.Machine

def queuePart (q : Nat) : Nat := q / 32
def queueIdx (q : Nat) : Nat := q % 32
/-- Depth (Table 7-4). -/
def queueDepth (q : Nat) : Nat :=
  let i := queueIdx q
  if i < 24 then 64 else if i = 24 then 32 else if i = 25 then 8 else if i = 26 then 32 else 0
/-- Slip cause (Table 7-4), as a bit of Table 1-2. -/
def queueCause (q : Nat) : Nat := if 8 ≤ queueIdx q ∧ queueIdx q < 24 then 2 else 1

/-- A queue exists (R225): the link queue of port n is that of the partition the port is assigned to. -/
def queuePresent (s : State) (q : Nat) : Bool :=
  decide (q < 256) && decide (queueIdx q < 27) && partPresent s (queuePart q) &&
  (if 8 ≤ queueIdx q ∧ queueIdx q < 24 then portPresent s (queueIdx q - 8) && decide (portPart s (queueIdx q - 8) = queuePart q) else true)

def strikeQueue (p : Nat) : Nat := 32 * p + 26
def linkQueue (p n : Nat) : Nat := 32 * p + 8 + n

/-- UNIT of an arrival flam (R388). -/
def queueUnit (q : Nat) (e : EntryData) : Nat :=
  match e with
  | .strike _ u _ => u
  | _ =>
    let i := queueIdx q
    if i < 8 then 0x800 + 8 * queuePart q + i else if i < 24 then 0x840 + (i - 8) else 0x859 + queuePart q

/-! ### The release schedule -/

/-- Release k of a list of records of one queue, with its score cycle. -/
def relNth : List RelRec → Nat → Option (RelRec × Nat)
  | [], _ => none
  | r :: t, k => if k ≤ r.rep then some (r, occSc r.sc r.period k) else relNth t (k - r.rep - 1)

def queueRels (c : Ctx) (q : Nat) : List RelRec := c.rels.filter (fun r => decide (r.queue = q))

/-- The context that a domain runs or switches to. -/
def activeCtx (s : State) (d : Nat) : Option Resident :=
  match (domRt s d).sw with
  | some w => residentOf s (domMask s d) w.ctx
  | none => runCtx s d

/-- The next release of a queue, when its score cycle is the current one. -/
def dueRel (s : State) (q : Nat) : Option RelRec :=
  let d := domLow s (queuePart q)
  match runCtx s d with
  | none => none
  | some r =>
    match relNth (queueRels r.ctx q) (queueRt s q).made with
    | some (x, sc) => if sc = nextSc s d then some x else none
    | none => none

/-- The queues of a domain with a release due now, ascending. -/
def dueQueues (s : State) (d : Nat) : List Nat :=
  (maskBits 8 (domMask s d)).flatMap (fun p => ((List.range 27).map (fun i => 32 * p + i)).filter (fun q => (dueRel s q).isSome))

/-! ### Arrivals -/

/-- Queue and clock faults of partition p (Table 7-12, R254); `q` is 0 when no queue applies. The capture register names no
unit, so the fault's unit is the safety monitor (Table 24-4).
(log entry 17, DESIGN CHOICE; log entry 46, DESIGN CHOICE) -/
def clockFault (kind p q : Nat) (s : State) : State :=
  let d := domLow s p
  let s := (captureTie p (aRqFltA p) (aRqFltB p) (fun w => fld w 0 8) (BitVec.ofNat 32 (kind * 2 ^ 26 + q)) (BitVec.ofNat 32 (scOf s p).toNat) s).2
  addFault d (mkFault s d 5 kind 0x876 q) s
def queueFault (kind q : Nat) (s : State) : State := clockFault kind (queuePart q) q s

def countDisc (q n : Nat) (s : State) : State := s.countSat (aRqDisc (queuePart q)) 0 32 n

/-- An arrival flam (R230, R386, R388). (log entry 47, DESIGN CHOICE) -/
def arrivalFlam (kind q : Nat) (e : EntryData) (exp obs late : Nat) (s : State) : State :=
  let d := domLow s (queuePart q)
  let u := queueUnit q e
  emitFlam d (queuePart q / 4) { kind := kind, unit := u, expSc := exp, obsSc := obs, late := late, queue := q, toll := s.toll.now } s

/-- Relative arrival sc, signed (R230). -/
def relArrival (s : State) (d : Nat) : Int := (scOf s d - (domRt s d).base).toInt

def twos48 (i : Int) : Nat := (i % (2 ^ 48 : Int)).toNat

/-- Match the arrival on the current edge to its release (R227, R230, R174, R200). -/
def matchArrival (q : Nat) (e : EntryData) (s : State) : State :=
  let d := domLow s (queuePart q)
  let x := queueRt s q
  let k := x.arrived
  let s := setQueueRt q { x with arrived := k + 1 } s
  let a := relArrival s d
  match activeCtx s d with
  | none => s
  | some r =>
    match relNth (queueRels r.ctx q) k with
    | none => arrivalFlam 7 q e allOnes48 (twos48 a) 0xFFFFFFFF s
    | some (rr, sc) =>
      if a < (sc : Int) - rr.tol then arrivalFlam 6 q e sc (twos48 ((sc : Int) - a)) 0xFFFFFFFF s
      else
        match (domRt s d).late.find? (fun l => decide (l.1 = q)) with
        | some l =>
          let s := setDomRt d { domRt s d with late := (domRt s d).late.erase l } s
          if k = x.made && decide (l.2 ≠ fcOf s d) then arrivalFlam 5 q e sc sc (min (fcOf s d - l.2).toNat 0xFFFFFFFF) s else s
        | none => s

/-- An entry becomes visible at a queue on this edge (R227, R231, R232). An idle domain's queue takes no entry but strikes.
(log entry 114, DESIGN CHOICE) -/
def enterQueue (q : Nat) (e : EntryData) (s : State) : State :=
  let d := domLow s (queuePart q)
  let x := queueRt s q
  if plnState s d = stIdle ∧ queueIdx q ≠ 26 then (if e = .lost then s else countDisc q 1 s)
  else if queueDepth q ≤ x.entries.length then
    if plnState s d = stHalted then (if e = .lost then s else countDisc q 1 s) else queueFault 2 q s
  else
    let s := setQueueRt q { x with entries := x.entries ++ [{ data := e, fc := fcOf s d, sc := scOf s d }] } s
    if ctxRuns s d then matchArrival q e s else s

/-- An entry of a strike queue whose second edge has come (R201). Entries that a halt or a restored run keeps wait on. -/
def idleReady (s : State) (p : Nat) (e : QEntry) : Bool := !e.held && decide (2 ≤ (fcOf s p - e.fc).toNat)

/-- Strikes of a strike queue take effect while no context runs, on the second edge after they reached it (R201, R829).
(log entry 113, DEDUCED) -/
def idleApply (p : Nat) (s : State) : State :=
  let d := domLow s p
  if ctxRuns s d then s
  else
    let q := strikeQueue p
    let x := queueRt s q
    let ready := x.entries.filter (idleReady s p)
    let s := setQueueRt q { x with entries := x.entries.filter (fun e => !idleReady s p e) } s
    let s := setDomRt d { domRt s d with prs := ready.map (fun e => (q, e)) } s
    forL ready (fun e s => match e.data with | .strike b u peer => applyStrike b u peer s | _ => s) s

/-! ### Plan boundaries (R232, R200, R201) -/

/-- Empty the queues of a domain but the strike queues, and count the valid entries. -/
def emptyQueues (mask : Nat) (s : State) : State :=
  forL (maskBits 8 mask) (fun p s =>
    forN 26 (fun i s =>
      let q := 32 * p + i
      let n := ((queueRt s q).entries.filter (fun e => decide (e.data ≠ .lost))).length
      let s := setQueueRt q {} s
      if n = 0 then s else countDisc q n s) s) s

/-- Strikes held for a release at the end of a run are discarded, each setting LOST of its bell (R200). Of a domain that no
longer runs only the strikes its run left are held; the others are on their way under R201. (log entry 113, DEDUCED) -/
def dropHeldStrikes (mask : Nat) (s : State) : State :=
  forL (maskBits 8 mask) (fun p s =>
    let d := domLow s p
    let x := queueRt s (strikeQueue p)
    let gone (e : QEntry) : Bool := e.held || !(decide (plnState s d = stHalted) || decide (plnState s d = stIdle))
    let s := setQueueRt (strikeQueue p) { ({} : QueueRt) with entries := x.entries.filter (fun e => !gone e) } s
    forL (x.entries.filter gone) (fun e s => match e.data with | .strike b _ _ => s.setBit (aBelStat b) 28 true | _ => s) s) s

/-- Strikes that were on their way when a context starts count as arrivals on the first edge of the switch (R201). -/
def carryStrikes (mask : Nat) (s : State) : State :=
  forL (maskBits 8 mask) (fun p s =>
    let q := strikeQueue p
    let es := (queueRt s q).entries
    let s := setQueueRt q {} s
    forL es (fun e s => enterQueue q e.data s) s) s

/-! ### Releases -/

/-- The test of a release (R228, R229): an empty queue joins the late queues under SLIP, faults under FAULT. -/
def testRelease (q : Nat) (r : RelRec) (s : State) : State :=
  let d := domLow s (queuePart q)
  if (queueRt s q).entries ≠ [] then s
  else if r.slip then
    if (domRt s d).late.any (fun l => decide (l.1 = q)) then s
    else setDomRt d { domRt s d with late := (domRt s d).late ++ [(q, fcOf s d)] } s
  else if (domRt s d).faults.any (fun f => decide (f.block = 5) && decide (f.kind = 1)) then
    -- one RELEASE_EMPTY fault names the lowest empty queue; each partition captures its own (R256)
    (captureTie (queuePart q) (aRqFltA (queuePart q)) (aRqFltB (queuePart q)) (fun w => fld w 0 8)
      (BitVec.ofNat 32 (2 ^ 26 + q)) (BitVec.ofNat 32 (scOf s (queuePart q)).toNat) s).2
  else queueFault 1 q s

/-- Test every release due on this edge, ascending (R255, R256). -/
def testReleases (d : Nat) (s : State) : State :=
  forL (dueQueues s d) (fun q s => match dueRel s q with | some r => testRelease q r s | none => s) s

/-- Take the head entry of a queue for the release due now; strikes take effect (R199). -/
def present (q : Nat) (s : State) : State :=
  let d := domLow s (queuePart q)
  let x := queueRt s q
  match x.entries with
  | [] => s
  | e :: rest =>
    let dest := match dueRel s q with | some r => [(q, r.dest)] | none => []
    let s := setQueueRt q { x with entries := rest, made := x.made + 1 } s
    let s := setDomRt d { domRt s d with prs := (domRt s d).prs ++ [(q, e)], rels := (domRt s d).rels ++ dest } s
    match e.data with | .strike b u peer => applyStrike b u peer s | _ => s

/-- What queue q presents on this edge. -/
def presented (s : State) (q : Nat) : Option QEntry :=
  ((domRt s (domLow s (queuePart q))).prs.find? (fun x => decide (x.1 = q))).map (·.2)

end Sys2Proof.Machine
end

