-- ==== Sys2Proof/Machine/Memory.lean ====
section
/-! DEFINITION. External memory (chapter 8): regions and their rules, line addresses, encryption, tags and MACs, line reads
and writes with their error reports, DMA occurrences, sweeps and rekeys. -/

namespace Sys2Proof.Machine

/-! ### Regions (Tables 8-3 and 8-10) -/

def rgnValid (s : State) (h r : Nat) : Bool := s.rbit (aRgnA h r) 31
def rgnProt (s : State) (h r : Nat) : Bool := s.rbit (aRgnA h r) 30
def rgnKind (s : State) (h r : Nat) : Nat := s.rf (aRgnA h r) 27 3
def rgnBusy (s : State) (h r : Nat) : Bool := s.rbit (aRgnA h r) 26
def rgnVer (s : State) (h r : Nat) : Nat := s.rf (aRgnA h r) 16 8
def rgnBase (s : State) (h r : Nat) : Nat := s.rf (aRgnA h r) 0 14
def rgnLen (s : State) (h r : Nat) : Nat := s.rf (aRgnB h r) 0 14
/-- Usable bytes (R273). -/
def rgnUsable (s : State) (h r : Nat) : Nat :=
  if rgnProt s h r then rgnLen s h r / 9 * 8 * 2 ^ 20 else rgnLen s h r * 2 ^ 20

/-- R267 on the entry (valid, protected, kind, base, len) as entry r of half-stack h. -/
def rgnRules (s : State) (h r : Nat) (prot : Bool) (kind base len : Nat) : Bool :=
  decide (kind ≤ 4) && decide (1 ≤ len) && decide (base + len ≤ 12288) &&
  (List.range 16).all (fun q => decide (q = r) || !rgnValid s h q ||
    decide (base + len ≤ rgnBase s h q) || decide (rgnBase s h q + rgnLen s h q ≤ base)) &&
  (!prot || decide (len % 9 = 0)) && (!(decide (kind = 1) || decide (kind = 2)) || !prot) &&
  (if r = 15 then decide (kind = 2)
   else if partPresent s h then (if r = 0 then decide (kind = 3) else decide (kind ≠ 2) && decide (kind ≠ 3))
   else decide (kind = 4))

/-- A context of the partition that owns half-stack h is resident (R268). -/
def rgnHeldByCtx (s : State) (h : Nat) : Bool := partPresent s h && s.plan.resident.any (fun r => r.mask.testBit h)

/-! ### Keys (R269, R274) -/

/-- Slot of State.keys that holds the operator memory key of half-stack h, regions 0 to 14; and that of region 15. -/
def opKeySlot (h : Nat) : Nat := 16 + h
def ringKeySlot : Nat := 32

def memKey (s : State) (h r ver : Nat) : List Byte :=
  let k := tabGet (fun _ => {}) s.keys (if r = 15 then ringKeySlot else if partPresent s h && held s h then h else opKeySlot h)
  match k.mem.find? (fun x => decide (x.2.1 = ver)) with | some x => x.2.2 | none => []

/-- The 64 bytes of R274: two expand rounds of HKDF-SHA-384. -/
def hbmKeys (s : State) (h r ver : Nat) : List Byte :=
  let prk := Config.hmac384 (zeros 48) (memKey s h r ver)
  let info := ascii "SCEUX-HBM" ++ [bite ver]
  let t1 := Config.hmac384 prk (info ++ [1])
  padTo 64 (t1 ++ Config.hmac384 prk (t1 ++ info ++ [2]))
def kEnc (s : State) (h r ver : Nat) : List Byte := (hbmKeys s h r ver).take 32
def kInt (s : State) (h r ver : Nat) : List Byte := (hbmKeys s h r ver).drop 32

/-! ### Addresses (R270, R272) -/

def linePc (l : Nat) : Nat := l % 16
def lineK (l : Nat) : Nat := l / 16
/-- PC-local line of a region's line. -/
def lineM (s : State) (h r l : Nat) : Nat :=
  if rgnProt s h r then rgnBase s h r * 512 + 9 * (lineK l / 8) + lineK l % 8 else rgnBase s h r * 512 + lineK l
def tagM (s : State) (h r l : Nat) : Nat := rgnBase s h r * 512 + 9 * (lineK l / 8) + 8
def dla (h m n : Nat) : Nat := h * 2 ^ 27 + 16 * m + n
/-- Log entry 105, DESIGN CHOICE. -/
def lineDla (s : State) (h r l : Nat) : Nat := dla h (lineM s h r l) (linePc l)
def tagDla (s : State) (h r l : Nat) : Nat := dla h (tagM s h r l) (linePc l)

/-- DRAM place of PC-local line M (R271): column line, bank group, bank, row, stack ID. -/
def dramPlace (m : Nat) : Nat × Nat × Nat × Nat × Nat := (m % 8, m / 32 % 4, m / 8 % 4, m / 128 % 2 ^ 14, m / 2 ^ 21 % 4)

/-- What the cells of a line hold; cells that nothing has written hold undefined bytes (R831).
(log entry 10, DESIGN CHOICE) -/
def cell (s : State) (a : Nat) : List Byte :=
  match tabGet (fun _ => none) s.mem.cells a with
  | some b => b
  | none => (List.range 128).map (Config.staleByte s.mem.gen a)
/-- Log entry 104, DESIGN CHOICE; log entry 105, DESIGN CHOICE. -/
def setCell (a : Nat) (b : List Byte) (s : State) : State :=
  { s with mem := { s.mem with cells := tabSet (fun _ => none) a (some b) s.mem.cells } }

/-- Version under which PC-line k of a region stands: NEW_VER below the rekey pointer (R296). -/
def lineVer (s : State) (h r l : Nat) : Nat :=
  match tabGet (fun _ => none) s.mem.rekey h with
  | some k => if k.region = r ∧ lineK l < s.rf (aRkPtr h) 0 23 then k.ver else rgnVer s h r
  | none => rgnVer s h r

/-! ### Encryption, tags, MACs (R275 to R278) -/

def counterBlock (wctr a ver i : Nat) : List Byte := leBytes 6 wctr ++ leBytes 5 a ++ [bite ver, 0, 0, 0, bite i]
def lineStream (key : List Byte) (wctr a ver : Nat) : List Byte :=
  (List.range 8).flatMap (fun i => padTo 16 (Config.aesBlock key (counterBlock wctr a ver i)))
/-- Encryption and decryption are one function. -/
def lineCrypt (key : List Byte) (wctr a ver : Nat) (b : List Byte) : List Byte := xorBytes (padTo 128 b) (lineStream key wctr a ver)

def tagEntry (s : State) (h r l : Nat) : List Byte := ((cell s (tagDla s h r l)).drop (16 * (lineK l % 8))).take 16
def tagWctr (t : List Byte) : Nat := leAt t 0 6
def tagPoison (t : List Byte) : Bool := (byteAt t 14).testBit 0
def lineMac (key : List Byte) (a wctr ver flags : Nat) (ct : List Byte) : List Byte :=
  (gcmTag key (leBytes 5 a ++ leBytes 6 wctr ++ [bite ver]) (ct ++ [bite flags]) []).take 8
def macOk (s : State) (h r l : Nat) : Bool :=
  let t := tagEntry s h r l
  let a := lineDla s h r l
  decide ((t.drop 6).take 8 = lineMac (kInt s h r (lineVer s h r l)) a (tagWctr t) (lineVer s h r l) (byteAt t 14) (cell s a))

def putTag (h r l wctr flags : Nat) (ct : List Byte) (ver : Nat) (s : State) : State :=
  let a := lineDla s h r l
  let e := leBytes 6 wctr ++ lineMac (kInt s h r ver) a wctr ver flags ct ++ [bite flags, 0]
  setCell (tagDla s h r l) (spliceAt (padTo 128 (cell s (tagDla s h r l))) (16 * (lineK l % 8)) e) s

/-! ### Error reports (Table 8-6, R299) -/

/-- Capture a memory error of half-stack h (SRC 0 plan, 1 command or BAR2, 2 sink, 3 sweep) and interrupt its owner. -/
def memError (h code src r l : Nat) (s : State) : State :=
  let sc := if partPresent s h && ctxRuns s (domLow s h) then (scOf s h).toNat else 0
  let v := BitVec.ofNat 32 (code * 2 ^ 26 + src * 2 ^ 24 + r * 2 ^ 20 + linePc l)
  let s := if s.rbit (aMemErrA h) 31 then s.setBit (aMemErrA h) 30 true
    else ((s.setReg (aMemErrA h) (v ||| 0x80000000#32)).setReg (aMemErrB h) (BitVec.ofNat 32 l)).setReg (aMemErrC h) (BitVec.ofNat 32 sc)
  if partPresent s h then raisePart 7 5 32 h s else raise 0 7 s

/-- A memory error that faults the domain of half-stack h's partition. (log entry 37, DESIGN CHOICE) -/
def memFault (h code l : Nat) (s : State) : State :=
  if partPresent s h then addFault (domLow s h) (mkFault s (domLow s h) 6 code (0x868 + h) l) s else s

/-! ### Line access -/

/-- Error of reading a line, and its plaintext (R278, R281, R283, R285): 0, 2 MAC, 3 POISON, 4 UE (`ue`).
(log entry 10, DESIGN CHOICE; log entry 105, DESIGN CHOICE; log entry 112, DESIGN CHOICE) -/
def readLine (s : State) (h r l : Nat) (ue : Bool) : Nat × List Byte :=
  let a := lineDla s h r l
  let ver := lineVer s h r l
  if ue then (4, zeros 128)
  else if rgnProt s h r then
    let t := tagEntry s h r l
    if tagPoison t then (3, zeros 128)
    else if !macOk s h r l then (2, zeros 128)
    else (0, lineCrypt (kEnc s h r ver) (tagWctr t) a ver (cell s a))
  else (0, lineCrypt (kEnc s h r ver) 0 a ver (cell s a))

/-- Write bytes at an offset inside a line (R276, R278 to R280, R282, R285): error code, state. A write that covers the
whole line is a full write. -/
def writeLine (h r l off : Nat) (b : List Byte) (s : State) : Nat × State :=
  let a := lineDla s h r l
  let ver := lineVer s h r l
  let full := decide (off = 0) && decide (128 ≤ b.length)
  if rgnProt s h r then
    let t := tagEntry s h r l
    let w := tagWctr t
    if !full && (tagPoison t || !macOk s h r l) then (1, putTag h r l w 1 (cell s a) ver s)
    else if w = 2 ^ 48 - 1 then (5, s)
    else
      let old := lineCrypt (kEnc s h r ver) w a ver (cell s a)
      let pt := if full then padTo 128 b else spliceAt old off b
      let ct := lineCrypt (kEnc s h r ver) (w + 1) a ver pt
      let s := putTag h r l (w + 1) 0 ct ver (setCell a ct s)
      (if w + 1 = 2 ^ 47 then 6 else 0, s)
  else
    let old := lineCrypt (kEnc s h r ver) 0 a ver (cell s a)
    let pt := if full then padTo 128 b else spliceAt old off b
    (0, setCell a (lineCrypt (kEnc s h r ver) 0 a ver pt) s)

/-- A write with its report (R285): each code is captured, and wear is an event of the controller too (Table 12-17).
(log entry 37, DESIGN CHOICE) -/
def writeReport (src h r l off : Nat) (b : List Byte) (s : State) : Nat × State :=
  let x := writeLine h r l off b s
  if x.1 = 0 then x
  else if x.1 = 6 then (6, plainEvent 0x14 (0x868 + h) r (memError h 6 src r l x.2))
  else (x.1, memError h x.1 src r l x.2)

/-- Bytes of a region from an offset: the first error met and the bytes (R284). Every line error is captured. -/
def readBytes (src h r off len : Nat) (s : State) : Nat × List Byte × State :=
  let l0 := off / 128
  let n := if len = 0 then 0 else (off + len - 1) / 128 - l0 + 1
  let x := (List.range n).foldl (fun (acc : Nat × List Byte × State) i =>
    let rd := readLine acc.2.2 h r (l0 + i) false
    let s := if rd.1 = 0 then acc.2.2 else memError h rd.1 src r (l0 + i) acc.2.2
    (if acc.1 = 0 then rd.1 else acc.1, acc.2.1 ++ rd.2, s)) (0, [], s)
  (x.1, (x.2.1.drop (off % 128)).take len, x.2.2)

/-- Write bytes from an offset, line by line in offset order, up to the first error of Table 8-6: its code (1, 4, 5), 6 when
a line wears, or 0; the line of it; the bytes written. -/
def writeFrom (src h r off : Nat) (b : List Byte) (s : State) : (Nat × Nat × Nat) × State :=
  let l0 := off / 128
  let n := if b.length = 0 then 0 else (off + b.length - 1) / 128 - l0 + 1
  (List.range n).foldl (fun (acc : (Nat × Nat × Nat) × State) i =>
    if acc.1.1 ≠ 0 ∧ acc.1.1 ≠ 6 then acc
    else
      let lo := if i = 0 then off % 128 else 0
      let start := if i = 0 then 0 else 128 * i - off % 128
      let piece := (b.drop start).take (128 - lo)
      let w := writeReport src h r (l0 + i) lo piece acc.2
      if w.1 = 0 then ((acc.1.1, acc.1.2.1, acc.1.2.2 + piece.length), w.2)
      else if w.1 = 6 then ((6, if acc.1.1 = 6 then acc.1.2.1 else l0 + i, acc.1.2.2 + piece.length), w.2)
      else ((w.1, l0 + i, acc.1.2.2), w.2)) ((0, 0, 0), s)

/-- The same, answering the error code alone. -/
def writeBytes (src h r off : Nat) (b : List Byte) (s : State) : Nat × State :=
  let x := writeFrom src h r off b s
  (if x.1.1 = 6 then 0 else x.1.1, x.2)

/-- Status of a command that met a memory error (Table 8-6). -/
def memStatus (code : Nat) : Nat := if code = 0 ∨ code = 6 then sOk else if code = 5 then sResource else sIntegrity

/-! ### Sweeps (R295, R296) -/

def rgnLines (s : State) (h r : Nat) : Nat := rgnUsable s h r / 128

/-- A sweep's effect: zero plaintext everywhere, WCTR 0, valid MACs, no poison. -/
def zeroRegion (h r : Nat) (s : State) : State :=
  let ver := rgnVer s h r
  forN (rgnLines s h r) (fun l s =>
    let a := lineDla s h r l
    let ct := lineCrypt (kEnc s h r ver) 0 a ver (zeros 128)
    let s := setCell a ct s
    if rgnProt s h r then putTag h r l 0 0 ct ver s else s) s

/-- Start a sweep of a region that has just been created or is to be filled. -/
def startSweep (h r : Nat) (zfill : Bool) (s : State) : State :=
  (s.setBit (aRgnA h r) 26 true).setBit (aRgnA h r) 25 zfill

/-- A new entry takes KEY_VER: the newest version installed for a tenant, 0 for the operator's key.
(log entry 59, DESIGN CHOICE) -/
def newKeyVer (s : State) (h r : Nat) : Nat :=
  if r ≠ 15 && partPresent s h && held s h then ((tabGet (fun _ => {}) s.keys h).mem.getLast?.map (·.2.1)).getD 0 else 0

/-- SWEEP_END: an initialisation or zero-fill sweep ends, and RGN_SET or RGN_ZFILL with it (R295, R627); paused in the safe state (Table 24-3). -/
def execSweepEnd (h r : Nat) (s : State) : Out :=
  if !decide (h < 8) then .fault (.noSuchInstance "half-stack" h)
  else if !decide (r < 16) then .fault (.noSuchInstance "region" r)
  else if !rgnBusy s h r || inSafe s then .next s
  else
    let s := zeroRegion h r s
    let s := plainEvent 0x16 (0x868 + h) r ((s.setBit (aRgnA h r) 26 false).setBit (aRgnA h r) 25 false)
    .next (forL (s.host.outst.filter (fun o => o.acc && (decide (o.op = 0x30) || decide (o.op = 0x32)) && decide (o.a = 16 * h + r))) (fun o s =>
      finishO o sOk (if o.op = 0x30 then leBytes 8 (rgnUsable s h r) else []) s) s)

/-- Re-encrypt one line under the new version: WCTR 0, POISON kept, a line that fails verification or cannot be read is
poisoned; says whether it poisoned the line (R296). -/
def rekeyLine (h r l new : Nat) (ue : Bool) (s : State) : Bool × State :=
  let ver := rgnVer s h r
  let a := lineDla s h r l
  if rgnProt s h r then
    let t := tagEntry s h r l
    let bad := ue || (!tagPoison t && !macOk s h r l)
    let s := if bad then memError h (if ue then 4 else 2) 3 r l s else s
    let pt := lineCrypt (kEnc s h r ver) (tagWctr t) a ver (cell s a)
    let ct := lineCrypt (kEnc s h r new) 0 a new pt
    (bad, putTag h r l 0 (b2n (bad || tagPoison t)) ct new (setCell a ct s))
  else
    let s := if ue then memError h 4 3 r l s else s
    let pt := lineCrypt (kEnc s h r ver) 0 a ver (cell s a)
    (false, setCell a (lineCrypt (kEnc s h r new) 0 a new pt) s)

/-- The lines from PTR on: lines rewritten, lines poisoned, the state. -/
def rekeyLines (h r new : Nat) (unread : List Nat) (s : State) : Nat × Nat × State :=
  (List.range (rgnLines s h r)).foldl (fun (x : Nat × Nat × State) l =>
    if x.2.2.rf (aRkPtr h) 0 23 ≤ lineK l then
      let y := rekeyLine h r l new (unread.contains l) x.2.2
      (x.1 + 1, x.2.1 + b2n y.1, y.2)
    else x) (0, 0, s)

def setRekey (h : Nat) (k : Option RekeyRt) (s : State) : State :=
  { s with mem := { s.mem with rekey := tabSet (fun _ => none) h k s.mem.rekey } }

/-- REKEY_END: the rest of a rekey sweep is done; KEY_VER becomes NEW_VER (R296, R627). `unread` lists lines whose read was
uncorrectable. (log entry 67, DESIGN CHOICE) -/
def execRekeyEnd (h : Nat) (unread : List Nat) (s : State) : Out :=
  if !decide (h < 8) then .fault (.noSuchInstance "half-stack" h)
  else
    match tabGet (fun _ => none) s.mem.rekey h with
    | none => .next s
    | some k =>
      if !s.rbit (aRkCtl h) 30 || inSafe s then .next s
      else
        let x := rekeyLines h k.region k.ver unread s
        let s := x.2.2.put (aRgnA h k.region) 16 8 k.ver
        let s := setRekey h none ((s.setBit (aRkCtl h) 30 false).setReg (aRkPtr h) 0)
        .next (forL (s.host.outst.filter (fun o => o.acc && decide (o.op = 0x33) && decide (o.a = h))) (fun o s =>
          finishO o sOk (leBytes 4 x.1 ++ leBytes 4 x.2.1) s) s)

end Sys2Proof.Machine
end

