-- ==== Sys2Proof/Machine/Net.lean ====
section
/-! DEFINITION. The fabric network (chapter 4): switch boxes and route sets, steer nodes and relay queues, credit loops and
their faults. One score cycle of the network is `netStep`; sources send through `send`. -/

namespace Sys2Proof.Machine

def setNet (n : NetRt) (s : State) : State := { s with fab := { s.fab with net := n } }
def sbRt (s : State) (u : Nat) : SbRt := tabGet (fun _ => {}) s.fab.net.sbs u
def setSb (u : Nat) (r : SbRt) (s : State) : State :=
  setNet { s.fab.net with sbs := tabSet (fun _ => {}) u r s.fab.net.sbs } s
def netQueue (s : State) (k : Nat) : List Ent := tabGet (fun _ => []) s.fab.net.queues k
def setNetQueue (k : Nat) (q : List Ent) (s : State) : State :=
  setNet { s.fab.net with queues := tabSet (fun _ => []) k q s.fab.net.queues } s
def srcRt (s : State) (k : Nat) : SrcRt := tabGet (fun _ => {}) s.fab.net.srcs k
def setSrc (k : Nat) (r : SrcRt) (s : State) : State :=
  setNet { s.fab.net with srcs := tabSet (fun _ => {}) k r s.fab.net.srcs } s

/-! ### Plan data of a unit -/

/-- The unit block of a unit in a context: KIND 0 CU, 1 MU, 2 SB, 3 slice. -/
def unitBlk (c : Ctx) (unit kind : Nat) : Option UnitBlk := c.units.find? (fun b => decide (b.unit = unit) && decide (b.kind = kind))

/-- The context that serves unit u's partition now. -/
def unitCtx (s : State) (u : Nat) : Option Resident := runCtx s (domLow s (unitPart u))

def blkOf (s : State) (u kind : Nat) : Option UnitBlk := (unitCtx s u).bind (fun r => unitBlk r.ctx u kind)
/-- Object of a unit as a number, bit 0 in its first byte. -/
def objNum (b : Option UnitBlk) (i : Nat) : List Byte := ((b.map (·.objs)).getD []).getD i []

/-- The route set in force (Table 4-2). -/
def routeSet (s : State) (u : Nat) : List Byte := objNum (blkOf s u 2) (sbRt s u).set
/-- Source selected by an SB output; none when EN is 0. -/
def selOf (set : List Byte) (o : Nat) : Option Nat := if 128 ≤ byteAt set o then some (byteAt set o % 32) else none
def outsOf (set : List Byte) (src : Nat) : List Nat := (List.range 25).filter (fun o => selOf set o == some src)

/-- Descriptor of a source (R145): EN, BOUND, CREDITS. -/
def descOf (s : State) (k : Nat) : Nat :=
  match blkOf s (k / 32) 2 with
  | none => 0
  | some b => match b.descs.find? (fun d => decide (d.1 = k % 32)) with | some d => d.2 | none => 0
def descBound (d : Nat) : Nat := d / 2 ^ 16 % 1024
def descCredits (d : Nat) : Nat := d % 32

/-! ### Faults (Tables 4-6 to 4-8) -/

/-- A network fault: ELEM 0 source, 1 steer node, 2 relay, 3 SB output. -/
def netFault (kind elem index sb bound credits : Nat) (s : State) : State :=
  let p := unitPart sb
  let d := domLow s p
  let c := captureTie p (aNetFltA p) (aNetFltB p) (fun w => fld w 0 12 * 2 ^ 7 + fld w 24 2 * 2 ^ 5 + fld w 19 5)
    (BitVec.ofNat 32 (kind * 2 ^ 26 + elem * 2 ^ 24 + index * 2 ^ 19 + sb)) (BitVec.ofNat 32 (scOf s p).toNat) s
  let s := c.2
  let s := if !c.1 then s else s.setReg (aNetFltC p) (BitVec.ofNat 32 (bound * 2 ^ 16 + credits))
  addFault d (mkFault s d 3 kind sb (elem * 32 + index)) s

/-! ### Places -/

/-- The SB that a track output leads to, the input it arrives on, and its sc (R130, R131). Row numbers grow southward.
(log entry 116, DESIGN CHOICE) -/
def trackTo (u o : Nat) : Option (Nat × Nat × Nat) :=
  let cl := unitCluster u
  let r := u / 32 % 32
  let c := u % 32
  let t := o % 4
  match o / 4 with
  | 0 => if r = 0 then none else some (u - 32, 8 + t, 1)
  | 1 => if c < 31 then some (u + 1, 12 + t, 1) else if cl = 0 ∧ t < 2 then some (1024 + 32 * r, 12 + t, 4) else none
  | 2 => if r = 23 then none else some (u + 32, t, 1)
  | _ => if 0 < c then some (u - 1, 4 + t, 1) else if cl = 1 ∧ t < 2 then some (32 * r + 31, 4 + t, 4) else none

/-- A gate is open only inside one slip domain (R132). -/
def gateOpen (s : State) (u v : Nat) : Bool := decide (unitPart u = unitPart v) || (domMask s (unitPart u)).testBit (unitPart v)

/-! ### Credits (R145 to R150) -/

/-- A credit of a send comes home: when every copy of the send has returned its own, the source gains one credit. -/
def creditHome (k sent : Nat) (s : State) : State :=
  let r := srcRt s k
  if s.rbit aNetCinj 31 && decide (s.rf aNetCinj 0 12 = k / 32) && decide (s.rf aNetCinj 12 5 = k % 32) then
    s.setBit aNetCinj 31 false
  else
    let sends := r.sends.map (fun x => if x.1 = sent then (x.1, x.2 - 1) else x)
    let done := sends.any (fun x => decide (x.1 = sent) && decide (x.2 = 0))
    let r' := { r with sends := sends.filter (fun x => !decide (x.2 = 0)) }
    if done then
      if r.credits = descCredits (descOf s k) then netFault 3 0 (k % 32) (k / 32) (descBound (descOf s k)) r.credits (setSrc k r' s)
      else setSrc k { r' with credits := r.credits + 1 } s
    else setSrc k r' s

/-- An entry is consumed: its credit starts home and takes the path's latency. -/
def consumed (e : Ent) (s : State) : State :=
  setNet { s.fab.net with creds := s.fab.net.creds ++ [(e.lf, e.src, e.sent)] } s

/-- Take the head of a queue. -/
def takeQueue (k : Nat) (s : State) : Option Ent × State :=
  match netQueue s k with
  | [] => (none, s)
  | e :: r => (some e, consumed e (setNetQueue k r s))

/-- A source sends an entry on this sc (R145, R147). Without a credit it sends nothing and the domain faults. -/
def send (k : Nat) (e : Ent) (s : State) : State :=
  let d := descOf s k
  let r := srcRt s k
  let t := relSc s (unitPart (k / 32))
  if r.credits = 0 then netFault 1 0 (k % 32) (k / 32) (descBound d) 0 s
  else
    let s := setSrc k { r with credits := r.credits - 1, sends := r.sends ++ [(t, 1)] } s
    setNet { s.fab.net with fly := s.fab.net.fly ++ [(0, k, { e with src := k, sent := t, lf := 0 })] } s

/-- A send that falls due later. -/
def sendLater (n k : Nat) (e : Ent) (s : State) : State :=
  setNet { s.fab.net with later := s.fab.net.later ++ [(n, k, e)] } s

/-- A credit that has not returned by the end of t + BOUND (R149). -/
def lateSends (s : State) (k : Nat) : Bool :=
  let t := relSc s (unitPart (k / 32))
  (srcRt s k).sends.any (fun x => decide (x.1 + descBound (descOf s k) ≤ t))

def creditLate (k : Nat) (s : State) : State :=
  netFault 2 0 (k % 32) (k / 32) (descBound (descOf s k)) (srcRt s k).credits s

/-! ### One score cycle -/

/-- A fault of an entry of a known channel: BOUND and CREDITS are the channel's (Table 4-8). -/
def entFault (kind elem index sb : Nat) (e : Ent) (s : State) : State :=
  netFault kind elem index sb (descBound (descOf s e.src)) (srcRt s e.src).credits s

/-- An entry at an SB input takes every output that selects it (R137, R139, R145). An unrouted entry's fault names the input as
a source (Table 4-3). (log entry 116, DESIGN CHOICE) -/
def routeOne (k : Nat) (e : Ent) (s : State) : State :=
  let u := k / 32
  let os := outsOf (routeSet s u) (k % 32)
  match os with
  | [] => entFault 7 0 (k % 32) u e s
  | _ =>
    let r := srcRt s e.src
    let s := setSrc e.src { r with
        sends := r.sends.map (fun x => if x.1 = e.sent then (x.1, x.2 + os.length - 1) else x),
        path := (os.map (fun o => 32 * u + o)).filter (fun p => !r.path.contains p) ++ r.path } s
    forL os (fun o s =>
      if o < 16 then
        let s := countUnit u (if e.valid then 0x30 else 0x31) 1 s
        match trackTo u o with
        | none => s
        | some (v, i, n) =>
          if gateOpen s u v then
            setNet { s.fab.net with fly := s.fab.net.fly ++ [(n, 32 * v + i, { e with lf := e.lf + n })] } s
          else s
      else setNet { s.fab.net with loc := s.fab.net.loc ++ [(1, 32 * u + o, { e with lf := e.lf + 1 })] } s) s

/-- An entry reaches a local destination queue of 16 (R150). -/
def arriveLocal (k : Nat) (e : Ent) (s : State) : State :=
  let q := netQueue s k
  if 16 ≤ q.length then entFault 4 3 (k % 32) (k / 32) e s
  else setNetQueue k (q ++ [{ e with arr := relSc s (unitPart (k / 32)) }]) s

def inDom (s : State) (d k : Nat) : Bool := (domMask s d).testBit (unitPart (k / 32))

/-- Sends that fall due on this sc, then the entries at SB inputs move (R130). -/
def netMove (d : Nat) (s : State) : State :=
  let n := s.fab.net
  let due := n.later.filter (fun x => inDom s d x.2.1 && decide (x.1 = 0))
  let s := setNet { n with later := n.later.filter (fun x => !(inDom s d x.2.1 && decide (x.1 = 0))) } s
  let s := forL due (fun x s => send x.2.1 x.2.2 s) s
  let n := s.fab.net
  let here := n.fly.filter (fun x => inDom s d x.2.1 && decide (x.1 = 0))
  let s := setNet { n with fly := n.fly.filter (fun x => !(inDom s d x.2.1 && decide (x.1 = 0))) } s
  forL here (fun x s => routeOne x.2.1 x.2.2 s) s

/-- The next sc: everything on its way comes one sc nearer; what arrives enters its queue or its source. Run after the sc
counter has advanced. -/
def netArrive (d : Nat) (s : State) : State :=
  let n := s.fab.net
  let dec (k : Nat) (x : Nat) : Nat := if inDom s d k then x - 1 else x
  let n : NetRt := { n with
    later := n.later.map (fun x => (dec x.2.1 x.1, x.2)), fly := n.fly.map (fun x => (dec x.2.1 x.1, x.2)),
    loc := n.loc.map (fun x => (dec x.2.1 x.1, x.2)), creds := n.creds.map (fun x => (dec x.2.1 x.1, x.2)) }
  let at0 := n.loc.filter (fun x => inDom s d x.2.1 && decide (x.1 = 0))
  let cr0 := n.creds.filter (fun x => inDom s d x.2.1 && decide (x.1 = 0))
  let s := setNet { n with loc := n.loc.filter (fun x => !(inDom s d x.2.1 && decide (x.1 = 0))),
                           creds := n.creds.filter (fun x => !(inDom s d x.2.1 && decide (x.1 = 0))) } s
  let s := forL cr0 (fun x s => creditHome x.2.1 x.2.2 s) s
  forL at0 (fun x s => arriveLocal x.2.1 x.2.2 s) s

/-! ### Steer nodes and relays (R140 to R144) -/

def condTrue (cfg : Nat) (e : Ent) : Bool :=
  let inv := cfg.testBit 22
  let c := if cfg.testBit 27 then decide (leAt e.data (4 * nfld cfg 23 4) 4 ≠ 0) else e.cond
  c != inv
def bubble : Ent := { data := zeros 64, valid := false, cond := false }
def pass (e : Ent) : Ent := if e.valid then { e with cond := e.cond } else bubble

/-- One steer or relay action of element `elem` (1 SN0, 2 SN1, 3 RQ0, 4 RQ1) at offset `ph` of its run. In the first admit
phase of LOOP nothing has come round the ring, and B may be empty. (log entry 116, DESIGN CHOICE) -/
def elemStep (u elem ph : Nat) (s : State) : State :=
  if 3 ≤ elem then
    match takeQueue (32 * u + 20 + elem) s with
    | (none, s) => netFault 5 2 (elem - 3) u 0 0 s
    | (some e, s) => sendLater 1 (32 * u + 20 + elem) (pass e) s
  else
    let i := elem - 1
    let cfg := leAt (routeSet s u) (32 + 4 * i) 4
    let ka := 32 * u + 19 + 2 * i
    let kb := ka + 1
    let period := nfld cfg 8 8 + 1
    let win := period * (nfld cfg 0 8 + 1)
    let empty (s : State) : State := netFault 5 1 i u 0 0 s
    let xy (x y : Ent) (s : State) : State := sendLater 1 kb y (sendLater 1 ka x s)
    match nfld cfg 28 4 with
    | 1 =>
      (match takeQueue ka s with
       | (none, s) => empty s
       | (some e, s) =>
         if !e.valid then xy bubble bubble s
         else if condTrue cfg e then xy e bubble (countUnit u 0x32 1 s) else xy bubble e (countUnit u 0x33 1 s))
    | 2 =>
      let a := takeQueue ka s
      let b := takeQueue kb a.2
      (match a.1, b.1 with
       | some x, some y =>
         if x.valid && y.valid then netFault 6 1 i u 0 0 b.2 else sendLater 1 ka (if x.valid then x else if y.valid then y else bubble) b.2
       | _, _ => empty b.2)
    | 3 =>
      (match takeQueue (if ph % 2 = 0 then ka else kb) s with
       | (none, s) => empty s
       | (some e, s) => sendLater 1 ka (pass e) s)
    | 4 =>
      (match takeQueue ka s with
       | (none, s) => empty s
       | (some e, s) =>
         let s := if e.valid then countUnit u (if condTrue cfg e then 0x32 else 0x33) 1 s else s
         sendLater 1 ka (if e.valid && condTrue cfg e then e else bubble) s)
    | 5 =>
      let goes := decide (ph % win < period)
      let b := takeQueue kb s
      if goes then
        let a := takeQueue ka b.2
        (match a.1, b.1 with
         | some x, some y => if y.valid then netFault 6 1 i u 0 0 a.2 else sendLater 1 ka (pass x) a.2
         | some x, none => if ph < period then sendLater 1 ka (pass x) a.2 else empty a.2
         | none, _ => empty a.2)
      else
        (match b.1 with
         | some y => sendLater 1 ka (pass y) b.2
         | none => empty b.2)
    | 6 =>
      (match takeQueue ka s with
       | (none, s) => empty s
       | (some e, s) => if decide (win - period ≤ ph % win) then xy (pass e) bubble s else xy bubble (pass e) s)
    | _ => s

/-- All running elements of one SB act. -/
def sbStep (u : Nat) (s : State) : State :=
  let t := relSc s (unitPart u)
  forL [1, 2, 3, 4] (fun e s =>
    match tabGet (fun _ => none) (sbRt s u).runs e with
    | some (st, len) => if st ≤ t ∧ t < st + len then elemStep u e (t - st) s else s
    | none => s) s

/-- A route set takes effect (R138, R152): a removed path of a channel with credits out is lost. -/
def setRoute (u set : Nat) (s : State) : State :=
  let old := routeSet s u
  let s := setSb u { sbRt s u with set := set } s
  let new := routeSet s u
  let gone := (List.range 25).filter (fun o => (selOf old o).isSome && (selOf new o != selOf old o))
  forL s.fab.net.srcs (fun x s =>
    if inDom s (domLow s (unitPart u)) x.1 && decide (x.2.credits < descCredits (descOf s x.1)) &&
        gone.any (fun o => x.2.path.contains (32 * u + o)) then
      netFault 8 0 (x.1 % 32) (x.1 / 32) (descBound (descOf s x.1)) x.2.credits s
    else s) s

/-- Empty the network of a mask of partitions (R158); `count` adds the valid entries to NET_DISC. -/
def clearNet (mask : Nat) (count : Bool) (s : State) : State :=
  let hit (k : Nat) : Bool := mask.testBit (unitPart (k / 32))
  let n := s.fab.net
  let ents := (n.fly.filter (fun x => hit x.2.1)).map (fun x => (x.2.1, x.2.2)) ++
    (n.loc.filter (fun x => hit x.2.1)).map (fun x => (x.2.1, x.2.2)) ++
    (n.queues.filter (fun x => hit x.1)).flatMap (fun x => x.2.map (fun e => (x.1, e))) ++
    -- what a steer node or relay has taken and not yet sent
    (n.later.filter (fun x => hit x.2.1 && decide (19 ≤ x.2.1 % 32))).map (fun x => (x.2.1, x.2.2))
  let s := if count then forL ents (fun x s => if x.2.valid then s.countSat (aNetDisc (unitPart (x.1 / 32))) 0 32 1 else s) s else s
  let s := setNet { n with
    sbs := tabDrop (fun k => mask.testBit (unitPart k)) n.sbs, fly := n.fly.filter (fun x => !hit x.2.1),
    loc := n.loc.filter (fun x => !hit x.2.1), queues := tabDrop hit n.queues, srcs := tabDrop hit n.srcs,
    creds := n.creds.filter (fun x => !hit x.2.1), later := n.later.filter (fun x => !hit x.2.1) } s
  -- a context switch or partition reset clears an armed injection (R86, R156)
  if hit (32 * s.rf aNetCinj 0 12) then s.setBit aNetCinj 31 false else s

/-- Load the credit counters of an incoming context (R145). -/
def loadCredits (c : Ctx) (s : State) : State :=
  forL (c.units.filter (fun b => decide (b.kind = 2))) (fun b s =>
    forL b.descs (fun d s => if d.2.testBit 31 then setSrc (32 * b.unit + d.1) { credits := descCredits d.2 } s else s) s) s

/-! ### Rows -/

/-- An entry of a schedule at the current sc of its domain. -/
def schedNow (s : State) (u kind elem idx : Nat) : Bool :=
  match blkOf s u kind with
  | some b => b.sched.any (fun e => decide (e.elem = elem) && decide (e.index = idx) && decide (e.sc = relSc s (unitPart u)))
  | none => false

/-- Work of one planned action is done once on its edge: `k` names it. (log entry 3, DESIGN CHOICE) -/
def onceAt (d : Nat) (k : Nat × Nat × Nat) (f : State → State) (s : State) : State :=
  let r := domRt s d
  if r.done.contains k then s else f (setDomRt d { r with done := r.done ++ [k] } s)

def doRoute (u set : Nat) (s : State) : State :=
  let d := domLow s (unitPart u)
  onceAt d (3, u, 0) (fun s => scoredEvent d 3 u set (relSc s d) [] (setRoute u set s)) s

def doSteer (u elem len : Nat) (s : State) : State :=
  let d := domLow s (unitPart u)
  onceAt d (4, u, elem) (fun s =>
    let r := sbRt s u
    scoredEvent d 4 u elem (relSc s d) [] (setSb u { r with runs := tabSet (fun _ => none) elem (some (relSc s d, len)) r.runs } s)) s

end Sys2Proof.Machine
end

