-- ==== Sys2Proof/Machine/Slips.lean ====
section
/-! DEFINITION. Slip causes (R31, Table 1-2): what holds score time of a domain on the current edge. -/

namespace Sys2Proof.Machine

def linkRt (s : State) (n : Nat) : LinkRt := tabGet (fun _ => {}) s.links n
def setLink (n : Nat) (r : LinkRt) (s : State) : State := { s with links := tabSet (fun _ => {}) n r s.links }
def lnkState (s : State) (n : Nat) : Nat := s.rf (aLnkStat n) 28 4

/-! ### Lock-step hold (R337, R338) -/

def lockstep (s : State) : Bool := s.rbit aPealCtl 31
def participates (s : State) (d : Nat) : Bool := lockstep s && (s.reg aPealCtl).getLsbD d
/-- TOL_CTL.SRC 0 FREE, 1 PPS, 2 LINK (Table 7-9): a device whose Toll parent is no link is a root. -/
def tollSrc (s : State) : Nat := s.rf aTolCtl 18 2
def tollParent (s : State) : Nat := s.rf aTolCtl 20 4
def isRoot (s : State) : Bool := decide (tollSrc s ≠ 2)
/-- Log entry 44, DESIGN CHOICE. -/
def childPorts (s : State) : List Nat := maskBits 16 (s.rf aTolCtl 0 16)

/-- A participating domain slips with a cause other than PEAL. -/
def originates (s : State) : Bool :=
  (List.range 8).any (fun d => partPresent s d && decide (domLow s d = d) && participates s d && slipping s d &&
    decide ((domRt s d).causes % 16 ≠ 0))
def childUp (s : State) : Bool := (childPorts s).any (fun n => (linkRt s n).rxUp)
/-- HOLD_UP this device sends on its PARENT port. -/
def sendUp (s : State) : Bool := lockstep s && !isRoot s && (originates s || childUp s)
/-- HOLD_DOWN this device sends on its CHILD_EN ports. -/
def sendDown (s : State) : Bool :=
  if isRoot s then lockstep s && (originates s || childUp s) else (linkRt s (tollParent s)).rxDown
def pealHolds (s : State) (d : Nat) : Bool := participates s d && sendDown s

/-! ### HOLD (R364) -/

/-- A HOLD channel that is full and whose ranges contain a unit of the domain. -/
def holdHolds (s : State) (d : Nat) : Bool :=
  (List.range 24).any (fun n => chanPresent s n && s.rbit (aChCtl n) 31 && s.rbit (aChCtl n) 30 && chanFull s n &&
    (maskBits 8 (domMask s d)).any (fun p => coversPart s n p))

/-! ### All causes -/

/-- Releases due under SLIP whose queue is empty: RELEASE and LINK. -/
def lateMask (s : State) (d : Nat) : Nat :=
  (dueQueues s d).foldl (fun m q =>
    match dueRel s q with
    | some r => if r.slip && decide ((queueRt s q).entries = []) then m ||| queueCause q else m
    | none => m) 0

/-- Throttle window W of a domain in fc (R747). -/
def winLen (s : State) (d : Nat) : Nat := 2 ^ min 14 ((domRt s d).limit - 1)
/-- Largest throttle value T of a domain's partitions. -/
def maxThrottle (s : State) (d : Nat) : Nat := (maskBits 8 (domMask s d)).foldl (fun m p => max m (s.rf (aPwr 4 p 0) 0 16)) 0
/-- A window begins on the current edge, and its throttle has not been taken yet. -/
def windowOpens (s : State) (d : Nat) : Bool :=
  decide ((fcOf s d).toNat % winLen s d = 0) && !(domRt s d).done.contains (14, 0, 0)
/-- Throttle in force in the current window; a change of T waits for the next. -/
def throttleNow (s : State) (d : Nat) : Nat := if windowOpens s d then maxThrottle s d else (domRt s d).thermal
/-- The current edge is one of the first L edges of its window. -/
def inThrottle (s : State) (d : Nat) : Bool :=
  decide ((fcOf s d).toNat % winLen s d < throttleNow s d * winLen s d / 256)
/-- THERMAL is active on those edges, and on the first edge after a switch that held some (R747, R755).
(log entry 89, DESIGN CHOICE) -/
def thermalHolds (s : State) (d : Nat) : Bool := inThrottle s d || (domRt s d).carry

/-- Causes active on the current edge. -/
def slipCauses (s : State) (d : Nat) : Nat :=
  lateMask s d + (if holdHolds s d then 4 else 0) + (if thermalHolds s d then 8 else 0) + (if pealHolds s d then 16 else 0)

/-- The current edge belongs to the run (R168): its last score cycle is LENGTH_SC - 1. -/
def inRun (s : State) (d : Nat) : Bool := match runCtx s d with | some r => decide (relSc s d < r.ctx.len) | none => false

/-- A PLAN_STOP or DRAIN waits for an edge of the domain, and one has come since. -/
def stopWaits (s : State) (d : Nat) : Bool :=
  s.host.outst.any (fun o => o.acc && decide (o.a = d) && decide (o.c = 1) && (decide (o.op = 0x25) || (decide (o.op = 0x82) && decide (o.b = 0))))

/-- Planned actions of the domain take place on this edge (R25, R32): a context runs and no cause holds it. -/
def actsOn (s : State) (d : Nat) : Bool :=
  inRun s d && decide (slipCauses s d = 0) && !stopWaits s d &&
    !(match (domRt s d).pend with | some w => w.armed && w.atToll.isNone | none => false)
/-- The same for the domain of partition p. -/
def actsNow (s : State) (p : Nat) : Bool := actsOn s (domLow s p)

/-! ### Rows of the network -/

/-- ROUTE: a scheduled route set takes effect (R138). -/
def execRoute (unit set : Nat) (s : State) : Out :=
  if !arrayUnit unit then .fault (.noSuchInstance "unit" unit)
  else .next (if actsNow s (unitPart unit) && schedNow s unit 2 0 set then doRoute unit set s else s)

/-- STEER: a scheduled run of a steer node or relay starts (R140). -/
def execSteer (unit elem len : Nat) (s : State) : Out :=
  if !arrayUnit unit then .fault (.noSuchInstance "unit" unit)
  else
    let ok := match blkOf s unit 2 with
      | some b => b.sched.any (fun e => decide (e.elem = elem) && decide (1 ≤ elem) && decide (elem ≤ 4) && decide (e.len = len) &&
          decide (e.sc = relSc s (unitPart unit)))
      | none => false
    .next (if actsNow s (unitPart unit) && ok then doSteer unit elem len s else s)

/-- CREDIT_LATE: the watchdog of a source finds a credit overdue at the end of its sc (R149). -/
def execCreditLate (unit src : Nat) (s : State) : Out :=
  if !arrayUnit unit then .fault (.noSuchInstance "unit" unit)
  else .next (if actsNow s (unitPart unit) && lateSends s (32 * unit + src) then
      onceAt (domLow s (unitPart unit)) (9, unit, src) (creditLate (32 * unit + src)) s else s)

end Sys2Proof.Machine
end

