-- ==== Sys2Proof/Machine/TollState.lean ====
section
/-! DEFINITION. Toll (chapter 7): the counter and its discipline, its states, steps, and the starts that wait on it. -/

namespace Sys2Proof.Machine

def tlFree : Nat := 0
def tlAcquire : Nat := 1
def tlLocked : Nat := 2
def tlHoldover : Nat := 3

def setToll (r : TollRt) (s : State) : State := { s with toll := r }

/-! ### INCR (R238) -/

/-- 12.8 tt in 2^-32 tt: 8 integer and 32 fractional bits. -/
def incrNominal : Nat := 12 * 2 ^ 32 + 0xCCCCCCCD
/-- 200 ppm of it. -/
def incrSwing : Nat := incrNominal / 5000
def clampIncr (i : Int) : Nat :=
  if i < (incrNominal - incrSwing : Nat) then incrNominal - incrSwing
  else if (incrNominal + incrSwing : Nat) < i then incrNominal + incrSwing else i.toNat
def incrOf (s : State) : Nat := s.rf aTolIncrH 0 8 * 2 ^ 32 + (s.reg aTolIncrL).toNat
def setIncr (i : Nat) (s : State) : State := (s.setReg aTolIncrH (BitVec.ofNat 32 (i / 2 ^ 32))).setReg aTolIncrL (BitVec.ofNat 32 i)

/-! ### Pending Toll starts (R262) -/

/-- A pending Toll start of partition p is cancelled: nothing starts, and its PLAN_START ends with E_STATE. -/
def cancelStart (p : Nat) (s : State) : State :=
  let r := domRt s p
  let drop (o : Option WaitSw) : Bool := match o with | some w => w.atToll.isSome | none => false
  if drop r.pend then
    let m := domMask s p
    let s := setDomRt p { r with pend := none } s
    let s := putParts aPlnStat 8 8 (match r.resume with | some x => x.ctx | none => 0xFF) m s
    let s := if plnState s p = stSwitch && (domRt s (domLow s p)).sw.isNone then setPln (domLow s p) stIdle 0xFF 0xFF s else s
    endWaiters p sState sState s
  else if drop r.chg then
    -- the class change under way ends with no context to switch to
    endWaiters p sState sState (setDomRt p { r with chg := r.chg.map (fun w => { w with ctx := 0xFF, atToll := none }) } s)
  else s

def cancelTollStarts (s : State) : State := forN 8 (fun p s => cancelStart p s) s

/-! ### States (Table 7-6) -/

/-- INCR of a state: nominal in FREERUN, and in ACQUIRE under FREE; the mean of the last 16 in HOLDOVER. -/
def stateIncr (s : State) (st : Nat) : Nat :=
  let l := s.toll.incrs
  if st = tlFree || (st = tlAcquire && tollSrc s = 0) then incrNominal
  else if st = tlHoldover then (if l = [] then incrOf s else l.foldl (· + ·) 0 / l.length)
  else incrOf s

/-- The service level offered once the MRP is ready (R712, R713): S1 without a present partition, S3 while a present port is
UP and Toll is LOCKED. A change raises PF0 vector 14. (log entry 74, DESIGN CHOICE) -/
def svcLevel (s : State) : Nat :=
  if partMaskPresent s = 0 then 1
  else if tollState s = tlLocked && (List.range 16).any (fun n => portPresent s n && decide (lnkState s n = 5)) then 3 else 2
/-- Log entry 74, DESIGN CHOICE. -/
def refreshSvc (s : State) : State :=
  if !mrpReady s || decide (svcLevel s = s.rf aDevStatus 28 2) then s
  else raise 0 14 (s.put aDevStatus 28 2 (svcLevel s))

/-- A change of state: its asynchronous record and vector 14 (Tables 18-4, 18-9). Leaving LOCKED or HOLDOVER for ACQUIRE or
FREERUN cancels pending Toll starts (R262). (log entry 45, DESIGN CHOICE) -/
def setTollState (st : Nat) (s : State) : State :=
  let was := tollState s
  if was = st then s
  else
    let s := setIncr (stateIncr s st) (s.put aTolStat 30 2 st)
    let s := setToll { s.toll with inBand := 0, pendCorr := if st = tlAcquire || st = tlLocked then s.toll.pendCorr else 0 } s
    let s := if 2 ≤ was ∧ st ≤ 1 then cancelTollStarts s else s
    refreshSvc (raise 0 14 (asyncTo 0 sOk 0xFF 4 st allOnes48 s))

/-- The reference is lost (R241): HOLDOVER from LOCKED. -/
def refLost (s : State) : State :=
  if tollState s = tlLocked then setTollState tlHoldover s
  else if tollSrc s = 0 && s.toll.refclk = 0 && tollState s = tlAcquire then setTollState tlFree s
  else s

/-- The reference is regained, or becomes valid. -/
def refRegained (s : State) : State := if tollState s = tlHoldover || tollState s = tlFree then setTollState tlAcquire s else s

/-! ### Steps and corrections (R244, R246) -/

/-- Some trace channel is enabled. -/
def anyChannel (s : State) : Bool := (List.range 24).any (fun n => chanPresent s n && s.rbit (aChCtl n) 31)

/-- Toll as one number in 2^-32 tt. -/
def tollFine (s : State) : Nat := s.toll.now.toNat * 2 ^ 32 + s.toll.frac.toNat
def putFine (i : Int) (s : State) : State :=
  let v := (i % (2 ^ 96 : Int)).toNat
  setToll { s.toll with now := BitVec.ofNat 64 (v / 2 ^ 32), frac := BitVec.ofNat 32 v } s

/-- A step: each enabled channel writes TOLL with its step flag before any later stamp, STEPPED is set, and pending Toll
starts are cancelled (R244, R249, R262). -/
def stepTo (fine : Int) (s : State) : State :=
  let s := (putFine fine s).setBit aTolStat 22 true
  let s := forN 24 (fun n s =>
    if chanPresent s n && s.rbit (aChCtl n) 31 then writeToll n s.toll.now (setChRt n { chRt s n with stepped := true } s) else s) s
  cancelTollStarts s

/-- What is removed from Toll leaves every kept offset (R246). (log entry 43, DESIGN CHOICE) -/
def takeOff (x : Int) (s : State) : State := setToll { s.toll with offsets := s.toll.offsets.map (· - x) } s

/-- Filtered offset in 2^-32 tt: the mean of those kept. -/
def filtered (s : State) : Int :=
  let l := s.toll.offsets
  if l = [] then 0 else l.foldl (· + ·) 0 / (l.length : Int)

/-- TOL_OFFSET: whole tt, saturating at 32 bits. (log entry 42, DESIGN CHOICE) -/
def tollOffset (s : State) : Word :=
  let i := filtered s / (2 ^ 32 : Int)
  BitVec.ofInt 32 (max (-(2 ^ 31)) (min i (2 ^ 31 - 1)))

/-- A new offset (2^-32 tt) enters the filter, and the discipline answers it (R244, R246, R248, Table 7-6). `mayLock` is
R243's condition. (log entry 42, DESIGN CHOICE) -/
def newOffset (o : Int) (mayLock : Bool) (s : State) : State :=
  let l := (s.toll.offsets ++ [o])
  let s := setToll { s.toll with offsets := l.drop (l.length - 16) } s
  let f := filtered s
  let s := if tollState s = tlAcquire && s.rbit aTolCtl 17 && decide (64000 * 2 ^ 32 < f.natAbs) && (decide (f < 0) || (s.rbit aTolCtl 16 && !anyChannel s)) then
      let s := stepTo ((tollFine s : Int) - f) (takeOff f s)
      setToll { s.toll with pendCorr := 0 } s
    else setToll { s.toll with pendCorr := f } s
  let s := s.bump
  let i := clampIncr (Config.tollTrim s.freeCtr).toNat
  let is := s.toll.incrs ++ [i]
  let s := setIncr i (setToll { s.toll with incrs := is.drop (is.length - 16) } s)
  if f.natAbs ≤ 16 * 2 ^ 32 then
    let s := setToll { s.toll with inBand := s.toll.inBand + 1 } s
    if 16 ≤ s.toll.inBand && mayLock && decide (tollState s = tlAcquire) then setTollState tlLocked s else s
  else setToll { s.toll with inBand := 0 } s

/-! ### Seconds (R249) -/

/-- Log entry 43, DESIGN CHOICE. -/
def second : Nat := 64000000000
/-- PPS_OFF, signed tt. -/
def ppsOff (s : State) : Int := (s.reg aTolPpsoff).toInt

/-- Set Toll to a time, forward always, backward only when a backward step may be made: whether it was set. -/
def setTime (t : Int) (s : State) : Bool × State :=
  let d := (BitVec.ofInt 64 (t - (s.toll.now.toNat : Int))).toInt
  if d < 0 && !(s.rbit aTolCtl 16 && !anyChannel s) then (false, errFlag flagState 0 0 (offOf aTolSetsec) s)
  else (true, stepTo (t * 2 ^ 32) s)

/-! ### The TKCLK edge -/

/-- The increment of one edge: INCR less the part of the pending correction that R238 lets it remove.
(log entry 42, DESIGN CHOICE) -/
def tickIncr (s : State) : Nat := clampIncr ((incrOf s : Int) - s.toll.pendCorr)

/-- One TKCLK edge: Toll adds its increment; what the slew removes leaves the kept offsets; a second set under FREE takes
effect. (log entry 2, DESIGN CHOICE) -/
def tollTick (s : State) : State :=
  let slews := decide (tollSrc s ≠ 0) && (decide (tollState s = tlAcquire) || decide (tollState s = tlLocked))
  let e := if slews then tickIncr s else incrOf s
  let x := (incrOf s : Int) - e
  let s := putFine ((tollFine s : Int) + e) s
  let s := if slews && x ≠ 0 then takeOff x (setToll { s.toll with pendCorr := s.toll.pendCorr - x } s) else s
  match s.toll.setSec with
  | none => s
  | some n => if tollSrc s = 0 then (setTime (n * second) (setToll { s.toll with setSec := none } s)).2 else s

end Sys2Proof.Machine
end

