-- ==== Sys2Proof/Machine/Cu.lean ====
section
/-! DEFINITION. The compute units (chapter 2): one score cycle of the six-stage pipeline, slot switches, weight loads,
residue faults and the S5 buffer. -/

namespace Sys2Proof.Machine

def cuRt (s : State) (u : Nat) : CuRt := tabGet (fun _ => {}) s.fab.cus u
def setCu (u : Nat) (r : CuRt) (s : State) : State :=
  { s with fab := { s.fab with cus := tabSet (fun _ => {}) u r s.fab.cus } }

/-! ### Op slots (Table 2-7) -/

/-- Op slot i of a CU in the running context, as a number. -/
def opSlot (s : State) (u i : Nat) : Nat := leNat (objNum (blkOf s u 0) i)
def opFmtA (o : Nat) : Nat := nfld o 28 4
def opFmtW (o : Nat) : Nat := nfld o 32 4
def opMode (o : Nat) : Nat := nfld o 36 2
def opEmit (o : Nat) : Bool := nbit o 38
def opClr (o : Nat) : Bool := nbit o 39
def opAccBase (o : Nat) : Nat := nfld o 40 4
def opAccCnt (o : Nat) : Nat := nfld o 44 4
def opWrfBase (o : Nat) : Nat := nfld o 48 4
def opWrfCnt (o : Nat) : Nat := nfld o 52 4
def opWldBase (o : Nat) : Nat := nfld o 56 4
def opWldEn (o : Nat) : Bool := nbit o 60
def opDst (o : Nat) : Bool := nbit o 61
def opS3 (o : Nat) : Nat := nfld o 62 5
def opSrcA (o : Nat) : Nat := nfld o 67 3
def opSrcB (o : Nat) : Nat := nfld o 70 3
def opSrcC (o : Nat) : Nat := nfld o 73 3
def opS4 (o : Nat) : Nat := nfld o 76 4
def opShuf (o : Nat) : Nat := nfld o 80 4
def opOut (o : Nat) : Nat := nfld o 84 4
def opRnd (o : Nat) : Bool := nbit o 88
def opSat (o : Nat) : Bool := nbit o 89
def opSteer (o : Nat) : Bool := nbit o 90
def opLane (o : Nat) : Nat := nfld o 91 5
def opImm (o : Nat) : Nat := nfld o 96 32
def opBypass (o : Nat) : Bool := decide (opMode o = 2)

def cuAcc (r : CuRt) (i : Nat) : List Nat := tabGet (fun _ => List.replicate 32 0) r.acc i
def putAcc (i : Nat) (v : List Nat) (r : CuRt) : CuRt := { r with acc := tabSet (fun _ => List.replicate 32 0) i v r.acc }
def cuWrf (r : CuRt) (i : Nat) : List Nat × List Nat := tabGet (fun _ => (List.replicate 32 0, List.replicate 32 0)) r.wrf i

/-! ### S0 and S1 -/

/-- Elements of a 128-bit chunk. -/
def chunkElems (f : Nat) (c : Nat) : List Fx := (List.range (128 / elemBits f)).map (fun i => decElem f (nfld c (elemBits f * i) (elemBits f)))

def encDot : Fx → Nat × Int × Int
  | .fin n m e => (0, signed n m, e)
  | .inf false => (1, 0, 0)
  | .inf true => (2, 0, 0)
  | .nan => (3, 0, 0)
def decDot (d : Nat × Int × Int) : Fx :=
  match d.1 with
  | 0 => .fin (decide (d.2.1 < 0)) d.2.1.natAbs d.2.2
  | 1 => .inf false
  | 2 => .inf true
  | _ => .nan

/-- D of one lane with its scales (R61 to R63): `xa` and `xw` are E8M0 bytes of MX formats. -/
def laneDot (o chunk word xa xw : Nat) : Fx :=
  let d := dotFx ((chunkElems (opFmtA o) chunk).zip (chunkElems (opFmtW o) word))
  if isMx (opFmtA o) then (if xa = 0xFF || xw = 0xFF then .nan else d.scale ((xa : Int) - 127 + ((xw : Int) - 127))) else d

/-- Block scale of chunk `c` of element vector `v` of a group: MXFP4 blocks span one chunk, MXFP8 blocks two (R62). -/
def blockScale (o : Nat) (scale : List Byte) (v c : Nat) : Nat :=
  byteAt scale (if opFmtA o = 1 then 4 * v + c else 2 * v + c / 2)

/-- Element vectors of a group. -/
def groupLen (o : Nat) : Nat := if opFmtA o = 1 then 16 else 32

/-! ### S5 -/

/-- Results that fill a vector (R70), and the vectors a full pack becomes: FP32 takes two vectors for one result. -/
def packNeed (f : Nat) : Nat := match f with | 4 => 4 | 5 => 2 | _ => 1

def condOf (f : Nat) (l : List Bool) : Bool :=
  match l with
  | [] => false
  | c :: r => if r.all (· == c) then c else Config.packCond f l

def mkEnt (valid cond : Bool) (b : List Byte) : Ent :=
  { data := if valid then padTo 64 b else zeros 64, valid := valid, cond := valid && cond }

/-- Vectors of a full pack. (log entry 15, DESIGN CHOICE) -/
def packOut (f : Nat) (l : List (List Nat × Bool × Bool)) : List Ent :=
  let valid := l.any (fun x => x.2.1)
  let cond := condOf f (l.map (fun x => x.2.2))
  if f = 7 then
    (match l with
     | x :: _ => [mkEnt valid cond ((x.1.take 16).flatMap (leBytes 4)), mkEnt valid cond ((x.1.drop 16).flatMap (leBytes 4))]
     | [] => [])
  else [mkEnt valid cond (leBytes 64 (packCodes (elemBits f) (l.flatMap (fun x => x.1))))]

/-- The group of the blocks held (R70): the scale vector, then the element vectors. -/
def groupOut (f : Nat) (l : List (Nat × List Nat × Bool × Bool)) : List Ent :=
  let per := if f = 1 then 4 else 2
  let cond (x : List (Nat × List Nat × Bool × Bool)) : Bool := condOf f (x.map (fun b => b.2.2.2))
  mkEnt (l.any (fun b => b.2.2.1)) (cond l) (l.map (fun b => bite b.1)) ::
    (List.range ((l.length + per - 1) / per)).map (fun i =>
      let x := (l.drop (per * i)).take per
      mkEnt (x.any (fun b => b.2.2.1)) (cond x) (leBytes 64 (packCodes (elemBits f) (x.flatMap (fun b => b.2.1)))))

def flushBlocks (r : CuRt) : CuRt :=
  if r.blocks = [] then r else { r with out := r.out ++ groupOut r.blkFmt r.blocks, blocks := [] }

/-- 64-byte beats that S5 holds. -/
def s5Beats (r : CuRt) : Nat :=
  r.out.length + (r.blocks.length * (if r.blkFmt = 1 then 16 else 32) + 63) / 64

/-- A vector reaches S5 (R67 to R70, R75, R90): `l` are its FP32 lanes. The lanes that a NaN made 0 are returned.
(log entry 16, DESIGN CHOICE) -/
def s5Take (o : Nat) (p : PipeEnt) (l : List Nat) (r : CuRt) : CuRt × List Nat :=
  let f := opOut o
  let cond := opSteer o && p.valid && (let v := l.getD (opLane o) 0; !(dec32 v).isNan && !(dec32 v).isZero)
  let l := if p.valid then l else List.replicate 32 0
  if f = 0 then (r, [])
  else if isMx f then
    let b := mxBlock f (opRnd o) l
    let r := if r.blocks ≠ [] && decide (r.blkFmt ≠ f) then flushBlocks r else r
    let r := { r with blocks := r.blocks ++ [(b.1, b.2, p.valid, cond)], blkFmt := f, blkSeq := p.seq }
    (if r.blocks.length = 64 then flushBlocks r else r, [])
  else
    let conv := l.map (fun v => if f = 6 then (toBf16 (opRnd o) (opSat o) v, false) else if f = 4 then toInt (opRnd o) 4 v
      else if f = 5 then toInt (opRnd o) 8 v else (v, false))
    let nans := (List.range 32).filter (fun i => p.valid && (conv.getD i (0, false)).2)
    let pk := (if r.packFmt = f then r.pack else []) ++ [(conv.map (·.1), p.valid, cond)]
    if pk.length = packNeed f then ({ r with pack := [], packFmt := f, out := r.out ++ packOut f pk }, nans)
    else ({ r with pack := pk, packFmt := f }, nans)

/-! ### Faults and marks -/

/-- Residue fault of a lane (R83, Tables 2-9 and 2-10). -/
def residueFault (u stage lane acc slot sc : Nat) (injected : Bool) (s : State) : State :=
  let p := unitPart u
  let d := domLow s p
  let s := (captureTie p (aCuRfltA p) (aCuRfltB p) (fun w => fld w 0 12 * 2 ^ 7 + fld w 23 5 * 2 ^ 2 + fld w 28 2)
    (BitVec.ofNat 32 (stage * 2 ^ 28 + lane * 2 ^ 23 + acc * 2 ^ 19 + slot * 2 ^ 13 + u)) (BitVec.ofNat 32 sc) s).2
  addFault d { mkFault s d 1 stage u (lane + 32 * slot) with injected := injected } s

/-- An armed injection hits this step of a unit and stage (R86): its lane. -/
def injHits (s : State) (u stage : Nat) : Option Nat :=
  if s.rbit aCuResinj 31 && decide (s.rf aCuResinj 0 12 = u) && decide (s.rf aCuResinj 29 2 = stage) then some (s.rf aCuResinj 24 5) else none

/-- LAYER and OPER of a slot (R177). -/
def lotOf (s : State) (u slot : Nat) : Nat × Nat :=
  match unitCtx s u with
  | none => (0, 0)
  | some r => match r.ctx.lotb.find? (fun e => decide (e.unit = u) && decide (e.slot = slot)) with
    | some e => (e.layer, e.oper) | none => (0, 0)

/-- Slot entry (R54, R57, R77): counters and load pointer return to their starts; SLOT event and marker (R416).
(log entry 35, DESIGN CHOICE) -/
def enterSlot (u slot : Nat) (s : State) : State :=
  let r := cuRt s u
  let d := domLow s (unitPart u)
  let o := opSlot s u slot
  let lot := lotOf s u slot
  let mk := match r.cur with | none => true | some old => decide (lotOf s u old ≠ lot)
  let pre := if mk then
      [mkPkt s clsMarker u 0 s.toll.now (markerBytes 0 u (relSc s d) slot lot.1 lot.2 (domRt s d).job.toNat)] else []
  let s := setCu u { r with cur := some slot, seq := r.seq + 1, pend := none, fresh := opClr o && !opBypass o, a := 0, w := 0,
                            ldp := opWldBase o, ldv := [], gpos := 0 } s
  countUnit u 0x13 1 (scoredEvent d 1 u slot (relSc s d) pre s)

/-! ### One score cycle -/

/-- Advance a and w (R54). -/
def stepCounters (o : Nat) (r : CuRt) : CuRt :=
  if r.a < opAccCnt o then { r with a := r.a + 1 }
  else { r with a := 0, w := if r.w < opWrfCnt o then r.w + 1 else 0 }

/-- Present the next chunk of the buffer: one dot step (R53, R61). -/
def presentChunk (u o : Nat) (bad : List Nat) (s : State) : State :=
  let r := cuRt s u
  match r.chunk with
  | none => s
  | some (v, valid) =>
    let c := r.chunkAt
    let word := leAt v (16 * c) 16
    let xa := blockScale o r.scale (r.gpos - 2) c
    let e := cuWrf r ((opWrfBase o + r.w) % 16)
    let dots := if valid then (List.range 32).map (fun i => encDot (laneDot o word (e.1.getD i 0) xa (e.2.getD i 0))) else []
    let emit := opEmit o && decide (r.w = opWrfCnt o)
    let p : PipeEnt := { seq := r.seq, slot := r.cur.getD 0, valid := valid, fresh := r.fresh, row0 := decide (r.w = 0), emit := emit,
                         ai := (opAccBase o + r.a) % 16, dots := dots, bad := bad, sc := (scOf s (unitPart u)).toNat % 2 ^ 32 }
    let r := stepCounters o { r with pipe := r.pipe ++ [p], fresh := false, chunkAt := c + 1, chunk := if c = 3 then none else r.chunk }
    let s := countUnit u (if valid then 0x10 else 0x11) 1 (setCu u r s)
    if valid then countCluster (unitCluster u) 0x86 (unitPart u) 1 s else s

def in0 (u : Nat) : Nat := 32 * u + 16
def in1 (u : Nat) : Nat := 32 * u + 17

/-- The slot under which the next acceptance falls (R77). -/
def effSlot (r : CuRt) : Option Nat := match r.pend with | some i => some i | none => r.cur

/-- A switch that is pending takes effect for an acceptance. -/
def enterIfPend (u : Nat) (s : State) : State := match (cuRt s u).pend with | some i => enterSlot u i s | none => s

/-- The next vector of a dot stream is a scale vector. (log entry 35, DESIGN CHOICE) -/
def wantScale (o : Nat) (r : CuRt) : Bool := isMx (opFmtA o) && decide (r.gpos = 0)

/-- Accept the scale vector at the head of IN0 (Table 2-3, S0's scale register). (log entry 35, DESIGN CHOICE) -/
def takeScale (u : Nat) (s : State) : State :=
  match takeQueue (in0 u) s with
  | (none, s) => s
  | (some e, s) => let r := cuRt s u; setCu u { r with scale := e.data, gpos := 1 } s

/-- S0 in a dot slot: the chunk buffer, then IN0 (R53). `gpos` counts the vectors of the group so far. -/
def s0Dot (u o : Nat) (bad : List Nat) (s : State) : State :=
  let r := cuRt s u
  let s :=
    if r.chunk.isSome then presentChunk u o bad (enterIfPend u s)
    else if netQueue s (in0 u) = [] then s
    else
      let s := enterIfPend u s
      let r := cuRt s u
      if wantScale o r then takeScale u s
      else
        match takeQueue (in0 u) s with
        | (none, s) => s
        | (some e, s) =>
          let r := cuRt s u
          presentChunk u o bad (setCu u { r with chunk := some (e.data, e.valid), chunkAt := 0, gpos := if isMx (opFmtA o) then r.gpos + 1 else 1 } s)
  -- the buffer has run out: the group is over or goes on, and a scale vector may be accepted on this sc
  let r := cuRt s u
  if r.chunk.isNone && isMx (opFmtA o) && decide (groupLen o < r.gpos) && r.pend.isNone then
    takeScale u (setCu u { r with gpos := 0 } s)
  else s

/-- S0 in a BYPASS slot (R71, R72). (log entry 15, DESIGN CHOICE) -/
def s0Bypass (u o : Nat) (s : State) : State :=
  let f := opFmtA o
  let q0 := netQueue s (in0 u)
  let q1 := netQueue s (in1 u)
  if q0 = [] || (decide (f = 7) && decide (q1 = [])) then s
  else
    let s := enterIfPend u s
    match takeQueue (in0 u) s with
    | (none, s) => s
    | (some e, s) =>
      let x := if f = 7 then takeQueue (in1 u) s else (none, s)
      let s := x.2
      let valid := e.valid && (match x.1 with | some y => y.valid | none => true)
      let lane (b : List Byte) (i : Nat) : Nat := leAt b (4 * i) 4
      let hi (i : Nat) : Nat := match x.1 with | some y => lane y.data i | none => (Config.wideLane e.data i).toNat
      let wide := (List.range 32).map (fun i => if i < 16 then lane e.data i else hi (i - 16))
      let vals := if f = 7 then wide else if f = 6 then (List.range 32).map (fun i => leAt e.data (2 * i) 2 * 2 ^ 16) else List.replicate 32 0
      let r := cuRt s u
      let p : PipeEnt := { seq := r.seq, slot := r.cur.getD 0, valid := valid, emit := true, ai := (opAccBase o + r.a) % 16,
                           vals := vals, wide := wide, sc := (scOf s (unitPart u)).toNat % 2 ^ 32 }
      setCu u { r with pipe := r.pipe ++ [p], a := if r.a < opAccCnt o then r.a + 1 else 0 } s

/-- IN1 fills WRF entries (R57): 8 element vectors, and a ninth with the lane scales in MX formats. -/
def loadWrf (u : Nat) (s : State) : State :=
  let r := cuRt s u
  match effSlot r with
  | none => s
  | some i =>
    let o := opSlot s u i
    if !opWldEn o || decide (netQueue s (in1 u) = []) then s
    else
      let s := enterIfPend u s
      match takeQueue (in1 u) s with
      | (none, s) => s
      | (some e, s) =>
        let r := cuRt s u
        let vs := r.ldv ++ [e.data]
        if vs.length = (if isMx (opFmtW o) then 9 else 8) then
          let words := (List.range 32).map (fun l => leAt (vs.getD (l / 4) []) (16 * (l % 4)) 16)
          let scales := if isMx (opFmtW o) then (List.range 32).map (byteAt (vs.getD 8 [])) else List.replicate 32 0
          let wrf := tabSet (fun _ => (List.replicate 32 0, List.replicate 32 0)) r.ldp (words, scales) r.wrf
          countUnit u 0x14 1 (setCu u { r with ldv := [], ldp := (r.ldp + 1) % 16, wrf := wrf } s)
        else setCu u { r with ldv := vs } s

/-- S2 (R55, R56, R64, R65, R83, R86): the sums of every lane are committed, but for those whose residues differ. -/
def s2 (u : Nat) (p : PipeEnt) (s : State) : PipeEnt × State :=
  let o := opSlot s u p.slot
  if opBypass o then (p, s)
  else
    let r := cuRt s u
    let r := if p.fresh then (List.range (opAccCnt o + 1)).foldl (fun r i => putAcc ((opAccBase o + i) % 16) (List.replicate 32 0) r) r else r
    let inj := if p.valid then injHits s u 2 else none
    -- a bubble adds nothing, and S1 compares finite sums only (R80, R82)
    let bad (i : Nat) : Bool := p.bad.contains (64 + i) || inj == some i || (p.bad.contains (32 + i) && decide ((p.dots.getD i (0, 0, 0)).1 = 0))
    let old := cuAcc r p.ai
    let isInt := decide (opMode o = 1)
    let sums := (List.range 32).map (fun i =>
      let d := decDot (p.dots.getD i (0, 0, 0))
      if !p.valid || bad i then (old.getD i 0, false) else if isInt then accI32 (old.getD i 0) (fxInt d) else (accF32 (old.getD i 0) d, false))
    let vals := sums.map (·.1)
    let sats := (List.range 32).filter (fun i => (sums.getD i (0, false)).2)
    let was := tabGet (fun _ => false) r.pass p.ai
    let ok := if p.row0 then p.valid else was || p.valid
    -- a lane with a residue fault commits nothing (R83)
    let r := putAcc p.ai (if p.emit then (List.range 32).map (fun i => if p.valid && bad i then vals.getD i 0 else 0) else vals) r
    let r := { r with pass := tabSet (fun _ => false) p.ai (if p.emit then false else ok) r.pass, sat := r.sat ||| maskOf sats }
    let s := setCu u r s
    let s := forL sats (fun i s => plainEvent 0x10 u i s) (countUnit u 0x15 sats.length s)
    let s := forL ((List.range 32).filter (fun i => p.valid && p.bad.contains (64 + i))) (fun i s => residueFault u 2 i p.ai p.slot p.sc false s) s
    let s := match inj with
      | some i => residueFault u 2 i p.ai p.slot p.sc true (s.setBit aCuResinj 31 false)
      | none => s
    let s := if p.emit && ok then countUnit u 0x12 1 s else s
    ({ p with valid := if p.emit then ok else p.valid,
              vals := if isInt then vals.map (fun v => (Config.intToF32 (BitVec.ofNat 32 v)).toNat) else vals }, s)

/-- S1's comparison at the end of its second sc (R80, R82, R86). -/
def s1Check (u : Nat) (p : PipeEnt) (s : State) : PipeEnt × State :=
  if opBypass (opSlot s u p.slot) || !p.valid then (p, s)
  else
    let fin (i : Nat) : Bool := decide ((p.dots.getD i (0, 0, 0)).1 = 0)
    let s := forL ((List.range 32).filter (fun i => p.bad.contains (32 + i) && fin i)) (fun i s => residueFault u 1 i p.ai p.slot p.sc false s) s
    match injHits s u 1 with
    | some i => if fin i then ({ p with bad := (32 + i) :: p.bad }, residueFault u 1 i p.ai p.slot p.sc true (s.setBit aCuResinj 31 false)) else (p, s)
    | none => (p, s)

/-- S3 and S4 (Tables 2-5 and 2-6). (log entry 14, DESIGN CHOICE) -/
def s3s4 (u : Nat) (p : PipeEnt) (s : State) : PipeEnt × State :=
  let o := opSlot s u p.slot
  let r := cuRt s u
  let acc := cuAcc r p.ai
  let src (k i : Nat) : Nat := match k with
    | 0 => p.vals.getD i 0 | 1 => p.wide.getD i 0 | 2 => opImm o | 3 => acc.getD i 0 | 5 => one32 | _ => 0
  let res := (List.range 32).map (fun i => s3 (opS3 o) (src (opSrcA o) i) (src (opSrcB o) i) (src (opSrcC o) i))
  let r : CuRt := if opBypass o && opDst o && p.valid then { r with wb := r.wb ++ [(0, p.ai, res)] } else r
  ({ p with vals := s4 (opS4 o) (opShuf o) res }, setCu u r s)

/-- S5 overfills its buffer (R89). -/
def s5Overrun (u : Nat) (s : State) : State :=
  let d := domLow s (unitPart u)
  addFault d { mkFault s d Config.s5Block.toNat Config.s5Kind.toNat u 0 with cls := Config.s5Class.toNat, react := 1 } s

/-- Vectors in the pipeline age by one sc and do that stage's work. -/
def cuPipe (u : Nat) (s : State) : State :=
  let r := cuRt s u
  let ps := r.pipe.map (fun p => { p with age := p.age + 1 })
  let wbs := r.wb
  let s := setCu u { r with pipe := [], wb := [] } s
  let s := forL ps (fun p s =>
    let x : PipeEnt × State := if p.age = 2 then s1Check u p s else if p.age = 3 then s2 u p s else if p.age = 4 && p.emit then s3s4 u p s else (p, s)
    let p := x.1
    let s := x.2
    if p.age = 8 then
      let r := cuRt s u
      let r := if r.blocks ≠ [] && decide (r.blkSeq ≠ p.seq) then flushBlocks r else r
      if p.emit then
        let y := s5Take (opSlot s u p.slot) p p.vals r
        let s := setCu u { y.1 with nan := y.1.nan ||| maskOf y.2 } s
        forL y.2 (fun i s => plainEvent 0x11 u i s) (countUnit u 0x16 y.2.length s)
      else setCu u r s
    else let r := cuRt s u; setCu u { r with pipe := r.pipe ++ [p] } s) s
  -- S3 results reach their accumulators at the end of the second S3 sc, over any S2 sum (R88)
  let s := forL wbs (fun x s => if x.1 = 0 then setCu u (putAcc x.2.1 x.2.2 (cuRt s u)) s else let r := cuRt s u; setCu u { r with wb := r.wb ++ [(x.1 - 1, x.2)] } s) s
  -- one beat moves to OUT and leaves on the next sc
  let r := cuRt s u
  let s := match r.out with
    | [] => s
    | e :: rest => sendLater 1 (32 * u + 16) e (setCu u { r with out := rest } s)
  if 32 < s5Beats (cuRt s u) then s5Overrun u s else s

/-- One score cycle of a CU. `bad` are the lanes of the step presented on it whose residues will differ (32 × stage + lane). -/
def cuStep (u : Nat) (bad : List Nat) (s : State) : State :=
  let t := relSc s (unitPart u)
  let s := match blkOf s u 0 with
    | none => s
    | some b => match b.sched.find? (fun e => decide (e.sc = t) && decide (e.elem = 0)) with
      | some e => let r := cuRt s u; if r.pend = some e.index then s else setCu u { r with pend := some e.index } s
      | none => s
  let s := cuPipe u s
  match effSlot (cuRt s u) with
  | none => s
  | some i =>
    let o := opSlot s u i
    let s := if opBypass o then s0Bypass u o s else s0Dot u o bad s
    loadWrf u s

/-- A CU does its sc once on the current edge. -/
def cuOnce (u : Nat) (bad : List Nat) (s : State) : State :=
  onceAt (domLow s (unitPart u)) (1, u, 0) (cuStep u bad) s

/-- Everything a plan context switch clears in the CUs of a mask of partitions (R58, R86). -/
def clearCus (mask : Nat) (s : State) : State :=
  let s := { s with fab := { s.fab with cus := tabDrop (fun u => mask.testBit (unitPart u)) s.fab.cus } }
  if mask.testBit (unitPart (s.rf aCuResinj 0 12)) then s.setBit aCuResinj 31 false else s

/-- DOT_STEP: the CU's work of this score cycle; `bad` are the lanes whose residue check differs (R53, R80 to R83). -/
def execDotStep (unit : Nat) (bad : List Nat) (s : State) : Out :=
  if !isCu unit then .fault (.noSuchInstance "CU" unit)
  else .next (if actsNow s (unitPart unit) && unitPresent s unit then cuOnce unit bad s else s)

/-- SLOT_SWITCH: the schedule entry of this sc makes a slot pending for the next acceptance (R77). -/
def execSlotSwitch (unit slot : Nat) (s : State) : Out :=
  if !isCu unit then .fault (.noSuchInstance "CU" unit)
  else .next (if actsNow s (unitPart unit) && schedNow s unit 0 0 slot &&
      !(domRt s (domLow s (unitPart unit))).done.contains (1, unit, 0) then
      let r := cuRt s unit
      setCu unit { r with pend := some slot } s
    else s)

end Sys2Proof.Machine
end

