-- ==== Sys2Proof/Machine/Mu.lean ====
section
/-! DEFINITION. Memory units and landing-buffer slices (chapter 3): address generators, banks, ECC. A unit here is an MU's
ID, or 0x1000 + p for the slice of partition p. -/

namespace Sys2Proof.Machine

def muRt (s : State) (u : Nat) : MuRt := tabGet (fun _ => {}) s.fab.mus u
def setMu (u : Nat) (r : MuRt) (s : State) : State :=
  { s with fab := { s.fab with mus := tabSet (fun _ => {}) u r s.fab.mus } }

def isSlice (u : Nat) : Bool := decide (0x1000 ≤ u)
def muPart (u : Nat) : Nat := if isSlice u then u - 0x1000 else unitPart u
def muDom (s : State) (u : Nat) : Nat := domLow s (muPart u)
/-- Words of the memory. -/
def muWords (u : Nat) : Nat := if isSlice u then 32768 else 2560
/-- Bank of a word (R97, R109). -/
def muBank (u w : Nat) : Nat := if isSlice u then (w % 32) ^^^ (w / 32 % 32) else (w % 16) ^^^ (w / 16 % 16)
/-- Row of a word in its bank (R97, R109). -/
def muRow (u w : Nat) : Nat := if isSlice u then w / 32 else w / 16

def sramKey (u w : Nat) : Nat := u * 65536 + w
/-- A word of SRAM; words that nothing has written hold zero (R123). -/
def sramWord (s : State) (u w : Nat) : List Byte := padTo 64 (tabGet (fun _ => []) s.fab.sram (sramKey u w))
/-- Log entry 104, DESIGN CHOICE. -/
def putSram (u w : Nat) (b : List Byte) (s : State) : State :=
  { s with fab := { s.fab with sram := tabSet (fun _ => []) (sramKey u w) (if padTo 64 b = zeros 64 then [] else padTo 64 b) s.fab.sram } }
/-- Bit errors that a word holds: 0 none, 1 correctable, 2 uncorrectable. -/
def sramErr (s : State) (u w : Nat) : Nat := tabGet (fun _ => 0) s.fab.serr (sramKey u w)
def putSerr (u w e : Nat) (s : State) : State :=
  { s with fab := { s.fab with serr := tabSet (fun _ => 0) (sramKey u w) e s.fab.serr } }

/-! ### Programs (Table 3-3) -/

def muBlk (s : State) (u : Nat) : Option UnitBlk :=
  (runCtx s (muDom s u)).bind (fun r => if isSlice u then unitBlk r.ctx (u - 0x1000) 3 else unitBlk r.ctx u 1)
def agProg (s : State) (u i : Nat) : Nat := leNat (objNum (muBlk s u) i)
def pgLag (n : Nat) : Nat := nfld n 271 4
def pgPeriod (n : Nat) : Nat := nfld n 267 4
def pgShift (n : Nat) : Nat := nfld n 263 4
def pgZero (n : Nat) : Bool := nbit n 262
def pgDim (n : Nat) : Nat := nfld n 259 3
def pgInd (n : Nat) : Bool := nbit n 258
def pgMode (n : Nat) : Nat := nfld n 256 2
def pgStride (n d : Nat) : Int := (BitVec.ofNat 16 (nfld n (160 + 16 * d) 16)).toInt
def pgCount (n d : Nat) : Nat := nfld n (64 + 16 * d) 16
def pgLimit (n : Nat) : Nat := nfld n 48 16
def pgWinLen (n : Nat) : Nat := nfld n 32 16
def pgWinBase (n : Nat) : Nat := nfld n 16 16
def pgBase (n : Nat) : Nat := nfld n 0 16
/-- Π (COUNT_j + 1) over j below d (R102). -/
def pgProd (n d : Nat) : Nat := (List.range d).foldl (fun a j => a * (pgCount n j + 1)) 1
def pgLen (n : Nat) : Nat := pgProd n 6
/-- Loop counter i_d at access k. -/
def pgIdx (n k d : Nat) : Nat := k / pgProd n d % (pgCount n d + 1)
/-- Word address of access k with index `idx` (R103). -/
def pgAddr (n k idx : Nat) : Nat :=
  let o : Int := (List.range 6).foldl (fun a d => a + (pgIdx n k d : Int) * pgStride n d) (pgBase n : Int)
  let o := if pgInd n then o + idx * 2 ^ pgShift n else o
  if pgWinLen n = 0 then o.toNat else pgWinBase n + (o % (pgWinLen n : Int)).toNat
/-- Access k takes a new index (R104). -/
def pgTakes (n k : Nat) : Bool := pgInd n && decide (k % pgProd n (pgDim n) = 0)

def agRt (r : MuRt) (a : Nat) : AgRt := tabGet (fun _ => {}) r.ags a
def putAg (a : Nat) (g : AgRt) (r : MuRt) : MuRt := { r with ags := tabSet (fun _ => {}) a g r.ags }

/-! ### Ports -/

/-- The SB whose attachment leads to port LBA j of slice p, and queue or source 18 of it. -/
def lbaKey (p j : Nat) : Nat := 32 * (1024 * (p / 4) + 8 * (p % 4) + j) + 18
/-- Queue that feeds a write port. -/
def wrQueue (u ag : Nat) : Nat := if isSlice u then lbaKey (u - 0x1000) ag else 32 * u + 16
/-- Queue of index vectors: IDX of an MU, the attachment of an LBA port. -/
def idxQueue (u ag : Nat) : Nat := if isSlice u then lbaKey (u - 0x1000) ag else 32 * u + 17
/-- Source that carries a read's word to the network. -/
def rdSource (u ag : Nat) : Nat := if isSlice u then lbaKey (u - 0x1000) ag else 32 * u + 16 + ag
/-- Event unit of a memory's AGs (Tables 11-2 and 12-17). (log entry 36, DESIGN CHOICE) -/
def agUnit (u : Nat) : Nat := if isSlice u then 0x800 + 8 * (u - 0x1000) else u

/-! ### Faults and errors (Tables 3-5 to 3-9) -/

/-- Log entry 17, DESIGN CHOICE. -/
def muFault (kind u bank port : Nat) (s : State) : State :=
  let p := muPart u
  let d := domLow s p
  let s := (captureTie p (aMuAfltA p) (aMuAfltB p) (fun w => fld w 0 13 * 2 ^ 10 + fld w 17 5 * 2 ^ 5 + fld w 22 5)
    (BitVec.ofNat 32 (kind * 2 ^ 27 + bank * 2 ^ 22 + port * 2 ^ 17 + (if isSlice u then 2 ^ 12 else u))) (BitVec.ofNat 32 (scOf s p).toNat) s).2
  addFault d (mkFault s d 2 kind (if isSlice u then agUnit u else u) (bank * 32 + port)) s

/-- ECC capture of partition p (R119, R121). -/
def eccCapture (p : Nat) (ue : Bool) (src gran unit wher : Nat) (s : State) : State :=
  (captureTie p (aMuEccA p) (aMuEccB p) (fun w => fld w 27 2 * 2 ^ 12 + fld w 0 12)
    (BitVec.ofNat 32 (b2n ue * 2 ^ 29 + src * 2 ^ 27 + gran * 2 ^ 24 + unit)) (BitVec.ofNat 32 wher) s).2

/-- A read finds an error (R114 to R116): 1 corrected, 2 uncorrectable. -/
def muEcc (u w e gran : Nat) (injected : Bool) (s : State) : State :=
  let p := muPart u
  let src := b2n (isSlice u)
  let id := if isSlice u then 0 else u
  if e = 1 then
    let s := eccCapture p false src gran id w (s.countSat (aMuEccC p) 0 32 1)
    let s := countCluster (p / 4) 0x85 p 1 (countUnit (agUnit u) 0x24 1 s)
    let r := muRt s u
    let s := if r.wback.isNone then setMu u { r with wback := some w } s else s
    if isSlice u then s else plainEvent 0x13 u gran s
  else
    let s := eccCapture p true src gran id w s
    let d := domLow s p
    addFault d { mkFault s d 9 (1 + src) (if isSlice u then agUnit u else u) 0 with injected := injected } s

/-! ### DATA records (R358) -/

/-- Some channel or comparator takes DATA records of this place. (log entry 95, DESIGN CHOICE) -/
def dataWanted (s : State) (space target index : Nat) : Bool :=
  (List.range 24).any (fun n => chanPresent s n && s.rbit (aChCtl n) 31 && (s.reg (aChCls n)).getLsbD clsData &&
    windowPass s n { space := space, target := target, index := index }) ||
  (List.range 8).any (fun c => decide (s.rf (aClpCmp c 0) 28 4 = 3))

/-- Log entry 95, DESIGN CHOICE. -/
def dataTap (unit space target index wher flags : Nat) (value : List Byte) (s : State) : State :=
  if dataWanted s space target index then
    let k := mkPkt s clsData unit 0 s.toll.now (dataBytes (flags + 2 * space) unit (unitSc s unit) index wher value)
    tapData unit { k with space := space, target := target, index := index, plain := true } s
  else s

/-- Log entry 95, DESIGN CHOICE. -/
def muTap (u w ag : Nat) (wr supp : Bool) (value : List Byte) (s : State) : State :=
  let f := b2n wr + 16 * b2n supp
  if isSlice u then dataTap (0x800 + 8 * (u - 0x1000) + ag % 8) 2 (u - 0x1000) w (u - 0x1000) f value s
  else dataTap u 1 u w 0 f value s

/-! ### Planning the accesses of one score cycle -/

/-- A new index (R104, R105, R136): the index, whether its accesses are suppressed, or the fault kind.
(log entry 35, DESIGN CHOICE; log entry 36, DESIGN CHOICE) -/
def takeIndex (u ag n : Nat) (s : State) : Except Nat (Nat × Bool) × State :=
  let t := relSc s (muPart u)
  let key := if isSlice u then ag else 16
  let s :=
    if isSlice u && decide (tabGet (fun _ => []) (muRt s u).idxs key = []) then
      (match netQueue s (idxQueue u ag) with
       | e :: _ => if e.arr + 2 ≤ t then
           let s := (takeQueue (idxQueue u ag) s).2
           let r := muRt s u
           setMu u { r with idxs := tabSet (fun _ => []) key ((List.range 32).map (fun i => (leAt e.data (2 * i) 2, e.arr, e.valid))) r.idxs } s
         else s
       | [] => s)
    else s
  let r := muRt s u
  match tabGet (fun _ => []) r.idxs key with
  | [] => (.error 3, s)
  | (i, at0, valid) :: rest =>
    if t < at0 + 2 then (.error 3, s)
    else
      let s := countUnit (agUnit u) 0x25 1 (setMu u { r with idxs := tabSet (fun _ => []) key rest r.idxs } s)
      if !valid then (.ok (i, true), s)
      else if i < pgLimit n then (.ok (i, false), s)
      else if pgZero n then
        let s := setMu u { muRt s u with oob := true } s
        (.ok (i, true), plainEvent 0x12 (agUnit u) (ag % 2) s)
      else (.error 2, s)

/-- The access that AG `ag` issues on this sc, if its run has one. -/
def agIssue (u ag : Nat) (s : State) : State :=
  let t := relSc s (muPart u)
  let r := muRt s u
  let g := agRt r ag
  -- a lagged write falls due whatever the run now does
  let due := g.lag.filter (fun x => decide (x.1 = t))
  let wport := if isSlice u then ag else 2
  let g := { g with lag := g.lag.filter (fun x => !decide (x.1 = t)) }
  let s := setMu u { putAg ag g r with acts := r.acts ++ due.map (fun x => { ag := ag, port := wport, wr := true, addr := x.2.1, supp := x.2.2 }) } s
  match g.prog with
  | none => s
  | some i =>
    let n := agProg s u i
    if t < g.start || decide ((t - g.start) % (pgPeriod n + 1) ≠ 0) || decide (pgLen n ≤ g.k) then s
    else
      let x : Except Nat (Nat × Bool) × State := if pgTakes n g.k then takeIndex u ag n s else (.ok (g.idx, g.supp), s)
      let s := x.2
      match x.1 with
      | .error kind =>
        let r := muRt s u
        muFault kind u 0 (if pgMode n = 1 then wport else ag) (setMu u (putAg ag { agRt r ag with k := g.k + 1 } r) s)
      | .ok (idx, supp) =>
        let w := pgAddr n g.k idx
        let act : AgAct := { ag := ag, port := if pgMode n = 1 then wport else ag, wr := decide (pgMode n = 1), addr := w, supp := supp }
        let r := muRt s u
        let g' := { agRt r ag with k := g.k + 1, idx := idx, supp := supp, lag := if pgMode n = 2 then (agRt r ag).lag ++ [(t + pgLag n, w, supp)] else (agRt r ag).lag }
        setMu u { putAg ag g' r with acts := r.acts ++ [act] } s

/-- Runs of the schedule start (R102, R108) with their AG_RUN event. -/
def agStart (u ag prog : Nat) (s : State) : State :=
  onceAt (muDom s u) (2, u, ag) (fun s =>
    let r := muRt s u
    let g := agRt r ag
    let s := setMu u (putAg ag { g with prog := some prog, start := relSc s (muPart u), k := 0, idx := 0, supp := false } r) s
    scoredEvent (muDom s u) 2 (agUnit u) (ag * 256 + prog) (relSc s (muPart u)) [] s) s

def agStarts (u : Nat) (s : State) : State :=
  match muBlk s u with
  | none => s
  | some b => forL (b.sched.filter (fun e => decide (e.sc = relSc s (muPart u)))) (fun e s => agStart u e.elem e.index s) s

/-- IDX accepts a vector on the sc on which it arrives (log entry 34). (log entry 34, DESIGN CHOICE) -/
def idxAccept (u : Nat) (s : State) : State :=
  if isSlice u then s
  else
    match takeQueue (idxQueue u 0) s with
    | (none, s) => s
    | (some e, s) =>
      let r := muRt s u
      let t := relSc s (muPart u)
      let l := tabGet (fun _ => []) r.idxs 16 ++ (List.range 32).map (fun i => (leAt e.data (2 * i) 2, t, e.valid))
      setMu u { r with idxs := tabSet (fun _ => []) 16 l r.idxs } s

/-- Banks that two or more accesses of one sc name (R98, R101): one fault for each, naming its lowest port. -/
def findClashes (u : Nat) (s : State) : State :=
  let r := muRt s u
  let n (b : Nat) : Nat := (r.acts.filter (fun a => decide (muBank u a.addr = b))).length
  let acts := r.acts.map (fun a => { a with clash := decide (2 ≤ n (muBank u a.addr)) })
  let banks := ((sortLe (fun a b => decide (a ≤ b)) ((acts.filter (·.clash)).map (fun a => muBank u a.addr)))).eraseDups
  let s := setMu u { r with acts := acts } s
  forL banks (fun b s =>
    let ports := (acts.filter (fun a => decide (muBank u a.addr = b))).map (·.port)
    muFault 1 u b (ports.foldl min 31) s) s

/-- What the ports of a memory do on this sc is settled once. -/
def muPlan (u : Nat) (s : State) : State :=
  let s := agStarts u s
  onceAt (muDom s u) (10, u, 0) (fun s =>
    let s := idxAccept u s
    let s := setMu u { muRt s u with acts := [] } s
    findClashes u (forL ((muRt s u).ags.map Prod.fst) (fun a s => agIssue u a s) s)) s

/-! ### Performing an access -/

/-- Some TX occurrence of source SLICE takes the word that LBD port j delivers at sc x (R331). -/
def sliceTx (s : State) (p j x : Nat) : Bool :=
  match runCtx s (domLow s p) with
  | none => false
  | some r => r.ctx.links.any (fun l => decide (l.kind = 1) && decide (portPart s l.port = p) && decide (nfld l.arg 29 3 = 0) &&
      decide (nfld l.arg 14 4 = j) && ((occAt l.sc l.rep l.period x).isSome || decide (1 ≤ x) && (occAt l.sc l.rep l.period (x - 1)).isSome))

/-- A word leaves an LBD read port at sc x: for a link, or into the outbound DMA queue (R224, R291). -/
def lbdDeliver (p j x : Nat) (w : List Byte) (valid : Bool) (s : State) : State :=
  let u := 0x1000 + p
  if sliceTx s p j x then let r := muRt s u; setMu u { r with outs := r.outs ++ [(j, x, w, valid)] } s
  else
    let k := 8 * p + j
    let q := tabGet (fun _ => []) s.outq k
    if Config.outDepth ≤ q.length then clockFault 4 p 0 s
    else { s with outq := tabSet (fun _ => []) k (q ++ [(w, valid)]) s.outq }

/-- Store a word (R99, R100, R115, R122). -/
def muWrite (u w : Nat) (b : List Byte) (s : State) : State :=
  let r := muRt s u
  let s := if r.wback = some w then setMu u { r with wback := none } s else s
  let hit := s.rbit aSramEinj 31 && (if isSlice u then decide (s.rf aSramEinj 28 2 = 1) && decide (s.rf aSramEinj 12 3 = u - 0x1000)
    else decide (s.rf aSramEinj 28 2 = 0) && decide (s.rf aSramEinj 0 12 = u))
  let e := if hit then (if s.rbit aSramEinj 30 then 2 else 1) else 0
  let s := if hit then s.setBit aSramEinj 31 false else s
  putSerr u w e (putSram u w b s)

/-- The word that a write access takes: none when its port holds no vector; LBD ports take what their queue presents, or
the words of a link receive slot (R107, R112, R333). -/
def wrTake (u : Nat) (a : AgAct) (s : State) : Option (List Byte × Bool) × State :=
  let p := muPart u
  if isSlice u && decide (8 ≤ a.ag) then
    let j := a.ag - 8
    let t := relSc s p
    match (muRt s u).ins.find? (fun x => decide (x.1 = j) && decide (x.2.1 = t)) with
    | some x => (some (x.2.2, true), s)
    | none =>
      let from24 := [24, 25].findSome? (fun i =>
        match presented s (32 * p + i) with
        | some e => if (domRt s (domLow s p)).rels.any (fun y => decide (y.1 = 32 * p + i) && decide (y.2 = j)) then some e else none
        | none => none)
      match (match from24 with | some e => some e | none => presented s (32 * p + j)) with
      | some e => (match e.data with
        | .word b err => (some (b, decide (err = 0)), s)
        | _ => (none, s))
      | none => (none, s)
  else
    match takeQueue (wrQueue u a.ag) s with
    | (none, s) => (none, s)
    | (some e, s) => (some (e.data, e.valid), s)

/-- Perform one access (R99, R105, R107, R110, R127, R136). `ecc` is what a read finds: kind modulo 4, granule above. -/
def muAct (u : Nat) (a : AgAct) (ecc : Nat) (s : State) : State :=
  let p := muPart u
  if a.clash then s
  else if a.wr then
    match wrTake u a s with
    | (none, s) => if isSlice u && decide (8 ≤ a.ag) then s else muFault 4 u (muBank u a.addr) a.port s
    | (some (b, valid), s) =>
      if !valid || a.supp then muTap u a.addr a.ag true true (zeros 64) (countUnit (agUnit u) 0x23 1 s)
      else muTap u a.addr a.ag true false b (countUnit (agUnit u) 0x22 1 (muWrite u a.addr b s))
  else
    let held := sramErr s u a.addr
    let e := if a.supp then 0 else max held (ecc % 4)
    let w := if a.supp then zeros 64 else sramWord s u a.addr
    let s := if e = 0 then s else muEcc u a.addr e (if held = 0 then ecc / 4 % 8 else 0) (decide (held ≠ 0)) s
    let s := countUnit (agUnit u) (if a.supp then 0x23 else 0x20 + a.ag % 2) 1 s
    let s := muTap u a.addr a.ag false a.supp w s
    if isSlice u && decide (8 ≤ a.ag) then
      let r := muRt s u
      setMu u { r with outs := r.outs ++ [(a.ag - 8 + 16, relSc s p + 4, w, true)] } s
    else sendLater (if isSlice u then 4 else 3) (rdSource u a.ag) { data := w } s

/-- Perform and drop the accesses of one AG, or of all. LBD writes wait for what their queue presents. -/
def muPerform (u : Nat) (which : Option Nat) (ecc : Nat) (s : State) : State :=
  let acts := (muRt s u).acts
  let mine (a : AgAct) : Bool := match which with | some g => decide (a.ag = g) | none => true
  let waits (a : AgAct) : Bool := which.isSome && isSlice u && decide (8 ≤ a.ag) && a.wr && (wrTake u a s).1.isNone
  let go := acts.filter (fun a => mine a && !waits a)
  let s := setMu u { muRt s u with acts := acts.filter (fun a => !(mine a && !waits a)) } s
  forL go (fun a s => muAct u a ecc s) s

/-- LBD read words that leave their port on this sc: they carry 16 + port until then. -/
def lbdOut (u : Nat) (s : State) : State :=
  if !isSlice u then s
  else
    let p := u - 0x1000
    let t := relSc s p
    let r := muRt s u
    let now := r.outs.filter (fun x => decide (16 ≤ x.1) && decide (x.2.1 = t))
    let s := setMu u { r with outs := r.outs.filter (fun x => !(decide (16 ≤ x.1) && decide (x.2.1 = t)) && !(decide (x.1 < 16) && decide (x.2.1 + 1 < t))),
                              ins := r.ins.filter (fun x => decide (t ≤ x.2.1)) } s
    onceAt (domLow s p) (11, u, 0) (forL now (fun x s => lbdDeliver p (x.1 - 16) t x.2.2.1 x.2.2.2 s)) s

/-- A corrected word is written back in the first sc without a planned access to its bank (R114). -/
def muWriteBack (u : Nat) (s : State) : State :=
  let r := muRt s u
  match r.wback with
  | none => s
  | some w =>
    if r.acts.any (fun a => decide (muBank u a.addr = muBank u w)) then s
    else putSerr u w 0 (setMu u { r with wback := none } s)

/-- One score cycle of a memory; its write-back falls in a bank that this sc leaves free. -/
def muStep (u : Nat) (s : State) : State :=
  let s := muPlan u (lbdOut u s)
  muPerform u none 0 (muWriteBack u s)

/-- Plan boundary: every AG run of the mask ends; memory contents stay (R125); an armed injection clears (R86, R122). -/
def clearMus (mask : Nat) (s : State) : State :=
  let keep (k : Nat) : Bool := !mask.testBit (muPart k)
  let rest (x : Nat × MuRt) : Nat × MuRt := if keep x.1 then x else (x.1, { wback := x.2.wback, oob := x.2.oob })
  let nil : MuRt := {}
  let s := { s with fab := { s.fab with mus := (s.fab.mus.map rest).filter (fun x => decide (x.2 ≠ nil)) } }
  let tgt := if s.rf aSramEinj 28 2 = 1 then s.rf aSramEinj 12 3 else unitPart (s.rf aSramEinj 0 12)
  if mask.testBit tgt then s.setBit aSramEinj 31 false else s

/-- Zero every word of the MUs and slices of a mask of partitions (R113, R123). -/
def scrubSram (mask : Nat) (s : State) : State :=
  let hit (k : Nat) : Bool := mask.testBit (muPart (k / 65536))
  { s with fab := { s.fab with sram := tabDrop hit s.fab.sram, serr := tabDrop hit s.fab.serr,
                               mus := tabDrop (fun u => mask.testBit (muPart u)) s.fab.mus } }

/-! ### Rows -/

def isMem (u : Nat) : Bool := isMu u || (decide (0x1000 ≤ u) && decide (u < 0x1008))
def memPresent (s : State) (u : Nat) : Bool := if isSlice u then partPresent s (u - 0x1000) else unitPresent s u

/-- AG_RUN: a run of the schedule starts (R102). -/
def execAgRun (unit ag prog : Nat) (s : State) : Out :=
  if !isMem unit then .fault (.noSuchInstance "memory" unit)
  else
    let due := match muBlk s unit with
      | some b => b.sched.any (fun e => decide (e.sc = relSc s (muPart unit)) && decide (e.elem = ag) && decide (e.index = prog))
      | none => false
    .next (if actsNow s (muPart unit) && due then agStart unit ag prog s else s)

/-- AG_ACCESS: the access that an AG issues on this sc, with what a read finds in its word (R103 to R116). -/
def execAgAccess (unit ag ecc : Nat) (s : State) : Out :=
  if !isMem unit then .fault (.noSuchInstance "memory" unit)
  else .next (if actsNow s (muPart unit) && memPresent s unit then muPerform unit (some ag) ecc (muPlan unit s) else s)

/-- ECC_WRITE_BACK: the pending corrected word is written back when its bank has no planned access now (R114, R124). -/
def execEccWriteBack (unit : Nat) (s : State) : Out :=
  if !isMem unit then .fault (.noSuchInstance "memory" unit)
  else .next (if memPresent s unit then muWriteBack unit (if actsNow s (muPart unit) then muPlan unit s else setMu unit { muRt s unit with acts := [] } s) else s)

end Sys2Proof.Machine
end

