-- ==== Sys2Proof/Machine/Dma.lean ====
section
/-! DEFINITION. DMA records (R289 to R294): issue, returns of planned reads, outbound words, completion and strikes. -/

namespace Sys2Proof.Machine

/-! ### Records (Table 8-7) -/

def dmSc (b : List Byte) : Nat := leAt b 0 6
def dmOut (b : List Byte) : Bool := (byteAt b 6).testBit 0
def dmWait (b : List Byte) : Bool := (byteAt b 6).testBit 1
def dmStrike (b : List Byte) : Bool := (byteAt b 6).testBit 2
def dmRoll (b : List Byte) : Bool := (byteAt b 6).testBit 3
def dmRegion (b : List Byte) : Nat := byteAt b 7 % 16
def dmLbd (b : List Byte) : Nat := byteAt b 7 / 16 % 8
def dmOff (b : List Byte) : Nat := leAt b 8 5
def dmWbell (b : List Byte) : Nat := byteAt b 13
def dmAdv (b : List Byte) : Nat := byteAt b 14
def dmSbell (b : List Byte) : Nat := byteAt b 15
def dmLen (b : List Byte) : Nat := leAt b 16 4
def dmRep (b : List Byte) : Nat := leAt b 20 2
def dmPeriod (b : List Byte) : Nat := leAt b 22 2
def dmStride (b : List Byte) : Nat := leAt b 24 5
def dmPart (b : List Byte) : Nat := byteAt b 29 % 8
/-- DMA engine of a record (R290). -/
def dmUnit (b : List Byte) : Nat := 0x800 + 8 * dmPart b + dmLbd b
/-- HBM bytes of an occurrence (R507). -/
def dmExtent (b : List Byte) : Nat :=
  if dmRoll b then (dmLen b + 20 * ((dmLen b + 65535) / 65536) + 127) / 128 * 128 else dmLen b

/-! ### Crossing into a queue -/

/-- An entry sets out towards a planned-release queue; ARRIVAL makes it visible (R227).
(log entry 101, DESIGN CHOICE) -/
def xingPush (q : Nat) (e : EntryData) (s : State) : State :=
  { s with xing := tabSet (fun _ => []) q (tabGet (fun _ => []) s.xing q ++ [(e, false)]) s.xing }

/-- A strike sets out towards the strike queue of its bell's partition (R199). -/
def sendStrike (bell unit : Nat) (peer : Option Nat) (s : State) : State := xingPush (strikeQueue (bellPart bell)) (.strike bell unit peer) s

/-! ### Slots (Table 8-5) and line taps -/

def slotsOf (prot wr full : Bool) : Nat :=
  if wr then (if full then (if prot then 3 else 1) else (if prot then 4 else 2)) else (if prot then 2 else 1)

/-- DATA record of a line that an engine moves, as plaintext. -/
def lineTap (unit h r l : Nat) (wr poison : Bool) (b : List Byte) (s : State) : State :=
  dataTap unit 3 (r + 16 * h) l r (b2n wr + 8 * b2n poison) (padTo 128 b) s

def putDma (x y : DmaRt) (s : State) : State := { s with dmas := s.dmas.map (fun z => if z = x then y else z) }
/-- The first issued occurrence of a record that meets a test: one from before a plan boundary may stand beside a new one. -/
def findDma (s : State) (d ri occ : Nat) (p : DmaRt → Bool) : Option DmaRt :=
  s.dmas.find? (fun x => decide (x.dom = d) && decide (x.ri = ri) && decide (x.occ = occ) && p x)

/-- Error code of a read as an entry carries it: code, then region line. -/
def entryErr (code line : Nat) : Nat := if code = 0 then 0 else code + 8 * line

/-! ### Issue -/

/-- Lines that bytes [off, off + len) touch. -/
def lineSpan (off len : Nat) : List Nat := (List.range ((off + len + 127) / 128 - off / 128)).map (fun i => off / 128 + i)

/-- The requests of an inbound occurrence: every line is read in issue order (R289). -/
def readLines (h r : Nat) (ls : List Nat) (s : State) : List (Nat × Nat × List Byte) :=
  ls.map (fun l => let x := readLine s h r l false; (l, x.1, x.2))

/-- Words of an inbound occurrence in offset order, two for each line, as far as the occurrence covers them. -/
def inWords (off len : Nat) (ls : List (Nat × Nat × List Byte)) : List (List Byte × Nat) :=
  (List.range (len / 64)).map (fun i =>
    let a := off + 64 * i
    match ls.find? (fun x => decide (x.1 = a / 128)) with
    | some x => ((x.2.2.drop (a % 128)).take 64, entryErr x.2.1 x.1)
    | none => (zeros 64, 0))

/-- An outbound occurrence has yet to write line l of a region. -/
def dmaOwes (h r l : Nat) (x : DmaRt) : Bool :=
  x.outb && decide (x.part = h) && decide (x.region = r) &&
  (if x.roll then x.lines.contains l && (decide (x.left ≠ 0) || decide (x.words ≠ []) || decide (x.dec ≠ []))
   else decide (0 < x.words.length + x.left) && (lineSpan (x.off + 64 * x.sent) (64 * (x.words.length + x.left))).contains l)

def sameDma (x y : DmaRt) : Bool := decide (x.dom = y.dom) && decide (x.ri = y.ri) && decide (x.occ = y.occ) && x.old == y.old

/-- An occurrence issued before x has yet to write a line: what x does with the line comes after it (R289). -/
def dmaBehind (x : DmaRt) (l : Nat) (s : State) : Bool :=
  (s.dmas.takeWhile (fun y => !sameDma x y)).any (dmaOwes x.part x.region l)

/-- Word indices of an inbound occurrence that line l fills: the lines themselves under ROLL. -/
def dmaAt (x : DmaRt) (l i : Nat) : Bool :=
  if x.roll then decide (i = l - x.off / 128) else decide ((x.off + 64 * i) / 128 = l)

/-- Reads of line l that were issued after x and have not returned see what x has just written (R289). -/
def refreshReads (x : DmaRt) (l : Nat) (s : State) : State :=
  let before := s.dmas.takeWhile (fun y => !sameDma x y)
  let fix (y : DmaRt) : DmaRt :=
    if y.outb || decide (y.part ≠ x.part) || decide (y.region ≠ x.region) || !y.lines.contains l || y.back.contains l then y
    else
      let rd := readLine s y.part y.region l false
      { y with words := (List.range y.words.length).map (fun i =>
          if !dmaAt y l i then y.words.getD i ([], 0)
          else if y.roll then (rd.2, entryErr rd.1 l)
          else ((rd.2.drop ((y.off + 64 * i) % 128)).take 64, entryErr rd.1 l)) }
  { s with dmas := before ++ (s.dmas.drop before.length).map fix }

/-- An outbound occurrence takes words from its port's queue in arrival order and writes each line once it has all that the
occurrence covers of it (R291), and once earlier occurrences have written theirs (R289). (log entry 115, DESIGN CHOICE) -/
def pumpOut (x : DmaRt) (s : State) : DmaRt × State :=
  let k := 8 * x.part + x.lbd
  let q := tabGet (fun _ => []) s.outq k
  let n := min x.left q.length
  let s := { s with outq := tabSet (fun _ => []) k (q.drop n) s.outq }
  let y := { x with words := x.words ++ (q.take n).map (fun w => (w.1, 0)), left := x.left - n }
  if x.roll then (y, s)
  else
    -- `sent` words are in the HBM already
    let total := y.sent + y.words.length + y.left
    let rec go (fuel : Nat) (y : DmaRt) (s : State) : DmaRt × State :=
      match fuel with
      | 0 => (y, s)
      | fuel + 1 =>
        let a := y.off + 64 * y.sent
        let need := if a % 128 = 0 ∧ y.sent + 1 < total then 2 else 1
        if y.words.length < need ∨ y.words = [] ∨ dmaBehind y (a / 128) s then (y, s)
        else
          let b := (y.words.take need).flatMap (fun w => padTo 64 w.1)
          let l := a / 128
          let u := 0x800 + 8 * y.part + y.lbd
          let w := writeReport 0 y.part y.region l (a % 128) b s
          let s := countDevice 0xC0 y.part (slotsOf (rgnProt s y.part y.region) true (decide (need = 2))) w.2
          let s := countUnit u 0x41 1 s
          let s := if w.1 = 5 then memFault y.part 5 l s else s
          let s := if w.1 = 1 ∨ w.1 = 5 then countUnit u 0x43 1 s else s
          let s := refreshReads y l (lineTap u y.part y.region l true false b s)
          go fuel { y with words := y.words.drop need, sent := y.sent + need } s
    go (y.words.length + 1) y s

/-- Every outbound occurrence moves on, in issue order. -/
def pumpAll (d : Nat) (s : State) : State :=
  forL (s.dmas.filter (fun x => decide (x.dom = d) && x.outb)) (fun x s =>
    let y := pumpOut x s
    putDma x y.1 y.2) s

/-- An occurrence issues (R291): its event, and its requests. -/
def dmaIssue (d ri occ cls : Nat) (b : List Byte) (s : State) : State :=
  let h := dmPart b
  let r := dmRegion b
  let off := dmOff b + occ * dmStride b
  let u := dmUnit b
  let s := scoredEvent d cls u (ri % 2 ^ 16) (relSc s d) [] s
  let base : DmaRt := { dom := d, ri := ri, occ := occ, part := h, lbd := dmLbd b, outb := dmOut b, region := r, off := off,
                        roll := dmRoll b, strike := dmStrike b, bell := dmSbell b }
  if dmOut b then
    let x := { base with left := dmLen b / 64, lines := lineSpan off (dmExtent b) }
    pumpAll d { s with dmas := s.dmas ++ [x] }
  else
    let ls := lineSpan off (dmExtent b)
    let rd := readLines h r ls s
    let words := if dmRoll b then rd.map (fun x => (x.2.2, entryErr x.2.1 x.1)) else inWords off (dmLen b) rd
    let s := countDevice 0xC0 h (ls.length * slotsOf (rgnProt s h r) false true) s
    { s with dmas := s.dmas ++ [{ base with words := words, lines := ls, left := dmLen b / 64 }] }

/-- The DMA record of the running context. -/
def dmaRec (s : State) (d ri : Nat) : Option (List Byte) := (runCtx s d).bind (fun r => r.ctx.dmas[ri]?)

/-- Occurrence of record ri that falls due now. -/
def dmaDue (s : State) (d : Nat) (b : List Byte) : Option Nat := occAt (dmSc b) (dmRep b) (dmPeriod b) (relSc s d)

/-- An occurrence falls due: it issues, or its wait begins (R204). -/
def dmaStart (d ri occ : Nat) (s : State) : State :=
  match dmaRec s d ri with
  | none => s
  | some b =>
    onceAt d (5, ri, occ) (fun s =>
      if dmWait b then beginWait d (dmWbell b) (dmUnit b) 0 ri occ (dmAdv b) s else dmaIssue d ri occ 5 b s) s

/-- The waiting actions of the DMA waits of some records that ended on this edge take place (R204). -/
def dmaWaitedOf (d : Nat) (p : Nat → Bool) (s : State) : State :=
  let r := domRt s d
  let mine (w : WaitRt) : Bool := decide (w.kind = 0) && p w.ri
  let s := setDomRt d { r with ended := r.ended.filter (fun w => !mine w) } s
  forL (r.ended.filter mine) (fun w s => match dmaRec s d w.ri with | some b => dmaIssue d w.ri w.occ 6 b s | none => s) s

def dmaWaited (d : Nat) (s : State) : State := dmaWaitedOf d (fun _ => true) s

/-- Every occurrence that falls due on this edge or whose wait ended on it, in the order of the DMA section (R289). -/
def dmaStarts (d : Nat) (s : State) : State :=
  match runCtx s d with
  | none => s
  | some r => forN r.ctx.dmas.length (fun ri s =>
      let s := dmaWaitedOf d (fun k => decide (k = ri)) s
      match dmaDue s d (r.ctx.dmas.getD ri []) with
      | some occ => dmaWaitedOf d (fun k => decide (k = ri)) (dmaStart d ri occ s)
      | none => s) s

/-! ### Returns -/

/-- Words whose lines have all returned set out towards the inbound queue, in offset order.
(log entry 46, DESIGN CHOICE) -/
def sendWords (x : DmaRt) (s : State) : DmaRt × State :=
  let ok := (List.range x.words.length).takeWhile (fun i => x.back.contains ((x.off + 64 * i) / 128))
  let now := (x.words.take ok.length).drop x.sent
  let q := 32 * x.part + x.lbd
  let s := forL now (fun w s =>
    { s with xing := tabSet (fun _ => []) q (tabGet (fun _ => []) s.xing q ++ [(EntryData.word w.1 w.2, x.old)]) s.xing }) s
  ({ x with sent := max x.sent ok.length }, s)

/-- HBM_READ_RETURN: line `line` of an occurrence returns its data (R281, R283, R287), once the writes issued before it are
made (R289). `fault` is what the on-die ECC of
the read says: 0 clean, 1 corrected, 4 uncorrectable. (log entry 105, DESIGN CHOICE) -/
def execHbmReadReturn (d ri occ line fault : Nat) (s : State) : Out :=
  if !decide (d < 8) then .fault (.noSuchInstance "partition" d)
  else
    let d := domLow s d
    match findDma s d ri occ (fun x => !x.outb && x.lines.contains line && !x.back.contains line) with
    | none => .next s
    | some x =>
      if dmaBehind x line s then .next s
      else
        let h := x.part
        let u := 0x800 + 8 * x.part + x.lbd
        let s := if fault = 1 then s.countSat (aMemCe h) 0 32 1 else s
        let at0 : Nat → Bool := dmaAt x line
        let words := if fault = 4 then (List.range x.words.length).map (fun i => if at0 i then (zeros 64, entryErr 4 line) else x.words.getD i ([], 0)) else x.words
        let code := match (List.range words.length).find? at0 with | some i => (words.getD i ([], 0)).2 % 8 | none => 0
        let s := if code = 0 then s else memError h code 0 x.region line s
        let b := ((List.range words.length).filter at0).flatMap (fun i => (words.getD i ([], 0)).1)
        let s := lineTap u h x.region line false (decide (code ≠ 0)) b (countUnit u 0x40 1 s)
        let y := { x with words := words, back := x.back ++ [line] }
        if x.roll then .next (putDma x y s)
        else
          let z := sendWords y s
          .next (putDma x z.1 z.2)

/-- All words of an occurrence have entered their queue, or all its writes have been accepted (R292). -/
def dmaDone (s : State) (x : DmaRt) : Bool :=
  if x.outb then decide (x.left = 0) && decide (x.words = [])
  else
    let later := (s.dmas.dropWhile (fun y => !decide (y = x))).drop 1
    let n := ((later.filter (fun y => !y.outb && decide (y.part = x.part) && decide (y.lbd = x.lbd))).map (·.sent)).foldl (· + ·) 0
    decide (x.left ≤ x.sent) && decide ((tabGet (fun _ => []) s.xing (32 * x.part + x.lbd)).length ≤ n)

/-- DMA_COMPLETE: an occurrence is complete and strikes its bell (R292). -/
def execDmaComplete (d ri occ : Nat) (s : State) : Out :=
  if !decide (d < 8) then .fault (.noSuchInstance "partition" d)
  else
    let d := domLow s d
    let s := pumpAll d s
    match findDma s d ri occ (dmaDone s) with
    | none => .next s
    | some x =>
      let s := { s with dmas := s.dmas.erase x }
      .next (if x.strike && (x.outb || !x.old) then sendStrike x.bell (0x800 + 8 * x.part + x.lbd) none s else s)

/-- DMA_ISSUE: an occurrence falls due on this edge (R291). -/
def execDmaIssue (d ri occ : Nat) (s : State) : Out :=
  if !decide (d < 8) then .fault (.noSuchInstance "partition" d)
  else
    let d := domLow s d
    .next (if actsOn s d then
        match dmaRec s d ri with
        | some b => if dmaDue s d b = some occ then dmaWaited d (dmaStart d ri occ s) else s
        | none => s
      else s)

/-- At a plan boundary, entries of requests and pushes made before it are old (R232). Outbound queues empty, and an outbound
occurrence that lacks words is given up. (log entry 115, DESIGN CHOICE) -/
def markOld (mask : Nat) (s : State) : State :=
  let inb (q : Nat) : Bool := mask.testBit (q / 32) && (decide (q % 32 < 8) || decide (q % 32 = 24) || decide (q % 32 = 25))
  let old (x : Nat × List (EntryData × Bool)) : Nat × List (EntryData × Bool) := if inb x.1 then (x.1, x.2.map (fun e => (e.1, true))) else x
  { s with xing := s.xing.map old, 
           dmas := (s.dmas.filter (fun x => !(mask.testBit x.part && x.outb && decide (x.left ≠ 0)))).map
             (fun x => if mask.testBit x.part then { x with old := true } else x),
           outq := tabDrop (fun k => mask.testBit (k / 8)) s.outq }

end Sys2Proof.Machine
end

