-- ==== Sys2Proof/Machine/Links.lean ====
section
/-! DEFINITION. Device links (chapter 9): port states, transmit and receive schedules, frames, E2E streams, impairments,
monitor capture. -/

namespace Sys2Proof.Machine

def portUnit (n : Nat) : Nat := 0x840 + n
def stDisabled : Nat := 0
def stTrain : Nat := 1
def stFrame : Nat := 2
def stKey : Nat := 3
def stMeasure : Nat := 4
def stUp : Nat := 5
def stDownKey : Nat := 6
def stDownErr : Nat := 7

/-- Slot of State.keys of the operator. -/
def opSlotKey : Nat := 8
def keySlots (s : State) (i : Nat) : KeySlots := tabGet (fun _ => {}) s.keys i
/-- Holder slot of a port (R320). -/
def portKeySlot (s : State) (n : Nat) : Nat := let p := portPart s n; if p < 8 && held s p then p else opSlotKey
def linkKey (s : State) (n : Nat) : Option (List Byte) := (keySlots s (portKeySlot s n)).link

/-- A port's records in the running context of its domain (R342). -/
def portCtx (s : State) (n : Nat) : Option Resident :=
  if portPart s n < 8 then runCtx s (domLow s (portPart s n)) else none
def portInUse (s : State) (n : Nat) : Bool :=
  match portCtx s n with | some r => r.ctx.links.any (fun l => decide (l.port = n)) | none => false

/-! ### Link faults (Table 9-11) -/

def linkFault (kind n : Nat) (s : State) : State :=
  let p := portPart s n
  if 8 ≤ p then s
  else
    let d := domLow s p
    let s := capture (aLnkFltA n) (aLnkFltB n) (BitVec.ofNat 32 (kind * 2 ^ 26)) (BitVec.ofNat 32 (scOf s p).toNat) s
    let s := if kind = 3 then s.countSat (aLnkEcnt n 6) 0 32 1 else s
    addFault d (mkFault s d 7 kind (portUnit n) n) s

/-- R339: the PARENT port of a lock-step device leaves UP. A domain that the port's own records have faulted already (R342)
faults once. -/
def parentLost (n : Nat) (s : State) : State :=
  if lockstep s && !isRoot s && decide (tollParent s = n) then
    forL ((List.range 8).filter (fun d => partPresent s d && decide (domLow s d = d) && participates s d && ctxRuns s d)) (fun d s =>
      if (domRt s d).faults.any (fun f => decide (f.block = 7) && decide (f.kind = 1) && decide (f.unit = portUnit n)) then s
      else
        let s := capture (aLnkFltA n) (aLnkFltB n) (BitVec.ofNat 32 (2 ^ 26)) (BitVec.ofNat 32 (scOf s d).toNat) s
        addFault d (mkFault s d 7 1 (portUnit n) n) s) s
  else s

/-- A control flit waits for a free slot. -/
def queueCtl (n ctype : Nat) (body : List Byte) (s : State) : State :=
  let r := linkRt s n
  setLink n { r with ctl := r.ctl ++ [(ctype, padTo 128 ([bite ctype, bite n] ++ zeros 14 ++ body))] } s

/-- Entering MEASURE, a port sends HELLO and 64 LATREQ (R316, R317). -/
def queueMeasure (n : Nat) (s : State) : State :=
  let s := queueCtl n 3 (leBytes 2 (s.rf aPealId 0 10) ++ leBytes 4 (s.reg aPealTag).toNat) s
  forN 64 (fun i s => queueCtl n 4 (zeros 8 ++ leBytes 2 i) s) s

/-! ### Migration (R721 to R726): flits to send, and the receiver's discard -/

/-- Migration key of an image for a source and a destination device (R721). -/
def migKey (job id : List Byte) (src dst : Nat) : List Byte := hkdf32 job (ascii "SCEUX-MIG" ++ id ++ leBytes 2 src ++ leBytes 2 dst)
def migIv (index typ : Nat) : List Byte := leBytes 4 index ++ [bite typ] ++ zeros 7
/-- Bytes 0 to 27 of a header flit (Table 22-10). -/
def migHead (typ reason src dst : Nat) (id : List Byte) (index plen : Nat) : List Byte :=
  [0x53, 0x58, 0x4D, 0x47, bite typ, bite reason] ++ leBytes 2 src ++ leBytes 2 dst ++ [0, 0] ++ id ++ leBytes 4 index ++ leBytes 4 plen
def migFlitOf (head tag : List Byte) : List Byte := padTo 128 (head ++ padTo 16 tag)

/-- MIGRATE (0x83) keeps the image header (128 bytes), then the migration key (32); `b` counts flits sent, `c` is 1 once END
has left. MIGRATE_RECV (0x84) keeps the header, the key, then the digests received; `b` counts chunks, `c` is 1 after OFFER. -/
def migOn (s : State) (n : Nat) : Option Outst :=
  s.host.outst.find? (fun o => o.acc && (decide (o.op = 0x83) || decide (o.op = 0x84)) && decide (o.call.b 17 = n))
/-- The port counts as UP for migration (R722). -/
def migUp (s : State) (n dev : Nat) : Bool :=
  decide (lnkState s n = stUp) && decide (s.rf (aLnkPeer n) 0 10 = dev) &&
  !(decide (portPart s n < 8) && ctxRuns s (domLow s (portPart s n)))

/-- Flit `k` of MIGRATE `o`, the status of reading its chunk, and the state after the read: OFFER, chunks of one header and
513 payload flits, END. -/
def migSend (o : Outst) (k : Nat) (s : State) : Nat × List Byte × State :=
  let hdr := o.data.take 128
  let key := (o.data.drop 128).take 32
  let id := (hdr.drop 56).take 8
  let n := leAt hdr 64 4
  let src := s.rf aPealId 0 10
  let dst := o.call.le 18 2
  let part (head body : List Byte) (typ index j : Nat) : List Byte :=
    let c := gcmSeal key (migIv index typ) head body
    if j = 0 then migFlitOf head (c.drop body.length) else padTo 128 ((c.take body.length).drop (128 * (j - 1)))
  if k < 2 then (0, part (migHead 1 0 src dst id 0 128) hdr 1 0 k, s)
  else
    let i := (k - 2) / 514
    let j := (k - 2) % 514
    if i < n then
      let rd := readBytes 1 o.call.part.toNat (o.call.b 16) (o.call.le 24 8 + 128 + 65664 * i) 65664 s
      (rd.1, part (migHead 2 0 src dst id i 65664) (padTo 65664 rd.2.1) 2 i j, if j = 0 then rd.2.2 else s)
    else (0, migFlitOf (migHead 3 0 src dst id n 0) [], s)

/-- Flits that migration puts into the free slots of a frame of port n. -/
def migFree : Nat → Nat → List Flit → State → List Flit × State
  | 0, _, l, s => (l, s)
  | k + 1, n, l, s =>
    match (linkRt s n).mig with
    | f :: r => migFree k n (l ++ [f]) (setLink n { linkRt s n with mig := r } s)
    | [] =>
      match s.host.outst.find? (fun o => o.acc && decide (o.op = 0x83) && decide (o.call.b 17 = n) && decide (o.c = 0)) with
      | none => (l, s)
      | some o =>
        if !migUp s n (o.call.le 18 2) then (l, s)
        else
          let x := migSend o o.b s
          if x.1 ≠ 0 then (l, finishO o sIntegrity [] x.2.2)
          else
            let last := decide (o.b + 1 = 3 + 514 * leAt o.data 64 4)
            migFree k n (l ++ [{ kind := 1, dest := o.call.le 18 2, payload := x.2.1 }]) (updOutst o { o with b := o.b + 1, c := b2n last } x.2.2)

/-- The receiver discards its partial image: zero header bytes, a NAK while the port is UP, E_INTEGRITY (R726). -/
def migDiscard (o : Outst) (reason : Nat) (s : State) : State :=
  let n := o.call.b 17
  let dev := o.call.le 18 2
  let s := (writeBytes 1 o.call.part.toNat (o.call.b 16) (o.call.le 24 8) (zeros 128) s).2
  let f : Flit := { kind := 1, dest := dev, payload := migFlitOf (migHead 5 reason (s.rf aPealId 0 10) dev (padTo 8 ((o.data.drop 56).take 8)) 0 0) [] }
  let s := if reason ≠ 6 && migUp s n dev then setLink n { linkRt s n with mig := (linkRt s n).mig ++ [f] } s else s
  finishO o sIntegrity [] s

/-- The port leaves UP: a receiver on it discards without NAK. -/
def migDown (n : Nat) (s : State) : State :=
  forL (s.host.outst.filter (fun o => o.acc && decide (o.op = 0x84) && decide (o.call.b 17 = n))) (fun o s => migDiscard o 6 s)
    (setLink n { linkRt s n with mig := [] } s)

/-- What a change of a port's state tells the host: vector 13 for a port that the operator holds, and the service level
(Table 18-4, R713). (log entry 45, DESIGN CHOICE) -/
def tellLink (n : Nat) (s : State) : State :=
  refreshSvc (if portPart s n = 8 || !held s (portPart s n) then raise 0 13 s else s)

/-- A port changes state with its LINK_STATE event. Leaving UP, it faults the run that uses it (R342). -/
def setLnkState (n st reason : Nat) (s : State) : State :=
  let was := lnkState s n
  let s := (s.put (aLnkStat n) 28 4 st).put (aLnkStat n) 24 4 reason
  let s := if was = st then s else tellLink n (plainEvent 0x17 (portUnit n) (st + 16 * reason) s)
  let r := linkRt s n
  let s := setLink n { r with rej := 0, noSync := 0, acc := 0, rxUp := false, rxDown := false,
                              hello := if st = stMeasure then false else r.hello, latSent := if st = stMeasure then 0 else r.latSent,
                              rtts := if st = stMeasure then [] else r.rtts,
                              dseqTx := if st = stUp then 0 else r.dseqTx, dseqRx := if st = stUp then none else r.dseqRx } s
  let s := if st = stMeasure then queueMeasure n s else s
  if was = stUp && decide (st ≠ stUp) then
    -- a trace frame whose halves were cut apart is sent again whole (R484)
    let r := linkRt s n
    let s := match r.sentHalf with | some h => setLink n { r with trace := h :: r.trace, sentHalf := none } s | none => s
    let s := parentLost n (migDown n (if portInUse s n then linkFault 1 n s else s))
    if tollSrc s = 2 && decide (tollParent s = n) then refLost s else s
  else s

/-- Start TRAIN (R315): RETRAIN clears, the transmit queue is lost. -/
def startTrain (n : Nat) (s : State) : State :=
  let s := s.setBit (aLnkCtl n) 29 false
  let r := linkRt s n
  setLnkState n stTrain 0 (setLink n { r with txq := [], held := [], ctl := [], half := none } s)

/-! ### E2E streams (R324 to R326) -/

def findStream (s : State) (p : Nat) (tx : Bool) (peer : Nat) : StreamRt :=
  let job := (domRt s (domLow s p)).job
  (s.streams.find? (fun x => decide (x.part = p) && (x.tx == tx) && decide (x.peer = peer))).getD { part := p, tx := tx, peer := peer, job := job }
def putStream (x : StreamRt) (s : State) : State :=
  { s with streams := s.streams.filter (fun y => !(decide (y.part = x.part) && (y.tx == x.tx) && decide (y.peer = x.peer))) ++ [x] }

/-- The job key of the chain of runs that partition p takes part in (R324, R560). (log entry 56, DESIGN CHOICE) -/
def jobKey (s : State) (p : Nat) : List Byte := (domRt s (domLow s p)).jobKey

/-- A plan boundary starts the pattern counts of a run, and a job start its E2E streams (R325, R331). -/
def startTraffic (mask : Nat) (start : Bool) (s : State) : State :=
  let s := forN 16 (fun n s => if mask.testBit (portPart s n) then setLink n { linkRt s n with pseq := 0 } s else s) s
  if start then { s with streams := s.streams.filter (fun x => !mask.testBit x.part) } else s

/-- K_s of a stream (R324). -/
def streamKey (s : State) (x : StreamRt) : List Byte :=
  let src := if x.tx then devId s else x.peer
  let dst := if x.tx then x.peer else devId s
  hkdf32 (jobKey s x.part) (ascii "SCEUX-E2E" ++ leBytes 4 x.job.toNat ++ leBytes 2 src ++ leBytes 2 dst)

def streamIv (g : Nat) : List Byte := leBytes 4 g ++ zeros 8

/-- Encrypt or decrypt the next flit of a group. -/
def streamCrypt (key : List Byte) (x : StreamRt) (b : List Byte) : List Byte :=
  xorBytes (padTo 128 b) (padTo 128 ((gcmStream key (streamIv x.g) (128 * (x.n + 1))).drop (128 * x.n)))

/-- A flit enters an E2E stream. -/
def streamSend (p dest : Nat) (b : List Byte) (s : State) : List Byte × State :=
  let x := findStream s p true dest
  let c := streamCrypt (streamKey s x) x b
  (c, putStream { x with n := x.n + 1, ct := x.ct ++ c } s)

/-- SEAL of a stream (R325): tag, group, count; the next group begins. -/
def streamSeal (p dest : Nat) (s : State) : List Byte × State :=
  let x := findStream s p true dest
  let tag := gcmTag (streamKey s x) (streamIv x.g) [] x.ct
  (padTo 128 (padTo 16 tag ++ leBytes 4 x.g ++ leBytes 4 x.n), putStream { x with g := x.g + 1, n := 0, ct := [], broken := false } s)

/-- A flit of a received stream; a LOST entry takes its keystream position. -/
def streamRecv (p src : Nat) (b : Option (List Byte)) (s : State) : List Byte × State :=
  let x := findStream s p false src
  match b with
  | none => (zeros 128, putStream { x with n := x.n + 1, ct := x.ct ++ zeros 128, broken := true } s)
  | some c => (streamCrypt (streamKey s x) x c, putStream { x with n := x.n + 1, ct := x.ct ++ padTo 128 c } s)

/-- VERIFY (R326). -/
def streamVerify (p src : Nat) (b : List Byte) (s : State) : Bool × State :=
  let x := findStream s p false src
  let tag := gcmTag (streamKey s x) (streamIv x.g) [] x.ct
  let ok := !x.broken && decide (b.take 16 = padTo 16 tag) && decide (leAt b 16 4 = x.g) && decide (leAt b 20 4 = x.n)
  (ok, putStream { x with g := x.g + 1, n := 0, ct := [], broken := false } s)

/-! ### PATTERN (R331) -/

/-- Output bit and next state of PRBS31, x^31 + x^28 + 1, in a register whose bit 30 is the oldest. -/
def prbsStep (st : Nat) : Nat × Nat :=
  let b := ((st / 2 ^ 30) ^^^ (st / 2 ^ 27)) % 2
  (b, (st * 2 + b) % 2 ^ 31)
def prbsByte (st : Nat) : Byte × Nat :=
  let r := (List.range 8).foldl (fun (a : Nat × Nat) i => let x := prbsStep a.2; (a.1 + x.1 * 2 ^ i, x.2)) (0, st)
  (bite r.1, r.2)
def prbsBytes : Nat → Nat → List Byte
  | 0, _ => []
  | n + 1, st => let x := prbsByte st; x.1 :: prbsBytes n x.2
/-- Payload of PATTERN flit `pseq` under a seed. (log entry 117, PRESUMED) -/
def patternFlit (seed pseq : Nat) : List Byte :=
  let st := (pseq % 2 ^ 31) ^^^ (seed % 2 ^ 31)
  leBytes 8 pseq ++ prbsBytes 120 (if st = 0 then 1 else st)

/-! ### Monitor capture (R340, Table 12-20) -/

structure CapInfo where
  rx : Bool := false
  slot : Nat := 0
  kind : Nat := 0
  reject : Nat := 0
  imp : Option Nat := none
  src : Nat := 0
  dest : Nat := 0
  dseq : Nat := 2 ^ 32 - 1
  fcnt : Nat := 0
  epoch : Nat := 0
  corr : Nat := 0
  late : Bool := false
  plain : List Byte := []
  deriving DecidableEq, Repr

/-- Ciphertext of slot j of a frame (R321). -/
def wireSlot (s : State) (n : Nat) (c : CapInfo) : List Byte :=
  let key := hkdf32 ((linkKey s n).getD []) (ascii "SCEUX-LNK" ++ leBytes 2 c.epoch)
  let iv := leBytes 5 c.fcnt ++ leBytes 2 c.src ++ zeros 5
  xorBytes (padTo 128 c.plain) (padTo 128 ((gcmStream key iv 1024).drop (128 * c.slot)))

/-- One capture packet, when the port's capture setting asks for it. -/
def linkCap (n : Nat) (c : CapInfo) (s : State) : State :=
  let cap := aLnkCap n
  let on := s.rbit cap (if c.rx then 30 else 31) &&
    (if c.kind = 3 then s.rbit cap 24 else if c.kind = 1 then s.rbit cap 25 else if c.kind = 2 then s.rbit cap 26 else s.rbit cap 27)
  if !on then s
  else
    let mode := s.rf cap 28 2
    let pay := if c.kind = 3 || mode = 0 then [] else if mode = 1 then wireSlot s n c else padTo 128 c.plain
    let mode := if pay = [] then 0 else mode
    let b := [0x15, bite (b2n c.rx + 2 * c.slot + 16 * c.kind + 64 * mode), bite c.reject,
        bite (match c.imp with | some k => k + 128 | none => 0)] ++ leBytes 2 c.src ++ leBytes 2 c.dest ++ leBytes 4 c.dseq ++
      leBytes 5 c.fcnt ++ leBytes 2 c.epoch ++ [bite (min c.corr 255)] ++ leBytes 2 (portUnit n) ++ [bite (b2n c.late), 0] ++ pay
    let k := mkPkt s clsLinkcap (portUnit n) 0 s.toll.now b
    tapData (portUnit n) { k with plain := decide (mode = 2) } s

/-! ### Schedules -/

def txSrc (a : Nat) : Nat := nfld a 29 3
def txE2e (a : Nat) : Bool := nbit a 28
def txDest (a : Nat) : Nat := nfld a 18 10
def txSel (a : Nat) : Nat := nfld a 14 4
def txWait (a : Nat) : Bool := nbit a 13
def txBell (a : Nat) : Nat := nfld a 8 5
def txAdv (a : Nat) : Nat := nfld a 0 8
def rxDisp (a : Nat) : Nat := nfld a 29 3
def rxE2e (a : Nat) : Bool := nbit a 28
def rxSrc (a : Nat) : Nat := nfld a 18 10
def rxLbd (a : Nat) : Nat := nfld a 15 3
def rxStrike (a : Nat) : Bool := nbit a 8
def rxBell (a : Nat) : Nat := nfld a 0 8

def linkRec (s : State) (d ri : Nat) : Option LinkRec := (runCtx s d).bind (fun r => r.ctx.links[ri]?)

/-- Impairment record that an IMPAIR occurrence of the port names at relative sc x (R336). -/
def impairAt (c : Ctx) (n x : Nat) : Option Nat :=
  (c.links.find? (fun l => decide (l.kind = 3) && decide (l.port = n) && (occAt l.sc l.rep l.period x).isSome)).map (fun l => l.arg % 32)

/-- The commit enters the port's transmit queue (R332). -/
def enqueueTx (n : Nat) (f : TxFlit) (s : State) : State :=
  let r := linkRt s n
  if 16 ≤ r.txq.length then clockFault 4 (portPart s n) 0 s
  else setLink n { r with txq := r.txq ++ [f] } s

/-- The word an LBD port delivered at relative sc x for the port. -/
def lbdWord (s : State) (p j x : Nat) : List Byte :=
  match (muRt s (0x1000 + p)).outs.find? (fun o => decide (o.1 = j) && decide (o.2.1 = x)) with
  | some o => padTo 64 o.2.2.1 | none => zeros 64

/-- FWD (R329, R331): the flit its ingress port's queue presents; a wrong port or an invalid route is a misroute. A LOST entry
holds no flit, and its release faults under R335. -/
def txForward (n : Nat) (l : LinkRec) (imp : Option Nat) (s : State) : State :=
  let p := portPart s n
  match presented s (linkQueue p (txSel l.arg)) with
  | some e => (match e.data with
    | .flit dest b =>
      if s.rbit (aPealRt dest) 4 && decide (s.rf (aPealRt dest) 0 4 = n) then
        enqueueTx n { flit := { kind := 1, dest := dest, payload := b }, imp := imp } s
      else linkFault 3 n s
    | _ => s)
  | none => s

/-- A TX occurrence commits its flit (R331); `x` is the relative sc of its record or of the end of its wait. -/
def txCommit (d ri occ x : Nat) (cls : Nat) (s : State) : State :=
  match runCtx s d, linkRec s d ri with
  | some r, some l =>
    let n := l.port
    let p := portPart s n
    let imp := impairAt r.ctx n (occSc l.sc l.period occ)
    let s := scoredEvent d cls (portUnit n) (txSrc l.arg + 8 * b2n imp.isSome) (relSc s d) [] s
    let s := match imp with | some _ => countUnit (portUnit n) 0x56 1 s | none => s
    if lnkState s n ≠ stUp then linkFault 1 n s
    else
      let dest := txDest l.arg
      let data (b : List Byte) (s : State) : State :=
        let y := if txE2e l.arg then streamSend p dest b s else (b, s)
        enqueueTx n { flit := { kind := 1, dest := dest, payload := y.1 }, imp := imp } y.2
      match txSrc l.arg with
      | 0 => data (lbdWord s p (txSel l.arg) x ++ lbdWord s p (txSel l.arg) (x + 1)) s
      | 1 => txForward n l imp s
      | 2 =>
        let k := linkRt s n
        data (patternFlit (s.rf (aLnkPat n) 0 31) k.pseq) (setLink n { k with pseq := k.pseq + 1 } s)
      | 3 => enqueueTx n { flit := { kind := 2, payload := padTo 128 ([2, bite n] ++ zeros 14 ++ [bite (txAdv l.arg)]) }, imp := imp } s
      | _ =>
        let y := streamSeal p dest s
        enqueueTx n { flit := { kind := 1, dest := dest, payload := y.1 }, imp := imp } y.2
  | _, _ => s

/-- The commit takes place: on the next sc for SLICE, now otherwise. -/
def txGo (d ri occ cls : Nat) (s : State) : State :=
  match linkRec s d ri with
  | none => s
  | some l =>
    if txSrc l.arg = 0 then
      let r := domRt s d
      setDomRt d { r with txPend := r.txPend ++ [(ri * 16 + cls, occ, relSc s d)] } s
    else txCommit d ri occ (relSc s d) cls s

/-- A TX occurrence falls due (R331, R204). -/
def txStart (d ri occ : Nat) (s : State) : State :=
  match linkRec s d ri with
  | none => s
  | some l =>
    onceAt d (6, ri, occ) (fun s =>
      if txWait l.arg then beginWait d (32 * portPart s l.port + txBell l.arg) (portUnit l.port) 1 ri occ (txAdv l.arg) s
      else txGo d ri occ 7 s) s

/-- SLICE commits that fall on this sc. -/
def txPending (d : Nat) (s : State) : State :=
  let r := domRt s d
  let now := r.txPend.filter (fun x => decide (x.2.2 + 1 = relSc s d))
  let s := setDomRt d { r with txPend := r.txPend.filter (fun x => !decide (x.2.2 + 1 = relSc s d)) } s
  forL now (fun x s => txCommit d (x.1 / 16) x.2.1 x.2.2 (x.1 % 16) s) s

def txStarts (d : Nat) (s : State) : State :=
  match runCtx s d with
  | none => s
  | some r => forN r.ctx.links.length (fun ri s =>
      let l := r.ctx.links.getD ri {}
      if l.kind = 1 then (match occAt l.sc l.rep l.period (relSc s d) with | some occ => txStart d ri occ s | none => s) else s) s

/-- Waiting transmissions whose wait ended on this edge. -/
def txWaited (d : Nat) (s : State) : State :=
  let r := domRt s d
  let mine := r.ended.filter (fun w => decide (w.kind = 1))
  let s := setDomRt d { r with ended := r.ended.filter (fun w => !decide (w.kind = 1)) } s
  forL mine (fun w s => txGo d w.ri w.occ 8 s) s

/-! ### Dispositions (R330, R333, R335) -/

/-- RX record of the k-th occurrence of port n. -/
def rxNth (c : Ctx) (n k : Nat) : Option LinkRec :=
  let rec go : List LinkRec → Nat → Option LinkRec
    | [], _ => none
    | l :: t, k => if l.kind = 2 ∧ l.port = n then (if k ≤ l.rep then some l else go t (k - l.rep - 1)) else go t k
  go c.links k

/-- The disposition of the entry that a link queue presents. -/
def rxDispose (d n : Nat) (l : LinkRec) (e : EntryData) (s : State) : State :=
  let a := l.arg
  let p := portPart s n
  let lost := decide (e = .lost)
  let s := scoredEvent d 9 (portUnit n) (rxDisp a + 8 * b2n lost) (relSc s d) [] s
  match e with
  | .flit dest b =>
    if decide (dest ≠ devId s) && decide (rxDisp a ≠ 1) && decide (rxDisp a ≠ 2) && decide (rxDisp a ≠ 3) then linkFault 3 n s
    else if decide (dest = devId s) && decide (rxDisp a = 1) then linkFault 3 n s
    else
      let y := if rxE2e a && decide (rxDisp a ≠ 4) then streamRecv p (rxSrc a) (some b) s else (b, s)
      let s := y.2
      match rxDisp a with
      | 0 =>
        let u := 0x1000 + p
        let t := relSc s d
        let r := muRt s u
        setMu u { r with ins := r.ins ++ [(rxLbd a, t, y.1.take 64), (rxLbd a, t + 1, (padTo 128 y.1).drop 64)] } s
      | 2 =>
        let ok := decide (padTo 128 y.1 = patternFlit (s.rf (aLnkPat n) 0 31) (leAt y.1 0 8))
        s.countSat (aLnkEcnt n (if ok then 8 else 9)) 0 32 1
      | 4 =>
        let v := streamVerify p (rxSrc a) b s
        if v.1 then v.2 else linkFault 4 n v.2
      | _ => s
  | _ =>
    let s := if rxE2e a && decide (rxDisp a ≠ 4) then (streamRecv p (rxSrc a) none s).2 else s
    match rxDisp a with
    | 2 => s.countSat (aLnkEcnt n 9) 0 32 1
    | 3 => s
    | _ => linkFault 2 n s

/-- A link queue has presented an entry on this edge. -/
def rxPresented (q : Nat) (e : EntryData) (s : State) : State :=
  let p := queuePart q
  let d := domLow s p
  let n := queueIdx q - 8
  match runCtx s d with
  | none => s
  | some r => match rxNth r.ctx n ((queueRt s q).made - 1) with | some l => rxDispose d n l e s | none => s

/-- Present a queue's head for the release due now, with what follows from the entry: dispositions of link flits, and the
fault of a poisoned word (R284). -/
def presentDue (q : Nat) (s : State) : State :=
  match (queueRt s q).entries with
  | [] => s
  | e :: _ =>
    let s := present q s
    if 8 ≤ queueIdx q ∧ queueIdx q < 24 then rxPresented q e.data s
    else
      match e.data with
      | .word _ err =>
        if err = 0 then s
        else if err % 8 = 7 then
          -- poison that Roll engine err / 8 entered: the fault record names the engine (R509)
          let d := domLow s (queuePart q)
          addFault d (mkFault s d 6 3 (0x850 + err / 8) 0) s
        else memFault (queuePart q) 3 (err / 8) s
      | _ => s

/-! ### Arrivals from a link -/

/-- The strike that an RX occurrence makes when its entry arrives (R334). -/
def arrivalStrike (q : Nat) (before : Nat) (e : EntryData) (s : State) : State :=
  let p := queuePart q
  let d := domLow s p
  if decide (queueIdx q < 8) || decide (24 ≤ queueIdx q) || decide ((queueRt s q).arrived = before) then s
  else
    match e, activeCtx s d with
    | .flit _ _, some r =>
      (match rxNth r.ctx (queueIdx q - 8) before with
       | some l => if rxStrike l.arg then sendStrike (rxBell l.arg) (portUnit (queueIdx q - 8)) none s else s
       | none => s)
    | _, _ => s

/-- ARRIVAL: the oldest entry on its way to queue q becomes visible on this edge (R227, R231, R232, R334).
(log entry 4, DESIGN CHOICE; log entry 101, DESIGN CHOICE) -/
def execArrival (q : Nat) (s : State) : Out :=
  if !decide (q < 256) then .fault (.noSuchInstance "queue" q)
  else
    match (if (domRt s (domLow s (queuePart q))).chg.isSome then [] else tabGet (fun _ => []) s.xing q) with
    | [] => .next s
    | (e, old) :: r =>
      let s := { s with xing := tabSet (fun _ => []) q r s.xing }
      if old then .next (if e = .lost then s else countDisc q 1 s)
      else
        let k := (queueRt s q).arrived
        .next (arrivalStrike q k e (enterQueue q e s))

/-! ### Sending a frame -/

/-- What the next frame is built from. -/
structure FrameB where
  slots : List Flit := []
  marks : List (Option Nat × Nat × Bool) := []
  q : List TxFlit := []
  held : List TxFlit := []
  next : Nat := 0
  hdr : Option Nat := none
  cnt : Nat := 0
  stop : Bool := false
  fecBad : Bool := false
  corr : Nat := 0
  tagBad : Bool := false
  lateAt : Option (Nat × Nat) := none
  drop : Bool := false
  deriving DecidableEq, Repr

def impKind (s : State) (n : Nat) (i : Option Nat) : Nat := match i with | some k => s.rf (aLnkImpA n k) 28 4 | none => 0
def impCount (s : State) (n : Nat) (i : Option Nat) : Nat := match i with | some k => s.rf (aLnkImpA n k) 20 8 | none => 0
def impValue (s : State) (n : Nat) (i : Option Nat) : Nat := match i with | some k => s.rf (aLnkImpA n k) 10 10 | none => 0

/-- A flit takes a slot; its impairment may spoil the frame or change DEST (Table 9-9). -/
def takeSlot (s : State) (n : Nat) (f : TxFlit) (dseq : Nat) (late : Bool) (b : FrameB) : FrameB :=
  let k := impKind s n f.imp
  let fl := if k = 5 ∧ f.flit.kind = 1 then { f.flit with dest := impValue s n f.imp } else f.flit
  { b with slots := b.slots ++ [fl], marks := b.marks ++ [(f.imp, dseq, late)],
           fecBad := b.fecBad || (decide (k = 1) && decide (16 ≤ impCount s n f.imp)),
           corr := b.corr + (if k = 1 ∧ impCount s n f.imp < 16 then impCount s n f.imp else 0),
           tagBad := b.tagBad || decide (k = 4) }

/-- The next flit of the transmit queue (R310, R313, R332). -/
def fillOne (s : State) (n : Nat) (b : FrameB) : FrameB :=
  if b.stop || decide (8 ≤ b.slots.length) then b
  else
    -- a delayed flit that nothing has overtaken goes in DSEQ order
    match b.held.find? (fun h => decide (h.wait = 0) && !h.late) with
    | some h =>
      let dq := h.dseq.getD 0
      (match b.hdr with
       | some x => if x + b.cnt ≠ dq then { b with stop := true } else { takeSlot s n { h with imp := none } dq false b with held := b.held.erase h, cnt := b.cnt + 1 }
       | none => { takeSlot s n { h with imp := none } dq false b with held := b.held.erase h, cnt := 1, hdr := some dq })
    | none =>
      match b.q with
      | [] => { b with stop := true }
      | f :: rest =>
        let isData := decide (f.flit.kind = 1)
        let k := impKind s n f.imp
        let dq := b.next
        let nx := if isData then (b.next + 1) % 2 ^ 32 else b.next
        if k = 2 then { b with q := rest, next := nx, stop := true, drop := true, slots := b.slots ++ [{}], marks := b.marks ++ [(f.imp, if isData then dq else 2 ^ 32 - 1, false)] }
        else if k = 3 then { b with q := rest, next := nx, held := b.held ++ [{ f with dseq := if isData then some dq else none, wait := impCount s n f.imp }] }
        else if !isData then { takeSlot s n f (2 ^ 32 - 1) false b with q := rest }
        else
          match b.hdr with
          | some x => if x + b.cnt ≠ dq then { b with stop := true }
              else { takeSlot s n f dq false b with q := rest, next := nx, cnt := b.cnt + 1, held := b.held.map (fun h => { h with late := h.late || h.dseq.isSome }) }
          | none => { takeSlot s n f dq false b with q := rest, next := nx, cnt := 1, hdr := some dq, held := b.held.map (fun h => { h with late := h.late || h.dseq.isSome }) }

/-- The late flit of the frame (R313). -/
def fillLate (s : State) (n : Nat) (b : FrameB) : FrameB :=
  match b.held.find? (fun h => decide (h.wait = 0) && h.late) with
  | some h => if b.drop ∨ 8 ≤ b.slots.length then b
      else { takeSlot s n { h with imp := none } (h.dseq.getD 0) true b with held := b.held.erase h, lateAt := some (b.slots.length, h.dseq.getD 0) }
  | none => b

/-- A control flit as it leaves: LATREQ and the Toll message SYNC take their departure time t1 (R245, R317). -/
def departs (t1 : DWord) (x : Nat × List Byte) : List Byte :=
  if x.1 = 4 then spliceAt x.2 16 (leBytes 8 t1.toNat)
  else if x.1 = 1 ∧ byteAt x.2 16 = 1 then spliceAt x.2 24 (leBytes 8 t1.toNat) else x.2

/-- Control flits in free slots, in the order TOLL, STRIKE, HELLO, LATREQ, LATRSP. -/
def pickCtl (l : List (Nat × List Byte)) : Option (Nat × List Byte) :=
  [1, 2, 3, 4, 5].findSome? (fun t => l.find? (fun x => decide (x.1 = t)))

def fillCtl (t1 : DWord) : Nat → List (Nat × List Byte) → FrameB → List (Nat × List Byte) × FrameB
  | 0, l, b => (l, b)
  | k + 1, l, b =>
    if b.drop ∨ 8 ≤ b.slots.length then (l, b)
    else match pickCtl l with
      | none => (l, b)
      | some x => fillCtl t1 k (l.erase x) { b with slots := b.slots ++ [{ kind := 2, payload := departs t1 x }], marks := b.marks ++ [(none, 2 ^ 32 - 1, false)] }

def fillTrace : Nat → List (List Byte) → FrameB → List (List Byte) × FrameB
  | 0, l, b => (l, b)
  | k + 1, l, b =>
    match l with
    | [] => (l, b)
    | x :: r => if b.drop ∨ 8 ≤ b.slots.length then (l, b)
        else fillTrace k r { b with slots := b.slots ++ [{ kind := 3, payload := x }], marks := b.marks ++ [(none, 2 ^ 32 - 1, false)] }

/-- Migration flits take the slots that nothing else claims, as DATA flits in DSEQ order (R722). -/
def fillMig : List Flit → FrameB → FrameB
  | [], b => b
  | f :: l, b =>
    let dq := b.next
    fillMig l { b with slots := b.slots ++ [f], marks := b.marks ++ [(none, dq, false)], next := (dq + 1) % 2 ^ 32, cnt := b.cnt + 1,
                       hdr := some (b.hdr.getD dq) }
/-- Slots that migration may take: none after a drop (Table 9-9), and none while a delayed or dropped flit breaks the frame's DSEQ order. -/
def migRoom (b : FrameB) : Nat :=
  if b.drop || b.q ≠ [] || (match b.hdr with | some x => decide ((x + b.cnt) % 2 ^ 32 ≠ b.next) | none => false) then 0 else 8 - b.slots.length

/-- Frame counters after one frame (R322). -/
def advanceFcnt (n : Nat) (s : State) : State :=
  let r := linkRt s n
  if r.fcnt + 1 < 2 ^ 40 then setLink n { r with fcnt := r.fcnt + 1 } s
  else if r.epoch < 0xFFFF then
    let s := (setLink n { r with fcnt := 0, epoch := r.epoch + 1 } s).put (aLnkStat n) 8 16 (r.epoch + 1)
    plainEvent 0x18 (portUnit n) (r.epoch + 1) s
  else
    let s := setLnkState n stDownKey 5 s
    let p := portPart s n
    if p < 8 then asyncParts sKey 1 n (relSc s p) (2 ^ p) s else asyncTo 0 sKey 0xFF 1 n allOnes48 s

/-! ### The remote sink (R476, R477) -/

/-- The remote sink sends on port n now. -/
def remoteOn (s : State) (n : Nat) : Bool :=
  s.rbit aSnkRem 31 && decide (s.rf aSnkRem 0 4 = n) && decide (lnkState s n = stUp) && decide (8 ≤ portPart s n)

/-- The next frame of a REMOTE channel, ascending, moves to the port as two halves. -/
def remotePull (n : Nat) (s : State) : State :=
  match (List.range 8).find? (fun c => decide (s.rf (aChCtl c) 26 3 = 3) && !(chRt s c).frames.isEmpty) with
  | none => s
  | some c =>
    match (chRt s c).frames with
    | [] => s
    | f :: rest =>
      let s := countDevice 0xC8 0 1 (setChRt c { chRt s c with frames := rest } s)
      let r := linkRt s n
      setLink n { r with trace := r.trace ++ [f.1.take 128, f.1.drop 128] } s

/-- FRAME_SEND: one frame with the next frame counter (R309, R310, R312, R313). -/
def execFrameSend (port : Nat) (s : State) : Out :=
  if !decide (port < 16) then .fault (.noSuchInstance "port" port)
  else
    let st := lnkState s port
    if !portPresent s port || decide (st < stFrame) || decide (stUp < st) then .next s
    else
      -- in the safe state only IDLE slots and TOLL flits leave (R763)
      let safe := inSafe s
      let busy := decide (st = stUp) && !safe
      let s := if remoteOn s port && !safe then forN 4 (fun _ s => if (linkRt s port).trace.length < 8 then remotePull port s else s) s else s
      let r := linkRt s port
      let held := r.held.map (fun h => { h with wait := h.wait - 1 })
      let b0 : FrameB := { q := if busy then r.txq else [], held := if busy then held else r.held, next := r.dseqTx }
      let b := (List.range 9).foldl (fun b _ => fillOne s port b) b0
      let b := if busy then fillLate s port b else b
      let ctl := if safe then r.ctl.filter (fun x => decide (x.1 = 1)) else r.ctl
      let c := if stMeasure ≤ st then fillCtl (s.toll.now + Config.txLatency) 8 ctl b else (ctl, b)
      let c := if safe then (c.1 ++ r.ctl.filter (fun x => decide (x.1 ≠ 1)), c.2) else c
      let t := if busy then fillTrace 8 r.trace c.2 else (r.trace, c.2)
      let m := if busy then migFree (migRoom t.2) port [] s else ([], s)
      let s := m.2
      let b := fillMig m.1 t.2
      let up := decide (tollParent s = port) && sendUp s && !safe
      let down := (childPorts s).contains port && sendDown s && !safe
      let src := devId s + 1024 * port
      let dseq := b.hdr.getD b.next
      let f : Frame := { syncOk := true, fecOk := !b.fecBad, tagOk := !b.tagBad, corr := b.corr, src := src, fcnt := r.fcnt, epoch := r.epoch,
                         holdUp := up, holdDown := down, lateV := b.lateAt.isSome, lateSlot := (b.lateAt.getD (0, 0)).1,
                         lateDseq := (b.lateAt.getD (0, 0)).2 % 2 ^ 16, dseq := dseq, slots := b.slots ++ List.replicate (8 - b.slots.length) {} }
      let s := setLink port { r with mig := (linkRt s port).mig, txq := if busy then b.q else r.txq, held := b.held, dseqTx := b.next, ctl := c.1, trace := t.1,
                                      sentHalf := if t.1.length % 2 = 0 then none else if t.1.length = r.trace.length then r.sentHalf else r.trace[r.trace.length - t.1.length - 1]? } s
      let s := s.emit (.frame port f)
      let s := forN 8 (fun j s =>
        let fl := f.slots.getD j {}
        let m := b.marks.getD j (none, 2 ^ 32 - 1, false)
        let s := if fl.kind = 1 then countUnit (portUnit port) 0x50 1 s else if fl.kind = 2 then countUnit (portUnit port) 0x52 1 s else s
        if fl.kind = 3 then s
        else linkCap port { slot := j, kind := fl.kind, imp := m.1, src := src, dest := if fl.kind = 0 then 0 else fl.dest,
                            dseq := if fl.kind = 0 then 2 ^ 32 - 1 else m.2.1, fcnt := r.fcnt, epoch := r.epoch, corr := 0, late := m.2.2, plain := fl.payload } s) s
      .next (advanceFcnt port s)

/-! ### Receiving a frame -/

/-- Reject reason of a frame (R311), 0 when it is accepted. (log entry 39, DESIGN CHOICE) -/
def rejectOf (r : LinkRt) (keyed : Bool) (f : Frame) : Nat :=
  if !f.syncOk then 1
  else if !f.fecOk then 2
  else if !(match r.rxLast with | none => true | some x => decide (x.1 < f.epoch) || (decide (x.1 = f.epoch) && decide (x.2 < f.fcnt))) then 3
  else if !f.tagOk || !keyed then 4
  else 0

/-- A DATA slot that is not late (R312, R344); one for the device goes to the migration engine while that runs (R722).
(log entry 38, DESIGN CHOICE) -/
def recvData (n : Nat) (fl : Flit) (s : State) : State :=
  let p := portPart s n
  if (migOn s n).isSome && decide (fl.dest = devId s) then s
  else if p < 8 && ctxRuns s (domLow s p) then xingPush (linkQueue p n) (.flit fl.dest (padTo 128 fl.payload)) s
  else s.countSat (aLnkEcnt n 10) 0 32 1

/-- A STRIKE control flit (R219, R334). -/
def recvStrike (n : Nat) (f : Frame) (fl : Flit) (s : State) : State :=
  let p := portPart s n
  let bell := byteAt fl.payload 16
  if p < 8 && (domMask s p).testBit (bellPart bell) then sendStrike bell (portUnit (byteAt fl.payload 1 % 16)) (some (f.src % 1024)) s
  else s.countSat (aLnkEcnt n 7) 0 32 1

/-- The ingest ring of a port takes one more frame: enabled, not full in STOP mode, staging not full (R478). -/
def ingestReady (s : State) (n : Nat) : Bool :=
  let w := (linkRt s n).ingest.length
  s.rbit (aRng true n 0) 17 && decide (w < 2048) &&
  (!s.rbit (aRng true n 0) 31 ||
    decide (((s.reg (aRng true n 0x14)) - (s.reg (aRng true n 0x18))).toNat + w < s.rf (aRng true n 0x10) 0 25))

/-- A TRACE slot (R478): halves pair into frames for the ingest ring. (log entry 92, DESIGN CHOICE) -/
def recvTrace (n : Nat) (fl : Flit) (s : State) : State :=
  let b := padTo 128 fl.payload
  let r := linkRt s n
  match r.half with
  | none => setLink n { r with half := some b } s
  | some a =>
    let whole := a ++ b
    if crc32c (whole.take 252) = leAt whole 252 4 then
      if ingestReady s n then setLink n { r with half := none, ingest := r.ingest ++ [whole] } s
      else (setLink n { r with half := none } s).countSat (aSnkIngLost n) 0 32 1
    else
      let keep := decide (b.take 2 = [0xA5, 0x5C])
      (setLink n { r with half := if keep then some b else none } s).countSat (aSnkIngLost n) 0 32 1

/-- An accepted frame's slots in order. -/
def recvSlots (n : Nat) (f : Frame) (s : State) : State :=
  let r := linkRt s n
  let up := decide (lnkState s n = stUp)
  let nData := (List.range 8).filter (fun j => decide ((f.slots.getD j {}).kind = 1) && !(f.lateV && decide (f.lateSlot = j)))
  let gap := match r.dseqRx with | some x => (f.dseq + 2 ^ 32 - x) % 2 ^ 32 | none => 0
  let gap := if gap < 2 ^ 31 then gap else 0
  let p := portPart s n
  let s := if up && decide (gap ≠ 0) then countUnit (portUnit n) 0x55 gap (s.countSat (aLnkEcnt n 5) 0 32 gap) else s
  let s := if up && p < 8 && ctxRuns s (domLow s p) then forN gap (fun _ s => xingPush (linkQueue p n) .lost s) s else s
  let s := setLink n { linkRt s n with dseqRx := if up then some ((f.dseq + nData.length) % 2 ^ 32) else r.dseqRx } s
  forN 8 (fun j s =>
    let fl := f.slots.getD j {}
    let late := f.lateV && decide (f.lateSlot = j)
    let pos := (nData.filter (fun i => decide (i < j))).length
    let x := (f.dseq + nData.length) % 2 ^ 32
    let lateSeq := (x + 2 ^ 32 - 1 - (x + 2 ^ 32 - 1 - f.lateDseq) % 2 ^ 16) % 2 ^ 32
    let dq := if fl.kind ≠ 1 then 2 ^ 32 - 1 else if late then lateSeq else (f.dseq + pos) % 2 ^ 32
    let s := if fl.kind = 3 then s
      else linkCap n { rx := true, slot := j, kind := fl.kind, src := f.src, dest := if fl.kind = 1 then fl.dest else 0, dseq := dq, fcnt := f.fcnt,
                       epoch := f.epoch, corr := f.corr, late := late && decide (fl.kind = 1), plain := fl.payload } s
    match fl.kind with
    | 1 => if !up then s else if late then s.countSat (aLnkEcnt n 11) 0 32 1 else recvData n fl (countUnit (portUnit n) 0x51 1 s)
    | 2 => if byteAt fl.payload 0 = 2 ∧ stMeasure ≤ lnkState s n then recvStrike n f fl s else s
    | 3 => if up then recvTrace n fl s else s
    | _ => s) s

/-- FRAME_RECEIVE: a port accepts or rejects a frame and takes its flits (R311 to R314).
(log entry 39, DESIGN CHOICE) -/
def execFrameReceive (port : Nat) (f : Frame) (s : State) : Out :=
  if !decide (port < 16) then .fault (.noSuchInstance "port" port)
  else
    let st := lnkState s port
    if !portPresent s port || decide (st < stKey) || decide (stUp < st) then .next s
    else
      let keyed := (linkKey s port).isSome
      let r := linkRt s port
      let s := if f.corr = 0 then s else countUnit (portUnit port) 0x53 f.corr (s.countSat (aLnkEcnt port 0) 0 32 f.corr)
      let why := rejectOf r keyed f
      if why ≠ 0 then
        let s := s.countSat (aLnkEcnt port (match why with | 1 => 4 | 2 => 1 | 3 => 3 | _ => 2)) 0 32 1
        let s := countUnit (portUnit port) 0x54 1 s
        let s := linkCap port { rx := true, kind := 3, reject := why, src := f.src, dseq := f.dseq, fcnt := f.fcnt, epoch := f.epoch, corr := f.corr } s
        let r := linkRt s port
        let r := { r with rej := r.rej + 1, noSync := if why = 1 then r.noSync + 1 else 0, acc := 0, half := none }
        let s := if (linkRt s port).half.isSome then s.countSat (aSnkIngLost port) 0 32 1 else s
        let s := setLink port r s
        if !keyed then .next s
        else if 8 ≤ r.rej then .next (setLnkState port stDownErr 3 s)
        else if 4 ≤ r.noSync then .next (setLnkState port stDownErr 2 s)
        else .next s
      else
        let s := setLink port { r with rxLast := some (f.epoch, f.fcnt), rej := 0, noSync := 0, acc := r.acc + 1, rxUp := f.holdUp, rxDown := f.holdDown } s
        let s := recvSlots port f s
        if st = stKey ∧ 16 ≤ r.acc + 1 then .next (setLnkState port stMeasure 0 s) else .next s

/-! ### Training (R315) -/

/-- TRAIN: PMD training completes. -/
def execTrain (port : Nat) (s : State) : Out :=
  if !decide (port < 16) then .fault (.noSuchInstance "port" port)
  else .next (if portPresent s port && decide (lnkState s port = stTrain) then setLnkState port stFrame 0 s else s)

/-- TRAIN_TIMEOUT: training does not complete within 1 s. -/
def execTrainTimeout (port : Nat) (s : State) : Out :=
  if !decide (port < 16) then .fault (.noSuchInstance "port" port)
  else .next (if portPresent s port && decide (lnkState s port = stTrain) then setLnkState port stDownErr 1 s else s)

/-- FRAME_LOCK: 8 consecutive SYNC pairs are found. -/
def execFrameLock (port : Nat) (s : State) : Out :=
  if !decide (port < 16) then .fault (.noSuchInstance "port" port)
  else .next (if portPresent s port && decide (lnkState s port = stFrame) then setLnkState port stKey 0 s else s)

/-- AUTO_RETRAIN: 10 ms after DOWN_ERR. -/
def execAutoRetrain (port : Nat) (s : State) : Out :=
  if !decide (port < 16) then .fault (.noSuchInstance "port" port)
  else .next (if portPresent s port && decide (lnkState s port = stDownErr) && s.rbit (aLnkCtl port) 31 && s.rbit (aLnkCtl port) 30
      then startTrain port s else s)

/-- LINK_DOWN: a port leaves its state for DOWN_ERR with a reason of Table 9-11 (R223, R342). -/
def execLinkDown (port reason : Nat) (s : State) : Out :=
  if !decide (port < 16) then .fault (.noSuchInstance "port" port)
  else .next (if portPresent s port && decide (stTrain ≤ lnkState s port) && decide (lnkState s port ≤ stUp) && decide (1 ≤ reason) && decide (reason ≤ 6)
      then setLnkState port stDownErr reason s else s)

/-- Latency figures of a measured port (R317, R319, R247). Rates are in tenths of GHz: 15, 12, 9, 6 for F1 to F4. -/
def fclkTenths (c : Nat) : Nat := match c with | 1 => 15 | 2 => 12 | 3 => 9 | _ => 6

/-- Half of x tt rounded up to a multiple of 3.2 tt (R317), in units of 3.2 tt. -/
def halfUnits (x : Int) : Nat := ((5 * x + 31) / 32).toNat

/-- WL_MAX, DELAY and the LAT registers after 64 exchanges. ASYM is a signed 16-bit count. The
field WL_MAX holds whole tt. (log entry 44, DESIGN CHOICE) -/
def measureDone (n : Nat) (s : State) : State :=
  let r := linkRt s n
  let asym : Int := (BitVec.ofNat 16 (s.rf (aTolAsym n) 0 16)).toInt
  let u := (r.rtts.map (fun x => halfUnits (x + asym))).foldl max 0
  let wl := (16 * u + 4) / 5
  let sum : Int := r.rtts.foldl (· + ·) 0
  let delay := (sum / (2 * (r.rtts.length : Int))).toNat
  let s := s.setReg (aLnkWlat n) (BitVec.ofNat 32 (wl % 2 ^ 16 * 2 ^ 16 + delay % 2 ^ 16))
  -- 64 tt make one ns: sc = (ns × 64 + WL) × f / 64
  forL [1, 2, 3, 4] (fun c s =>
    let f := fclkTenths c
    let lo := (5 * 52 * 64 + 16 * u) * f / 3200
    let hi := ((5 * 132 * 64 + 16 * u) * f + 3199) / 3200 + 1
    s.setReg (aLnkLat n c) (BitVec.ofNat 32 (hi % 2 ^ 16 * 2 ^ 16 + lo % 2 ^ 16))) s

/-- MEASURE ends when HELLO is checked and 64 exchanges are made (R315 to R318). -/
def tryUp (n : Nat) (s : State) : State :=
  let r := linkRt s n
  if lnkState s n = stMeasure ∧ r.hello = true ∧ 64 ≤ r.rtts.length then
    setLnkState n stUp 0 (measureDone n s)
  else s

/-- HELLO: the peer's tag and device ID are checked and the peer recorded (R316). -/
def execHello (port : Nat) (m : CtrlMsg) (s : State) : Out :=
  if !decide (port < 16) then .fault (.noSuchInstance "port" port)
  else if !portPresent s port || decide (lnkState s port ≠ stMeasure) then .next s
  else if m.tag ≠ s.reg aPealTag ∨ m.dev % 1024 = devId s then .next (setLnkState port stDownErr 4 s)
  else
    let s := s.setReg (aLnkPeer port) (BitVec.ofNat 32 (2 ^ 31 + m.peerPort % 16 * 2 ^ 16 + m.dev % 1024))
    .next (tryUp port (setLink port { linkRt s port with hello := true } s))

/-- LATREQ: stamped and answered with t1, t2 and the departure t3 (R317). (log entry 44, DESIGN CHOICE) -/
def execLatreq (port : Nat) (m : CtrlMsg) (s : State) : Out :=
  if !decide (port < 16) then .fault (.noSuchInstance "port" port)
  else if !portPresent s port || decide (lnkState s port < stMeasure) || decide (stUp < lnkState s port) then .next s
  else .next (queueCtl port 5 (leBytes 8 m.t1.toNat ++ leBytes 8 m.arrive.toNat ++ leBytes 8 m.depart.toNat ++ leBytes 2 m.seq) s)

/-- LATRSP: one exchange ends; after 64 the latency figures stand (R317). -/
def execLatrsp (port : Nat) (m : CtrlMsg) (s : State) : Out :=
  if !decide (port < 16) then .fault (.noSuchInstance "port" port)
  else if !portPresent s port || decide (lnkState s port ≠ stMeasure) then .next s
  else
    let r := linkRt s port
    if 64 ≤ r.rtts.length then .next s
    else
      let rtt : Int := (m.arrive - m.t1).toInt - (m.t3 - m.t2).toInt
      let s := setLink port { r with rtts := r.rtts ++ [rtt] } s
      .next (tryUp port s)

/-- TX: a TX occurrence falls due on this edge (R331). -/
def execTx (port ri occ : Nat) (s : State) : Out :=
  if !decide (port < 16) then .fault (.noSuchInstance "port" port)
  else
    let p := portPart s port
    if 8 ≤ p then .next s
    else
      let d := domLow s p
      .next (if actsOn s d then
          match linkRec s d ri with
          | some l => if l.port = port ∧ l.kind = 1 ∧ occAt l.sc l.rep l.period (relSc s d) = some occ then txWaited d (txStart d ri occ s) else s
          | none => s
        else s)

end Sys2Proof.Machine
end

