-- ==== Sys2Proof/Machine/Counters.lean ====
section
/-! DEFINITION. Counters beyond their adding (chapter 13): selection, loads, samples, snapshots, freezing, and the commands
CNT_SET and CNT_SNAP. -/

namespace Sys2Proof.Machine

/-! ### Which counters there are -/

/-- Unit kind of a unit ID, by its codes: 0 CU, 1 MU, 2 DMA engine, 3 link port, 4 other. -/
def unitKind (u : Nat) : Nat :=
  if isCu u then 0 else if isMu u then 1 else if 0x800 ≤ u ∧ u < 0x840 then 2 else if 0x840 ≤ u ∧ u < 0x850 then 3 else 4

/-- A code that Table 13-4 lists for the group and the unit's kind (R441). Every array unit has a switch box. -/
def codeOk (group u c : Nat) : Bool :=
  if c = 0 then true
  else if group = 0 then
    decide (c ≤ 4) || (decide (u < 0x800) && decide (0x30 ≤ c) && decide (c ≤ 0x33)) ||
    (match unitKind u with
     | 0 => decide (0x10 ≤ c) && decide (c ≤ 0x16)
     | 1 => decide (0x20 ≤ c) && decide (c ≤ 0x25)
     | 2 => decide (0x40 ≤ c) && decide (c ≤ 0x43)
     | 3 => decide (0x50 ≤ c) && decide (c ≤ 0x56)
     | _ => false)
  else if group = 3 then decide (0xC0 ≤ c) && decide (c ≤ 0xC9)
  else decide (0x80 ≤ c) && decide (c ≤ 0x87)

def groupSize (g : Nat) : Nat := match g with | 0 => 4 | 3 => 32 | _ => 64
/-- Group of a counter, by its SEL key. -/
def ctrGroup (a : Nat) : Nat :=
  let o := a - bCnt
  if o < 0x40000 then 0 else 1 + (o - 0x40000) / 0x1000
/-- Unit of a unit counter's key, 0xFFFF for the other groups. -/
def ctrUnitOf (a : Nat) : Nat := if ctrGroup a = 0 then ctrUnit a else 0xFFFF
/-- SEL keys of every counter that some write, load or event has touched. -/
def touched (s : State) : List Nat :=
  ((s.ctrs.map Prod.fst) ++ ((s.regs.map Prod.fst).filter (fun a => decide (bCnt ≤ a) && decide (a < bCnt + 0x50000))).map (fun a => a / 16 * 16)).eraseDups
/-- Units with a touched counter, in a slip domain's mask, ascending. -/
def touchedUnits (s : State) (mask : Nat) : List Nat :=
  sortLe (fun a b => decide (a ≤ b))
    ((((touched s).filter (fun a => decide (ctrGroup a = 0))).map ctrUnit).eraseDups.filter
      (fun u => unitPresent s u && decide (unitOwner s u < 8) && mask.testBit (unitOwner s u)))
/-- Present units of a partition, ascending. -/
def unitsOf (s : State) (p : Nat) : List Nat := (List.range 0x877).filter (fun u => unitPresent s u && decide (unitOwner s u = p))
/-- A unit's four counters. -/
def unitCtrs (u : Nat) : List Nat := (List.range 4).map (aCntSel 0 u)
/-- Every counter of a scope bit (CLP_SCOPE), in the order of R447's copy. -/
def scopeCtrs (s : State) (b : Nat) : List Nat :=
  if b < 8 then (unitsOf s b).flatMap unitCtrs
  else if b = 10 then (List.range 32).map (aCntSel 3 0)
  else (List.range 64).map (aCntSel (b - 7) 0)

/-! ### Selection (R444) and loads (R446) -/

def ctrPending (s : State) (a : Nat) : Bool := s.rbit (a + 12) 29
/-- The counter's unit belongs to a slip domain: its edges are FCLK edges. -/
def onFclk (s : State) (a : Nat) : Bool := decide (ctrGroup a = 0) && decide (unitOwner s (ctrUnit a) < 8)

/-- The requested code takes effect; the counter counts from zero. (log entry 86, DESIGN CHOICE) -/
def reselect (a : Nat) (s : State) : State :=
  let s := (s.put a 8 8 (s.rf a 0 8)).setBit (a + 12) 29 false
  setCtr a { ctrRt s a with val := 0, hold := none, sel := 0 } s

/-- A write of EVSEL. A counter whose source is no FCLK domain's and that has no sample takes it at once. -/
def writeEvsel (a code : Nat) (s : State) : State :=
  let s := s.put a 0 8 code
  if code = ctrCode s a then setCtr a { ctrRt s a with sel := 0 } (s.setBit (a + 12) 29 false)
  else
    let s := setCtr a { ctrRt s a with sel := 2 } (s.setBit (a + 12) 29 true)
    if ctrGroup a = 0 && !onFclk s a then reselect a s else s

/-- A load takes place on an edge of the source: the value counted so far is kept for a sample of that edge.
(log entry 86, DESIGN CHOICE) -/
def landLoad (a : Nat) (s : State) : State :=
  let r := ctrRt s a
  match r.load with
  | none => s
  | some v =>
    let old := r.hold.getD r.val
    let s := setCtr a { r with val := v, load := none, hold := if onFclk s a then some old else none } s
    if ctrFrozen s a then s else noteCross a old v s

/-- A write of VALH: the load lands on the next FCLK edge, or at once where no slip domain clocks the counter. -/
def writeValh (a hi : Nat) (s : State) : State :=
  let r := ctrRt s a
  let s := setCtr a { r with load := some ((hi % 2 ^ 16) * 2 ^ 32 + r.lo) } s
  if onFclk s a then s else landLoad a s

/-- A write of VALL stages the low word. -/
def writeVall (a lo : Nat) (s : State) : State := setCtr a { ctrRt s a with lo := lo % 2 ^ 32 } s

/-! ### Packets -/

/-- Entry of a counter in a COUNTER packet. -/
def ctrEntry (s : State) (counted resel : Bool) (a : Nat) : Nat × Nat × Nat :=
  let r := ctrRt s a
  (if counted then r.hold.getD r.val else r.val, ctrCode s a, b2n r.wrap + 2 * b2n (resel && ctrPending s a))

/-- Drop the unreported wraps of some counters. -/
def clearWraps (as : List Nat) (s : State) : State :=
  forL as (fun a s => if (ctrRt s a).wrap then setCtr a { ctrRt s a with wrap := false } s else s) s

/-- COUNTER packet of a unit: REASON 0 PERIODIC, 1 OVERFLOW, 2 SNAPSHOT. -/
def unitPacket (reason u : Nat) (s : State) : State :=
  let es := (unitCtrs u).map (ctrEntry s (decide (reason = 0)) (decide (reason = 0)))
  let s := stagePkt clsCounter u 0 (counterBytes reason 0 0 u (unitSc s u) es) s
  if reason = 2 then s else clearWraps (unitCtrs u) s

/-- One packet of a cluster or device group, of the eight counters from `first` (R443, R445).
(log entry 86, DESIGN CHOICE) -/
def groupPacket (reason g first : Nat) (s : State) : State :=
  let as := (List.range 8).map (fun i => aCntSel g 0 (first + i))
  let es := as.map (ctrEntry s (decide (reason = 0)) (decide (reason = 0)))
  let s := stagePkt clsCounter 0xFFFF 0 (counterBytes reason g first 0xFFFF allOnes48 es) s
  if reason = 2 then s else clearWraps as s

def groupPackets (reason g : Nat) (s : State) : State := forN (groupSize g / 8) (fun i s => groupPacket reason g (8 * i) s) s

/-- A sample of a cluster or device group, with the reselections it brings (R443, R444). -/
def sampleGroup (g : Nat) (s : State) : State :=
  let s := groupPackets 0 g s
  forN (groupSize g) (fun i s => let a := aCntSel g 0 i; if ctrPending s a then reselect a s else s) s

/-- The current edge is a sample boundary of a domain: R442. -/
def atBoundary (s : State) (d : Nat) : Bool :=
  decide (plnState s d = stRun) && decide (relSc s d % 2 ^ s.rf (aCntCtl d) 0 5 = 0)

/-- The unit joins periodic samples. -/
def unitSampled (s : State) (u : Nat) : Bool := (unitCtrs u).any (fun a => s.rbit a 31)

/-- A boundary's sample of one unit, once on its edge, and its reselections. -/
def sampleUnit (d u : Nat) (s : State) : State :=
  onceAt d (20, u, 0) (fun s =>
    let s := if unitSampled s u then unitPacket 0 u s else s
    forL (unitCtrs u) (fun a s => if ctrPending s a then reselect a s else s) s) s

def sampleDomain (d : Nat) (s : State) : State :=
  if atBoundary s d then forL (touchedUnits s (domMask s d)) (fun u s => sampleUnit d u s) s else s

/-- OVERFLOW packets of units whose counters wrapped on this edge. -/
def overflowDomain (d : Nat) (s : State) : State :=
  forL (touchedUnits s (domMask s d)) (fun u s => if (unitCtrs u).any (fun a => (ctrRt s a).wrap) then unitPacket 1 u s else s) s

/-- Outside a context a new code takes effect on the second edge after its write (R444). -/
def idleReselect (d : Nat) (s : State) : State :=
  if ctxRuns s d then s
  else forL ((touchedUnits s (domMask s d)).flatMap unitCtrs) (fun a s =>
    if !ctrPending s a then s
    else if (ctrRt s a).sel ≤ 1 then reselect a s
    else setCtr a { ctrRt s a with sel := (ctrRt s a).sel - 1 } s) s

/-- Loads of a domain's units land as the edge begins. (log entry 86, DESIGN CHOICE) -/
def landLoads (d : Nat) (s : State) : State := forL ((touchedUnits s (domMask s d)).flatMap unitCtrs) (fun a s => landLoad a s) s

/-- The edge is over: values counted beside a load are forgotten. -/
def dropHolds (d : Nat) (s : State) : State :=
  forL ((touchedUnits s (domMask s d)).flatMap unitCtrs) (fun a s =>
    if (ctrRt s a).hold.isSome then setCtr a { ctrRt s a with hold := none } s else s) s

/-! ### Snapshots (R447) -/

/-- What a copy of a scope reads: value, select in force, OVF, FROZEN, from the shadow registers. -/
def snapEntry (s : State) (a : Nat) : List Byte :=
  leBytes 6 ((s.reg (a + 4)).toNat + 2 ^ 32 * s.rf (a + 8) 0 16) ++ [bite (ctrCode s a), bite (b2n (s.rbit (a + 12) 31) + 2 * b2n (ctrFrozen s a))]

def scopeNeed (s : State) (mask : Nat) : Nat := ((maskBits 11 mask).map (fun b => 8 * (scopeCtrs s b).length)).foldl (· + ·) 0

/-- A CNT_SNAP whose scopes are all taken copies them out and ends. `a` holds the scopes not yet taken. -/
def finishSnap (o : Outst) (s : State) : State :=
  let scope := o.call.le 16 2 % 2 ^ 11
  let need := scopeNeed s scope
  let len := min (o.call.le 32 4) need
  let bytes := ((maskBits 11 scope).flatMap (fun b => (scopeCtrs s b).flatMap (snapEntry s))).take len
  let s := if o.call.le 24 8 = 0 then s else o.call.output (o.call.le 24 8) bytes s
  finishO o sOk (leBytes 4 need) s

/-- Scope b is copied into its shadow registers on this edge. -/
def takeScope (b : Nat) (s : State) : State :=
  let as := (touched s).filter (fun a => ctrScope s a == some b)
  let s := forL as (fun a s =>
    let v := (ctrRt s a).val
    (s.setReg (a + 4) (BitVec.ofNat 32 v)).setReg (a + 8) (BitVec.ofNat 32 (v / 2 ^ 32))) s
  let c := s.clap
  let s := if c.snapPkt.testBit b then
      (if b < 8 then forL (unitsOf s b) (fun u s => unitPacket 2 u s) s else groupPackets 2 (b - 7) s)
    else s
  let c := s.clap
  let off (m : Nat) : Nat := maskOf ((maskBits 11 m).filter (fun x => decide (x ≠ b)))
  let s := setClap { c with snapArm := off c.snapArm, snapNew := off c.snapNew, snapPkt := off c.snapPkt, snapGo := off c.snapGo } s
  let s := if (off c.snapGo) = 0 then s.setBit aCntSnap 31 false else s
  let s := setOutst (s.host.outst.map (fun o => if o.op = 0x58 then { o with a := off o.a } else o)) s
  forL (s.host.outst.filter (fun o => decide (o.op = 0x58) && decide (o.a = 0))) (fun o s => finishSnap o s) s

/-- Request a snapshot: cluster and device scopes are taken at once, unit scopes on the next FCLK edge of their domain;
scopes of absent partitions count as taken. (log entry 86, DESIGN CHOICE) -/
def requestSnap (mask : Nat) (packets : Bool) (s : State) : State :=
  let units := maskOf ((maskBits 8 mask).filter (partPresent s))
  let now := (List.range 11).filter (fun b => mask.testBit b && (decide (8 ≤ b) || !partPresent s b))
  let s := setClap { s.clap with snapNew := s.clap.snapNew ||| units, snapPkt := if packets then s.clap.snapPkt ||| mask else s.clap.snapPkt } s
  forL now (fun b s => takeScope b s) s

/-- Unit scopes of a domain whose snapshot falls on this edge; those requested since wait for the next. -/
def snapDomain (d : Nat) (s : State) : State :=
  forL ((maskBits 8 (domMask s d)).filter (fun p => s.clap.snapArm.testBit p)) (fun p s => takeScope p s) s
def armSnaps (d : Nat) (s : State) : State :=
  let m := maskOf ((maskBits 8 (domMask s d)).filter (fun p => s.clap.snapNew.testBit p))
  setClap { s.clap with snapArm := s.clap.snapArm ||| m,
                        snapNew := maskOf ((maskBits 8 s.clap.snapNew).filter (fun p => !m.testBit p)) } s

/-- CNT_SNAP.GO (R447): a second GO while one runs has no further effect (R18). (log entry 86, DESIGN CHOICE) -/
def goSnap (scope : Nat) (s : State) : State :=
  if s.rbit aCntSnap 31 then s
  else
    let s := s.setBit aCntSnap 31 true
    let s := setClap { s.clap with snapGo := scope } s
    let s := requestSnap scope false s
    if s.clap.snapGo = 0 then s.setBit aCntSnap 31 false else s

/-! ### Resets -/

/-- One counter at its reset value (R454). -/
def clearCtr (a : Nat) (s : State) : State :=
  setCtr a {} (((s.clearReg a).clearReg (a + 4)).clearReg (a + 8) |>.clearReg (a + 12))

/-- Counters 2 and 3 of a partition's units. -/
def clearHolderCtrs (p : Nat) (s : State) : State :=
  forL ((touched s).filter (fun a => decide (ctrGroup a = 0) && decide (unitOwner s (ctrUnit a) = p) && decide (2 ≤ (a - bCnt) / 16 % 4))) (fun a s => clearCtr a s) s

/-! ### Who may write (R440) -/

/-- The function that writes a counter. -/
def ctrWriter (s : State) (f a : Nat) : Bool :=
  let u := ctrUnit a
  if ctrGroup a = 0 ∧ 2 ≤ (a - bCnt) / 16 % 4 then
    (if unitOwner s u < 8 && held s (unitOwner s u) then decide (f = unitOwner s u + 1) else decide (f = 0))
  else decide (f = 0)

/-! ### Commands and rows -/

/-- Checks and effect of CNT_SET (Table 19-9). -/
def bodyCntSet (c : Call) (s : State) : CmdRes :=
  let g := c.b 16
  let i := c.b 17
  let u := c.le 18 2
  let a := aCntSel g u i
  let ev := c.b 20
  let okOperand := decide (g ≤ 3) && decide (i < groupSize g) && (decide (g ≠ 0) || decide (u < 0x1000))
  if !okOperand then .no (if c.fn = 0 then sParam else sPerm) s
  else if !ctrWriter s c.fn a then .no sPerm s
  else if g = 0 && !unitPresent s u then .no sAbsent s
  else if !(decide (ev = 0xFF) || codeOk g u ev) || decide (8 ≤ c.b 22) then .no sParam s
  else
    let s := ((s.setBit a 31 (c.bit 21 0)).setBit a 19 (c.bit 21 1)).put a 16 3 (c.b 22)
    let s := if ev = 0xFF then s else writeEvsel a ev s
    let s := if c.bit 21 2 then writeValh a (c.le 28 2) (writeVall a (c.le 24 4) s) else s
    .done sOk [] s

/-- CNT_SET (0x57). -/
def execCntSet (c : Call) (s : State) : Out := .next (runCmd 0x57 callA bodyCntSet c s)

/-- Checks and effect of CNT_SNAP: its reply follows the last scope's edge. -/
def bodyCntSnap (c : Call) (s : State) : CmdRes :=
  let scope := c.le 16 2
  if c.fn ≠ 0 ∧ scope ≠ 0 ∧ scope ≠ 2 ^ (c.fn - 1) then .no sPerm s
  else if 2 ^ 11 ≤ scope then .no sParam s
  else match (if c.le 24 8 = 0 then none else c.outOk (c.le 24 8) (c.le 32 4)) with
  | some e => .no e s
  | none =>
    let units := maskOf ((maskBits 8 scope).filter (partPresent s))
    if units = 0 then
      let s := requestSnap scope false s
      let need := scopeNeed s scope
      let bytes := ((maskBits 11 scope).flatMap (fun b => (scopeCtrs s b).flatMap (snapEntry s))).take (min (c.le 32 4) need)
      .done sOk (leBytes 4 need) (if c.le 24 8 = 0 then s else c.output (c.le 24 8) bytes s)
    else
      let o : Outst := { op := 0x58, call := c, acc := true, a := units }
      let s := setOutst ((s.host.outst.eraseP (isCall c 0x58)) ++ [o]) s
      .long o (refreshCall c (requestSnap scope false s))

/-- CNT_SNAP (0x58). -/
def execCntSnap (c : Call) (s : State) : Out := .next (runCmd 0x58 callA bodyCntSnap c s)

/-- GROUP_SAMPLE: Toll time crosses a multiple of 2^TEXP (R443): group 1 and 2 the clusters, 3 the device. -/
def execGroupSample (group : Nat) (s : State) : Out :=
  if !(decide (1 ≤ group) && decide (group ≤ 3)) then .fault (.noSuchInstance "counter group" group)
  else .next (sampleGroup group s)

/-- THRESHOLD: a counter has crossed its threshold and comparator 8 + t matches (R432). -/
def execThreshold (t : Nat) (s : State) : Out :=
  if !decide (t < 4) then .fault (.noSuchInstance "threshold" t)
  else if !s.clap.crossed.contains t then .next s
  else
    let a := thrCtr s t
    let u := ctrUnitOf a
    .next (setClap { s.clap with
      crossed := s.clap.crossed.erase t,
      waits := s.clap.waits ++ [{ src := 3, cmp := 8 + t, unit := u, sc := if u < 0x1000 then unitSc s u else allOnes48,
                                  stamp := s.toll.now, inputs := s.clap.inputs }] } s)

/-- OVERFLOW: the group of a wrapped counter emits its packet (R445). On a sample boundary the sample replaces it. -/
def execOverflow (ctr : CtrId) (s : State) : Out :=
  if !(decide (ctr.group ≤ 3) && decide (ctr.idx < groupSize ctr.group) && decide (ctr.unit < 0x1000)) then
    .fault (.noSuchInstance "counter" ctr.idx)
  else
    let a := aCntSel ctr.group ctr.unit ctr.idx
    if !(ctrRt s a).wrap then .next s
    else if ctr.group = 0 then
      .next (if onFclk s a && atBoundary s (domLow s (unitOwner s ctr.unit)) && unitSampled s ctr.unit then s else unitPacket 1 ctr.unit s)
    else .next (groupPacket 1 ctr.group (ctr.idx / 8 * 8) s)

end Sys2Proof.Machine
end

