-- ==== Sys2Proof/Machine/Loops.lean ====
section
/-! DEFINITION. The self-management loops (chapter 23): how a value in force is decided among hard limits, operator pins, the
loop and tenant hints, conflicts and their reports, the governor's bounds (R366, R367), and the loops' periods. -/

namespace Sys2Proof.Machine

def setPwr (r : PwrRt) (s : State) : State := { s with pwr := r }

/-! ### Registers of a loop instance (Table 23-4) -/

def lpValue (s : State) (l i : Nat) : Nat := s.rf (aPwr l i 0) 0 16
def lpPinLo (s : State) (l i : Nat) : Nat := s.rf (aPwr l i 1) 0 16
def lpPinHi (s : State) (l i : Nat) : Nat := s.rf (aPwr l i 1) 16 16
def lpHintLo (s : State) (l i : Nat) : Nat := s.rf (aPwr l i 2) 0 16
def lpHintHi (s : State) (l i : Nat) : Nat := s.rf (aPwr l i 2) 16 16
def lpPinned (s : State) (l i : Nat) : Bool := s.rbit (aPwr l i 3) 31
def lpHinted (s : State) (l i : Nat) : Bool := s.rbit (aPwr l i 3) 30
/-- Instances of a loop (Table 23-2). -/
def lpCount (l : Nat) : Nat := match l with | 3 => 3 | 5 => 16 | 6 => 4 | _ => 8
def lpTakesHints (l : Nat) : Bool := decide (l = 4) || decide (l = 7)

/-- A decision: value, rank that decided it, a conflict as (rank that prevailed, rank that yielded, bound that yielded). -/
structure Dec where
  val : Nat := 0
  rank : Nat := 3
  conf : Option (Nat × Nat × Nat) := none
  deriving DecidableEq, Repr

def clampTo (lo hi v : Nat) : Nat := min (max v lo) hi

/-- Steps two and three of R738 on what the loop chose: the pin, then the hard limit [hlo, hhi]. A pin that yields to the
hard limit is the conflict reported, before an ignored hint (one packet per period). -/
def decide3 (s : State) (l i hlo hhi : Nat) (d : Dec) : Dec :=
  let lo := lpPinLo s l i
  let hi := lpPinHi s l i
  let pin := lpPinned s l i
  let v1 := if pin then clampTo lo hi d.val else d.val
  let r1 := if v1 = d.val then d.rank else 2
  let v2 := clampTo hlo hhi v1
  { val := v2, rank := if v2 = v1 then r1 else 1,
    conf := if pin && (decide (v2 < lo) || decide (hi < v2)) then some (1, 2, if v2 < lo then lo else hi) else d.conf }

/-- Who hears of a conflict (R603, R739): the holder of the partition concerned, or PF0.
(log entry 27, DESIGN CHOICE) -/
def policyAsync (part : Option Nat) (l : Nat) (s : State) : State :=
  match part with
  | some p => asyncParts sPolicy 5 l (relSc s p) (2 ^ p) s
  | none => asyncTo 0 sPolicy 0xFF 5 l allOnes48 s

/-- The partition that an instance concerns. -/
def lpPart (s : State) (l i : Nat) : Option Nat :=
  if l = 4 ∨ l = 7 then some i else if l = 5 then (if portPart s i < 8 then some (portPart s i) else none) else none

/-- A decided value comes into force; a change in conflict is reported (R739). -/
def applyDec (l i : Nat) (d : Dec) (s : State) : State :=
  let was := lpValue s l i
  let s := s.setReg (aPwr l i 0) (BitVec.ofNat 32 (d.rank * 2 ^ 28 + d.val % 2 ^ 16))
  match d.conf with
  | none => s
  | some (up, down, req) =>
    if d.val = was then s
    else
      let p := lpPart s l i
      let s := stagePolicy 0x875 l up down p i 0 req d.val s
      let s := s.setBit (aPwr l i 3) 29 true
      raise 0 15 (policyAsync p l s)

/-! ### THERMAL (R745, R746) -/

def tjOf (s : State) (i : Nat) : Int := if s.rbit (aPwrTj i) 31 then (BitVec.ofNat 8 (s.rf (aPwrTj i) 0 8)).toInt else 105
def tjTarget (s : State) : Int := s.rf aPwrLim 24 8
def thermReq (s : State) (p : Nat) : Nat := max (tabGet (fun _ => 0) s.pwr.therm p) s.pwr.power
/-- Temperature that the read of a stack gave; a failed one counts as 95 °C here (R757). -/
def stackTemp (s : State) (k bad : Nat) : Nat := if s.pwr.stackBad.testBit k then bad else s.rf (aMemRef k) 24 8
/-- The hard floor H_p. -/
def thermFloor (s : State) (p : Nat) : Nat :=
  let t := tjOf s p
  max (if 105 ≤ t then min 255 (128 + 32 * (t - 105)).toNat else 0) (if 95 ≤ stackTemp s (p / 2) 95 then 128 else 0)

/-- The loop's choice with its hint (R738, R746). -/
def thermChoice (s : State) (p : Nat) : Dec :=
  let r := thermReq s p
  if !lpHinted s 4 p then { val := r }
  else if r ≤ lpHintHi s 4 p then { val := max r (lpHintLo s 4 p), rank := if r < lpHintLo s 4 p then 4 else 3 }
  else { val := r, conf := some (3, 4, lpHintHi s 4 p) }

def thermDec (s : State) (p : Nat) : Dec := decide3 s 4 p (thermFloor s p) 255 (thermChoice s p)

def clamp255 (i : Int) : Nat := if i < 0 then 0 else if 255 < i then 255 else i.toNat
def ceilHalf (i : Int) : Int := -((-i) / 2)

/-- Store the period's readings (Table 23-4). -/
def readSensors (x : ThermIn) (s : State) : State :=
  let s := forN 9 (fun i s =>
    match x.tj.getD i none with
    | some b => s.setReg (aPwrTj i) (BitVec.ofNat 32 (2 ^ 31 + b.toNat))
    | none => s.setReg (aPwrTj i) 0) s
  let uw := (x.rails.map (fun r => r.1 * r.2)).foldl (· + ·) 0
  s.setReg aPwrPower (BitVec.ofNat 32 (min (uw / 1000000) 0xFFFF))

/-- A sensor that has stopped reporting is reported once (R757). (log entry 73, DESIGN CHOICE) -/
def reportSensors (s : State) : State :=
  let bad := maskOf ((List.range 9).filter (fun i => !s.rbit (aPwrTj i) 31 && (decide (i = 8) || partPresent s i)))
  let new := (maskBits 9 bad).filter (fun i => !s.pwr.sensorBad.testBit i)
  let s := setPwr { s.pwr with sensorBad := bad } s
  forL new (fun i s => deviceFault 6 0x876 i false s) s

/-- Thermal trip (R767): 110 °C at any sensor; the cause holds until every reading is below 100 °C (R764). -/
def thermTrip (s : State) : State :=
  let hot := (List.range 9).find? (fun i => s.rbit (aPwrTj i) 31 && decide (110 ≤ tjOf s i))
  let on := s.safe.active.testBit 12
  match hot with
  | some i =>
    if on then s
    else deviceFault 3 0x876 (i + 256 * (tjOf s i).toNat) false { s with safe := { s.safe with active := s.safe.active ||| 2 ^ 12 } }
  | none =>
    if on && (List.range 9).all (fun i => decide (tjOf s i < 100)) then
      { s with safe := { s.safe with active := maskOf ((maskBits 17 s.safe.active).filter (fun c => decide (c ≠ 12))) } }
    else s

/-- THERMAL_LOOP: one period of 100 µs (R745). (log entry 5, DESIGN CHOICE) -/
def execThermalLoop (r : ThermIn) (s : State) : Out :=
  let s := readSensors r s
  let pw : Int := s.rf aPwrPower 0 16
  let cap : Int := s.rf aPwrLim 0 10
  let therm := (List.range 8).foldl (fun t p =>
    if partPresent s p then tabSet (fun _ => 0) p (clamp255 (((tabGet (fun _ => 0) s.pwr.therm p : Nat) : Int) + 4 * (tjOf s p - tjTarget s))) t else t) s.pwr.therm
  let s := setPwr { s.pwr with therm := therm, power := clamp255 ((s.pwr.power : Int) + ceilHalf (pw - cap)) } s
  let s := reportSensors s
  let s := forN 8 (fun p s => if partPresent s p then applyDec 4 p (thermDec s p) s else s) s
  .next (thermTrip s)

/-! ### VOLTAGE (R741 to R744) -/

/-- DEV_STRAP.AVS_EN. -/
def avsOn (s : State) : Bool := s.rbit aDevStrap 13
/-- Fastest class in force on a cluster's partitions; 0 for the uncore rail. -/
def railClass (s : State) (rail : Nat) : Nat :=
  if 2 ≤ rail then 0
  else ((List.range 8).filter (fun p => decide (p / 4 = rail) && partPresent s p)).foldl (fun c p => min c (partRt s p).cls) 4
def railMin (s : State) (rail : Nat) : Nat := (Config.vmin rail (railClass s rail)).toNat
def railMax (s : State) (rail : Nat) : Nat := (Config.vmax rail (railClass s rail)).toNat
def setRail (rail mV : Nat) (d : Dec) (s : State) : State :=
  let s := applyDec 3 rail d s
  if avsOn s then s.emit (.rail rail mV) else s

/-- VOLTAGE_LOOP: one period of 10 µs: `early` says that some margin monitor reports less than 4 % slack, `settled` that
all report more than 8 %. -/
def execVoltageLoop (rail : Nat) (early settled : Bool) (s : State) : Out :=
  if !decide (rail < 3) then .fault (.noSuchInstance "rail" rail)
  else if !avsOn s then .next s
  else
    let v := lpValue s 3 rail
    let d := decide3 s 3 rail (railMin s rail) (railMax s rail) { val := if early then v + 5 else if settled then v - 5 else v }
    .next (if d.val = v then applyDec 3 rail d s else setRail rail d.val d s)

/-- Before a change to a faster class the core rail rises to at least VMIN of that class; after one to a slower class it may
fall (R743). -/
def raiseRail (cl cls : Nat) (s : State) : State :=
  if !avsOn s then s
  else
    let need := (Config.vmin cl cls).toNat
    if lpValue s 3 cl < need then setRail cl need { val := need, rank := 1 } s else s

/-- REGULATOR_TIMEOUT: an AVSBus regulator does not answer within 1 ms (R744, class 15). -/
def execRegulatorTimeout (rail : Nat) (s : State) : Out :=
  if !decide (rail < 3) then .fault (.noSuchInstance "rail" rail)
  else .next (if avsOn s then deviceFault 7 0x876 rail false s else s)

/-! ### LINK_EQ and REFRESH (R750, R751, R288) -/

/-- LINK_EQ: the loop of an UP port adapts its CTLE code. -/
def execLinkEq (n code : Nat) (s : State) : Out :=
  if !decide (n < 16) then .fault (.noSuchInstance "port" n)
  else if !portPresent s n || decide (lnkState s n ≠ stUp) then .next s
  else .next (applyDec 5 n (decide3 s 5 n 0 15 { val := min code 15 }) s)

/-- REFRESH_RATE: a stack's temperature is read (R263, R288, R757); the hard limit holds from 85 °C to below 80 °C.
(log entry 112, DESIGN CHOICE) -/
def execRefreshRate (stack : Nat) (tempC : Option Nat) (s : State) : Out :=
  if !decide (stack < 4) then .fault (.noSuchInstance "stack" stack)
  else if !hsPresent s (2 * stack) then .next s
  else
    let was := s.pwr.stackBad.testBit stack
    let hardWas := s.pwr.hot.testBit stack
    let s := match tempC with
      | some t => setPwr { s.pwr with stackBad := maskOf ((maskBits 4 s.pwr.stackBad).filter (fun k => decide (k ≠ stack))) } (s.put (aMemRef stack) 24 8 (min t 255))
      | none => setPwr { s.pwr with stackBad := s.pwr.stackBad ||| 2 ^ stack } s
    let t := stackTemp s stack 85
    let hard := decide (85 ≤ t) || (decide (80 ≤ t) && hardWas)
    let s := setPwr { s.pwr with hot := maskOf ((maskBits 4 s.pwr.hot).filter (fun k => decide (k ≠ stack))) ||| (if hard then 2 ^ stack else 0) } s
    let d := decide3 s 6 stack (if hard then 2 else 1) 2 { val := 1 }
    let s := (applyDec 6 stack d s).setBit (aMemRef stack) 0 (decide (d.val = 2))
    .next (if tempC.isNone && !was then deviceFault 6 0x876 (0x100 + stack) false s else s)

/-! ### FCLASS (R748) -/

def nearest (l : List Nat) (ok : Nat → Bool) : Option Nat := l.find? ok

/-- Mean of T over the outgoing run: sum and number of the windows that began in it. -/
def runMean (s : State) (d : Nat) : Nat × Nat :=
  let w := (domRt s d).winT
  if w = [] then ((domRt s d).thermal, 1) else (w.foldl (· + ·) 0, w.length)

/-- C_need (R748): the mean is compared without rounding. -/
def classNeed (s : State) (d : Nat) : Nat :=
  let c := (partRt s d).cls
  let m := runMean s d
  let cool := (maskBits 8 (domMask s d)).all (fun p => decide (tjOf s p < tjTarget s - 5))
  clampTo 1 4 (if 64 * m.2 ≤ m.1 then c + 1 else if m.1 < 8 * m.2 && cool then c - 1 else c)

/-- The class for an incoming FCLASS_MASK (bit c - 1 for class c). -/
def classPick (s : State) (d fmask : Nat) : Dec :=
  let need := classNeed s d
  let all := [1, 2, 3, 4].filter (fun c => fmask.testBit (c - 1))
  let inPin (c : Nat) : Bool := !lpPinned s 7 d || (decide (lpPinLo s 7 d ≤ c) && decide (c ≤ lpPinHi s 7 d))
  let inHint (c : Nat) : Bool := decide (lpHintLo s 7 d ≤ c) && decide (c ≤ lpHintHi s 7 d)
  let hintOver (c : Nat) : Dec :=
    { val := c, conf := if lpHinted s 7 d && !inHint c then some (3, 4, if lpHintHi s 7 d < c then lpHintHi s 7 d else lpHintLo s 7 d) else none }
  let pick (l : List Nat) : Option Dec :=
    let cand := l.filter (fun c => decide (need ≤ c))
    match cand with
    | [] => (l.reverse.head?).map hintOver
    | f :: _ =>
      if !lpHinted s 7 d then some { val := f }
      else match cand.find? inHint with
        | some c => some { val := c, rank := if c = f then 3 else 4 }
        | none => some (hintOver f)
  let free := pick all
  match pick (all.filter inPin) with
  | some x => if (free.map (·.val)) = some x.val then x else { x with rank := 2 }
  | none =>
    match free with
    | some x => { x with rank := 1, conf := some (1, 2, if lpPinHi s 7 d < x.val then lpPinHi s 7 d else lpPinLo s 7 d) }
    | none => { val := (partRt s d).cls }

/-- The FCLASS loop acts for an incoming context: the class and the state with its decision. -/
def classDecide (d fmask : Nat) (s : State) : Nat × State :=
  let x := classPick s d fmask
  (x.val, applyDec 7 d x s)

/-! ### Governor (R366, R367, R752) -/

/-- Command slots that one occurrence of a DMA record takes on a PC (Table 8-5). (log entry 40, DESIGN CHOICE) -/
def occSlots (s : State) (b : List Byte) (k pc : Nat) : Nat :=
  let h := dmPart b
  let off := dmOff b + k * dmStride b
  let ls := lineSpan off (dmExtent b)
  let prot := rgnProt s h (dmRegion b)
  (ls.filter (fun l => decide (linePc l = pc))).foldl (fun n l =>
    n + slotsOf prot (dmOut b) (decide (off ≤ 128 * l) && decide (128 * (l + 1) ≤ off + dmExtent b))) 0

/-- sc of a window of 256 slots, 5 ns each, at a class. (log entry 40, DESIGN CHOICE) -/
def slotWindow (cls : Nat) : Nat := 128 * fclkTenths cls

/-- PEAK of half-stack h for a context at a class: slots of one PC whose occurrences fall in one window (log entry 40).
(log entry 40, DESIGN CHOICE) -/
def peakOf (s : State) (c : Ctx) (h cls : Nat) : Nat :=
  let recs := c.dmas.filter (fun b => decide (dmPart b = h))
  let occs := recs.flatMap (fun b => (List.range (dmRep b + 1)).map (fun k => (b, k, occSc (dmSc b) (dmPeriod b) k)))
  (List.range 16).foldl (fun m pc =>
    occs.foldl (fun m x =>
      max m ((occs.filter (fun y => decide (x.2.2 ≤ y.2.2) && decide (y.2.2 < x.2.2 + slotWindow cls))).foldl (fun n y => n + occSlots s y.1 y.2.1 pc) 0)) m) 0

/-- PEAK_h in force: that of the context that runs on h, 0 when none does. -/
def peakNow (s : State) (h : Nat) : Nat :=
  if !partPresent s h then 0
  else
    let d := domLow s h
    if !ctxRuns s d then 0 else match activeCtx s d with | some r => min (peakOf s r.ctx h (partRt s h).cls) 255 | none => 0

def govMin (s : State) (h : Nat) : Nat := s.rf (aGov h) 20 4
def govMax (s : State) (h : Nat) : Nat := s.rf (aGov h) 24 4
def govHint (s : State) (h : Nat) : Nat := s.rf (aGov h) 16 4
def govLoop (s : State) (h : Nat) : Nat := s.rf (aGovStat h) 24 4
/-- Log entry 93, DESIGN CHOICE. -/
def govEff (s : State) (h : Nat) : Nat := s.rf (aGovStat h) 16 4

/-- EFF_h and its conflict (R366, R367, R413): the hard limit over the operator pin, or the loop or a pin over the hint. -/
def govDec (s : State) (h : Nat) : Dec :=
  let hard := 240 - peakNow s h
  let c := clampTo (govMin s h) (govMax s h) (govLoop s h)
  let e := min 10 (min hard c)
  let conf :=
    if hard < govMin s h then some (1, 2, govMin s h)
    else if govHint s h ≠ 15 ∧ govHint s h < e then some (if c = govLoop s h then 3 else 2, 4, govHint s h)
    else none
  { val := e, conf := conf }

/-- Recompute PEAK and EFF of a half-stack; a new value in conflict is reported, ORIGIN as given. -/
def refreshGov (origin h : Nat) (s : State) : State :=
  let s := s.put (aGovStat h) 0 8 (peakNow s h)
  let d := govDec s h
  if d.val = govEff s h then s
  else
    let s := s.put (aGovStat h) 16 4 d.val
    match d.conf with
    | none => s
    | some (up, down, req) =>
      let p := if partPresent s h then some h else none
      let s := (stagePolicy 0x872 1 up down p h origin req d.val s).setBit (aGovStat h) 31 true
      if origin = 0 then raise 0 15 (policyAsync p 1 s) else s

/-- The half-stacks of a domain. -/
def refreshGovs (mask : Nat) (s : State) : State := forL (maskBits 8 mask) (fun h s => refreshGov 0 h s) s

/-- A channel's sink is a ring on half-stack h. -/
def ringOn (s : State) (n h : Nat) : Bool :=
  decide (s.rf (aChCtl n) 26 3 = 1) && decide ((if n < 8 then s.rf (aRng false n 0) 23 3 else chanPart n) = h)

/-- GOVERNOR_LOOP: one period of 100 µs; 1,250 slots for each of EFF (16 PCs of 78.125 windows). -/
def execGovernorLoop (h : Nat) (s : State) : Out :=
  if !decide (h < 8) then .fault (.noSuchInstance "half-stack" h)
  else if !hsPresent s h || !mrpReady s then .next s
  else
    let full := (List.range 24).any (fun n => ringOn s n h && (s.obs.fullSeen.testBit n || s.rbit (aChStat n) 31))
    let used := tabGet (fun _ => 0) s.obs.used h
    let l := govLoop s h
    let l' := if full then min 10 (l + 1) else if 2 * used < 1250 * govEff s h then max 2 (l - 1) else l
    let seen := maskOf ((maskBits 24 s.obs.fullSeen).filter (fun n => !ringOn s n h))
    let s := { s with obs := { s.obs with fullSeen := seen, used := tabSet (fun _ => 0) h 0 s.obs.used } }
    .next (refreshGov 0 h (s.put (aGovStat h) 24 4 l'))

/-! ### Commands -/

/-- A pin that the hard limit overrides now (R740). -/
def pinYields (s : State) (l i : Nat) : Option (Nat × Nat) :=
  if !lpPinned s l i then none
  else
    let d := match l with
      | 3 => decide3 s 3 i (railMin s i) (railMax s i) { val := lpValue s 3 i }
      | 4 => decide3 s 4 i (thermFloor s i) 255 { val := thermReq s i }
      | 6 => decide3 s 6 i (if s.pwr.hot.testBit i then 2 else 1) 2 { val := 1 }
      | _ => ({} : Dec)
    match d.conf with | some (1, 2, req) => some (req, lpValue s l i) | _ => none

/-- A hint that the loop ignores now. -/
def hintYields (s : State) (l i : Nat) : Option (Nat × Nat) :=
  if l = 4 ∧ lpHinted s 4 i = true ∧ lpHintHi s 4 i < thermReq s i then some (lpHintHi s 4 i, lpValue s 4 i) else none

/-- A bound lies in a loop's range. -/
def boundsOk (l lo hi : Nat) : Bool := decide (lo ≤ hi) && decide ((pwrLimits l).1 ≤ lo) && decide (hi ≤ (pwrLimits l).2)

/-- The instance exists on this device. -/
def lpPresent (s : State) (l i : Nat) : Bool :=
  if l = 3 then avsOn s else if l = 5 then portPresent s i else if l = 6 then hsPresent s (2 * i) else partPresent s i

/-- PWR_PIN's checks and effect (R740, Table 19-11). -/
def bodyPwrPin (c : Call) (s : State) : CmdRes :=
  let l := c.b 16
  let i := c.b 17
  let lo := c.le 20 4
  let hi := c.le 24 4
  let pin := c.bit 18 0
  let release := c.bit 18 1
  if !(decide (3 ≤ l) && decide (l ≤ 7)) || decide (lpCount l ≤ i) then .no sParam s
  else if !lpPresent s l i then .no sAbsent s
  else if !boundsOk l lo hi || (pin && release) then .no sParam s
  else
    let s := s.setReg (aPwr l i 1) (BitVec.ofNat 32 (hi * 2 ^ 16 + lo))
    let s := if pin then s.setBit (aPwr l i 3) 31 true else if release then s.setBit (aPwr l i 3) 31 false else s
    match pinYields s l i with
    | some (req, app) => .done sPolicy (leBytes 4 (lpValue s l i)) (stagePolicy 0x875 l 1 2 (lpPart s l i) i 2 req app s)
    | none => .done sOk (leBytes 4 (lpValue s l i)) s

/-- PWR_PIN (0x70). -/
def execPwrPin (c : Call) (s : State) : Out := .next (runCmd 0x70 callP bodyPwrPin c s)

/-- PWR_HINT's checks and effect. -/
def bodyPwrHint (c : Call) (s : State) : CmdRes :=
  let l := c.b 16
  let i := c.b 17
  let lo := c.le 20 4
  let hi := c.le 24 4
  if !lpTakesHints l || decide (lpCount l ≤ i) then .no sParam s
  else if i ≠ c.part.toNat then .no sPerm s
  else if !boundsOk l lo hi then .no sParam s
  else
    let s := s.setReg (aPwr l i 2) (BitVec.ofNat 32 (hi * 2 ^ 16 + lo))
    let s := s.setBit (aPwr l i 3) 30 (c.bit 18 0)
    match hintYields s l i with
    | some (req, app) => .done sPolicy (leBytes 4 (lpValue s l i)) (stagePolicy 0x875 l 3 4 (lpPart s l i) i 2 req app s)
    | none => .done sOk (leBytes 4 (lpValue s l i)) s

/-- PWR_HINT (0x71). -/
def execPwrHint (c : Call) (s : State) : Out := .next (runCmd 0x71 callT bodyPwrHint c s)

/-- PWR_QUERY: value, bounds and rank; the bounds are those of an enabled pin, else the loop's range.
(log entry 90, DESIGN CHOICE) -/
def bodyPwrQuery (c : Call) (s : State) : CmdRes :=
  let l := c.b 16
  let i := c.b 17
  if !(decide (3 ≤ l) && decide (l ≤ 7)) || decide (lpCount l ≤ i) then .no sParam s
  else if c.fn ≠ 0 ∧ lpPart s l i ≠ some (c.fn - 1) then .no sPerm s
  else if !lpPresent s l i then .no sAbsent s
  else
    let b := if lpPinned s l i then (lpPinLo s l i, lpPinHi s l i) else pwrLimits l
    .done sOk (leBytes 4 (lpValue s l i) ++ leBytes 4 b.1 ++ leBytes 4 b.2 ++ [bite (s.rf (aPwr l i 0) 28 4)]) s

/-- PWR_QUERY (0x72). -/
def execPwrQuery (c : Call) (s : State) : Out := .next (runCmd 0x72 callA bodyPwrQuery c s)

/-- GOV_SET (Table 19-9): E_POLICY when the written pin or hint yields under R367. -/
def bodyGovSet (c : Call) (s : State) : CmdRes :=
  let h := c.b 16
  let mn := if c.b 17 = 0xFF then govMin s h else c.b 17
  let mx := if c.b 18 = 0xFF then govMax s h else c.b 18
  let hint := if c.b 19 = 0xFF then govHint s h else c.b 19
  if 8 ≤ h then .no sParam s
  else if !hsPresent s h then .no sAbsent s
  else if c.fn ≠ 0 && !(decide (h + 1 = c.fn) && decide (c.b 17 = 0xFF) && decide (c.b 18 = 0xFF)) then .no sPerm s
  else if 10 < mx ∨ mx < mn ∨ !(decide (hint ≤ 10) || decide (hint = 15)) then .no sParam s
  else
    let s := ((s.put (aGov h) 20 4 mn).put (aGov h) 24 4 mx).put (aGov h) 16 4 hint
    let s := s.put (aGovStat h) 0 8 (peakNow s h)
    let d := govDec s h
    let wrotePin := decide (c.b 17 ≠ 0xFF) || decide (c.b 18 ≠ 0xFF)
    let yields := match d.conf with
      | some (_, 2, _) => wrotePin
      | some (_, 4, _) => decide (c.b 19 ≠ 0xFF)
      | _ => false
    let s' := refreshGov (if yields then 2 else 0) h s
    let s' := match yields, d.conf with
      | true, some (up, down, req) => if d.val = govEff s h then stagePolicy 0x872 1 up down (if partPresent s h then some h else none) h 2 req d.val s' else s'
      | _, _ => s'
    .done (if yields then sPolicy else sOk) [bite (govEff s' h)] s'

/-- GOV_SET (0x55). -/
def execGovSet (c : Call) (s : State) : Out := .next (runCmd 0x55 callA bodyGovSet c s)

end Sys2Proof.Machine
end

