-- ==== Sys2Proof/Machine/Sinks.lean ====
section
/-! DEFINITION. Trace channels as they are configured, enabled and flushed (R355 to R376), and trace sinks: frames, rings, the
parallel, serial and remote sinks (chapter 14). -/

namespace Sys2Proof.Machine

def chSink (s : State) (n : Nat) : Nat := s.rf (aChCtl n) 26 3
def chOn (s : State) (n : Nat) : Bool := s.rbit (aChCtl n) 31
def rollOn (s : State) (n : Nat) : Bool := s.rbit (aSnkCfg n) 31
def chEngine (s : State) (n : Nat) : Nat := s.rf (aSnkCfg n) 28 2
/-- The stream passes through a Roll engine (R460). -/
def rollStream (s : State) (n : Nat) : Bool := rollOn s n && decide (1 ≤ chSink s n) && decide (chSink s n ≤ 3)

/-! ### Flushes (R411, R457, R458) -/

/-- Stream offset of the first byte in the channel buffer. -/
def bufBase (r : ChRt) : Nat := r.bytePos - r.buf.length
/-- Stream offset of the first byte not yet in a Roll block. -/
def rollBase (r : ChRt) : Nat := r.bytePos - r.buf.length - r.rbuf.length

/-- A flush at the current packet boundary: PAD fills the frame of a plain stream; a Roll stream ends its block. -/
def flushChannel (n : Nat) (s : State) : State :=
  let r := chRt s n
  if rollStream s n then
    if rollBase r < r.bytePos ∧ !(r.flushes.any (fun f => decide (f.1 = r.bytePos))) then
      setChRt n { r with flushes := r.flushes ++ [(r.bytePos, 0)] } s
    else s
  else
    let pad := (244 - r.bytePos % 244) % 244
    if pad = 0 then s
    else setChRt n { r with buf := r.buf ++ List.replicate pad 0x01, bytePos := r.bytePos + pad, marks := r.marks ++ [r.bytePos],
                            flushes := r.flushes ++ [(r.bytePos + pad, pad)] } s

/-! ### HOLD (R365) -/

/-- A partition whose running or resident context sends on a link, outside a covering lock-step hold. -/
def sendsLink (s : State) (p : Nat) : Bool :=
  s.plan.resident.any (fun r => r.mask.testBit p && !r.loading && r.ctx.links.any (fun l => decide (l.kind = 1))) &&
  !(lockstep s && (s.reg aPealCtl).getLsbD (domLow s p))

/-- The first partition for which HOLD is refused on channel n. -/
def holdBar (s : State) (n : Nat) : Option Nat :=
  (List.range 8).find? (fun p => partPresent s p && coversPart s n p && sendsLink s p)

/-- TRACE_HOLD packet (R413). -/
def stageHold (n p origin : Nat) (s : State) : State :=
  stagePolicy 0x872 2 1 (if 8 ≤ n && held s (chanPart n) then 4 else 2) (some p) n origin 1 0 s

/-- HOLD channels that R365 now bars turn LOSSY. -/
def demoteHold (s : State) : State :=
  forN 24 (fun n s =>
    if chanPresent s n && s.rbit (aChCtl n) 30 then
      match holdBar s n with
      | some p => refreshFull n (stageHold n p 3 ((s.setBit (aChCtl n) 30 false).setBit (aChStat n) 30 true))
      | none => s
    else s) s

/-! ### Enable and disable (R359, R489) -/

/-- Another enabled channel uses the engine that channel n names. -/
def engineTaken (s : State) (n : Nat) : Bool :=
  rollOn s n && (List.range 24).any (fun m => decide (m ≠ n) && chOn s m && rollOn s m && decide (chEngine s m = chEngine s n))

/-- EN goes from 0 to 1: ring pointers restart (R475), the first packets are written. -/
def enableChannel (n : Nat) (s : State) : State :=
  let s := s.setBit (aChCtl n) 31 true
  let s := if chSink s n = 1 ∨ chSink s n = 2 then (s.setReg (aRng false n 0x14) 0).setReg (aRng false n 0x18) 0 else s
  startChannel n s

/-- EN goes from 1 to 0: END and a flush (R359, R458). A disabled channel is no longer stopped by an armed count (R451). -/
def disableChannel (n reason : Nat) (s : State) : State :=
  let s := s.setBit (aChCtl n) 31 false
  let s := flushChannel n (writeEnd n reason s)
  let s := setClap { s.clap with stop := s.clap.stop.map (fun x => { x with chans := x.chans.filter (fun c => decide (c.1 ≠ n)) }) } s
  refreshFull n s

/-- The sink's part of a channel and its buffer are lost, without END (R481). -/
def dropChannel (n : Nat) (s : State) : State :=
  let r := chRt s n
  let x : ChRt := { eseq := r.eseq, eseqVer := r.eseqVer }
  (setChRt n x s).setBit (aChStat n) 31 false

/-! ### Channel registers -/

def bufSum (s : State) (n v : Nat) : Nat :=
  (List.range 24).foldl (fun a m => if !chanPresent s m then a else a + (if m = n then v else s.rf (aChCtl m) 16 5)) 0

/-- SINK may be written by what R468, R476 and R480 say: 0 yes, else the flag that refuses it.
(log entry 91, DESIGN CHOICE) -/
def sinkRefused (s : State) (n v : Nat) (portOk : Bool) : Option Nat :=
  if 6 ≤ v ∨ (v = 5 ∧ s.fuse.variant ≠ 0) then some flagResval
  else if v = 3 ∧ opChan s n = false then some flagPerm
  else if 4 ≤ v ∧ portOk = false then some flagPerm
  else none

/-- A write of OBS_CH_n_CTL. -/
def writeChCtl (n : Nat) (w : RegW) (v : Word) (s : State) : State :=
  let a := aChCtl n
  let on := chOn s n
  -- BUF and PORT_OK are PF0's (R355)
  let s := if w.fn ≠ 0 ∧ (fld v 16 5 ≠ s.rf a 16 5 ∨ bit v 29 ≠ s.rbit a 29) then refuse flagPerm w s else s
  let s := if w.fn = 0 then s.setBit a 29 (bit v 29) else s
  let s :=
    if w.fn ≠ 0 ∨ fld v 16 5 = s.rf a 16 5 then s
    else if fld v 16 5 = 0 ∨ 16 < fld v 16 5 then refuse flagResval w s
    else if on then refuse flagState w s
    else if 64 < bufSum s n (fld v 16 5) then refuse flagState w s
    else s.put a 16 5 (fld v 16 5)
  let s :=
    if fld v 26 3 = s.rf a 26 3 then s
    else match sinkRefused s n (fld v 26 3) (s.rbit a 29) with
    | some f => refuse f w s
    | none => if on then refuse flagState w s else s.put a 26 3 (fld v 26 3)
  let s := if 12 ≤ fld v 21 5 ∧ fld v 21 5 ≤ 24 then s.put a 21 5 (fld v 21 5) else refuse flagResval w s
  let s :=
    if bit v 30 && !s.rbit a 30 then
      match holdBar s n with
      | some p => stageHold n p 1 s
      | none => s.setBit a 30 true
    else s.setBit a 30 (bit v 30)
  if bit v 31 && !on then
    if chSink s n = 0 || engineTaken s n then refuse flagState w s else enableChannel n s
  else if !bit v 31 && on then disableChannel n 1 s
  else refreshFull n s

/-- DATA may not be selected on a self-trace channel without a trace key (R369). -/
def dataBarred (s : State) (n : Nat) : Bool := decide (8 ≤ n) && held s (chanPart n) && (traceKey s (chanPart n)).isNone

def writeChCls (n : Nat) (w : RegW) (v : Word) (s : State) : State :=
  let ref := bit v 4 && !s.rbit (aChCls n) 4
  let (keep, s) :=
    if ref && decide (s.fuse.variant = 2) then (true, refuse flagResval w s)
    else if ref && dataBarred s n then (true, refuse flagState w s)
    else (false, s)
  s.setReg (aChCls n) (if keep then putBit v 4 false else v)

def writeChUr (n i : Nat) (v : Word) (s : State) : State := demoteHold (s.setReg (aChUr n i) v)

/-- Address windows: none on PU4L (R358). -/
def writeAwSel (n a : Nat) (w : RegW) (v : Word) (s : State) : State :=
  if s.fuse.variant = 2 ∧ fld v 30 2 ≠ 0 then refuse flagResval w (s.setReg (aChAwSel n a) (putFld v 30 2 (s.rf (aChAwSel n a) 30 2)))
  else s.setReg (aChAwSel n a) v

/-! ### Ring registers (R470, R472, R473, R479) -/

/-- A ring set that a write may not change now: the channel or the ingest ring is enabled. -/
def ringBusy (s : State) (ing : Bool) (n : Nat) : Bool := if ing then s.rbit (aRng true n 0) 17 else chOn s n
/-- The ring's frames go to HBM. -/
def ringHbm (s : State) (ing : Bool) (n : Nat) (ctl : Word) : Bool := if ing then !bit ctl 18 else decide (chSink s n = 1)
/-- The ring's frames go to host memory. -/
def ringHost (s : State) (ing : Bool) (n : Nat) (ctl : Word) : Bool := if ing then bit ctl 18 else decide (chSink s n = 2)
/-- Half-stack and region of an HBM ring (Table 14-4). -/
def ringRgn (s : State) (ing : Bool) (n : Nat) (ctl : Word) : Nat × Nat :=
  if ing || opChan s n then (fld ctl 23 3, 15) else (chanPart n, fld ctl 19 4)
/-- R472 for a ring with these register values. -/
def ringFits (s : State) (ing : Bool) (n : Nat) (ctl : Word) (base len : Nat) : Bool :=
  let x := ringRgn s ing n ctl
  rgnValid s x.1 x.2 && decide (rgnKind s x.1 x.2 = (if x.2 = 15 then 2 else 1)) && decide (base % 2 = 0) &&
    decide (128 * base + 256 * len ≤ rgnUsable s x.1 x.2)
def ringBase (s : State) (ing : Bool) (n : Nat) : Nat := s.reg64 (aRng ing n 8) (aRng ing n 12)
def ringLen (s : State) (ing : Bool) (n : Nat) : Nat := s.rf (aRng ing n 0x10) 0 25

/-- A write of RNG_CTL. Clearing ING_EN alone is what an enabled ingest ring still takes.
(log entry 91, DESIGN CHOICE) -/
def writeRngCtl (ing : Bool) (n : Nat) (w : RegW) (v : Word) (s : State) : State :=
  let a := aRng ing n 0
  let old := s.reg a
  if ing && bit old 17 && decide (v = putBit old 17 false) then s.setReg a v
  else if ringBusy s ing n then refuse flagState w s
  else if ringHbm s ing n v && !ringFits s ing n v (ringBase s ing n) (ringLen s ing n) then refuse flagState w s
  else
    let s := s.setReg a v
    if ing && bit v 17 then (s.setReg (aRng ing n 0x14) 0) else s

/-- A write of a base register. (log entry 91, DESIGN CHOICE) -/
def writeRngBase (ing : Bool) (n : Nat) (high : Bool) (w : RegW) (v : Word) (s : State) : State :=
  let a := aRng ing n (if high then 12 else 8)
  let ctl := s.reg (aRng ing n 0)
  let base := if high then (s.reg (aRng ing n 8)).toNat + 2 ^ 32 * v.toNat else v.toNat + 2 ^ 32 * (s.reg (aRng ing n 12)).toNat
  if ringBusy s ing n then refuse flagState w s
  else if ringHbm s ing n ctl && !ringFits s ing n ctl base (ringLen s ing n) then refuse flagState w s
  else if ringHost s ing n ctl && decide (base % 4096 ≠ 0) then refuse flagResval w s
  else s.setReg a v

def writeRngLen (ing : Bool) (n : Nat) (w : RegW) (v : Word) (s : State) : State :=
  if ringBusy s ing n then refuse flagState w s
  else if fld v 0 25 < 16 ∨ 2 ^ 24 < fld v 0 25 then refuse flagResval w s
  else s.setReg (aRng ing n 0x10) v

def writeRngWb (ing : Bool) (n : Nat) (high : Bool) (w : RegW) (v : Word) (s : State) : State :=
  if ringBusy s ing n then refuse flagState w s
  else if !high && decide (v.toNat % 8 ≠ 0) then refuse flagResval w s
  else s.setReg (aRng ing n (if high then 0x20 else 0x1C)) v

/-- RNG_RD (R470): the value lies within LEN frames behind WR, modulo 2^32. -/
def writeRngRd (ing : Bool) (n : Nat) (w : RegW) (v : Word) (s : State) : State :=
  if (s.reg (aRng ing n 0x14) - v).toNat ≤ ringLen s ing n then s.setReg (aRng ing n 0x18) v else refuse flagState w s

/-- ROLL_EN may be set (R460): the engine is bound to observation and granted to the channel's owner. -/
def rollAllowed (s : State) (n engine : Nat) : Bool :=
  enginePresent s engine && decide (s.rf (aRol engine 0) 30 2 = 0) &&
    decide (s.rf (aRol engine 0) 24 4 = (if opChan s n then 8 else chanPart n))

/-- SNK_CFG: ROLL_EN and ENGINE keep while the channel is enabled; FLUSH begins at once, at the packet boundary. -/
def writeSnkCfg (n : Nat) (w : RegW) (v : Word) (s : State) : State :=
  let a := aSnkCfg n
  let s := s.put a 0 8 (fld v 0 8)
  let same := decide (bit v 31 = s.rbit a 31) && decide (fld v 28 2 = s.rf a 28 2)
  let s :=
    if same then s
    else if chOn s n then refuse flagState w s
    else if s.fuse.variant = 2 then refuse flagResval w s
    else
      let s := s.put a 28 2 (fld v 28 2)
      if bit v 31 && !rollAllowed s n (fld v 28 2) then refuse flagState w (s.setBit a 31 false) else s.setBit a 31 (bit v 31)
  if bit v 8 then flushChannel n s else s

/-! ### Frames (R456, R457) -/

/-- The 256 bytes of a frame (Table 14-2). -/
def frameBytes (n : Nat) (roll last : Bool) (first fseq : Nat) (pay : List Byte) : List Byte :=
  let h := [0xA5, 0x5C, bite (n + 32 * b2n roll + 64 * b2n last), bite first, bite pay.length] ++ leBytes 3 fseq
  let b := h ++ padTo 244 pay
  b ++ leBytes 4 (crc32c b)

/-- Frames staged for a class of sink; those that wait for an ingest ring count with REMOTE. -/
def stagedFrames (s : State) (sink : Nat) : Nat :=
  ((List.range 24).filter (fun n => decide (chSink s n = sink))).foldl (fun a n => a + (chRt s n).frames.length) 0 +
  (if sink = 3 then (s.links.map (fun l => l.2.ingest.length + l.2.trace.length / 2)).foldl (· + ·) 0 else 0)
/-- Capacity of a sink's staging in frames. -/
def stageCap (sink : Nat) : Nat := if 4 ≤ sink then 1024 else 2048

def firstMark (marks : List Nat) (base len : Nat) : Nat :=
  match marks.find? (fun m => decide (base ≤ m) && decide (m < base + len)) with | some m => m - base | none => 0xFF

/-- Form one frame of a plain stream when 244 bytes are present. -/
def formPlain (n : Nat) (s : State) : State :=
  let r := chRt s n
  if r.buf.length < 244 then s
  else
    let base := bufBase r
    let last := match r.endPos with | some e => decide (base < e) && decide (e ≤ base + 244) | none => false
    let f := frameBytes n false last (firstMark r.marks base 244) (r.fseq % 2 ^ 24) (r.buf.take 244)
    refreshFull n (setChRt n { r with buf := r.buf.drop 244, frames := r.frames ++ [(f, last)], fseq := r.fseq + 1,
                                      marks := r.marks.filter (fun m => decide (base + 244 ≤ m)),
                                      flushes := r.flushes.filter (fun x => decide (base + 244 < x.1)) } s)

/-- Form one frame of a Roll stream: 244 compressed bytes, or fewer up to a flush. -/
def formRoll (n : Nat) (s : State) : State :=
  let r := chRt s n
  let lim := match r.zflush.head? with | some z => z - r.zpos | none => r.zbuf.length
  let len := min 244 lim
  if len = 0 ∨ (len < 244 ∧ r.zflush = []) ∨ r.zbuf.length < len then s
  else
    let last := match r.zend with | some e => decide (r.zpos < e) && decide (e ≤ r.zpos + len) | none => false
    let f := frameBytes n true last (firstMark r.zmarks r.zpos len) (r.fseq % 2 ^ 24) (r.zbuf.take len)
    setChRt n { r with zbuf := r.zbuf.drop len, zpos := r.zpos + len, frames := r.frames ++ [(f, last)], fseq := r.fseq + 1,
                       zmarks := r.zmarks.filter (fun m => decide (r.zpos + len ≤ m)),
                       zflush := r.zflush.filter (fun z => decide (r.zpos + len < z)) } s

/-- FRAME_FORM: a frame of channel n enters its sink's staging (R457, R459). (log entry 107, DESIGN CHOICE) -/
def execFrameForm (n : Nat) (s : State) : Out :=
  if !decide (n < 24) then .fault (.noSuchInstance "channel" n)
  else .next (if chSink s n = 0 ∨ stageCap (chSink s n) ≤ stagedFrames s (chSink s n) then s
    else if rollStream s n then formRoll n s else formPlain n s)

/-- FLUSH_TIMER: the oldest byte not yet in a frame has waited FLUSH_US (R458). -/
def execFlushTimer (n : Nat) (s : State) : Out :=
  if !decide (n < 24) then .fault (.noSuchInstance "channel" n)
  else .next (if s.rf (aSnkCfg n) 0 8 ≠ 0 && chanPresent s n then flushChannel n s else s)

/-! ### Rings (R469 to R475, R483) -/

/-- The function that writes a ring, and raises its interrupt. -/
def ringFn (s : State) (ing : Bool) (n : Nat) : Nat := if ing || decide (n < 8) then 0 else partFn s (chanPart n)
def ringIrq (ing : Bool) (n : Nat) (s : State) : State :=
  if ing || decide (n < 8) then raise 0 6 s else raisePart 6 4 24 (chanPart n) s

/-- The ring cannot deliver now (DOWN of a host ring, R481). -/
def ringDown (s : State) (ing : Bool) (n : Nat) : Bool :=
  let f := ringFn s ing n
  ringHost s ing n (s.reg (aRng ing n 0)) && (!(fnRt s f).bme || (fnRt s f).flr)

/-- One frame reaches its ring: pointer, write-back, watermark, DONE. -/
def ringDelivered (ing : Bool) (n : Nat) (last : Bool) (s : State) : State :=
  let wr := s.reg (aRng ing n 0x14)
  let ctl := s.reg (aRng ing n 0)
  let s := if !bit ctl 31 && decide (ringLen s ing n ≤ wr.toNat) then s.setBit (aRng ing n 4) 30 true else s
  let s := s.setReg (aRng ing n 0x14) (wr + 1)
  let wb := s.reg64 (aRng ing n 0x1C) (aRng ing n 0x20)
  let s := if ringHost s ing n ctl && decide (wb ≠ 0) then s.emit (.host (ringFn s ing n) wb (leBytes 8 (wr + 1).toNat)) else s
  let s := if last then s.setBit (aRng ing n 4) 31 true else s
  let s := countDevice 0xC8 0 1 s
  if bit ctl 26 && (last || decide ((wr + 1).toNat % 2 ^ fld ctl 27 4 = 0)) then ringIrq ing n s else s

/-- Write a frame into its slot: whether the write succeeded. -/
def ringWrite (ing : Bool) (n : Nat) (b : List Byte) (s : State) : Bool × State :=
  let ctl := s.reg (aRng ing n 0)
  let slot := (s.reg (aRng ing n 0x14)).toNat % ringLen s ing n
  if ringHost s ing n ctl then
    let f := ringFn s ing n
    if f ≠ 0 ∧ s.host.numVf < f then (false, s)
    else (true, s.emit (.host f (ringBase s ing n + 256 * slot) b))
  else
    let x := ringRgn s ing n ctl
    if !ringFits s ing n ctl (ringBase s ing n) (ringLen s ing n) then (false, s)
    else
      let w := writeBytes 2 x.1 x.2 (128 * ringBase s ing n + 256 * slot) b s
      let s := countDevice 0xC1 x.1 2 w.2
      let s := { s with obs := { s.obs with used := tabSet (fun _ => 0) x.1 (tabGet (fun _ => 0) s.obs.used x.1 + 2) s.obs.used } }
      (decide (w.1 = 0), s)

/-- A ring that may take a frame: pointers (R469), EFF of its half-stack (R472). (log entry 93, DESIGN CHOICE) -/
def ringReady (s : State) (ing : Bool) (n : Nat) : Bool :=
  let ctl := s.reg (aRng ing n 0)
  (!bit ctl 31 || decide ((s.reg (aRng ing n 0x14) - s.reg (aRng ing n 0x18)).toNat < ringLen s ing n)) &&
  !ringDown s ing n &&
  (!ringHbm s ing n ctl || decide (govEff s (ringRgn s ing n ctl).1 ≠ 0)) &&
  (!ing || bit ctl 17)

/-- Deliver the oldest waiting frame of a ring; `ok` says that its write does not fail. -/
def ringStep (ing : Bool) (n : Nat) (ok : Bool) (f : List Byte × Bool) (drop : State → State) (s : State) : State :=
  if !ringReady s ing n then s
  else
    let w := if ok then ringWrite ing n f.1 s else (false, s)
    let s := drop w.2
    if w.1 then ringDelivered ing n f.2 s
    else
      let s := s.setBit (aRng ing n 4) 28 true
      if ing then s.countSat (aSnkIngLost n) 0 32 1 else loseTo n 0 256 s

/-- RING_DELIVER: channel n below 24, ingest port n - 32 from 32. -/
def execRingDeliver (n : Nat) (ok : Bool) (s : State) : Out :=
  if n < 24 then
    match (chRt s n).frames with
    | [] => .next s
    | f :: rest =>
      .next (if chSink s n = 1 ∨ chSink s n = 2 then
          ringStep false n ok f (fun s => setChRt n { chRt s n with frames := rest } s) s
        else s)
  else if 32 ≤ n ∧ n < 48 then
    match (linkRt s (n - 32)).ingest with
    | [] => .next s
    | b :: rest => .next (ringStep true (n - 32) ok (b, false) (fun s => setLink (n - 32) { linkRt s (n - 32) with ingest := rest } s) s)
  else .fault (.noSuchInstance "ring" n)

/-! ### Parallel and serial ports (R462 to R468) -/

/-- The channel that a port serves next: round-robin in ascending channel ID. (log entry 107, DESIGN CHOICE) -/
def nextServed (s : State) (sink last : Nat) : Option Nat :=
  ((List.range 24).map (fun i => (last + 1 + i) % 24)).find? (fun n => decide (chSink s n = sink) && !(chRt s n).frames.isEmpty)

/-- An AM row (R467). (log entry 92, DESIGN CHOICE) -/
def amRow (s : State) : State :=
  let s := s.emit (.serCtl (some s.obs.amcnt) 1)
  { s with obs := { s.obs with amcnt := (s.obs.amcnt + 1) % 2 ^ 16, rows := 0 } }

/-- PORT_FRAME: a port sends one staged frame; the serial port puts its AM row at a frame boundary.
(log entry 92, DESIGN CHOICE) -/
def execPortFrame (serial : Bool) (s : State) : Out :=
  let on := if serial then s.rbit aSnkSer 31 && decide (s.fuse.variant = 0) else s.rbit aSnkPar 31
  if !on then .next s
  else
    let s := if serial && decide (16384 ≤ s.obs.rows) then amRow s else s
    match nextServed s (if serial then 5 else 4) (if serial then s.obs.lastSer else s.obs.lastPar) with
    | none => .next s
    | some n =>
      match (chRt s n).frames with
      | [] => .next s
      | f :: rest =>
        let s := setChRt n { chRt s n with frames := rest } s
        let s := if serial then { s with obs := { s.obs with lastSer := n, rows := s.obs.rows + 8 } } else { s with obs := { s.obs with lastPar := n } }
        .next (countDevice 0xC8 0 1 (s.emit (.port serial f.1)))

/-- SNK_PAR_CTL (R463): RATE changes only while the port is off. -/
def writePar (w : RegW) (v : Word) (s : State) : State :=
  if s.rbit aSnkPar 31 && decide (fld v 29 2 ≠ s.rf aSnkPar 29 2) then refuse flagState w (s.setBit aSnkPar 31 (bit v 31))
  else s.setReg aSnkPar v

/-- SNK_SER_CTL (R467, R468): 4,096 control rows follow the rise of EN, every 64th an AM row; 64 IDLE rows its fall. -/
def writeSer (v : Word) (s : State) : State :=
  if s.fuse.variant ≠ 0 then s
  else
    let was := s.rbit aSnkSer 31
    let s := s.setReg aSnkSer v
    if !was && bit v 31 then forN 64 (fun _ s => amRow (s.emit (.serCtl none 63))) s
    else if was && !bit v 31 then s.emit (.serCtl none 64)
    else s

/-- SNK_REM_CTL. A port that is absent is reserved. -/
def writeRem (w : RegW) (v : Word) (s : State) : State :=
  if portPresent s (fld v 0 4) then s.setReg aSnkRem v
  else refuse flagResval w (s.setReg aSnkRem (putFld v 0 4 (s.rf aSnkRem 0 4)))

/-- SNK_REM_STAT.DOWN (R476). (log entry 92, DESIGN CHOICE) -/
def remDown (s : State) : Bool :=
  let n := s.rf aSnkRem 0 4
  !(s.rbit aSnkRem 31 && decide (lnkState s n = stUp) && decide (8 ≤ portPart s n))

/-! ### Commands -/

/-- Class C of Table 19-3 on a channel. -/
def callC (n : Nat) (c : Call) (s : State) : Bool := chanWriter s c.fn n

/-- CH_CONFIG's checks and effect (Table 19-9). -/
def bodyChConfig (c : Call) (s : State) : CmdRes :=
  let n := c.b 16
  let a := aChCtl n
  let hold := c.bit 17 0
  let pk := c.b 17 / 2 % 4
  let sink := c.b 18
  let exp := c.b 19
  let buf := c.b 20
  let cls := c.le 24 4
  let ur (i : Nat) : Nat := c.le (28 + 4 * i) 4
  let portOk := if pk = 1 then false else if pk = 2 then true else s.rbit a 29
  let urBad (i : Nat) : Bool := decide (ur i / 2 ^ 28 ≠ 0) || decide (ur i / 2 ^ 12 % 16 ≠ 0)
  let sinkRef := sinkRefused s n sink portOk
  if !chanPresent s n then .no sAbsent s
  else if c.fn ≠ 0 ∧ (pk ≠ 0 ∨ buf ≠ 0) then .no sPerm s
  else if sinkRef = some flagPerm then .no sPerm s
  else if sinkRef.isSome || decide (pk = 3) || !(decide (12 ≤ exp) && decide (exp ≤ 24)) || decide (16 < buf) || decide (2 ^ 10 ≤ cls) ||
      urBad 0 || urBad 1 || (decide (s.fuse.variant = 2) && cls.testBit 4) then .no sParam s
  else if buf ≠ 0 ∧ 64 < bufSum s n buf then .no sResource s
  else if chOn s n && ((decide (buf ≠ 0) && decide (buf ≠ s.rf a 16 5)) || decide (sink ≠ chSink s n)) then .no sState s
  else if cls.testBit 4 && dataBarred s n then .no sKey s
  else
    let s := if buf = 0 then s else s.put a 16 5 buf
    let s := ((s.setBit a 29 portOk).put a 26 3 sink).put a 21 5 exp
    let s := ((s.setReg (aChCls n) (BitVec.ofNat 32 cls)).setReg (aChUr n 0) (BitVec.ofNat 32 (ur 0))).setReg (aChUr n 1) (BitVec.ofNat 32 (ur 1))
    let bar := if hold then holdBar s n else none
    match bar with
    | some p => .done sPolicy [] (refreshFull n (stageHold n p 2 (s.setBit a 30 false)))
    | none => .done sOk [] (refreshFull n (s.setBit a 30 hold))

/-- CH_CONFIG (0x50). -/
def execChConfig (c : Call) (s : State) : Out := .next (runCmd 0x50 (fun c s => callC (c.b 16) c s) bodyChConfig c s)

def bodyChWindow (c : Call) (s : State) : CmdRes :=
  let n := c.b 16
  let x := c.b 17
  let sp := c.b 18
  let tg := c.le 20 2
  if !chanPresent s n then .no sAbsent s
  else if 4 ≤ x ∨ 4 ≤ sp ∨ 2 ^ 12 ≤ tg ∨ (s.fuse.variant = 2 ∧ sp ≠ 0) then .no sParam s
  else
    .done sOk [] (((s.setReg (aChAwSel n x) (BitVec.ofNat 32 (sp * 2 ^ 30 + tg))).setReg (aChAwLo n x) (BitVec.ofNat 32 (c.le 24 4))).setReg
      (aChAwHi n x) (BitVec.ofNat 32 (c.le 28 4)))

/-- CH_WINDOW (0x51). -/
def execChWindow (c : Call) (s : State) : Out := .next (runCmd 0x51 (fun c s => callC (c.b 16) c s) bodyChWindow c s)

/-- CH_ENABLE: FLUSH with EN 0 flushes and disables nothing. (log entry 91, DESIGN CHOICE) -/
def bodyChEnable (c : Call) (s : State) : CmdRes :=
  let n := c.b 16
  let en := c.bit 17 0
  let fl := c.bit 17 1
  if !chanPresent s n then .no sAbsent s
  else if en && !chOn s n then
    if chSink s n = 0 then .no sState s
    else if engineTaken s n then .no sBusy s
    else if rollOn s n && !rollAllowed s n (chEngine s n) then .no sState s
    else
      let s := enableChannel n s
      .done sOk [] (if fl then flushChannel n s else s)
  else if !en && !fl && chOn s n then
    let s := disableChannel n 1 s
    .done sOk (leBytes 6 ((chRt s n).packets % 2 ^ 48)) s
  else .done sOk [] (if fl then flushChannel n s else s)

/-- CH_ENABLE (0x52). -/
def execChEnable (c : Call) (s : State) : Out := .next (runCmd 0x52 (fun c s => callC (c.b 16) c s) bodyChEnable c s)

/-- RING_SET's checks and effect (R472, R473, R479). -/
def bodyRingSet (c : Call) (s : State) : CmdRes :=
  let ing := c.bit 16 7
  let n := c.b 16 % 32
  let mode := c.bit 17 0
  let wm := c.b 18
  let hs := c.b 19
  let rg := c.b 20
  let roll := c.bit 21 0
  let eng := c.b 22
  let base := c.le 24 8
  let len := c.le 32 4
  let wb := c.le 40 8
  let ctl := BitVec.ofNat 32 (b2n mode * 2 ^ 31 + wm % 16 * 2 ^ 27 + b2n (c.bit 17 1) * 2 ^ 26 + hs % 8 * 2 ^ 23 + rg % 16 * 2 ^ 19 +
    (if ing then b2n (c.bit 17 2) * 2 ^ 18 + b2n (c.bit 17 3) * 2 ^ 17 else 0))
  if (if ing then !portPresent s n else !chanPresent s n) then .no sAbsent s
  else if ringBusy s ing n && !(ing && !c.bit 17 3) then .no sState s
  else if 16 ≤ wm ∨ 8 ≤ hs ∨ 16 ≤ rg ∨ 4 ≤ eng ∨ (!ing && (c.bit 17 2 || c.bit 17 3)) ∨ (ing && roll) ∨ (roll ∧ s.fuse.variant = 2) then .no sParam s
  else if len < 16 ∨ 2 ^ 24 < len ∨ wb % 8 ≠ 0 then .no sParam s
  else if ringHbm s ing n ctl && !ringFits s ing n ctl base len then .no sParam s
  else if ringHost s ing n ctl && decide (base % 4096 ≠ 0) then .no sParam s
  else if roll && !rollAllowed s n eng then .no sState s
  else
    let was := s.rbit (aRng ing n 0) 17
    let s := s.setReg (aRng ing n 0) ctl
    let s := (s.setReg (aRng ing n 8) (BitVec.ofNat 32 base)).setReg (aRng ing n 12) (BitVec.ofNat 32 (base / 2 ^ 32))
    let s := s.setReg (aRng ing n 0x10) (BitVec.ofNat 32 len)
    let s := (s.setReg (aRng ing n 0x1C) (BitVec.ofNat 32 wb)).setReg (aRng ing n 0x20) (BitVec.ofNat 32 (wb / 2 ^ 32))
    let s := if ing then (if !was && c.bit 17 3 then s.setReg (aRng ing n 0x14) 0 else s)
      else ((s.setBit (aSnkCfg n) 31 roll).put (aSnkCfg n) 28 2 eng).put (aSnkCfg n) 0 8 (c.b 23)
    .done sOk [] s

/-- RING_SET (0x53): ingest sets need PF0. -/
def execRingSet (c : Call) (s : State) : Out :=
  .next (runCmd 0x53 (fun c s => if c.bit 16 7 then decide (c.fn = 0) else callC (c.b 16 % 32) c s) bodyRingSet c s)

def bodySinkPort (c : Call) (s : State) : CmdRes :=
  let k := c.b 16
  let en := c.bit 17 0
  let x := c.b 18
  if k = 5 ∧ s.fuse.variant ≠ 0 then .no sAbsent s
  else if k = 3 then
    (if portPresent s x then .done sOk [] (s.setReg aSnkRem (BitVec.ofNat 32 (b2n en * 2 ^ 31 + x))) else .no sParam s)
  else if k = 4 then
    (if 4 ≤ x then .no sParam s
     else if s.rbit aSnkPar 31 && en && decide (x ≠ s.rf aSnkPar 29 2) then .no sState s
     else .done sOk [] (s.setReg aSnkPar (BitVec.ofNat 32 (b2n en * 2 ^ 31 + x * 2 ^ 29))))
  else if k = 5 then
    (if 16 ≤ x then .no sParam s else .done sOk [] (writeSer (BitVec.ofNat 32 (b2n en * 2 ^ 31 + x)) s))
  else .no sParam s

/-- SINK_PORT (0x54). -/
def execSinkPort (c : Call) (s : State) : Out := .next (runCmd 0x54 callP bodySinkPort c s)

end Sys2Proof.Machine
end

