-- ==== Sys2Proof/Machine/Clapper.lean ====
section
/-! DEFINITION. The Clapper: its sequencer, actions and stop counts (R434 to R439, R450 to R455), the CLAP pins, and the
concentrators' write of packets into channels (R352). -/

namespace Sys2Proof.Machine

/-! ### Stop counts (R438, R451) -/

/-- The armed count has ended, for its channels or for some of them: the channels that stop now, and whether all is over.
(log entry 94, DESIGN CHOICE) -/
def stopDue (s : State) (x : StopRt) : List Nat × Bool :=
  match x.unit with
  | 1 =>
    let d := domLow s x.part
    if x.left = 0 ∨ ctxRuns s d = false then (x.chans.map (·.1), true) else ([], false)
  | 2 => if 0 ≤ (s.toll.now - x.toll).toInt then (x.chans.map (·.1), true) else ([], false)
  | _ =>
    let due := x.chans.filter (fun c => decide (c.2 ≤ (chRt s c.1).bytePos))
    (due.map (·.1), decide (due.length = x.chans.length))

/-- Stop every channel whose count has ended: EN clears, END with REASON CLAPPER. (log entry 94, DESIGN CHOICE) -/
def clapStops (s : State) : State :=
  match s.clap.stop with
  | none => s
  | some x =>
    let d := stopDue s x
    let s := forL d.1 (fun n s => if chOn s n then disableChannel n 2 s else s) s
    if d.2 then (setClap { s.clap with stop := none } s).setBit aClpStat 30 false else s

/-- One non-slipping edge of a domain counts for a stop count in sc. -/
def stopTick (d : Nat) (s : State) : State :=
  match s.clap.stop with
  | some x => if x.unit = 1 ∧ domLow s x.part = d then setClap { s.clap with stop := some { x with left := x.left - 1 } } s else s
  | none => s

/-- A stop count on the score cycles of partition p takes effect at once (R438, R454). -/
def stopAtOnce (p : Nat) (s : State) : State :=
  match s.clap.stop with
  | some x => if x.unit = 1 ∧ x.part = p then clapStops (setClap { s.clap with stop := some { x with left := 0 } } s) else s
  | none => s

/-! ### Actions (Table 13-3) -/

/-- Channels of a mask that the Clapper may start or stop (R437). -/
def clapChans (s : State) (m : Nat) : List Nat := (maskBits 24 m).filter (fun n => chanPresent s n && opChan s n)

/-- What a firing does: the actions and channels that its TRIGGER packet names, the unit of a stop count armed. -/
structure FireSt where
  acts : Nat := 0
  chans : Nat := 0
  unit : Nat := 0
  deriving DecidableEq, Repr

/-- START (R359, R437). -/
def actStart (x : FireSt) (s : State) : FireSt × State :=
  (clapChans s ((s.reg aClpStart).toNat)).foldl (fun (a : FireSt × State) n =>
    if chOn a.2 n then a
    else if chSink a.2 n = 0 || engineTaken a.2 n then (a.1, errFlag flagState 0 0 (offOf (aChCtl n)) a.2)
    else ({ a.1 with chans := a.1.chans ||| 2 ^ n }, enableChannel n a.2)) (x, s)

/-- STOP (R437, R438): a later STOP does not re-arm a count. -/
def actStop (x : FireSt) (s : State) : FireSt × State :=
  let u := s.rf aClpStop 30 2
  if s.clap.stop.isSome || decide (u = 0) then ({ x with acts := x.acts - (if x.acts.testBit 1 then 2 else 0) }, s)
  else
    let ns := (clapChans s (s.rf aClpStop 0 24)).filter (chOn s)
    let n := (s.reg aClpStopn).toNat
    let r : StopRt := { unit := u, part := s.rf aClpStop 24 3, left := n, toll := s.toll.now + BitVec.ofNat 64 n,
                        chans := ns.map (fun c => (c, (chRt s c).bytePos + n)) }
    ({ x with chans := x.chans ||| maskOf ns, unit := u }, (setClap { s.clap with stop := some r } s).setBit aClpStat 30 true)

/-- CLAP_OUT (R439, R453). -/
def actPins (s : State) : State :=
  if inSafe s then s
  else forL (maskBits 4 (s.rf aClpOut 12 4)) (fun i s =>
    let s := s.emit (.pin "CLAP_OUT" i true)
    if (s.rf aClpOut 4 4).testBit i then s.setBit aClpOut i true
    else setClap { s.clap with pulse := (s.clap.pulse.erase i) ++ [i] } s) s

/-- The actions of an arc, in the order of Table 13-3. -/
def fireActions (acts : Nat) (s : State) : FireSt × State :=
  let a : FireSt × State := ({ acts := acts }, s)
  let a := if acts.testBit 0 then actStart a.1 a.2 else a
  let a := if acts.testBit 1 then actStop a.1 a.2 else a
  let s := a.2
  let s := if acts.testBit 2 then s.setReg aCntFrz (s.reg aCntFrz ||| BitVec.ofNat 32 (s.rf aClpScope 16 11)) else s
  let s := if acts.testBit 3 then actPins s else s
  let s := if acts.testBit 4 then raise 0 10 (s.setBit aClpStat 31 true) else s
  let s := if acts.testBit 5 then requestSnap (s.rf aClpScope 0 11) true s else s
  (a.1, clapStops s)

/-! ### Sequencer (R434 to R436) -/

def clapState (s : State) : Nat := s.rf aClpStat 28 2
def arcCount (s : State) (i : Nat) : Nat := tabGet (fun _ => 0) s.clap.counts i
def setArcCount (i v : Nat) (s : State) : State := setClap { s.clap with counts := tabSet (fun _ => 0) i v s.clap.counts } s

/-- Arc a of state st fires on match m. -/
def fireArc (st a : Nat) (m : MatchRt) (s : State) : State :=
  let arc := aClpArc st a
  let nx := s.rf arc 6 2
  let f := fireActions (s.rf arc 0 6) s
  let s := f.2.put aClpStat 28 2 nx
  let s := setArcCount (2 * nx + 1) 0 (setArcCount (2 * nx) 0 s)
  stage { (mkPkt s clsTrigger 0x873 0 m.stamp (triggerBytes (st + 4 * nx) m.cmp f.1.acts m.unit m.inputs f.1.unit m.sc f.1.chans)) with stamp := m.stamp } s

/-- The Clapper takes one match: each arc of the current state whose mask holds it counts; A0 before A1. -/
def takeMatch (m : MatchRt) (s : State) : State :=
  if !s.rbit aClpCtl 31 then s
  else
    let st := clapState s
    let hit (a : Nat) : Bool := (s.rf (aClpArc st a) 16 16).testBit m.cmp
    let s := forN 2 (fun a s => if hit a then setArcCount (2 * st + a) (arcCount s (2 * st + a) + 1) s else s) s
    let full (a : Nat) : Bool := hit a && decide (s.rf (aClpArc st a) 8 8 + 1 ≤ arcCount s (2 * st + a))
    if full 0 then fireArc st 0 m s else if full 1 then fireArc st 1 m s else s

/-- The waiting match that comes first: by source, then by arrival (R434). -/
def firstMatch (l : List MatchRt) : Option MatchRt := (sortLe (fun a b => decide (a.src ≤ b.src)) l).head?

/-- CLAPPER_MATCH: the Clapper takes the next match. -/
def execClapperMatch (s : State) : Out :=
  match firstMatch s.clap.waits with
  | none => .next s
  | some m => .next (takeMatch m (setClap { s.clap with waits := s.clap.waits.erase m } s))

/-- STOP_COUNT_END: the armed count has ended. -/
def execStopCountEnd (s : State) : Out := .next (clapStops s)

/-- PULSE_END: a pulse has lasted WIDTH ns. -/
def execPulseEnd (pin : Nat) (s : State) : Out :=
  if !decide (pin < 4) then .fault (.noSuchInstance "CLAP_OUT" pin)
  else .next (if s.clap.pulse.contains pin then
      (setClap { s.clap with pulse := s.clap.pulse.erase pin } s).emit (.pin "CLAP_OUT" pin false)
    else s)

/-- CLAP_IN: an edge of an input pin; its comparator matches when EDGE selects it (R433). -/
def execClapIn (pin : Nat) (level : Bool) (s : State) : Out :=
  if !decide (pin < 4) then .fault (.noSuchInstance "CLAP_IN" pin)
  else if s.clap.inputs.testBit pin = level then .next s
  else
    let ins := maskOf ((maskBits 4 s.clap.inputs).filter (fun i => decide (i ≠ pin))) + (if level then 2 ^ pin else 0)
    let s := setClap { s.clap with inputs := ins } s
    let e := s.rf aClpExt (2 * pin) 2
    .next (if s.rbit aClpCtl 31 && (if level then e.testBit 0 else e.testBit 1) then
        setClap { s.clap with waits := s.clap.waits ++ [{ src := 4, cmp := 12 + pin, stamp := s.toll.now, inputs := ins }] } s
      else s)

/-- PACKET_WRITE: a concentrator writes its oldest staged packet into every channel that accepts it (R352); a stop count
in bytes may end with it. (log entry 107, DESIGN CHOICE) -/
def execPacketWrite (s : State) : Out :=
  match s.obs.staged with
  | [] => .next s
  | k :: rest => .next (clapStops (distribute k { s with obs := { s.obs with staged := rest } }))

/-! ### Registers (R436, R449, R450) -/

/-- CLP_CTL.ARM: arming starts at state 0 with no count; whatever waits from before is dropped.
(log entry 94, DESIGN CHOICE) -/
def writeClpCtl (v : Word) (s : State) : State :=
  let was := s.rbit aClpCtl 31
  let s := s.setBit aClpCtl 31 (bit v 31)
  if bit v 31 = was then s
  else
    let s := setClap { s.clap with waits := [], crossed := [] } s
    if bit v 31 then setClap { s.clap with counts := [] } (s.put aClpStat 28 2 0) else s

/-- CLP_OUT.LEVEL: a 0 releases a held pin. -/
def writeClpLevel (v : Nat) (s : State) : State :=
  let held := s.rf aClpOut 0 4
  let off := (maskBits 4 held).filter (fun i => !v.testBit i)
  forL off (fun i s => (s.setBit aClpOut i false).emit (.pin "CLAP_OUT" i false)) s

/-- A value that Table 13-6 reserves for the CLP register at offset o. -/
def clpReserved (o : Nat) (v : Word) : Bool :=
  if o = 0x0C then decide (fld v 24 8 < 4)
  else if 0x100 ≤ o ∧ o < 0x200 ∧ o % 0x20 = 0 then decide (8 ≤ fld v 28 4)
  else false

/-- A write of a Clapper register but CLP_CTL and CLP_STAT: closed while ARM is 1, but for LEVEL. -/
def writeClp (w : RegW) (v : Word) (s : State) : State :=
  let o := w.key - bClp
  if o = 0x0C then
    let s := writeClpLevel (fld v 0 4) s
    let lev := s.rf aClpOut 0 4
    let want := putFld v 0 4 lev
    if s.rbit aClpCtl 31 then (if want &&& definedMask aClpOut = s.reg aClpOut then s else refuse flagState w s)
    else if clpReserved o v then refuse flagResval w (s.setReg aClpOut (putFld want 24 8 (s.rf aClpOut 24 8)))
    else s.setReg aClpOut want
  else if s.rbit aClpCtl 31 then refuse flagState w s
  else if clpReserved o v then refuse flagResval w (s.setReg w.key (putFld v 28 4 (s.rf w.key 28 4)))
  else s.setReg w.key v

/-- Word of a CLAP_LOAD image at offset o. -/
def imgWord (b : List Byte) (o : Nat) : Word := BitVec.ofNat 32 (leAt b o 4)

/-- CLAP_LOAD: the buffer is an image of CLP offsets 0 to 0x40F (Table 19-9). -/
def bodyClapLoad (c : Call) (s : State) : CmdRes :=
  if c.le 24 4 ≠ 1040 then .no sParam s
  else match c.input s (c.le 16 8) 1040 with
  | .error e => .no e s
  | .ok b =>
    let offs := ((List.range 260).map (fun i => 4 * i)).filter (fun o => decide (o ≠ 0) && decide (o ≠ 4) && decide (regFields (bClp + o) ≠ []))
    let stopUsed := (List.range 8).any (fun i => (imgWord b (0x300 + 8 * i)).getLsbD 1 && decide (fld (imgWord b (0x300 + 8 * i)) 16 16 ≠ 0))
    if offs.any (fun o => clpReserved o (imgWord b o)) || (stopUsed && decide (fld (imgWord b 0x404) 30 2 = 0)) then .no sParam s
    else
      let s := writeClpCtl 0 s
      let s := forL offs (fun o s => writeClp { key := bClp + o, src := c.src, op := some 0x56 } (imgWord b o) s) s
      .done sOk [] (writeClpCtl (if c.bit 28 0 then BitVec.ofNat 32 (2 ^ 31) else 0) s)

/-- CLAP_LOAD (0x56). -/
def execClapLoad (c : Call) (s : State) : Out := .next (runCmd 0x56 callP bodyClapLoad c s)

end Sys2Proof.Machine
end

