-- ==== Sys2Proof/Machine/Domain.lean ====
section
/-! DEFINITION. The edges of a slip domain (chapters 1, 5 and 7): what one FCLK edge does, slips, runs, switches, class
changes, starts and stops.

The counters of a partition name the edge that the domain is on. The work of that edge is done once, by the rows that name
it or, for whatever they left, when FCLK_EDGE closes the edge and goes on to the next (log entry 3). -/

namespace Sys2Proof.Machine

/-! ### Planned actions of one edge -/

/-- Schedule entries that fall due now, with the unit and kind of their block. -/
def dueSched (s : State) (d : Nat) : List (Nat × Nat × SchedRec) :=
  match runCtx s d with
  | none => []
  | some r => r.ctx.units.flatMap (fun b => (b.sched.filter (fun e => decide (e.sc = relSc s d))).map (fun e => (b.unit, b.kind, e)))

/-- An op slot switch makes its slot pending for the next acceptance (R77). -/
def pendSlot (u slot : Nat) (s : State) : State :=
  if (domRt s (domLow s (unitPart u))).done.contains (1, u, 0) then s else setCu u { cuRt s u with pend := some slot } s

/-- Route sets, steer runs and op slot switches of this sc. -/
def startScheds (d : Nat) (s : State) : State :=
  forL (dueSched s d) (fun x s =>
    match x.2.1 with
    | 0 => pendSlot x.1 x.2.2.index s
    | 2 => if x.2.2.elem = 0 then doRoute x.1 x.2.2.index s else doSteer x.1 x.2.2.elem x.2.2.len s
    | _ => s) s

/-- Units with a block of one kind in the running context, and those that `more` lists, ascending. -/
def blockUnits (s : State) (d kind : Nat) (more : List Nat) : List Nat :=
  sortLe (fun a b => decide (a ≤ b)) ((((match runCtx s d with | some r => (r.ctx.units.filter (fun b => decide (b.kind = kind))).map (·.unit) | none => []) ++ more)).eraseDups)

def inMask (s : State) (d p : Nat) : Bool := (domMask s d).testBit p
/-- Memories of a domain that have work, slices as 0x1000 + p. -/
def workMems (s : State) (d : Nat) : List Nat :=
  ((blockUnits s d 1 []) ++ (blockUnits s d 3 []).map (· + 0x1000) ++ (s.fab.mus.map Prod.fst).filter (fun u => inMask s d (muPart u))).eraseDups
def workCus (s : State) (d : Nat) : List Nat := blockUnits s d 0 ((s.fab.cus.map Prod.fst).filter (fun u => inMask s d (unitPart u)))

/-- Every planned action of the edge that no row has performed yet (R25, R139, R289, R331). -/
def edgeActs (d : Nat) (s : State) : State :=
  let s := forL (dueQueues s d) (fun q s => presentDue q s) s
  let s := startScheds d s
  let s := evalWaits d s
  let s := forL (workMems s d) (fun u s => muStep u s) s
  let s := forL (workCus s d) (fun u s => cuOnce u [] s) s
  let s := forL (blockUnits s d 2 []) (fun u s => onceAt d (12, u, 0) (fun s => sbStep u s) s) s
  let s := txWaited d (dmaWaited d (pumpAll d (dmaStarts d s)))
  let s := txPending d (txStarts d s)
  applyAdvs d (timeoutWaits d (netMove d s))

/-- Sources whose credit is overdue at the end of the sc (R149). -/
def creditsLate (d : Nat) (s : State) : State :=
  forL (s.fab.net.srcs.map Prod.fst) (fun k s =>
    if inDom s d k && lateSends s k then onceAt d (9, k / 32, k % 32) (creditLate k) s else s) s

/-- Engines and ports with a wait pending (events WAIT_SC). -/
def waitCounts (d : Nat) (s : State) : State :=
  forL (((domRt s d).waits.map (·.unit)).eraseDups) (fun u s => countUnit u 0x42 1 s) s

/-- What a non-slipping edge counts, once. -/
def edgeCounts (d : Nat) (s : State) : State :=
  onceAt d (30, 0, 0) (fun s => if ctxRuns s d then waitCounts d (countDomain (domMask s d) 0x01 s) else s) s

/-- All of a planned edge but its sample. (log entry 3, DESIGN CHOICE) -/
def edgeWork (d : Nat) (s : State) : State := edgeCounts d (creditsLate d (edgeActs d s))

/-! ### Slips -/

/-- Causes of the current edge: none once one of its actions has been performed. -/
def edgeCauses (s : State) (d : Nat) : Nat :=
  let r := domRt s d
  if r.done.any (fun k => decide (k.1 ≠ 14)) || decide (r.prs ≠ []) then 0 else slipCauses s d

/-- The throttle of a window that begins on this edge is taken (R747). -/
def openWindow (d : Nat) (s : State) : State :=
  if windowOpens s d then
    let t := maxThrottle s d
    onceAt d (14, 0, 0) (fun s =>
      let r := domRt s d
      setDomRt d { r with thermal := t, winT := if plnState s d = stRun then r.winT ++ [t] else r.winT } s) s
  else s

/-- A slip-limit fault of the edge that would exceed the limit (R35). -/
def limitHit (s : State) (d : Nat) : Bool :=
  match (domRt s d).slip with | some sl => decide (2 ^ (domRt s d).limit ≤ sl.len) | none => false

/-- A slipping edge (R31 to R34): the first one opens the slip and counts it. (log entry 47, DESIGN CHOICE) -/
def slipEdge (d causes : Nat) (s : State) : State :=
  let r := domRt s d
  let sl := r.slip.getD { sc := scOf s d, fc := fcOf s d, toll := s.toll.now }
  let m := domMask s d
  let s := setDomRt d { r with slip := some { sl with len := sl.len + 1, mask := sl.mask ||| causes }, causes := causes, carry := false } s
  let s := forL (maskBits 8 m) (fun p s =>
    let s := if sl.len = 0 then s.countSat (aClkSlip p) 0 16 1 else s
    s.put (aClkSlip p) 16 8 (s.rf (aClkSlip p) 16 8 ||| causes)) s
  let s := countDomain m 0x02 s
  let s := forL (domClusters m) (fun c s => countMask (1 + c) 0x87 (maskOf ((maskBits 8 m).filter (fun p => decide (p / 4 = c)))) s) s
  if causes.testBit 3 then countMask 3 0xC7 m s else s

/-! ### Plan boundaries -/

/-- Pushes whose queue a plan boundary empties end (R232). -/
def endPushes (mask : Nat) (s : State) : State :=
  forL (s.host.outst.filter (fun o => o.acc && decide (o.op = 0x38) && mask.testBit o.call.part.toNat)) (fun o s =>
    finishO o sState (leBytes 4 o.b) s) s

/-- Loads that waited for the running context begin (Table 5-17). -/
def freeLoads (d : Nat) (s : State) : State :=
  setOutst (s.host.outst.map (fun o => if o.op = 0x21 ∧ o.a = d then { o with c := 0 } else o)) s

/-- The limit of the domain is that of its lowest partition (R233). -/
def takeLimit (d : Nat) (s : State) : State := setDomRt d { domRt s d with limit := s.rf (aClkSlip d) 27 5 } s

/-- What every plan boundary empties: queues, network, pipelines, access runs (R58, R125, R158, R200, R232, R233).
(log entry 49, DESIGN CHOICE) -/
def planBoundary (d : Nat) (s : State) : State :=
  let m := domMask s d
  let s := endPushes m (clearMus m (clearCus m (clearNet m true (markOld m (emptyQueues m (dropHeldStrikes m s))))))
  takeLimit d (freeLoads d s)

/-- The queue counts of a context that comes in start at zero (R227). -/
def zeroQueues (mask : Nat) (s : State) : State :=
  forL (maskBits 8 mask) (fun p s => forN 27 (fun i s =>
    let x := queueRt s (32 * p + i)
    setQueueRt (32 * p + i) { x with made := 0, arrived := 0 } s) s) s

def putBase (mask : Nat) (base : Cnt) (s : State) : State :=
  forL (maskBits 8 mask) (fun p s =>
    (s.setReg (aPlnBaseL p) (BitVec.ofNat 32 base.toNat)).setReg (aPlnBaseH p) (BitVec.ofNat 32 (base.toNat / 2 ^ 32))) s

def setFclass (d c : Nat) (s : State) : State := putParts aPlnStat 20 4 c (domMask s d) s
def setPend (mask ctx : Nat) (s : State) : State := putParts aPlnStat 8 8 ctx mask s
def setCls (mask c : Nat) (s : State) : State := forL (maskBits 8 mask) (fun p s => setPartRt p { partRt s p with cls := c } s) s

/-- The domain is idle with no context (REASON IDLE). -/
def goIdle (d : Nat) (s : State) : State :=
  let s := setFclass d 0 (setPln d stIdle 0xFF 0xFF s)
  let s := startChecker d none s
  refreshGovs (domMask s d) (stageOwnctx 4 (domMask s d) s)

/-! ### Joining and splitting (R46, R530, R827) -/

/-- The maximal runs of consecutive partitions of a mask, as masks. -/
def runsOf (m : Nat) : List Nat :=
  (List.range 8).foldl (fun (acc : List Nat) p =>
    if !m.testBit p then acc
    else if p ≠ 0 ∧ m.testBit (p - 1) then
      match acc.reverse with | l :: r => (r.reverse) ++ [l + 2 ^ p] | [] => [2 ^ p]
    else acc ++ [2 ^ p]) []

/-- The partitions of a mask become one slip domain. (log entry 57, DESIGN CHOICE; log entry 89, DESIGN CHOICE) -/
def putDomain (m : Nat) (s : State) : State := putParts aPartStat 16 8 m m s

/-- A mask of partitions leaves its domain as idle domains of their own. (log entry 53, DESIGN CHOICE) -/
def splitIdle (m : Nat) (s : State) : State :=
  forL (runsOf m) (fun k s =>
    let d := lowBit 8 k
    let s := putDomain k s
    let s := setDomRt d { ({} : DomRt) with limit := s.rf (aClkSlip d) 27 5 } s
    setPln d stIdle 0xFF 0xFF s) s

/-- Form the slip domain of a mask from idle domains: the others split off, the counters join.
(log entry 53, DESIGN CHOICE) -/
def formDomain (m : Nat) (s : State) : State :=
  let d := lowBit 8 m
  if domMask s d = m then s
  else
    let old := domMask s d
    let all := (maskBits 8 m).foldl (fun a p => a ||| domMask s p) 0
    let rest := maskOf ((maskBits 8 all).filter (fun p => !m.testBit p))
    let keep := domRt s d
    let s := splitIdle rest s
    let s := setPln d stIdle 0xFF 0xFF (putDomain m s)
    let s := setDomRt d { keep with limit := s.rf (aClkSlip d) 27 5 } s
    let low := partRt s d
    let s := forL (maskBits 8 m) (fun p s => setPartRt p { partRt s p with fc := low.fc, sc := low.sc, cls := low.cls } s) s
    if (maskBits 8 m).all (fun p => old.testBit p) then s else stageOwnctx 6 m s

/-! ### Switches (R183, R184, R234) -/

/-- Mark the command whose switch begins (R834). (log entry 56, DESIGN CHOICE) -/
def markBegan (d : Nat) (s : State) : State :=
  setOutst (s.host.outst.map (fun o => if o.acc && decide (o.a = d) && (decide (o.op = 0x22) || decide (o.op = 0x23)) then { o with b := 1 } else o)) s

/-- The first edge of the 704 is the current one. (log entry 49, DESIGN CHOICE) -/
def beginSwitch (d : Nat) (w : WaitSw) (s : State) : State :=
  let res := match (domRt s d).resume with | some r => decide (w.reason = 2) && decide (r.ctx = w.ctx) | none => false
  let s := setPln d stSwitch 0xFF w.ctx s
  let s := setFclass d (partRt s d).cls s
  let s := forL (maskBits 8 (domMask s d)) (fun p s => s.setBit (aPlnSwitch p) 31 false) s
  let base := match (domRt s d).resume with
    | some r => if res then BitVec.ofNat 56 r.sc - BitVec.ofNat 56 r.stop else scOf s d + 704#56
    | none => scOf s d + 704#56
  let s := setDomRt d { domRt s d with
    pend := none, chg := none, base := base, resume := if res then (domRt s d).resume else none, winT := [], carry := false,
    sw := some { ctx := w.ctx, mask := domMask s d, reason := w.reason, job := w.job, jobKey := w.jobKey, resume := res } } s
  let s := if res then s else startTraffic (domMask s d) (decide (w.reason = 2)) (carryStrikes (domMask s d) (zeroQueues (domMask s d) s))
  refreshGovs (domMask s d) (markBegan d s)

/-- A class change comes first when the class differs (R234); FCLK then stands still until CLASS_CHANGE_DONE. -/
def beginChange (d : Nat) (w : WaitSw) (s : State) : State :=
  if w.fclass = (partRt s d).cls then beginSwitch d w s
  else
    let s := if w.fclass < (partRt s d).cls then forL (domClusters (domMask s d)) (fun c s => raiseRail c w.fclass s) s else s
    let s := setFclass d 0 (setPln d stSwitch 0xFF w.ctx s)
    setDomRt d { domRt s d with chg := some w, pend := none } s

/-- The class of an incoming context: what was asked, or what the FCLASS loop chooses (R748). -/
def withClass (d : Nat) (w : WaitSw) (s : State) : WaitSw × State :=
  if w.fclass ≠ 0 then (w, s)
  else
    match residentOf s (domMask s d) w.ctx with
    | none => ({ w with fclass := (partRt s d).cls }, s)
    | some r => let c := classDecide d r.ctx.fmask s; ({ w with fclass := c.1 }, c.2)

/-- Close the run of the domain on its last edge, short of its end: the FINAL checkpoint stands where it stops. -/
def closeEarly (d : Nat) (r : Resident) (s : State) : State :=
  let upto := nextSc s d
  let s := flushTaps (domMask s d) s
  let cs := domClusters (domMask s d)
  let s := forL cs (fun c s => closeUpto d c r upto s) s
  let s := forL cs (fun c s => if upto % 2 ^ r.ctx.chk = 0 then s else emitCheckpoint d c (upto - 1) (upto - 1) r true false s) s
  endSlip d false s

/-- What a run leaves is dropped; the captured faults and the throttle windows of the run stay for what follows. -/
def leaveRun (d : Nat) (s : State) : State :=
  let r := domRt s d
  let s := planBoundary d (clearRun d s)
  setDomRt d { domRt s d with faults := r.faults, winT := r.winT, pend := r.pend } s

/-- From a run that is closed to the incoming context. (log entry 49, DESIGN CHOICE) -/
def switchTo (d : Nat) (w : WaitSw) (s : State) : State :=
  let c := withClass d w s
  beginChange d c.1 (leaveRun d c.2)

/-- A switch or start that waits is due on this edge: from a run it closes the run; from idle it forms the domain.
(log entry 49, DESIGN CHOICE) -/
def pendDue (p : Nat) (w : WaitSw) (s : State) : State :=
  let d := domLow s p
  if plnState s d = stRun then
    match runCtx s d with
    | some r => switchTo d w (closeEarly d r s)
    | none => s
  else if plnState s d = stIdle then
    if (maskBits 8 w.mask).all (fun q => decide (plnState s q = stIdle)) then
      let s := formDomain w.mask s
      let c := withClass p w s
      beginChange p c.1 c.2
    else endWaiters p sState sState (setDomRt p { domRt s p with pend := none } s)
  else beginChange d w s

/-- Bytes 0 to 63 of a drain image's header (Table 22-9), but for the SRAM flag. `last` is STOP_SC of a run. -/
def drainHead (d id last : Nat) (s : State) : List Byte :=
  let run := runCtx s d
  let prev (c : Cnt) : Nat := if c = 0 then 0 else (c - 1).toNat
  let sc := if run.isSome then ((domRt s d).base + BitVec.ofNat 56 last).toNat else prev (scOf s d)
  [0x53, 0x58, 0x44, 0x49, 1, 0, bite (2 * b2n run.isSome + 4 * b2n (decide (plnState s d = stHalted))), bite (domMask s d), bite s.fuse.stepping,
    bite (match run with | some r => r.ctx.index | none => 0xFF), bite (partRt s d).cls, 0] ++
  leBytes 2 (tenantOf s d) ++ leBytes 2 (s.rf aPealId 0 10) ++ leBytes 8 (match run with | some r => r.imageId | none => 0) ++
  leBytes 4 (domRt s d).job.toNat ++ leBytes 6 (if run.isSome then last else allOnes48) ++ leBytes 7 sc ++ leBytes 7 (prev (fcOf s d)) ++
  leBytes 8 s.toll.now.toNat ++ leBytes 8 id

/-- Captures that a drain takes on its stop edge (R716); the row DRAIN_DONE fills the image from them. -/
def captureDom (d id last : Nat) (s : State) : DrainCap :=
  let m := domMask s d
  let inm (p : Nat) : Bool := m.testBit p
  { id := id, head := drainHead d id last s, mask := m, dom := domRt s d, parts := s.parts.filter (fun x => inm x.1),
    regs := s.regs.filter (fun x => (decide (bBel ≤ x.1) && decide (x.1 < bBel + 0x1000) && inm ((x.1 - bBel) / 0x200)) ||
      (maskBits 8 m).any (fun p => decide (x.1 = aScfCnt p)) ||
      (decide (bCnt ≤ x.1) && decide (x.1 < bCnt + 0x40000) && decide (2 ≤ (x.1 - bCnt) / 16 % 4) && inm (unitOwner s (ctrUnit x.1)))),
    queues := s.queues.filter (fun x => inm (queuePart x.1)),
    fab := { net := { sbs := s.fab.net.sbs.filter (fun x => inm (unitPart x.1)), fly := s.fab.net.fly.filter (fun x => inm (unitPart (x.2.1 / 32))),
                      loc := s.fab.net.loc.filter (fun x => inm (unitPart (x.2.1 / 32))), queues := s.fab.net.queues.filter (fun x => inm (unitPart (x.1 / 32))),
                      srcs := s.fab.net.srcs.filter (fun x => inm (unitPart (x.1 / 32))), creds := s.fab.net.creds.filter (fun x => inm (unitPart (x.2.1 / 32))),
                      later := s.fab.net.later.filter (fun x => inm (unitPart (x.2.1 / 32))) },
             cus := s.fab.cus.filter (fun x => inm (unitPart x.1)), mus := s.fab.mus.filter (fun x => inm (muPart x.1)),
             sram := s.fab.sram.filter (fun x => inm (muPart (x.1 / 65536))), serr := s.fab.serr.filter (fun x => inm (muPart (x.1 / 65536))) },
    ctrs := s.ctrs.filter (fun x => decide (x.1 < bCnt + 0x40000) && decide (2 ≤ (x.1 - bCnt) / 16 % 4) && inm (unitOwner s (ctrUnit x.1))),
    links := s.links.filter (fun x => inm (portPart s x.1)), streams := s.streams.filter (fun x => inm x.part),
    dmas := s.dmas.filter (fun x => inm x.part), outq := s.outq.filter (fun x => inm (x.1 / 8)) }

/-- DRAIN commands that wait for their domain to stop take their captures. -/
def drainStops (d last : Nat) (s : State) : State :=
  forL (s.host.outst.filter (fun o => o.acc && decide (o.op = 0x82) && decide (o.a = d) && decide (o.b = 0))) (fun o s =>
    updOutst o { o with b := 1 } { s with caps := captureDom d (leNat o.data) last s :: s.caps.filter (fun c => decide (c.id ≠ leNat o.data)) }) s

/-- The stops end: RESULT carries the relative sc of the last edge run. (log entry 51, DEDUCED) -/
def endStops (d last : Nat) (s : State) : State :=
  forL (s.host.outst.filter (fun o => o.acc && decide (o.op = 0x25) && decide (o.a = d))) (fun o s => finishO o sOk (leBytes 6 last) s) s

/-- The domain is idle after a stop or the end of a run: whatever waited on the run ends. -/
def endIdle (d last : Nat) (s : State) : State :=
  let ctx := s.rf (aPlnStat d) 24 8
  let s := leaveRun d s
  let s := setDomRt d { domRt s d with lastCtx := ctx, lastStop := last, pend := none, winT := [], faults := [] } s
  let s := drainStops d last (goIdle d s)
  endWaiters d sState sState (endStops d last s)

/-- PLAN_STOP takes effect in a run (R397, R529, R826), a drain with its captures (R716). -/
def stopRun (d : Nat) (s : State) : State :=
  let last := (nextSc s d + 2 ^ 48 - 1) % 2 ^ 48
  endIdle d last (closeStopped d (drainStops d last s))

/-- NEXT of the context that ended: a resident context of the same image and mask (R184, R827). -/
def nextOf (s : State) (d : Nat) (r : Resident) : Option Resident :=
  if r.ctx.next = 0xFF then none
  else s.plan.resident.find? (fun x => decide (x.imageId = r.imageId) && decide (x.ctx.index = r.ctx.next) && decide (x.mask = domMask s d) && !x.loading)

/-- The run ends (R168, R184, R189, R398, R636). A requested switch beats NEXT, and a stop beats both.
(log entry 51, DEDUCED) -/
def runEnd (d : Nat) (r : Resident) (s : State) : State :=
  let s := endSlip d false (closeRun d r s)
  let stop := stopWaits s d
  let asked := (domRt s d).pend
  let nx := nextOf s d r
  let target : Option WaitSw :=
    if stop then none
    else match asked with
      | some w => some w
      | none => nx.map (fun x => { ctx := x.id, mask := domMask s d, reason := 3, job := (domRt s d).job, jobKey := (domRt s d).jobKey })
  let s := if !stop && asked.isNone && decide (r.ctx.next ≠ 0xFF) && nx.isNone then asyncParts sState 2 d allOnes48 (domMask s d) s else s
  match target with
  | some w => switchTo d w s
  | none =>
    if (domRt s d).faults ≠ [] then
      -- the last score cycles faulted: HALTED with no context running (R398)
      let ctx := s.rf (aPlnStat d) 24 8
      let fs := (domRt s d).faults
      let s := leaveRun d s
      haltCore d ctx (r.ctx.len - 1) none (setDomRt d { domRt s d with faults := fs } s)
    else endIdle d (r.ctx.len - 1) s

/-- The 704 edges are over (R183): score cycle 0 falls on the current edge, unless a stop waits (R834). -/
def switchEnd (d : Nat) (w : SwitchRt) (s : State) : State :=
  if stopWaits s d then
    let s := setDomRt d { domRt s d with sw := none } s
    let s := endWaiters d sState sState (endStops d allOnes48 s)
    let s := leaveRun d s
    drainStops d allOnes48 (goIdle d (setDomRt d { domRt s d with pend := none, lastCtx := w.ctx, lastStop := allOnes48, winT := [] } s))
  else
    let s := setPln d stRun w.ctx 0xFF s
    let s := putBase (domMask s d) (domRt s d).base s
    let s := setDomRt d { domRt s d with sw := none, job := w.job, jobKey := w.jobKey, resume := none } s
    let s := match residentOf s (domMask s d) w.ctx with
      | none => s
      | some r =>
        if w.resume then s
        else startChecker d (some r) (loadCredits r.ctx (loadBells (domMask s d) r.ctx.bells s))
    let s := setDomRt d { domRt s d with edges := [(relSc s d, s.toll.now)] } s
    let s := stageOwnctx w.reason (domMask s d) s
    let res := leBytes 7 (domRt s d).base.toNat ++ [0] ++ leBytes 8 s.toll.now.toNat
    finishWhereRes d res s
where
  /-- The command that began the switch ends with OK. -/
  finishWhereRes (d : Nat) (res : List Byte) (s : State) : State :=
    forL (s.host.outst.filter (fun o => o.acc && decide (o.a = d) && decide (o.b = 1) && (decide (o.op = 0x22) || decide (o.op = 0x23)))) (fun o s => finishO o sOk res s) s

/-! ### The beginning of an edge -/

/-- The switch that ends on this edge. -/
def switchOver (s : State) (d : Nat) : Option SwitchRt := (domRt s d).sw.filter (fun w => decide (w.left = 0))
/-- The run that ends on this edge. -/
def runOver (s : State) (d : Nat) : Option Resident := (runCtx s d).filter (fun r => decide (relSc s d = r.ctx.len))
/-- A waiting start or switch, kept under partition p, that begins on this edge: a switch in a run waits for its slip to
end (R39). -/
def pendNow (s : State) (p : Nat) : Option WaitSw :=
  let d := domLow s p
  let st := plnState s d
  (domRt s p).pend.filter (fun w => w.armed && decide (st ≠ stHalted) && (domRt s d).sw.isNone &&
    (decide (st ≠ stRun) || decide (edgeCauses s d = 0)))

/-- What begins the current edge: the end of a switch, the end of a run, a stop, a switch or start. -/
def edgeStart (d : Nat) (s : State) : State :=
  let s := match switchOver s d with | some w => switchEnd d w s | none => s
  let s := match runOver s d with | some r => runEnd d r s | none => s
  let s := if stopWaits s d && (domRt s d).sw.isNone && (domRt s d).chg.isNone then
      (if plnState s d = stRun then stopRun d s
       else if plnState s d = stSwitch then s else s) else s
  forL (maskBits 8 (domMask s d)) (fun p s => match pendNow s p with | some w => pendDue p w s | none => s) s

/-! ### The end of an edge -/

/-- Faults that halt on the very edge that finds them: a FAULT-policy release (R229) and the slip limit (R35). -/
def haltsNow (s : State) (d : Nat) : Bool := (domRt s d).faults.any (fun f => decide (f.block = 5) && (decide (f.kind = 1) || decide (f.kind = 3)))

/-- Close the current edge: everything that no row has done. (log entry 3, DESIGN CHOICE) -/
def closeEdge (d : Nat) (s : State) : State :=
  let s := edgeStart d s
  let d := domLow s d
  let s := openWindow d s
  if inRun s d then
    let s := testReleases d s
    if haltsNow s d then haltOnFaults d s
    else
      let c := edgeCauses s d
      if c ≠ 0 then
        if limitHit s d then haltOnFaults d (clockFault 3 d 0 s)
        else dropHolds d (snapDomain d (overflowDomain d (slipEdge d c s)))
      else
        let s := endSlip d false s
        let s := setDomRt d { domRt s d with causes := 0, carry := false } s
        clapStops (dropHolds d (snapDomain d (overflowDomain d (sampleDomain d (stopTick d (edgeWork d s))))))
  else
    let s := if (domRt s d).sw.isSome && inThrottle s d then setDomRt d { domRt s d with carry := true } s else s
    let s := if ctxRuns s d then stopTick d (edgeCounts d s) else s
    clapStops (dropHolds d (snapDomain d (overflowDomain d s)))

/-- The counters of a domain hold: in a class change, and while a restored run waits to resume (R234, R730).
(log entry 87, DESIGN CHOICE) -/
def countersHold (s : State) (d : Nat) : Bool :=
  match (domRt s d).resume with
  | some _ => (match (domRt s d).sw with | some w => decide (1 < w.left) | none => true)
  | none => false

/-- Slipped on the edge that has closed. -/
def slipped (s : State) (d : Nat) : Bool := (domRt s d).slip.isSome && decide (plnState s d = stRun)

/-- Edges that checkers still need stamps of. -/
def keepEdges (l : List (Nat × DWord)) (chks : Tab ClRt) : List (Nat × DWord) :=
  let lo := chks.foldl (fun m c => min m c.2.next) (2 ^ 48)
  l.filter (fun e => decide (lo ≤ e.1 + 2))

/-- A start or switch is armed by the edges that come after it; a Toll start by the first at which Toll has reached its
time (R185), and once a class change has run (R259). -/
def armPend (p : Nat) (s : State) : State :=
  let r := domRt s p
  match r.pend with
  | none => s
  | some w =>
    let due := match w.atToll with
      | none => true
      | some t => decide (w.fclass ≠ (partRt s p).cls) || decide (0 ≤ (s.toll.now - t).toInt)
    setDomRt p { r with pend := some { w with armed := w.armed || due } } s

/-- Stops that wait have seen an edge. -/
def armStops (d : Nat) (s : State) : State :=
  setOutst (s.host.outst.map (fun o => if o.acc && decide (o.a = d) && (decide (o.op = 0x25) || decide (o.op = 0x82)) then { o with c := 1 } else o)) s

/-- The next FCLK edge comes (R8, R25, R45, R222): fc counts every edge, sc every edge that is no slip. -/
def nextEdge (d : Nat) (s : State) : State :=
  let m := domMask s d
  let hold := countersHold s d
  let slip := slipped s d
  let s := if hold then s else forL (maskBits 8 m) (fun p s =>
    let r := partRt s p
    setPartRt p { r with fc := r.fc + 1, sc := if slip then r.sc else r.sc + 1 } s) s
  let r := domRt s d
  let s := setDomRt d { r with
    done := [], prs := [], rels := [], caught := [],
    sw := r.sw.map (fun w => { w with left := w.left - 1 }),
    edges := if plnState s d = stRun && !slip then keepEdges (r.edges ++ [(relSc s d, s.toll.now)]) r.chks else r.edges } s
  let s := if plnState s d = stRun && !slip then netArrive d s else s
  let s := forL (maskBits 8 m) (fun p s => armPend p (idleApply p s)) s
  armStops d (armSnaps d (idleReselect d (landLoads d s)))

/-- One FCLK edge of a domain: the current edge closes, the next one comes, and faults captured on the closed edge halt the
domain (R126, R419). In a class change FCLK stands still (R234). (log entry 3, DESIGN CHOICE) -/
def fclkStep (d : Nat) (s : State) : State :=
  if (domRt s d).chg.isSome then s
  else
    let s := closeEdge d s
    let d := domLow s d
    if (domRt s d).chg.isSome then s else haltOnFaults d (nextEdge d s)

/-- FCLK_EDGE (R8). -/
def execFclkEdge (d : Nat) (s : State) : Out :=
  if !decide (d < 8) then .fault (.noSuchInstance "partition" d)
  else .next (if partPresent s d then fclkStep (domLow s d) s else s)

/-! ### Rows -/

/-- RELEASE: the release of a queue that falls due on this edge is tested (R228, R229): it faults, slips, or presents its
entry on the first edge without a cause. -/
def execRelease (q : Nat) (s : State) : Out :=
  if !decide (q < 256) then .fault (.noSuchInstance "queue" q)
  else
    let d := domLow s (queuePart q)
    if !inRun s d || (dueRel s q).isNone then .next s
    else
      let s := testReleases d s
      .next (if haltsNow s d then haltOnFaults d s
        else if actsOn s d then presentDue q (endSlip d false s) else s)

/-- SLIP_END: no cause is active on this edge, so the slip ends with its record (R33, R34). -/
def execSlipEnd (d : Nat) (s : State) : Out :=
  if !decide (d < 8) then .fault (.noSuchInstance "partition" d)
  else
    let d := domLow s d
    .next (if inRun s d && slipping s d && decide (edgeCauses s d = 0) then endSlip d false s else s)

/-- SLIP_LIMIT: a cause is still active on the edge after 2^LIMIT_EXP slipping ones (R35, R36, R257). -/
def execSlipLimit (d : Nat) (s : State) : Out :=
  if !decide (d < 8) then .fault (.noSuchInstance "partition" d)
  else
    let d := domLow s d
    .next (if inRun s d && limitHit s d && decide (edgeCauses s d ≠ 0) then haltOnFaults d (clockFault 3 d 0 s) else s)

/-- WAIT_TIMEOUT: pending wait i of a domain has lasted WAIT_TO (R208, R215). -/
def execWaitTimeout (d i : Nat) (s : State) : Out :=
  if !decide (d < 8) then .fault (.noSuchInstance "partition" d)
  else
    let d := domLow s d
    match (domRt s d).waits[i]? with
    | none => .next s
    | some w =>
      .next (if actsOn s d && timedOut s d w && !reached s w.bell then onceAt d (15, w.bell, i) (bellFault 1 w.bell w.unit) s else s)

/-- IDLE_STRIKE_APPLY: strikes of a partition whose domain runs no context take effect (R201). -/
def execIdleStrikeApply (p : Nat) (s : State) : Out :=
  if !decide (p < 8) then .fault (.noSuchInstance "partition" p)
  else .next (if partPresent s p then idleApply p s else s)

/-- THROTTLE_WINDOW: a window begins where fc is a multiple of W, and takes the throttle now in force (R747). -/
def execThrottleWindow (d : Nat) (s : State) : Out :=
  if !decide (d < 8) then .fault (.noSuchInstance "partition" d)
  else .next (if partPresent s d then openWindow (domLow s d) s else s)

/-- SAMPLE: a unit's periodic sample on a boundary, after the events of its edge (R442). -/
def execSample (unit : Nat) (s : State) : Out :=
  if !decide (unit < 0x877) then .fault (.noSuchInstance "unit" unit)
  else if 8 ≤ unitOwner s unit ∨ unitPresent s unit = false then .next s
  else
    let d := domLow s (unitOwner s unit)
    .next (if actsOn s d && atBoundary s d then sampleUnit d unit (edgeWork d (endSlip d false s)) else s)

/-- SWITCH_END: the 704 edges of a switch are over (R183). -/
def execSwitchEnd (d : Nat) (s : State) : Out :=
  if !decide (d < 8) then .fault (.noSuchInstance "partition" d)
  else
    let d := domLow s d
    .next (match switchOver s d with | some w => switchEnd d w s | none => s)

/-- RUN_END: sc has reached base + LENGTH_SC (R168). (log entry 4, DESIGN CHOICE) -/
def execRunEnd (d : Nat) (s : State) : Out :=
  if !decide (d < 8) then .fault (.noSuchInstance "partition" d)
  else
    let d := domLow s d
    .next (match runOver s d with | some r => runEnd d r s | none => s)

/-- TOLL_START: Toll has reached the time of a pending start on this edge (R185). -/
def execTollStart (d : Nat) (s : State) : Out :=
  if !decide (d < 8) then .fault (.noSuchInstance "partition" d)
  else
    match (domRt s d).pend with
    | none => .next s
    | some w =>
      match w.atToll with
      | none => .next s
      | some t =>
        .next (if decide (0 ≤ (s.toll.now - t).toInt) && decide (w.fclass = (partRt s d).cls) &&
            (domRt s (domLow s d)).sw.isNone && decide (plnState s d ≠ stHalted) then pendDue d { w with armed := true } s else s)

/-- CLASS_CHANGE_DONE: the synthesiser has locked; the switch begins on the next edge (R234, R259). -/
def execClassChangeDone (d : Nat) (s : State) : Out :=
  if !decide (d < 8) then .fault (.noSuchInstance "partition" d)
  else
    let d := domLow s d
    match (domRt s d).chg with
    | none => .next s
    | some w =>
      let s := setCls (domMask s d) w.fclass s
      -- a Toll start cancelled meanwhile leaves nothing to switch to (R262)
      .next (if w.ctx = 0xFF then setPln d stIdle 0xFF 0xFF (setDomRt d { domRt s d with chg := none } s)
        else setDomRt d { domRt s d with chg := none, pend := some { w with armed := false } } s)

/-- CLASS_LOCK: the synthesiser has not locked within 12 µs (R235). -/
def execClassLock (d : Nat) (s : State) : Out :=
  if !decide (d < 8) then .fault (.noSuchInstance "partition" d)
  else
    let d := domLow s d
    .next (if (domRt s d).chg.isSome then haltOnFaults d (clockFault 5 d 0 s) else s)

end Sys2Proof.Machine
end

