-- ==== Sys2Proof/Machine/Toll.lean ====
section
/-! DEFINITION. The Toll rows (chapter 7): control writes, the calibration exchange, the reference and PPS. -/

namespace Sys2Proof.Machine

/-! ### Control (R249, R252, R830) -/

/-- The source or the parent of LINK has changed: the reference is replaced (R830). -/
def replaceRef (s : State) : State :=
  let s := setToll { s.toll with offsets := [], pendCorr := 0, inBand := 0, exch := none, parentInt := none, badPps := 0, incrs := [] } s
  match tollSrc s with
  | 0 => setTollState (match s.toll.refclk with | 2 => tlLocked | 1 => tlAcquire | _ => tlFree) s
  | _ => setTollState tlAcquire s

/-- Announced depth: 0 of a root (R239). -/
def refreshDepth (s : State) : State := s.put aTolStat 26 4 (if isRoot s then 0 else min (s.toll.parentDepth + 1) 15)

/-- A write of TOL_CTL: reserved values of SRC and INTERVAL keep the field (R16). -/
def writeTolCtl (w : RegW) (v : Word) (s : State) : State :=
  let old := s.reg aTolCtl
  let badS := decide (fld v 18 2 = 3)
  let badI := decide (10 < fld v 24 4)
  let v1 := if badS then putFld v 18 2 (fld old 18 2) else v
  let v2 := if badI then putFld v1 24 4 (fld old 24 4) else v1
  let s := s.setReg aTolCtl v2
  let s := if fld v2 18 2 ≠ fld old 18 2 ∨ (fld v2 18 2 = 2 ∧ fld v2 20 4 ≠ fld old 20 4) then replaceRef s else s
  let s := refreshDepth s
  if badS || badI then refuse flagResval w s else s

/-- A write of TOL_SETSEC (R249): pending until the next valid PPS edge, or until the next TKCLK edge under FREE. -/
def writeSetsec (w : RegW) (v : Word) (s : State) : State :=
  if tollSrc s = 2 then refuse flagState w s else setToll { s.toll with setSec := some v.toNat } s

/-- TOLL_SET (Table 19-10): the selected registers in select-bit order. -/
def bodyTollSet (c : Call) (s : State) : CmdRes :=
  let sel := c.b 16
  let hold := c.le 28 2
  if sel.testBit 0 && (decide (2 < c.b 17) || decide (15 < c.b 18) || decide (10 < c.b 19)) then .no sParam s
  else if sel.testBit 2 && (decide (hold < 1) || decide (3600 < hold)) then .no sParam s
  else if sel.testBit 4 && !portPresent s (c.b 36) then .no sAbsent s
  else
    let ctl := BitVec.ofNat 32 (c.b 19 * 2 ^ 24 + c.b 18 * 2 ^ 20 + c.b 17 * 2 ^ 18 + b2n (c.bit 20 0) * 2 ^ 17 + b2n (c.bit 20 1) * 2 ^ 16 + c.le 22 2)
    let s := if sel.testBit 0 then writeTolCtl { fn := c.fn, src := c.src, key := aTolCtl, op := some 0x67 } ctl s else s
    let s := if sel.testBit 1 then s.setReg aTolPpsoff (BitVec.ofNat 32 (c.le 24 4)) else s
    let s := if sel.testBit 2 then s.setReg aTolHold (BitVec.ofNat 32 hold) else s
    let s := if sel.testBit 3 then writeSetsec { fn := c.fn, src := c.src, key := aTolSetsec, op := some 0x67 } (BitVec.ofNat 32 (c.le 32 4)) s else s
    let s := if sel.testBit 4 then s.setReg (aTolAsym (c.b 36)) (BitVec.ofNat 32 (c.le 38 2)) else s
    .done sOk [] s

/-- TOLL_SET (0x67). -/
def execTollSet (c : Call) (s : State) : Out := .next (runCmd 0x67 callP bodyTollSet c s)

/-- TOLL_QUERY: Toll, state, depth, root and offset. -/
def bodyTollQuery (_ : Call) (s : State) : CmdRes :=
  .done sOk (leBytes 8 s.toll.now.toNat ++ [bite (tollState s), bite (s.rf aTolStat 26 4)] ++ leBytes 2 (tollRoot s) ++ leBytes 4 (tollOffset s).toNat) s

/-- TOLL_QUERY (0x68). -/
def execTollQuery (c : Call) (s : State) : Out := .next (runCmd 0x68 callA bodyTollQuery c s)

/-! ### Calibration exchange (R243, R245 to R247, R261) -/

/-- A Toll message (Table 7-7) for a port; T of SYNC is filled in as its frame leaves. -/
def sendToll (port typ seq interval : Nat) (t echo : DWord) (s : State) : State :=
  queueCtl port 1 ([bite typ, bite (s.rf aTolStat 26 4), bite (tollState s), bite interval] ++ leBytes 2 seq ++ leBytes 2 (tollRoot s) ++
    leBytes 8 t.toNat ++ leBytes 8 echo.toNat ++ zeros 8) s

/-- Toll messages pass on a port that is present and UP (R261). -/
def tollPort (s : State) (n : Nat) : Bool := portPresent s n && decide (lnkState s n = stUp)

/-- SYNC_SEND: the parent sends a SYNC (R245). -/
def execSyncSend (port : Nat) (s : State) : Out :=
  if !decide (port < 16) then .fault (.noSuchInstance "port" port)
  else if !tollPort s port || !(childPorts s).contains port then .next s
  else
    let q := tabGet (fun _ => 0) s.toll.seqTx port
    let s := setToll { s.toll with seqTx := tabSet (fun _ => 0) port ((q + 1) % 2 ^ 16) s.toll.seqTx } s
    .next (sendToll port 1 q (s.rf aTolCtl 24 4) 0 0 s)

/-- SYNC: the child stamps its arrival t2 and answers with a DREQ, whose departure is t3 (R243, R245).
(log entry 43, DESIGN CHOICE) -/
def execSync (port : Nat) (m : TollMsg) (s : State) : Out :=
  if !decide (port < 16) then .fault (.noSuchInstance "port" port)
  else if !tollPort s port || tollSrc s ≠ 2 || decide (tollParent s ≠ port) then .next s
  else
    let newRoot := decide (s.toll.parentInt.isSome ∧ s.rf aTolStat 0 10 ≠ m.root % 1024)
    let s := setToll { s.toll with parentInt := some m.interval, parentDepth := m.depth, parentLocked := decide (m.state = tlLocked),
                                   exch := some (m.seq, m.t, m.arrive, m.depart) } s
    let s := refreshDepth (s.put aTolStat 0 10 m.root)
    let s := if 4 ≤ m.depth then s.setBit aTolStat 24 true else s
    let s := s.setBit aTolStat 23 (decide (m.state ≠ tlLocked))
    let s := refRegained s
    let s := if newRoot then setTollState tlAcquire s else s
    .next (sendToll port 2 m.seq 0 m.depart 0 s)

/-- DREQ: the parent stamps its arrival t4 and returns it (R245). (log entry 44, DESIGN CHOICE) -/
def execDreq (port : Nat) (m : TollMsg) (s : State) : Out :=
  if !decide (port < 16) then .fault (.noSuchInstance "port" port)
  else if !tollPort s port || !(childPorts s).contains port then .next s
  else .next (sendToll port 3 m.seq 0 m.arrive m.t s)

/-- DRESP: the exchange is complete (R246, R247). -/
def execDresp (port : Nat) (m : TollMsg) (s : State) : Out :=
  if !decide (port < 16) then .fault (.noSuchInstance "port" port)
  else if !tollPort s port || tollSrc s ≠ 2 || decide (tollParent s ≠ port) then .next s
  else
    match s.toll.exch with
    | none => .next s
    | some (q, t1, t2, t3) =>
      if q ≠ m.seq then .next s
      else
        let s := setToll { s.toll with exch := none } s
        let a : Int := (t2 - t1).toInt
        let b : Int := (m.t - t3).toInt
        let asym : Int := (BitVec.ofNat 16 (s.rf (aTolAsym port) 0 16)).toInt
        let s := s.setReg aTolPath (BitVec.ofInt 32 ((a + b) / 2))
        -- twice the delay against twice the delay measured at training
        if 128 < ((a + b) - 2 * (s.rf (aLnkWlat port) 0 16 : Int)).natAbs then .next (s.countSat aTolStat 10 6 1)
        else .next (newOffset ((a - b - asym) * 2 ^ 31) (decide (s.toll.parentDepth < 4) && s.toll.parentLocked) s)

/-! ### The reference (R240, R241, R248 to R250, R813) -/

/-- REFERENCE_LOST: no SYNC for 8 intervals of the parent (0), or no valid PPS edge in two seconds (1). -/
def execReferenceLost (cause : Nat) (s : State) : Out :=
  .next (if (cause = 0 ∧ tollSrc s = 2) ∨ (cause = 1 ∧ tollSrc s = 1) then refLost s else s)

/-- HOLDOVER_LIMIT: TOL_HOLD seconds in HOLDOVER have passed. -/
def execHoldoverLimit (s : State) : Out := .next (if tollState s = tlHoldover then setTollState tlFree s else s)

/-- Offset of a PPS edge stamped now from the nearest second, in tt. -/
def ppsOffset (s : State) : Int :=
  let r := ((s.toll.now.toNat : Int) - ppsOff s) % second
  if 2 * r ≤ second then r else r - second

/-- PPS_EDGE: an edge of TOLL_PPS_IN is stamped (R248 to R250). -/
def execPpsEdge (s : State) : Out :=
  if tollSrc s ≠ 1 then .next s
  else
    let o := ppsOffset s
    if tollState s = tlLocked ∧ 64000 < o.natAbs then
      let s := s.countSat aTolStat 16 6 1
      let n := s.toll.badPps + 1
      .next (if 2 ≤ n then refLost (setToll { s.toll with badPps := 0 } s) else setToll { s.toll with badPps := n } s)
    else
      let s := setToll { s.toll with badPps := 0 } s
      let s := if s.toll.refclk = 2 then refRegained (setToll { s.toll with fallback := false } s) else s
      match s.toll.setSec with
      | some n =>
        let r := setTime ((n : Int) * second + ppsOff s) (setToll { s.toll with setSec := none } s)
        -- the edge of a setting that was made disciplines no further: its offset is gone
        .next (if r.1 then setToll { r.2.toll with pendCorr := 0 } (takeOff (o * 2 ^ 32) r.2) else newOffset (o * 2 ^ 32) true r.2)
      | none => .next (newOffset (o * 2 ^ 32) true s)

/-- The lanes move to the fallback synthesiser (R813): each UP port trains again, the serial port sends its control rows again. -/
def lanesMove (s : State) : State :=
  let s := setToll { s.toll with laneFb := portMaskPresent s ||| 2 ^ 16 } s
  let s := forN 16 (fun n s => if portPresent s n && decide (lnkState s n = stUp) then startTrain n s else s) s
  if s.rbit aSnkSer 31 then s.emit (.serCtl none 4096) else s

/-- TOLL_REFCLK_LOSS: TOLL_REFCLK, or TKCLK, is lost (R223, R241, R813). -/
def execTollRefclkLoss (s : State) : Out :=
  let s := setToll { s.toll with refclk := 0, fallback := true } s
  let s := s.setBit aTolStat 25 true
  .next (lanesMove (refLost s))

/-- TOLL_REFCLK_RETURN: TOLL_REFCLK is back (R240): a FREE root in HOLDOVER enters ACQUIRE. -/
def execTollRefclkReturn (s : State) : Out :=
  if s.toll.refclk ≠ 0 then .next s
  else
    let s := setToll { s.toll with refclk := 1 } s
    .next (if tollSrc s = 0 ∧ tollState s = tlHoldover then setTollState tlAcquire s else s)

/-- TOLL_REFCLK_PRESENT: TOLL_REFCLK has been present for 1 ms (R240, R241): a FREE root locks. TKCLK leaves the fallback,
under PPS with the next valid edge. -/
def execTollRefclkPresent (s : State) : Out :=
  let s := setToll { s.toll with refclk := 2, fallback := s.toll.fallback && decide (tollSrc s = 1) } s
  .next (if tollSrc s = 0 then setTollState tlLocked s else s)

end Sys2Proof.Machine
end

