-- ==== Sys2Proof/Machine/PlanImage.lean ====
section
/-! DEFINITION. The bytes of a plan image (R163 to R179, Tables 5-2 to 5-15): header, directory, manifest, sections, and the
contexts they make. -/

namespace Sys2Proof.Machine

/-- No section or record applies (R180). -/
def noIdx : Nat := 0xFFFFFFFF

/-! ### Header, directory, manifest -/

def imCtxCnt (b : List Byte) : Nat := byteAt b 22
def imVarMask (b : List Byte) : Nat := byteAt b 23
def imPartMask (b : List Byte) : Nat := byteAt b 24
def imId (b : List Byte) : Nat := leAt b 32 8
def imDirOff (b : List Byte) : Nat := leAt b 16 4
def imDirCnt (b : List Byte) : Nat := leAt b 20 2
def imMan (b : List Byte) : List Byte := b.drop (b.length - 224)

/-- One directory entry (Table 5-3) with its index. -/
structure DirEnt where
  at' : Nat := 0
  typ : Nat := 0
  ctx : Nat := 0
  cluster : Nat := 0
  off : Nat := 0
  len : Nat := 0
  cnt : Nat := 0
  deriving DecidableEq, Repr

def dirEnt (b : List Byte) (i : Nat) : DirEnt :=
  let o := imDirOff b + 16 * i
  { at' := i, typ := byteAt b o, ctx := byteAt b (o + 1), cluster := byteAt b (o + 2), off := leAt b (o + 4) 4,
    len := leAt b (o + 8) 4, cnt := leAt b (o + 12) 4 }
def imDir (b : List Byte) : List DirEnt := (List.range (imDirCnt b)).map (dirEnt b)

/-- Sections of Table 5-4: scope (0 image, 1 context, 2 context and cluster), record size (0 for unit blocks). -/
def secScope (t : Nat) : Nat := if t = 1 then 0 else if t = 2 ∨ t = 3 ∨ t = 7 then 2 else 1
def secSize (t : Nat) : Nat := match t with | 1 => 32 | 2 => 0 | 7 => 8 | 8 => 32 | _ => 16

def secBytes (b : List Byte) (e : DirEnt) : List Byte := (b.drop e.off).take e.len
/-- The section of a type for a context and cluster (0xFF for none); a missing one is empty (R165). -/
def findSec (b : List Byte) (t ctx cl : Nat) : Option DirEnt :=
  (imDir b).find? (fun e => decide (e.typ = t) && decide (e.ctx = ctx) && decide (e.cluster = cl))
/-- Fixed-size records of a section. -/
def records (b : List Byte) (e : Option DirEnt) : List (List Byte) :=
  match e with
  | none => []
  | some e => (List.range e.cnt).map (fun i => ((secBytes b e).drop (secSize e.typ * i)).take (secSize e.typ))

/-! ### Unit blocks (Tables 5-7 and 5-8) -/

def objSize (kind : Nat) : Nat := if kind = 0 then 16 else 40
def objLimit (kind : Nat) : Nat := match kind with | 0 => 64 | 1 => 32 | 2 => 8 | _ => 64
def elemMax (kind : Nat) : Nat := match kind with | 0 => 0 | 1 => 1 | 2 => 4 | _ => 15

def blkKind (b : List Byte) : Nat := byteAt b 2
def blkUnit (b : List Byte) : Nat := leAt b 0 2 % 4096
def blkObjs (b : List Byte) : Nat := leAt b 4 2
def blkScheds (b : List Byte) : Nat := leAt b 6 2
def blkDescs (b : List Byte) : Nat := leAt b 8 2
def blkLen (b : List Byte) : Nat := leAt b 12 4
/-- BLOCK_LEN of R828; for a reserved KIND, whose object has no size, the length it states. -/
def blkLenOk (b : List Byte) : Bool :=
  decide (16 ≤ blkLen b) && (decide (3 < blkKind b) ||
    decide (blkLen b = 16 + blkObjs b * objSize (blkKind b) + 16 * blkScheds b + 8 * blkDescs b))

/-- The blocks of a UNIT section: their bytes, or the position of the block at which the section cannot be parsed. -/
def splitBlocks : Nat → Nat → List Byte → Except Nat (List (List Byte))
  | 0, _, [] => .ok []
  | 0, _, _ :: _ => .error noIdx
  | n + 1, i, b =>
    if b.length < 16 || !blkLenOk b || decide (b.length < blkLen b) then .error i
    else match splitBlocks n (i + 1) (b.drop (blkLen b)) with
      | .ok r => .ok (b.take (blkLen b) :: r)
      | .error e => .error e

def schedOf (b : List Byte) : SchedRec := { sc := leAt b 0 6, elem := byteAt b 6, index := byteAt b 7, len := leAt b 8 4 }

def parseBlock (b : List Byte) : UnitBlk :=
  let z := objSize (blkKind b)
  let o := 16 + blkObjs b * z
  let q := o + 16 * blkScheds b
  { unit := blkUnit b, kind := blkKind b,
    objs := (List.range (blkObjs b)).map (fun i => (b.drop (16 + z * i)).take z),
    sched := (List.range (blkScheds b)).map (fun i => schedOf (b.drop (o + 16 * i))),
    descs := (List.range (blkDescs b)).map (fun i => (byteAt b (q + 8 * i), leAt b (q + 8 * i + 4) 4)) }

def blocksOf (b : List Byte) (e : Option DirEnt) : List (List Byte) :=
  match e with
  | none => []
  | some e => match splitBlocks e.cnt 0 (secBytes b e) with | .ok l => l | .error _ => []

/-! ### Records -/

def parseScore (b : List Byte) : ScoreRec :=
  { sc := leAt b 0 6, unit := leAt b 6 2 % 4096, cls := byteAt b 8, arg := leAt b 10 2, rep := leAt b 12 2, period := leAt b 14 2 }
def parseRel (b : List Byte) : RelRec :=
  { sc := leAt b 0 6, queue := byteAt b 6, slip := !(byteAt b 7).testBit 0, rep := leAt b 8 2, period := leAt b 10 2, tol := byteAt b 12,
    dest := byteAt b 13 % 8 }
def parseLink (b : List Byte) : LinkRec :=
  { sc := leAt b 0 6, port := byteAt b 6, kind := byteAt b 7, rep := leAt b 8 2, period := leAt b 10 2, arg := leAt b 12 4 }
def parseBell (b : List Byte) : BellRec := { bell := byteAt b 0, count := leAt b 4 4, target := leAt b 8 4, waitTo := leAt b 12 4 }
def parseLot (b : List Byte) : LotRec := { unit := leAt b 0 2 % 4096, slot := byteAt b 2 % 64, layer := leAt b 4 2, oper := leAt b 6 2 }

/-- Context k of an image (Table 5-6 and its sections). -/
def parseCtx (b : List Byte) (k : Nat) : Ctx :=
  let d := (records b ((imDir b).find? (fun e => decide (e.typ = 1)))).getD k []
  { index := byteAt d 0, fmask := byteAt d 1 % 16, chk := byteAt d 2, next := byteAt d 3, bgload := (byteAt d 4).testBit 0,
    len := leAt d 8 6, res0 := leAt d 16 4, res1 := leAt d 20 4,
    units := (blocksOf b (findSec b 2 k 0) ++ blocksOf b (findSec b 2 k 1)).map parseBlock,
    score0 := (records b (findSec b 3 k 0)).map parseScore, score1 := (records b (findSec b 3 k 1)).map parseScore,
    rels := (records b (findSec b 4 k 0xFF)).map parseRel, links := (records b (findSec b 5 k 0xFF)).map parseLink,
    bells := (records b (findSec b 6 k 0xFF)).map parseBell,
    lotb := (records b (findSec b 7 k 0) ++ records b (findSec b 7 k 1)).map parseLot, dmas := records b (findSec b 8 k 0xFF) }

/-- The image that admission puts into the plan store. -/
def parseImage (b : List Byte) : Image :=
  let m := imMan b
  { imageId := imId b, partMask := imPartMask b, tenant := leAt m 112 2, keyId := (m.drop 64).take 48, len := b.length,
    ctxs := (List.range (imCtxCnt b)).map (parseCtx b) }

/-! ### Occurrences -/

/-- Score cycles of a record's occurrences. -/
def occs (sc rep period : Nat) : List Nat := (List.range (rep + 1)).map (occSc sc period)
/-- The last of them. -/
def lastOcc (sc rep period : Nat) : Nat := occSc sc period rep

/-- Score cycles at which a run of a program accesses its memory (R102, R108): from its start to the next run of the same
AG or the end of the context. -/
def runScs (n start stop : Nat) : List Nat :=
  ((List.range (min (pgLen n) (stop - start))).map (fun k => start + k * (pgPeriod n + 1))).filter (fun t => decide (t < stop))

/-- Runs of an AG in a block: program, start, end. -/
def agRuns (b : UnitBlk) (ag len : Nat) : List (Nat × Nat × Nat) :=
  let es := b.sched.filter (fun e => decide (e.elem = ag))
  (List.zip es (es.drop 1 ++ [{ sc := len }])).map (fun x => (leNat (b.objs.getD x.1.index []), x.1.sc, max x.1.sc (min len x.2.sc)))

/-- An AG accesses its memory on score cycle t; `wr` asks for a write port access. -/
def agAt (b : UnitBlk) (ag len t : Nat) : Bool := (agRuns b ag len).any (fun r => (runScs r.1 r.2.1 r.2.2).contains t)
/-- Score cycles on which a run drives WR: LAG later for READ_THEN_WRITE. (log entry 36, DESIGN CHOICE) -/
def wrScs (n start stop : Nat) : List Nat :=
  if pgMode n = 1 then runScs n start stop else if pgMode n = 2 then (runScs n start stop).map (· + pgLag n) else []

/-- The slice's LBD port j writes on score cycle t. -/
def lbdWrites (c : Ctx) (p j t : Nat) : Bool :=
  match unitBlk c p 3 with
  | none => false
  | some b => (agRuns b (8 + j) c.len).any (fun r => decide (pgMode r.1 = 1) && (runScs r.1 r.2.1 r.2.2).contains t)

end Sys2Proof.Machine
end

