-- ==== Sys2Proof/Machine/Admit.lean ====
section
/-! DEFINITION. The checks of admission in their order (R180, Table 5-16): each answers the reason, the directory index and
the record index of what fails, or nothing. -/

namespace Sys2Proof.Machine

/-- A failing check: reason of Table 5-16, directory index, record index. -/
structure Bad where
  reason : Nat := 0
  dir : Nat := noIdx
  item : Nat := noIdx
  deriving DecidableEq, Repr

/-- The first that fails. -/
def firstBad (l : List (Option Bad)) : Option Bad := l.findSome? id
/-- No failure when a rule holds. -/
def need (ok : Bool) (reason : Nat) (dir : Nat := noIdx) (item : Nat := noIdx) : Option Bad :=
  if ok then none else some { reason := reason, dir := dir, item := item }
/-- The first record of a list that breaks a rule. -/
def needAll {α : Type} (l : List α) (ok : Nat → α → Bool) (reason dir : Nat) : Option Bad :=
  (List.zip (List.range l.length) l).findSome? (fun x => need (ok x.1 x.2) reason dir x.1)

/-- What an image is checked against: the device, the partition of the command. -/
structure AdmIn where
  s : State
  part : Nat
  len : Nat
  img : List Byte

/-! ### HDR, DIR -/

def checkHdr (a : AdmIn) : Option Bad :=
  let b := a.img
  let m := imMan b
  need (decide (288 ≤ b.length) && decide (b.take 4 = [0x53, 0x58, 0x50, 0x4C]) && decide (leAt b 4 2 = 1) && decide (leAt b 6 2 = 64) &&
    decide (leAt b 52 4 = 224) && decide (leAt b 60 4 = crc32c (b.take 60)) && decide (leAt b 8 8 = a.len) &&
    decide (leAt b 48 4 = leAt b 8 8 - 224) && decide (m.take 4 = [0x53, 0x58, 0x4D, 0x46]) && decide (leAt m 4 2 = 1) &&
    decide (leAt m 6 2 = 0) && ((m.drop 114).take 14).all (fun x => decide (x = 0))) 1

/-- Spans that hold something: header, directory, manifest, sections. -/
def spans (b : List Byte) : List (Nat × Nat) :=
  [(0, 64), (imDirOff b, 16 * imDirCnt b), (b.length - 224, 224)] ++ (imDir b).map (fun e => (e.off, e.len))
def inSpan (x : Nat × Nat) (i : Nat) : Bool := decide (x.1 ≤ i) && decide (i < x.1 + x.2)
def disjoint (x y : Nat × Nat) : Bool := decide (x.2 = 0) || decide (y.2 = 0) || decide (x.1 + x.2 ≤ y.1) || decide (y.1 + y.2 ≤ x.1)

def checkEntry (b : List Byte) (e : DirEnt) : Option Bad :=
  firstBad
    [ need (decide (1 ≤ e.typ) && decide (e.typ ≤ 8)) 2 e.at',
      need (if secScope e.typ = 0 then decide (e.ctx = 0xFF) else decide (e.ctx < imCtxCnt b)) 2 e.at',
      need (if secScope e.typ = 2 then decide (e.cluster ≤ 1) else decide (e.cluster = 0xFF)) 2 e.at',
      need (((imDir b).take e.at').all (fun f => !(decide (f.typ = e.typ) && decide (f.ctx = e.ctx) && decide (f.cluster = e.cluster)))) 2 e.at',
      need (decide (e.off % 64 = 0) && decide (e.off + e.len ≤ b.length - 224) &&
        ((spans b).take (3 + e.at')).all (fun x => disjoint x (e.off, e.len))) 2 e.at',
      need (decide (e.typ = 2) || decide (e.len = e.cnt * secSize e.typ)) 2 e.at',
      (if e.typ = 2 then match splitBlocks e.cnt 0 (secBytes b e) with
        | .ok _ => none
        | .error i => some { reason := 2, dir := e.at', item := i } else none) ]

/-- R163 and R165. (log entry 55, DESIGN CHOICE) -/
def checkDir (a : AdmIn) : Option Bad :=
  let b := a.img
  let place := firstBad
    [ need (decide (1 ≤ imDirCnt b) && decide (imDirCnt b ≤ 256) && decide (1 ≤ imCtxCnt b) && decide (imCtxCnt b ≤ 4)) 2,
      need (decide (imDirOff b % 64 = 0) && decide (64 ≤ imDirOff b) && decide (imDirOff b + 16 * imDirCnt b ≤ b.length - 224)) 2 ]
  match place with
  | some x => some x
  | none =>
    match (imDir b).findSome? (checkEntry b) with
    | some x => some x
    | none =>
      match (imDir b).find? (fun e => decide (e.typ = 1)) with
      | none => some { reason := 2 }
      | some e =>
        firstBad
          [ need (decide (e.cnt = imCtxCnt b)) 2 e.at',
            needAll (records b (some e)) (fun i r => decide (byteAt r 0 = i)) 2 e.at',
            need ((List.zip (List.range b.length) b).all (fun x => decide (x.2 = 0) || (spans b).any (fun y => inSpan y x.1))) 2 ]

/-! ### KEY to VARIANT -/

/-- The enrolled toolchain key that a KEY_ID names (R167). -/
def toolOf (s : State) (kid : List Byte) : Option (List Byte) := s.trust.entries.tools.find? (fun k => decide (Config.sha384 k = kid))

def checkKey (a : AdmIn) : Option Bad := need (toolOf a.s ((imMan a.img).drop 64 |>.take 48)).isSome 3
def checkSig (a : AdmIn) : Option Bad :=
  let m := imMan a.img
  match toolOf a.s ((m.drop 64).take 48) with
  | none => some { reason := 3 }
  | some k => need (Config.ecdsaVerify k (Config.sha384 (m.take 128)) ((m.drop 128).take 48) ((m.drop 176).take 48)) 4
def checkDigest (a : AdmIn) : Option Bad :=
  let m := imMan a.img
  need (decide ((m.drop 16).take 48 = Config.sha384 (a.img.take (a.img.length - 224))) && decide (leAt m 8 8 = imId a.img)) 5

/-- The requesting tenant: p's holder, 0 through PF0 while p is FREE. -/
def checkTenant (a : AdmIn) : Option Bad :=
  let t := tenantOf a.s a.part
  let bound := leAt (imMan a.img) 112 2
  need ((decide (bound = 0) || decide (bound = t)) && (maskBits 8 (imPartMask a.img)).all (fun p => decide (tenantOf a.s p = t))) 6
def checkVariant (a : AdmIn) : Option Bad := need ((imVarMask a.img).testBit a.s.fuse.variant) 7

/-! ### Walking the sections -/

/-- The sections of one type, by context, in directory order, with the context they belong to. -/
def secsOf (b : List Byte) (t : Nat) : List (DirEnt × Ctx) :=
  ((imDir b).filter (fun e => decide (e.typ = t))).map (fun e => (e, parseCtx b e.ctx))
/-- A rule on every fixed-size record of the sections of a type. -/
def eachRec {α : Type} (b : List Byte) (t : Nat) (parse : List Byte → α) (reason : Nat) (ok : DirEnt → Ctx → α → Bool) : Option Bad :=
  (secsOf b t).findSome? (fun x => needAll ((records b (some x.1)).map parse) (fun _ r => ok x.1 x.2 r) reason x.1.at')
/-- A rule on every unit block. -/
def eachBlk (b : List Byte) (reason : Nat) (ok : DirEnt → Ctx → List Byte → UnitBlk → Bool) : Option Bad :=
  (secsOf b 2).findSome? (fun x => needAll (blocksOf b (some x.1)) (fun _ r => ok x.1 x.2 r (parseBlock r)) reason x.1.at')
/-- A rule on each context, reported at its descriptor. -/
def eachCtx (b : List Byte) (reason : Nat) (ok : Ctx → Bool) : Option Bad :=
  match (imDir b).find? (fun e => decide (e.typ = 1)) with
  | none => none
  | some e => needAll ((List.range (imCtxCnt b)).map (parseCtx b)) (fun _ c => ok c) reason e.at'

/-! ### ABSENT -/

/-- Kinds of unit that a scored class permits (R379, Table 11-2). -/
def classUnit (c u : Nat) : Bool :=
  match c with
  | 1 => isCu u
  | 2 => isMu u || (decide (0x800 ≤ u) && decide (u < 0x840) && decide (u % 8 = 0))
  | 3 => arrayUnit u
  | 4 => arrayUnit u
  | 5 => decide (0x800 ≤ u) && decide (u < 0x840)
  | 6 => decide (0x800 ≤ u) && decide (u < 0x840)
  | 7 => decide (0x840 ≤ u) && decide (u < 0x850)
  | 8 => decide (0x840 ≤ u) && decide (u < 0x850)
  | 9 => decide (0x840 ≤ u) && decide (u < 0x850)
  | 10 => decide (0x800 ≤ u) && decide (u < 0x850)
  | 11 => decide (0x800 ≤ u) && decide (u < 0x850)
  | _ => false

/-- R3, R20, R161: a switch box routes beside an absent unit. -/
def checkAbsent (a : AdmIn) : Option Bad :=
  let s := a.s
  let b := a.img
  let rec1 := need ((maskBits 8 (imPartMask b)).all (partPresent s)) 8
  firstBad
    [ rec1,
      eachBlk b 8 (fun _ _ _ u => match u.kind with
        | 0 => !arrayUnit u.unit || unitPresent s u.unit
        | 1 => !arrayUnit u.unit || unitPresent s u.unit
        | 2 => !arrayUnit u.unit || partPresent s (unitPart u.unit)
        | 3 => decide (8 ≤ u.unit) || partPresent s u.unit
        | _ => true),
      eachRec b 3 parseScore 8 (fun _ _ r => !classUnit r.cls r.unit || (if r.cls = 3 ∨ r.cls = 4 then partPresent s (unitPart r.unit) else unitPresent s r.unit)),
      eachRec b 4 parseRel 8 (fun _ _ r => decide (26 < r.queue % 32) ||
        (partPresent s (r.queue / 32) && (!(decide (8 ≤ r.queue % 32) && decide (r.queue % 32 < 24)) || portPresent s (r.queue % 32 - 8)))),
      eachRec b 5 parseLink 8 (fun _ _ r => decide (15 < r.port) || portPresent s r.port),
      eachRec b 6 parseBell 8 (fun _ _ r => partPresent s (r.bell / 32)),
      eachRec b 7 parseLot 8 (fun _ _ r => !arrayUnit r.unit || unitPresent s r.unit),
      eachRec b 8 id 8 (fun _ _ r => partPresent s (dmPart r)) ]

/-! ### FIELD -/

/-- Op slot rules (R60, R71, R72, R78). -/
def slotOk (o : Nat) : Bool :=
  let fa := opFmtA o
  let fw := opFmtW o
  let m := opMode o
  let pair := match m with
    | 0 => (decide (fa = 1) && decide (fw = 1)) || ((decide (fa = 2) || decide (fa = 3)) && (decide (fw = 2) || decide (fw = 3))) ||
        (decide (fa = 6) && decide (fw = 6))
    | 1 => (decide (fa = 4) && decide (fw = 4)) || (decide (fa = 5) && decide (fw = 5))
    | 2 => decide (fw = 0) && (decide (fa = 0) || decide (fa = 6) || decide (fa = 7)) && !(decide (fa = 7) && opWldEn o)
    | _ => false
  let src (x : Nat) : Bool := decide (x ≤ 5) && (decide (m = 2) || (decide (x ≠ 1) && decide (x ≠ 3)))
  pair && src (opSrcA o) && src (opSrcB o) && src (opSrcC o) && decide (opS3 o ≤ 0x0B) && decide (opS4 o ≤ 8) && decide (opShuf o ≤ 8) &&
    decide (opOut o ≤ 7) && decide (opAccBase o + opAccCnt o ≤ 15) && decide (opWrfBase o + opWrfCnt o ≤ 15) &&
    !(opSteer o && decide (opOut o = 0)) && !(opDst o && decide (m ≠ 2))

/-- Address program rules that one program shows by itself (R106). -/
def progOk (words n : Nat) : Bool :=
  let ext (f : Int → Int → Int) : Int := (List.range 6).foldl (fun a d => a + f 0 ((pgCount n d : Int) * pgStride n d)) (pgBase n : Int)
  let idx : Int := if pgInd n then ((pgLimit n - 1) * 2 ^ pgShift n : Nat) else 0
  decide (pgMode n ≠ 3) && decide (pgDim n ≤ 5) && decide (pgShift n ≤ 14) && !(decide (pgMode n = 2) && decide (pgLag n = 0)) &&
    (if pgWinLen n = 0 then decide (0 ≤ ext min) && decide (ext max + idx < (words : Int)) else decide (pgWinBase n + pgWinLen n ≤ words))

/-- Rules of a memory's block that its schedule shows (R106, R111): indirect runs share no score cycle with another port, the
two AGs of an MU do not both drive WR at one time, a slice's DMA-side ports run READ or WRITE.
(log entry 36, DESIGN CHOICE) -/
def agsOk (len : Nat) (u : UnitBlk) : Bool :=
  let ags := List.range (if u.kind = 1 then 2 else 16)
  let runs := ags.flatMap (fun g => (agRuns u g len).map (fun r => (g, r)))
  runs.all (fun x =>
    let n := x.2.1
    (!pgInd n || runs.all (fun y => decide (y.1 = x.1) || (runScs n x.2.2.1 x.2.2.2).all (fun t => !(runScs y.2.1 y.2.2.1 y.2.2.2).contains t))) &&
    (decide (u.kind ≠ 1) || runs.all (fun y => decide (y.1 = x.1) ||
      (wrScs n x.2.2.1 x.2.2.2).all (fun t => !(wrScs y.2.1 y.2.2.1 y.2.2.2).contains t))) &&
    (decide (u.kind = 1) || decide (x.1 < 8) || (decide (pgMode n ≤ 1) && !pgInd n)))

/-- Local inputs and sources of an SB that exist: 16 and 17 belong to the unit, 18 to the attachments of row 0 (R161). -/
def localDst (s : State) (u o : Nat) : Bool :=
  if o = 16 ∨ o = 17 then unitPresent s u else if o = 18 then decide (u / 32 % 32 = 0) && decide (u % 8 < 8) else true
def localSrc (s : State) (u i : Nat) : Bool :=
  if i = 16 then unitPresent s u else if i = 17 then unitPresent s u && isMu u else if i = 18 then decide (u / 32 % 32 = 0) else true
/-- Route set rules (R153). -/
def routeOk (s : State) (mask u : Nat) (r : List Byte) : Bool :=
  (List.range 25).all (fun o =>
    let x := byteAt r o
    let src := x % 32
    !(decide (25 ≤ src) && decide (src ≤ 30)) &&
    (decide (x < 128) || decide (src = 31) ||
      ((if src < 16 then (trackTo u src).isSome else localSrc s u src) &&
       (if o < 16 then match trackTo u o with
          | none => false
          | some (v, _, _) => decide (unitPart u = unitPart v) || (mask.testBit (unitPart v) && mask.testBit (unitPart u))
        else localDst s u o)))) &&
  (List.range 2).all (fun i => decide (nfld (leAt r (32 + 4 * i) 4) 28 4 ≤ 6))

/-- The route set in force at a score cycle (R171). -/
def setAtSc (u : UnitBlk) (t : Nat) : List Byte :=
  u.objs.getD (((u.sched.filter (fun e => decide (e.elem = 0) && decide (e.sc ≤ t))).getLast?.map (·.index)).getD 0) []
/-- Longest path from an SB input, in sc, through the route sets in force at score cycle 0 (R153).
(log entry 55, DESIGN CHOICE) -/
def pathLen (c : Ctx) : Nat → Nat → Nat → Nat
  | 0, _, _ => 0
  | f + 1, u, i =>
    match unitBlk c u 2 with
    | none => 0
    | some b =>
      (outsOf (setAtSc b 0) i).foldl (fun m o => max m (if o < 16 then (match trackTo u o with
        | none => 0
        | some (v, j, n) => n + pathLen c f v j) else 1)) 0

/-- LOOP and EXIT runs cover a whole window (R153). -/
def windowsOk (u : UnitBlk) : Bool :=
  u.sched.all (fun e => if e.elem = 1 ∨ e.elem = 2 then
      let cfg := leAt (setAtSc u e.sc) (32 + 4 * (e.elem - 1)) 4
      !(decide (nfld cfg 28 4 = 5) || decide (nfld cfg 28 4 = 6)) || decide ((nfld cfg 8 8 + 1) * (nfld cfg 0 8 + 1) ≤ e.len)
    else true)

/-- Log entry 55, DESIGN CHOICE. -/
def descOk (c : Ctx) (u : UnitBlk) : Bool :=
  u.descs.all (fun d => decide (16 ≤ d.1) && decide (d.1 ≤ 24) && decide (1 ≤ descCredits d.2) && decide (descCredits d.2 ≤ 16) &&
    decide (2 * pathLen c 2048 u.unit d.1 ≤ descBound d.2))

/-- Unit block rules of reason FIELD (R16, R828 and the unit rules). -/
def blockOk (a : AdmIn) (e : DirEnt) (c : Ctx) (u : UnitBlk) : Bool :=
  let fits := match u.kind with
    | 0 => isCu u.unit | 1 => isMu u.unit | 2 => arrayUnit u.unit | 3 => decide (u.unit < 8) | _ => false
  fits && decide ((if u.kind = 3 then u.unit / 4 else unitCluster u.unit) = e.cluster) &&
  decide (u.objs.length ≤ objLimit u.kind) && (decide (u.kind = 2) || decide (u.descs = [])) &&
  u.sched.all (fun x =>
    let run := decide (u.kind = 2) && decide (1 ≤ x.elem)
    decide (x.elem ≤ elemMax u.kind) && (if run then decide (x.index = 0) else decide (x.index < u.objs.length) && decide (x.len = 0))) &&
  (match u.kind with
   | 0 => u.objs.all (fun o => slotOk (leNat o))
   | 1 => u.objs.all (fun o => progOk 2560 (leNat o)) && agsOk c.len u
   | 3 => u.objs.all (fun o => progOk 32768 (leNat o)) && agsOk c.len u
   | _ => u.objs.all (routeOk a.s (imPartMask a.img) u.unit) && windowsOk u && descOk c u)

/-- MHz of a class (R9). -/
def classMhz (c : Nat) : Nat := 100 * fclkTenths c
def classesOf (m : Nat) : List Nat := (maskBits 4 m).map (· + 1)

/-- TX ARG fields (Table 9-7) and RX ARG fields (Table 9-8). -/
def txArgSrc (x : Nat) : Nat := nfld x 29 3
def txArgSel (x : Nat) : Nat := nfld x 14 4
def txOk (x : Nat) : Bool :=
  let src := txArgSrc x
  decide (src ≤ 4) && !(nbit x 28 && (decide (src = 1) || decide (src = 3) || decide (src = 4))) &&
    !(decide (src = 0) && decide (7 < txArgSel x)) && !(decide (2 ≤ src) && decide (txArgSel x ≠ 0))

/-- E2E streams that a context needs (R324, R327): each direction and peer once. -/
def streamsOf (c : Ctx) : List (Bool × Nat) :=
  (c.links.filterMap (fun r =>
    if r.kind = 1 ∧ (nbit r.arg 28 ∨ txArgSrc r.arg = 4) then some (true, nfld r.arg 18 10)
    else if r.kind = 2 ∧ (nbit r.arg 28 ∨ nfld r.arg 29 3 = 4) then some (false, nfld r.arg 18 10) else none)).eraseDups

def reps (rep period : Nat) : Bool := decide (rep = 0) == decide (period = 0)
def linkLe (x y : LinkRec) : Bool :=
  decide (x.sc < y.sc) || (decide (x.sc = y.sc) && (decide (x.port < y.port) || (decide (x.port = y.port) && decide (x.kind ≤ y.kind))))
/-- Elements i - 1 and i of a list keep an order. -/
def ordered {α : Type} (le : α → α → Bool) (l : List α) (i : Nat) : Bool :=
  if i = 0 then true else match l[i - 1]?, l[i]? with | some x, some y => le x y | _, _ => true
/-- The first record that comes out of order. -/
def needOrder {α : Type} (l : List α) (le : α → α → Bool) (reason dir : Nat) : Option Bad :=
  needAll l (fun i _ => ordered le l i) reason dir

def runOk (m : Nat) : Bool := decide (m ≠ 0) && decide ((runsOf m).length = 1)

/-- Log entry 55, DESIGN CHOICE. -/
def checkField (a : AdmIn) : Option Bad :=
  let b := a.img
  let s := a.s
  firstBad
    [ need (runOk (imPartMask b)) 9,
      eachCtx b 9 (fun c => decide (10 ≤ c.chk) && decide (c.chk ≤ 20) && decide (c.fmask ≠ 0) &&
        (classesOf c.fmask).all (fun k => decide (2 ^ c.chk ≤ 1000 * classMhz k)) &&
        (decide (c.links = []) || decide ((classesOf c.fmask).length = 1)) && decide ((streamsOf c).length ≤ 16)),
      eachBlk b 9 (fun e c _ u => blockOk a e c u),
      eachRec b 3 parseScore 9 (fun e _ r => classUnit r.cls r.unit && decide (scoreCluster s r.unit = e.cluster) && reps r.rep r.period),
      eachRec b 4 parseRel 9 (fun _ _ r => decide (r.queue % 32 ≤ 26) && reps r.rep r.period),
      eachRec b 5 parseLink 9 (fun _ _ r => decide (1 ≤ r.kind) && decide (r.kind ≤ 3) && decide (r.port ≤ 15) &&
        (decide (r.kind ≠ 1) || txOk r.arg) && (decide (r.kind ≠ 2) || decide (nfld r.arg 29 3 ≤ 4)) &&
        (decide (r.kind ≠ 3) || decide (r.arg < 32)) && reps r.rep r.period),
      (secsOf b 5).findSome? (fun x => needOrder ((records b (some x.1)).map parseLink) linkLe 9 x.1.at'),
      eachRec b 6 parseBell 9 (fun _ _ r => decide (r.waitTo ≤ 2 ^ 19)),
      eachRec b 8 id 9 (fun _ _ r => reps (dmRep r) (dmPeriod r) && decide (dmOff r % 64 = 0) && decide (dmStride r % 64 = 0) &&
        decide (dmLen r % 64 = 0) && decide (64 ≤ dmLen r) && decide (dmLen r ≤ 2 ^ 24)) ]

/-! ### SCHED -/

def schedLt (x y : SchedRec) : Bool := decide (x.sc < y.sc) || (decide (x.sc = y.sc) && decide (x.elem < y.elem))
def scoreLe (x y : ScoreRec) : Bool :=
  decide (x.sc < y.sc) || (decide (x.sc = y.sc) && (decide (x.unit < y.unit) || (decide (x.unit = y.unit) && decide (x.cls ≤ y.cls))))

/-- Runs of one element do not overlap (R171). -/
def runsApart (u : UnitBlk) : Bool :=
  decide (u.kind ≠ 2) || [1, 2, 3, 4].all (fun e =>
    let l := u.sched.filter (fun x => decide (x.elem = e))
    (List.range l.length).all (fun i => ordered (fun x y => decide (x.sc + x.len ≤ y.sc)) l i))

/-- The S3 write-backs of a slot and the additions of a later one can meet (R88): the last vector of the one is accepted
before its successor's entry, and writes back five sc later; the first of the other adds from three sc after its entry. -/
def r88Ok (u : UnitBlk) : Bool :=
  let es := u.sched
  let slot (e : SchedRec) : Nat := leNat (u.objs.getD e.index [])
  let lap (x y : Nat) : Bool := decide (opAccBase x ≤ opAccBase y + opAccCnt y) && decide (opAccBase y ≤ opAccBase x + opAccCnt x)
  (List.range es.length).all (fun i => (List.range es.length).all (fun j =>
    match es[i]?, es[i + 1]?, es[j]? with
    | some x, some x', some y =>
      decide (j ≤ i) || !(opBypass (slot x) && opDst (slot x) && !opBypass (slot y) && lap (slot x) (slot y)) || decide (x'.sc + 4 < y.sc + 3)
    | _, _, _ => true))

/-- One expectation per unit, class, ARG and score cycle (R173). -/
def scoreApart (l : List ScoreRec) (i : Nat) (r : ScoreRec) : Bool :=
  let os := occs r.sc r.rep r.period
  os.Nodup && ((List.zip (List.range l.length) l).all (fun x => decide (i ≤ x.1) || decide (x.2.unit ≠ r.unit) || decide (x.2.cls ≠ r.cls) ||
    decide (x.2.arg ≠ r.arg) || (occs x.2.sc x.2.rep x.2.period).all (fun t => !os.contains t)))
/-- At most 4 events of a unit in any 4 sc (R381). -/
def scoreSparse (l : List ScoreRec) (r : ScoreRec) : Bool :=
  let ts := (l.filter (fun x => decide (x.unit = r.unit))).flatMap (fun x => occs x.sc x.rep x.period)
  (occs r.sc r.rep r.period).all (fun t => decide ((ts.filter (fun x => decide (t ≤ x) && decide (x ≤ t + 3))).length ≤ 4))

/-- Release rules (R168, R174, R226). -/
def relPort (r : RelRec) : Option Nat := if r.queue % 32 < 8 then some (r.queue % 32) else if r.queue % 32 = 24 ∨ r.queue % 32 = 25 then some r.dest else none
def relsOk (len : Nat) (l : List RelRec) (i : Nat) (r : RelRec) : Bool :=
  let before := l.take i
  decide (lastOcc r.sc r.rep r.period < len) &&
  before.all (fun x => decide (x.queue ≠ r.queue) || decide (lastOcc x.sc x.rep x.period < r.sc)) &&
  before.all (fun x => (relPort x).isNone || decide (relPort x ≠ relPort r) || decide (x.queue / 32 ≠ r.queue / 32) || decide (x.queue = r.queue) ||
    (occs x.sc x.rep x.period).all (fun t => !(occs r.sc r.rep r.period).contains t))

/-- FT_SC of a class (R332). -/
def ftSc (c : Nat) : Nat := match c with | 1 => 32 | 2 => 25 | 3 => 19 | _ => 12

/-- Link rules of reason SCHED (R168, R332, R333, R336, R346). -/
def linkOk (c : Ctx) (r : LinkRec) : Bool :=
  let os := occs r.sc r.rep r.period
  let at' (k n t : Nat) : List LinkRec := c.links.filter (fun x => decide (x.kind = k) && decide (x.port = n) && (occs x.sc x.rep x.period).contains t)
  let rels (n t : Nat) : Bool := c.rels.any (fun x => decide (x.queue % 32 = 8 + n) && (occs x.sc x.rep x.period).contains t)
  let relParts : List Nat := (c.rels.filter (fun x => decide (x.queue % 32 = 8 + r.port))).map (fun x => x.queue / 32)
  decide (lastOcc r.sc r.rep r.period < c.len) &&
  (match r.kind with
   | 1 =>
     let ts := (c.links.filter (fun x => decide (x.kind = 1) && decide (x.port = r.port))).flatMap (fun x => occs x.sc x.rep x.period)
     let ft := ftSc ((classesOf c.fmask).headD 1)
     os.all (fun t => decide ((ts.filter (fun x => decide (t ≤ x) && decide (x < t + ft))).length ≤ 7)) &&
       (decide (txArgSrc r.arg ≠ 1) || os.all (fun t => (at' 2 (txArgSel r.arg) t).any (fun x => decide (nfld x.arg 29 3 = 1))))
   | 2 =>
     os.all (fun t => rels r.port t && decide ((at' 2 r.port t).length = 1) && !rels r.port (t + 1) &&
       (match nfld r.arg 29 3 with
        | 0 => relParts.all (fun p => lbdWrites c p (nfld r.arg 15 3) t && lbdWrites c p (nfld r.arg 15 3) (t + 1)) &&
            !c.links.any (fun x => decide (x.kind = 1) && decide (txArgSrc x.arg = 1) && decide (txArgSel x.arg = r.port) && (occs x.sc x.rep x.period).contains t)
        | 1 => c.links.any (fun x => decide (x.kind = 1) && decide (txArgSrc x.arg = 1) && decide (txArgSel x.arg = r.port) && (occs x.sc x.rep x.period).contains t)
        | _ => true))
   | _ => os.all (fun t => decide ((at' 1 r.port t).length = 1)))

/-- Releases of a receive queue come at least 2 sc apart (R333). -/
def rxApart (l : List RelRec) (r : RelRec) : Bool :=
  !(decide (8 ≤ r.queue % 32) && decide (r.queue % 32 < 24)) ||
  (let ts := (l.filter (fun x => decide (x.queue = r.queue))).flatMap (fun x => occs x.sc x.rep x.period)
   (occs r.sc r.rep r.period).all (fun t => !ts.contains (t + 1)))

/-- Log entry 55, DESIGN CHOICE. -/
def checkSched (a : AdmIn) : Option Bad :=
  let b := a.img
  firstBad
    [ eachCtx b 10 (fun c => decide (1 ≤ c.len) && (decide (c.next = 0xFF) || decide (c.next < imCtxCnt b))),
      (secsOf b 2).findSome? (fun x => needOrder (blocksOf b (some x.1))
        (fun u v => decide (blkKind u < blkKind v) || (decide (blkKind u = blkKind v) && decide (blkUnit u < blkUnit v))) 10 x.1.at'),
      eachBlk b 10 (fun _ c raw u => u.sched.all (fun e => decide (e.sc < c.len)) &&
        (List.range u.sched.length).all (ordered schedLt u.sched) && runsApart u && decide ((u.descs.map (·.1)).Nodup) &&
        (decide (u.kind ≠ 0) || (r88Ok u && !Config.s5Overrun raw))),
      (secsOf b 3).findSome? (fun x =>
        let l := (records b (some x.1)).map parseScore
        firstBad [ needOrder l scoreLe 10 x.1.at',
          needAll l (fun i r => decide (lastOcc r.sc r.rep r.period < x.2.len) && scoreApart l i r && scoreSparse l r) 10 x.1.at' ]),
      (secsOf b 4).findSome? (fun x =>
        let l := (records b (some x.1)).map parseRel
        needAll l (fun i r => relsOk x.2.len l i r && rxApart l r) 10 x.1.at'),
      eachRec b 5 parseLink 10 (fun _ c r => linkOk c r),
      (secsOf b 6).findSome? (fun x =>
        let l := (records b (some x.1)).map parseBell
        needAll l (fun i r => (l.take i).all (fun y => decide (y.bell ≠ r.bell))) 10 x.1.at'),
      (secsOf b 8).findSome? (fun x => needOrder (records b (some x.1)) (fun u v => decide (dmSc u ≤ dmSc v)) 10 x.1.at') ]

/-! ### OWN, LOTB, SIZE -/

def checkOwn (a : AdmIn) : Option Bad :=
  let b := a.img
  let s := a.s
  let mine (p : Nat) : Bool := decide (p < 8) && (imPartMask b).testBit p
  firstBad
    [ eachBlk b 11 (fun _ _ _ u => mine (if u.kind = 3 then u.unit else unitPart u.unit)),
      eachRec b 3 parseScore 11 (fun _ _ r => mine (unitOwner s r.unit)),
      eachRec b 4 parseRel 11 (fun _ _ r => mine (r.queue / 32) &&
        (!(decide (8 ≤ r.queue % 32) && decide (r.queue % 32 < 24)) || decide (portPart s (r.queue % 32 - 8) = r.queue / 32))),
      eachRec b 5 parseLink 11 (fun _ _ r => mine (portPart s r.port) &&
        (decide (r.kind ≠ 2) || !nbit r.arg 8 || mine (r.arg % 256 / 32))),
      eachRec b 6 parseBell 11 (fun _ _ r => mine (r.bell / 32)),
      eachRec b 7 parseLot 11 (fun _ _ r => mine (unitPart r.unit)),
      eachRec b 8 id 11 (fun _ _ r => mine (dmPart r) && (!dmWait r || mine (dmWbell r / 32)) && (!dmStrike r || mine (dmSbell r / 32))) ]

/-- R177 for one cluster of one context. -/
def checkLotb (a : AdmIn) : Option Bad :=
  let b := a.img
  let order := (secsOf b 7).findSome? (fun x =>
    let l := (records b (some x.1)).map parseLot
    firstBad [ needAll l (fun _ r => isCu r.unit) 12 x.1.at',
      needOrder l (fun u v => decide (u.unit < v.unit) || (decide (u.unit = v.unit) && decide (u.slot < v.slot))) 12 x.1.at' ])
  firstBad
    [ order,
      (List.range (imCtxCnt b)).findSome? (fun k => [0, 1].findSome? (fun cl =>
        let l := (records b (findSec b 7 k cl)).map parseLot
        let us := (blocksOf b (findSec b 2 k cl)).map parseBlock
        need ((us.filter (fun u => decide (u.kind = 0))).all (fun u => u.sched.all (fun e =>
          l.any (fun r => decide (r.unit = u.unit) && decide (r.slot = e.index))))) 12 (((findSec b 7 k cl).map (·.at')).getD noIdx))) ]

/-- RES_Ck of R169. -/
def resBytes (b : List Byte) (k cl low : Nat) : Nat :=
  ((imDir b).filter (fun e => decide (e.ctx = k) && decide (e.typ ≠ 1) && (decide (e.cluster = cl) || (decide (e.cluster = 0xFF) && decide (low / 4 = cl))))).foldl
    (fun n e => n + (e.len + 63) / 64 * 64) 0

/-- Bytes of partition p's plan store (Table 5-16, SIZE). -/
def storeBytes (s : State) (p : Nat) : Nat := if rgnValid s p 0 && decide (rgnKind s p 0 = 3) then rgnUsable s p 0 else 0

def checkSize (a : AdmIn) : Option Bad :=
  let b := a.img
  let m := imPartMask b
  let low := lowBit 8 m
  firstBad
    [ eachCtx b 13 (fun c =>
        decide (c.res0 = resBytes b c.index 0 low) && decide (c.res1 = resBytes b c.index 1 low) && decide (c.res0 ≤ 2 ^ 20) && decide (c.res1 ≤ 2 ^ 20) &&
          (decide (m % 16 ≠ 0) || decide (c.res0 = 0)) && (decide (m / 16 ≠ 0) || decide (c.res1 = 0))),
      need (decide (b.length ≤ storeBytes a.s low)) 13 ]

/-- Table 5-16 in its order (R180). (log entry 55, DESIGN CHOICE) -/
def admitChecks : List (AdmIn → Option Bad) :=
  [checkHdr, checkDir, checkKey, checkSig, checkDigest, checkTenant, checkVariant, checkAbsent, checkField, checkSched, checkOwn, checkLotb, checkSize]
def admitBad (a : AdmIn) : Option Bad := admitChecks.findSome? (fun f => f a)

/-- Status of a reason (Table 5-16). -/
def admitStatus (reason : Nat) : Nat :=
  match reason with
  | 3 => sAuth | 4 => sAuth | 5 => sIntegrity | 6 => sPerm | 7 => sAbsent | 8 => sAbsent | 11 => sPerm | 13 => sResource | _ => sParam

end Sys2Proof.Machine
end

