-- ==== Sys2Proof/Machine/Plans.lean ====
section
/-! DEFINITION. The plan commands (R180 to R194, R626, Table 19-6): admission, loads, starts, switches, evictions, stops. -/

namespace Sys2Proof.Machine

/-! ### Admission -/

/-- The plan store that an image goes to: that of the lowest partition of its PART_MASK.
(log entry 54, DESIGN CHOICE) -/
def storePart (p : Nat) (img : List Byte) : Nat := if imPartMask img = 0 then p else lowBit 8 (imPartMask img)

def badResult (x : Bad) : List Byte := [bite x.reason, 0, 0, 0] ++ leBytes 4 x.dir ++ leBytes 4 x.item

/-- Log entry 54, DESIGN CHOICE. -/
def bodyPlanAdmit (c : Call) (s : State) : CmdRes :=
  let p := c.part.toNat
  let r := c.b 16
  let off := c.le 24 8
  let len := c.le 32 8
  if r = 0 || decide (15 ≤ r) || decide (off % 64 ≠ 0) || !rgnValid s p r || decide (rgnUsable s p r < off + len) then .no sParam s
  else if rgnBusy s p r then .no sBusy s
  else
    let rd := readBytes 1 p r off len s
    let s := rd.2.2
    if rd.1 ≠ 0 then .no sIntegrity s
    else
      let img := rd.2.1
      let q := storePart p img
      if s.host.outst.any (fun o => o.acc && decide (o.op = 0x20) && decide (o.a = q) && decide (o.b = 1)) then .no sBusy s
      else match admitBad { s := s, part := p, len := len, img := img } with
        | some x => .fail (admitStatus x.reason) (badResult x) s
        | none => .long { a := q, b := 1, data := img } s

/-- PLAN_ADMIT (0x20): the checks of Table 5-16 in their order; the copy ends with PLAN_ADMIT_DONE (R180). -/
def execPlanAdmit (c : Call) (s : State) : Out := .next (runCmd 0x20 callT bodyPlanAdmit c s)

/-- Log entry 54, DESIGN CHOICE. -/
def storeImage (p : Nat) (i : Image) (s : State) : State :=
  { s with plan := { s.plan with store := tabSet (fun _ => none) p (some i) s.plan.store } }

/-- PLAN_ADMIT_DONE: the image takes its plan store (R181, R193). -/
def execPlanAdmitDone (i : Nat) (s : State) : Out :=
  match outstAt s i [0x20] with
  | none => .next s
  | some o => .next (finishO o sOk (badResult { dir := noIdx, item := noIdx }) (storeImage o.a (parseImage o.data) s))

/-! ### Residency -/

def imageOf (s : State) (p : Nat) : Option Image :=
  (tabGet (fun _ => none) s.plan.store p).filter (fun i => decide (lowBit 8 i.partMask = p))
/-- Contexts, loading ones among them, of slip domains whose lowest partition is p. -/
def residentsOf (s : State) (p : Nat) : List Resident := s.plan.resident.filter (fun r => decide (lowBit 8 r.mask = p))
/-- A resident context by its ID, for a domain that starts at partition p (R827). -/
def findResident (s : State) (p id : Nat) : Option Resident := (residentsOf s p).find? (fun r => decide (r.id = id) && !r.loading)

def slotUsed (s : State) (n : Nat) : Bool := s.plan.resident.any (fun r => r.slots.contains n)
def slotFree (s : State) (k : Nat) : Option Nat := ((List.range 4).map (4 * k + ·)).find? (fun n => !slotUsed s n)
def slotLoading (s : State) (k : Nat) : Bool := s.plan.resident.any (fun r => r.loading && r.slots.any (fun n => decide (n / 4 = k)))

/-- Slots a context takes: one in each cluster with a non-zero RES_C; the status when none can be had (R192). -/
def pickSlots (s : State) (x : Ctx) : Except Nat (List Nat) :=
  [(0, x.res0), (1, x.res1)].foldl (fun acc k => match acc with
    | .error e => .error e
    | .ok l => if k.2 = 0 then .ok l else match slotFree s k.1 with
      | some n => .ok (l ++ [n])
      | none => .error (if slotLoading s k.1 then sBusy else sResource)) (.ok [])

/-- PLN_SLOTA and PLN_SLOTB of the slots of a context: VALID or LOADING, its ID, holder and domain (Table 5-20). -/
def showSlots (r : Resident) (s : State) : State :=
  forL r.slots (fun n s =>
    (s.setReg (aPlnSlotA n) (BitVec.ofNat 32 ((if r.loading then 2 ^ 30 else 2 ^ 31) + r.id * 2 ^ 16 + r.tenant))).setReg (aPlnSlotB n)
      (BitVec.ofNat 32 r.mask)) s
def hideSlots (r : Resident) (s : State) : State := forL r.slots (fun n s => (s.clearReg (aPlnSlotA n)).clearReg (aPlnSlotB n)) s

def setResidents (l : List Resident) (s : State) : State := { s with plan := { s.plan with resident := l } }
/-- A context leaves its slots. -/
def evict (r : Resident) (s : State) : State := refreshGovs r.mask (hideSlots r (setResidents (s.plan.resident.filter (fun x => decide (x ≠ r))) s))
/-- Marked invalid under R117. (log entry 52, DESIGN CHOICE) -/
def isInvalid (s : State) (r : Resident) : Bool := r.slots.any (fun n => s.rbit (aPlnSlotA n) 29)

/-- A tensor engine granted to a partition (R293). -/
def tensorEngine (s : State) (p : Nat) : Bool :=
  (List.range 4).any (fun r => enginePresent s r && decide (s.rf (aRol r 0) 30 2 = 1) && decide (s.rf (aRol r 0) 24 4 = p))

/-- A DMA record against the region table at load: the status it gives (R266, R273, R294, R295, R507). -/
def dmaLoad (s : State) (b : List Byte) : Option Nat :=
  let h := dmPart b
  let r := dmRegion b
  let w := dmExtent b
  if r = 0 || r = 15 || !rgnValid s h r || (dmRoll b && !tensorEngine s h) || (dmRoll b && decide (dmStride b ≠ 0) && decide (dmStride b < w)) ||
      decide (rgnUsable s h r < dmOff b + dmRep b * dmStride b + w) then some sParam
  else none
def dmaBusy (s : State) (b : List Byte) : Bool := rgnBusy s (dmPart b) (dmRegion b)

/-- A partition of a mask whose domain runs a context without BGLOAD (Table 5-17). (log entry 53, DESIGN CHOICE) -/
def loadWaits (s : State) (mask : Nat) : Option Nat :=
  ((maskBits 8 mask).map (domLow s)).find? (fun d => ctxRuns s d && (match runCtx s d with | some r => !r.ctx.bgload | none => true))

/-- MIGRATE or MIGRATE_RECV runs for the domain (R731). -/
def migrates (s : State) (p : Nat) : Bool := s.host.outst.any (fun o => o.acc && (decide (o.op = 0x83) || decide (o.op = 0x84)) && decide (o.a = p))

/-- An instruction of the EXTEST kind is loaded in the TAP (R804). (log entry 99, DESIGN CHOICE) -/
def extest (s : State) : Bool := decide (3 ≤ s.jtag) && decide (s.jtag ≤ 7)

/-- A unit block of the context names a unit that failed its self-test (R771). -/
def failedUnit (s : State) (x : Ctx) : Bool := x.units.any (fun b => decide (b.unit < 0x800) && s.rbit (aSafFail (b.unit / 32)) (b.unit % 32))
/-- A SELFTEST runs on a partition of the mask (R772). -/
def selfTesting (s : State) (mask : Nat) : Bool := s.host.outst.any (fun o => o.acc && decide (o.op = 0x81) && decide (o.call.b 16 &&& mask ≠ 0))

/-- Another context than the resume target comes in: the target is discarded, and with it what the restore loaded (R730). -/
def dropResume (p : Nat) (s : State) : State :=
  if (domRt s p).resume.isSome && (domRt s p).sw.isNone then
    let r := domRt s p
    let s := leaveRun p (setDomRt p { r with resume := none } (if r.pend.isSome then endWaiters p sState sState s else s))
    setPend (domMask s p) 0xFF (setDomRt p { domRt s p with pend := none } s)
  else s

def slotIn (l : List Nat) (k : Nat) : Nat := (l.find? (fun n => decide (n / 4 = k))).map (· % 4) |>.getD 0xFF

def bodyPlanLoad (c : Call) (s : State) : CmdRes :=
  let p := c.part.toNat
  let id := c.b 17
  match imageOf s p with
  | none => .no sState s
  | some im =>
    match im.ctxs[c.b 16]? with
    | none => .no sParam s
    | some x =>
      if id = 0xFF || (residentsOf s p).any (fun r => decide (r.id = id)) || decide ((x.dmas.filterMap (dmaLoad s)) ≠ []) then .no sParam s
      else if x.dmas.any (dmaBusy s) || migrates s p || selfTesting s im.partMask then .no sBusy s
      else if failedUnit s x then .no sFault s
      else match pickSlots s x with
        | .error e => .no e s
        | .ok l =>
          let r : Resident := { id := id, mask := im.partMask, tenant := tenantOf s p, imageId := im.imageId, ctx := x, slots := l, loading := true }
          let s := dropResume p (showSlots r (setResidents (s.plan.resident ++ [r]) s))
          let w := loadWaits s im.partMask
          .long { a := w.getD p, b := id, c := b2n w.isSome, data := leBytes 1 p } s

/-- PLAN_LOAD (0x21): the load begins, or waits for a plan boundary (Table 5-17, R192, R294). -/
def execPlanLoad (c : Call) (s : State) : Out := .next (runCmd 0x21 callT bodyPlanLoad c s)

/-- A storage fault of a domain (Table 12-24, BLOCK 9). -/
def storageFault (d kind unit detail : Nat) (s : State) : State := addFault d (mkFault s d 9 kind unit detail) s

/-- An uncorrectable error in a configuration slot that the context load engine finds (R117, R119): `bad` less one is the
granule, then the word, then the slot n. (log entry 46, DESIGN CHOICE; log entry 52, DESIGN CHOICE) -/
def slotError (bad : Nat) (s : State) : State :=
  if bad = 0 then s
  else
    let x := bad - 1
    let n := x / 2 ^ 17 % 8
    match s.plan.resident.find? (fun r => r.slots.contains n && !r.loading) with
    | none => s
    | some r =>
      let p := lowBit 8 r.mask
      let w := n % 4 * 2 ^ 18 + n / 4 * 2 ^ 17 + x / 8 % 2 ^ 14
      let s := eccCapture p true 2 (x % 8) 0 w s
      let run := decide (domMask s p = r.mask) && ctxRuns s p && (match activeCtx s p with | some a => decide (a.id = r.id) | none => false)
      if run then storageFault p 3 0x876 0 s
      else
        let s := s.setBit (aPlnSlotA n) 29 true
        errFlag flagSlotUe 0 0 0 (s.setBit aSlotErr n true)

/-- CONTEXT_LOAD_DONE: the context resides (R182); HOLD channels that it bars are demoted (R365). `bad` reports an
uncorrectable error that the engine finds in a slot. (log entry 52, DESIGN CHOICE) -/
def execContextLoadDone (i bad : Nat) (s : State) : Out :=
  match outstAt s i [0x21] with
  | none => .next s
  | some o =>
    let s := slotError bad s
    if o.c ≠ 0 then .next s
    else
      let p := leNat o.data
      match (residentsOf s p).find? (fun r => decide (r.id = o.b) && r.loading) with
      | none => .next (finishO o sState [] s)
      | some r =>
        let r' : Resident := { r with loading := false }
        let s := showSlots r' (setResidents (s.plan.resident.map (fun x => if x = r then r' else x)) s)
        let res := [bite (slotIn r.slots 0), bite (slotIn r.slots 1), 0, 0] ++ leBytes 4 r.ctx.res0 ++ leBytes 4 r.ctx.res1
        .next (finishO o sOk res (demoteHold (refreshGovs r.mask s)))

/-! ### Start and switch -/

/-- Keys of a partition's holder, the operator's where no tenant holds it (R524). -/
def holderKeys (s : State) (p : Nat) : KeySlots := keySlots s (if held s p then p else opSlotKey)

/-- A start is pending on partition p (R637): it waits for its edge, for Toll time or, with a Toll time, for its class. -/
def startPending (s : State) (p : Nat) : Bool :=
  (match (domRt s p).pend with | some w => decide (w.reason = 2) | none => false) ||
  (match (domRt s (domLow s p)).chg with | some w => decide (w.reason = 2) && w.atToll.isSome | none => false)

/-- The context has an E2E record: a TX or RX record that needs a stream (R324). -/
def needsJobKey (c : Ctx) : Bool := decide (streamsOf c ≠ [])

/-- The class lies outside an enabled FCLASS pin of its domain (R749). -/
def pinBars (s : State) (p cls : Nat) : Bool := lpPinned s 7 p && !(decide (lpPinLo s 7 p ≤ cls) && decide (cls ≤ lpPinHi s 7 p))
/-- Log entry 27, DESIGN CHOICE; log entry 56, DESIGN CHOICE. -/
def pinPolicy (p cls : Nat) (s : State) : State := stagePolicy 0x875 7 2 4 (some p) p 2 cls (partRt s p).cls s

/-- The partitions' ports that LINK records name are UP. -/
def portsUp (s : State) (x : Ctx) : Bool := x.links.all (fun l => decide (lnkState s l.port = stUp))

/-- Log entry 50, DESIGN CHOICE; log entry 54, DESIGN CHOICE. -/
def bodyPlanStart (c : Call) (s : State) : CmdRes :=
  let p := c.part.toNat
  let cls := c.b 17
  let at' := c.bit 18 0
  let t : DWord := BitVec.ofNat 64 (c.le 24 8)
  match findResident s p (c.b 16) with
  | none => .no sState s
  | some r =>
    let parts := maskBits 8 r.mask
    let resume := match (domRt s p).resume with | some x => decide (x.ctx = r.id) && decide (domMask s p = r.mask) | none => false
    let old := match (domRt s p).resume with | some x => x.fclass | none => 0
    if parts.any (startPending s) || (!resume && migrates s p) || selfTesting s r.mask then .no sBusy s
    else if parts.any (fun q => decide (plnState s q ≠ stIdle)) || extest s then .no sState s
    else if isInvalid s r then .no sIntegrity s
    else if failedUnit s r.ctx then .no sFault s
    else if cls < 1 || decide (4 < cls) || !r.ctx.fmask.testBit (cls - 1) || (resume && decide (cls ≠ old)) then .no sParam s
    else if at' && (decide (tollState s = tlFree) || decide (tollState s = tlAcquire)) then .no sState s
    else if !portsUp s r.ctx then .no sState s
    else if needsJobKey r.ctx && (holderKeys s p).job.isNone then .no sKey s
    else if pinBars s p cls then .no sPolicy (pinPolicy p cls s)
    else if at' && decide (0 < (s.toll.now - t).toInt) then .no sTimeout s
    else
      let s := if resume then s else dropResume p s
      let w : WaitSw := { ctx := r.id, mask := r.mask, fclass := cls, reason := 2, atToll := if at' then some t else none, job := c.job,
                          jobKey := (holderKeys s p).job.getD [] }
      .long { a := p } (setPend r.mask r.id (setDomRt p { domRt s p with pend := some w } s))

/-- PLAN_START (0x22): the start waits for its edge (R183, R185, R626, R637, R749). -/
def execPlanStart (c : Call) (s : State) : Out := .next (runCmd 0x22 callT bodyPlanStart c s)

/-- A switch is asked for on domain d. -/
def askSwitch (d id cls : Nat) (s : State) : State :=
  let w : WaitSw := { ctx := id, mask := domMask s d, fclass := cls, reason := 3, job := (domRt s d).job, jobKey := (domRt s d).jobKey }
  setPend (domMask s d) id (setDomRt d { domRt s d with pend := some w } s)

/-- The context of a switch request: resident, with the domain's own PART_MASK (R827). -/
def switchTarget (s : State) (d id : Nat) : Option Resident := residentOf s (domMask s d) id

/-- Log entry 50, DESIGN CHOICE. -/
def bodyPlanSwitch (c : Call) (s : State) : CmdRes :=
  let p := c.part.toNat
  let cls := c.b 17
  if domLow s p ≠ p then .no sParam s
  else if plnState s p = stSwitch || (domRt s p).pend.isSome then .no sBusy s
  else if plnState s p ≠ stRun || extest s then .no sState s
  else match switchTarget s p (c.b 16) with
    | none => .no sState s
    | some r =>
      if isInvalid s r then .no sIntegrity s
      else if 4 < cls || (decide (cls ≠ 0) && !r.ctx.fmask.testBit (cls - 1)) then .no sParam s
      else if cls ≠ 0 && pinBars s p cls then .no sPolicy (pinPolicy p cls s)
      else .long { a := p } (askSwitch p r.id cls s)

/-- PLAN_SWITCH (0x23): the switch waits for its edge, and for a slip to end (R39, R188). -/
def execPlanSwitch (c : Call) (s : State) : Out := .next (runCmd 0x23 callT bodyPlanSwitch c s)

/-- Expert control of a function for partition p (R187, R604): its holder's function, PF0 while p is FREE. -/
def expertFor (s : State) (f p : Nat) : Bool :=
  expertOf s f && (if held s p then decide (f = p + 1) else decide (f = 0))

/-- A write of PLN_SWITCH_p (R187). -/
def writePlnSwitch (p : Nat) (w : RegW) (v : Word) (s : State) : State :=
  if !bit v 31 then s.put (aPlnSwitch p) 16 8 (fld v 16 8)
  else if !expertFor s w.fn p || decide (domLow s p ≠ p) then refuse flagPerm w s
  else
    let id := fld v 16 8
    let s := s.put (aPlnSwitch p) 16 8 id
    if s.rbit (aPlnSwitch p) 31 then s   -- already set: no further effect (R18)
    else if plnState s p ≠ stRun || (domRt s p).pend.isSome || extest s then refuse flagState w s
    else match switchTarget s p id with
      | none => refuse flagPlan w s
      | some r => if isInvalid s r then refuse flagPlan w s else askSwitch p id 0 (s.setBit (aPlnSwitch p) 31 true)

/-! ### Evict, stop, clear -/

/-- The context runs, or is the target of a switch or start (R192, R637). -/
def inUse (s : State) (r : Resident) : Bool :=
  let p := lowBit 8 r.mask
  let d := domLow s p
  (decide (domMask s p = r.mask) && (ctxRuns s d || decide (plnState s d = stSwitch)) && (decide (s.rf (aPlnStat d) 24 8 = r.id))) ||
  (decide (domMask s p = r.mask) && ((match (domRt s d).sw with | some w => decide (w.ctx = r.id) | none => false) ||
    (match (domRt s d).chg with | some w => decide (w.ctx = r.id) | none => false))) ||
  (match (domRt s p).pend with | some w => decide (w.ctx = r.id) && decide (w.mask = r.mask) | none => false)

def bodyPlanEvict (c : Call) (s : State) : CmdRes :=
  let p := c.part.toNat
  match findResident s p (c.b 16) with
  | none => .no sParam s
  | some r =>
    if inUse s r then .no sState s
    else
      let s := match (domRt s p).resume with | some x => if x.ctx = r.id then dropResume p s else s | none => s
      .done sOk [] (evict r s)

/-- PLAN_EVICT (0x24). -/
def execPlanEvict (c : Call) (s : State) : Out := .next (runCmd 0x24 callT bodyPlanEvict c s)

def bodyPlanStop (c : Call) (s : State) : CmdRes :=
  let p := c.part.toNat
  if domLow s p ≠ p then .no sParam s
  else if plnState s p = stIdle || plnState s p = stHalted then .no sState s
  else .long { a := p } s

/-- PLAN_STOP (0x25): the stop takes effect on the first edge after a switch in progress (R834). -/
def execPlanStop (c : Call) (s : State) : Out := .next (runCmd 0x25 callT bodyPlanStop c s)

/-- A HALTED domain becomes IDLE: its queues are emptied as at a plan boundary, invalid contexts leave (R232, R626).
(log entry 57, DESIGN CHOICE) -/
def clearDomain (d : Nat) (s : State) : State :=
  let s := planBoundary d s
  let s := forL (s.plan.resident.filter (fun r => decide (r.mask = domMask s d) && isInvalid s r)) (fun r s => evict r s) s
  setPln d stIdle 0xFF 0xFF s

def bodyPlanClear (c : Call) (s : State) : CmdRes :=
  let p := c.part.toNat
  if domLow s p ≠ p then .no sParam s
  else if plnState s p ≠ stHalted then .no sState s
  else .done sOk [] (clearDomain p s)

/-- PLAN_CLEAR (0x26). -/
def execPlanClear (c : Call) (s : State) : Out := .next (runCmd 0x26 callT bodyPlanClear c s)

end Sys2Proof.Machine
end

