-- ==== Sys2Proof/Machine/KeyState.lean ====
section
/-! DEFINITION. Key slots, sessions and trust registers (R524, R556, R558, R573, Table 17-12): what every change of them
does. -/

namespace Sys2Proof.Machine

def setKeys (i : Nat) (k : KeySlots) (s : State) : State := { s with keys := tabSet (fun _ => {}) i k s.keys }
def setTrust (t : TrustRt) (s : State) : State := { s with trust := t }
/-- The open session of a holder: a partition, or 8 for the operator. -/
def sessionOf (s : State) (h : Nat) : Option SessRt := tabGet (fun _ => none) s.trust.sessions h
def setSession (h : Nat) (x : Option SessRt) (s : State) : State :=
  setTrust { s.trust with sessions := tabSet (fun _ => none) h x s.trust.sessions } s

/-- Versions of the memory key slots, 0xFF for an empty one. -/
def memVers (k : KeySlots) : List Byte :=
  (List.range 4).map (fun i => match k.mem.find? (fun x => decide (x.1 = i)) with | some x => bite x.2.1 | none => 0xFF)
def memLive (k : KeySlots) (ver : Nat) : Bool := k.mem.any (fun x => decide (x.2.1 = ver))
def traceVer (k : KeySlots) : Nat := match k.trace with | some t => t.1 | none => 0xFF

/-- KEY_STAT_p and KEY_MEMV_p show the slots of partition p (Table 17-12). -/
def refreshKeys (p : Nat) (s : State) : State :=
  let k := keySlots s p
  let v := b2n k.link.isSome * 2 ^ 31 + b2n k.job.isSome * 2 ^ 30 + b2n k.trace.isSome * 2 ^ 29 + b2n (decide (k.staged ≠ [])) * 2 ^ 28 +
    b2n (sessionOf s p).isSome * 2 ^ 27 + min k.mem.length 4 * 2 ^ 24 + traceVer k * 2 ^ 16
  (s.setReg (aKeyStat p) (BitVec.ofNat 32 v)).setReg (aKeyMemv p) (BitVec.ofNat 32 (leNat (memVers k)))
def refreshHolder (h : Nat) (s : State) : State := if h < 8 then refreshKeys h s else s

/-- A session closes; E_dev is destroyed (R556). -/
def closeSession (h : Nat) (s : State) : State := refreshHolder h (setSession h none s)

/-- Every key slot of partition p, its staging and its session are destroyed (R524, R556, R574); envelopes count from 0
under the next trace key (R368). -/
def destroyKeys (p : Nat) (s : State) : State :=
  let s := forL [8 + 2 * p, 9 + 2 * p] (fun n s => setChRt n { chRt s n with eseq := 0, eseqVer := none } s) s
  closeSession p (setKeys p {} s)

/-- Staging is discarded and the session closes; live keys stay (R575). -/
def dropStaging (h : Nat) (s : State) : State := closeSession h (setKeys h { keySlots s h with staged := [] } s)

/-- A key of 32 bytes from the MRP's generator, and the state that has drawn it. -/
def drawKey (s : State) : List Byte × State := (padTo 32 (Config.random s.freeCtr), s.bump)

/-- The MRP generates the operator memory key of half-stack h, regions 0 to 14 (R269, R531). -/
def freshOperatorKey (h : Nat) (s : State) : State :=
  let k := drawKey s
  setKeys (opKeySlot h) { mem := [(0, 0, k.1)] } k.2

/-- Bytes of the active trust record (R568); none when the record is empty. -/
def activeRecord (t : TrustRt) : Option (List Byte) := t.active.map (fun b => if b then t.slotB else t.slotA)
def recordSeq (b : List Byte) : Nat := leAt b 8 4
/-- SEQ of the active trust record. -/
def trustSeq (t : TrustRt) : Nat := match activeRecord t with | some b => recordSeq b | none => 0
/-- REC_OTP advances left (R569). -/
def recLeft (t : TrustRt) : Nat := 2048 - t.recOtp

/-- TRU_STAT and TRU_RSEQ, once the MRP reports (Table 17-12). -/
def refreshTrust (s : State) : State :=
  let t := s.trust
  let s := ((s.put aTruStat 20 8 t.lifecycle).put aTruStat 12 8 t.fwOtp).put aTruStat 0 12 (recLeft t)
  s.setReg aTruRseq (BitVec.ofNat 32 (trustSeq t))

/-- A debug token ends: both its effects clear (R572). (log entry 60, DESIGN CHOICE) -/
def endToken (s : State) : State :=
  setTrust { s.trust with token := none } ((s.clearReg aObsDbg).setBit aTruStat 28 false)

/-- The active token opens MRP debug. -/
def tokenJtag (s : State) : Bool := match s.trust.token with | some t => t.2.1.testBit 1 | none => false

end Sys2Proof.Machine
end

