-- ==== Sys2Proof/Machine/BellCmds.lean ====
section
/-! DEFINITION. Host access to bells (R195, R211, R212, R214, R625): register writes, BELL_SET, BELL_STRIKE, BELL_WAIT. -/

namespace Sys2Proof.Machine

/-- Unit of a function (Table 10-3): PF0 or a VF. -/
def fnUnit (f : Nat) : Nat := 0x858 + f

/-- Who changes a bell (R195): its partition's VF, and PF0 while no tenant holds the partition. -/
def bellWriter (s : State) (f b : Nat) : Bool := if f = 0 then !held s (bellPart b) else decide (f = bellPart b + 1)

/-- No context runs in the bell's domain (R212). -/
def bellIdle (s : State) (b : Nat) : Bool := !ctxRuns s (domLow s (bellPart b))

/-- A strike that would take effect under R201 on this edge (R214). -/
def strikeDue (s : State) (b : Nat) (e : QEntry) : Bool :=
  !e.held && decide (2 ≤ (fcOf s (bellPart b) + 1 - e.fc).toNat) && (match e.data with | .strike b' _ _ => decide (b' = b) | _ => false)

/-- A host write of COUNT (R214): a strike due on the same edge is discarded and sets LOST. -/
def hostCount (b v : Nat) (s : State) : State :=
  let q := strikeQueue (bellPart b)
  let x := queueRt s q
  let lost := x.entries.any (strikeDue s b)
  let s := setQueueRt q { x with entries := x.entries.filter (fun e => !strikeDue s b e) } s
  let s := if lost then s.setBit (aBelStat b) 28 true else s
  s.setReg (aBelCnt b) (BitVec.ofNat 32 v)

/-- A write of BEL_CNT_n (0), BEL_TGT_n (1) or BEL_CFG_n (2) (R195, R212, Table 6-3). -/
def writeBell (b which : Nat) (w : RegW) (v : Word) (s : State) : State :=
  if !bellWriter s w.fn b then refuse flagPerm w s
  else if !bellIdle s b then refuse flagState w s
  else match which with
    | 0 => hostCount b v.toNat s
    | 1 => s.setReg (aBelTgt b) v
    | _ => if 2 ^ 19 < fld v 0 20 then refuse flagResval w s else s.setReg (aBelCfg b) v

/-- BEL_STRK (R211): one strike enters the owning partition's strike queue. -/
def writeStrk (w : RegW) (v : Word) (s : State) : State :=
  let b := fld v 0 8
  if !partPresent s (bellPart b) then s
  else if !bellWriter s w.fn b then refuse flagPerm w s
  else sendStrike b (fnUnit w.fn) none s

/-- Log entry 58, DESIGN CHOICE. -/
def bodyBellSet (c : Call) (s : State) : CmdRes :=
  let b := c.b 16
  if bellPart b ≠ c.part.toNat then .no sPerm s
  else if c.bit 17 2 && decide (2 ^ 19 < c.le 28 4) then .no sParam s
  else if decide (c.b 17 % 8 ≠ 0) && !bellIdle s b then .no sState s
  else
    let st := (s.reg (aBelStat b)).toNat
    let s := if c.bit 17 0 then hostCount b (c.le 20 4) s else s
    let s := if c.bit 17 1 then s.setReg (aBelTgt b) (BitVec.ofNat 32 (c.le 24 4)) else s
    let s := if c.bit 17 2 then s.setReg (aBelCfg b) (BitVec.ofNat 32 (c.le 28 4)) else s
    let s := if c.bit 17 3 then s.setBit (aBelStat b) 30 (c.bit 18 0) else s
    .done sOk (leBytes 4 st) s

/-- BELL_SET (0x14). -/
def execBellSet (c : Call) (s : State) : Out := .next (runCmd 0x14 callT bodyBellSet c s)

def bodyBellStrike (c : Call) (s : State) : CmdRes :=
  if bellPart (c.b 16) ≠ c.part.toNat then .no sPerm s else .done sOk [] (sendStrike (c.b 16) (fnUnit c.fn) none s)

/-- BELL_STRIKE (0x15): the strike reaches the queue with ARRIVAL and acts under R200 or R201. -/
def execBellStrike (c : Call) (s : State) : Out := .next (runCmd 0x15 callT bodyBellStrike c s)

def bodyBellWait (c : Call) (s : State) : CmdRes :=
  if bellPart (c.b 16) ≠ c.part.toNat then .no sPerm s
  else if c.le 24 4 = 0 ∨ 10 ^ 7 < c.le 24 4 then .no sParam s
  else if 8 < (s.host.outst.filter (fun o => decide (o.op = 0x16) && decide (o.call.fn = c.fn))).length then .no sResource s
  else .long { a := c.b 16, b := c.le 20 4 } s

/-- BELL_WAIT (0x16): the wait is not planned and ends with BELL_WAIT_END or BELL_WAIT_TIMEOUT (R640). -/
def execBellWait (c : Call) (s : State) : Out := .next (runCmd 0x16 callT bodyBellWait c s)

/-- BELL_WAIT_END: COUNT has reached THRESH on this MCLK edge. -/
def execBellWaitEnd (i : Nat) (s : State) : Out :=
  match outstAt s i [0x16] with
  | none => .next s
  | some o =>
    .next (if o.b ≤ bellCount s o.a then finishO o sOk (leBytes 4 (bellCount s o.a) ++ zeros 4 ++ leBytes 8 s.toll.now.toNat) s else s)

/-- BELL_WAIT_TIMEOUT: TIMEOUT µs have passed, and COUNT has not reached THRESH. -/
def execBellWaitTimeout (i : Nat) (s : State) : Out :=
  match outstAt s i [0x16] with
  | none => .next s
  | some o => .next (if o.b ≤ bellCount s o.a then s else finishO o sTimeout [] s)

end Sys2Proof.Machine
end

