-- ==== Sys2Proof/Machine/RollCodec.lean ====
section
/-! DEFINITION. The Roll format (chapter 15): block headers, canonical prefix codes, tokens, the decoder with its named errors
(R502), salvage search (R504), and blocks as the device encoder emits them (R498 to R501). -/

namespace Sys2Proof.Machine

/-! ### Error codes (Table 15-5) -/
def rlNone : Nat := 0
def rlHeader : Nat := 1
def rlTruncated : Nat := 2
def rlLimit : Nat := 3
def rlTable : Nat := 4
def rlIllegal : Nat := 5
def rlLength : Nat := 6
def rlDistance : Nat := 7
def rlCheck : Nat := 8
def rlPoison : Nat := 9

/-- Original bytes of a block at most (R490, R506). -/
def rlMax : Nat := 262144
def rlDmaMax : Nat := 65536

/-! ### Headers (Table 15-2) -/

structure RollHdr where
  flags : Nat := 0
  olen : Nat := 0
  clen : Nat := 0
  seq : Nat := 0
  deriving DecidableEq, Repr

def xorBytesAll (l : List Byte) : Byte := l.foldl (· ^^^ ·) 0

/-- The HEADER test on 16 bytes, for a path whose blocks hold at most `maxOlen` original bytes. -/
def rollHdr (maxOlen : Nat) (b : List Byte) : Option RollHdr :=
  let h : RollHdr := { flags := byteAt b 3, olen := leAt b 4 4, clen := leAt b 8 4, seq := leAt b 12 2 }
  if b.length < 16 then none
  else if byteAt b 0 = 0x52 ∧ byteAt b 1 = 0xB1 ∧ byteAt b 2 = 1 ∧ h.flags < 8 ∧ ¬ (h.flags % 4 = 3) ∧
      1 ≤ h.olen ∧ h.olen ≤ maxOlen ∧ 1 ≤ h.clen ∧ h.clen ≤ rlMax ∧ (h.flags % 2 = 1 → h.clen = h.olen) ∧
      byteAt b 14 = 0 ∧ (b.getD 15 0) = xorBytesAll (b.take 15) then some h
  else none

/-! ### Prefix codes (R492 to R495) -/

/-- Bits of a body: bit i is bit (i mod 8) of byte ⌊i/8⌋ (R491). -/
def bodyBits (b : List Byte) : List Bool := b.flatMap (fun x => (List.range 8).map (fun i => x.getLsbD i))

def bitsNat (l : List Bool) : Nat := l.foldr (fun b n => b2n b + 2 * n) 0

inductive Sym where
  | sym (v : Nat) (rest : List Bool)
  | illegal
  | exhausted
  deriving DecidableEq, Repr

/-- Symbols with codes of one length, ascending. -/
def symsOf (lens : List Nat) (l : Nat) : List Nat := (List.range lens.length).filter (fun i => decide (lens.getD i 0 = l))

/-- Read a canonical code: at length l the code read so far and the first code of that length. -/
def readSym (lens : List Nat) : Nat → Nat → Nat → Nat → List Bool → Sym
  | 0, _, _, _, _ => .illegal
  | fuel + 1, l, code, first, bits =>
    if lens.all (fun x => decide (x < l)) then .illegal
    else match bits with
      | [] => .exhausted
      | b :: r =>
        let c := 2 * code + b2n b
        let ss := symsOf lens l
        if first ≤ c ∧ c - first < ss.length then .sym (ss.getD (c - first) 0) r
        else readSym lens fuel (l + 1) c (2 * (first + ss.length)) r

def nextSym (lens : List Nat) (bits : List Bool) : Sym := readSym lens 15 1 0 0 bits

/-- Length or distance of a symbol with its extra bits (R493). -/
def symValue (v : Nat) (bits : List Bool) : Option (Nat × List Bool) :=
  if v ≤ 3 then some (v + 1, bits)
  else
    let x := (v - 2) / 2
    if bits.length < x then none else some ((2 + v % 2) * 2 ^ x + 1 + bitsNat (bits.take x), bits.drop x)

structure RollTabs where
  k : List Nat := []
  l : List Nat := []
  d : List Nat := []
  deriving DecidableEq, Repr

/-- Table 15-3. -/
def staticTabs : RollTabs :=
  { k := [4, 2, 3, 4, 3, 4, 4, 5, 4, 5, 3, 0, 0, 0, 0, 0],
    l := List.replicate 8 4 ++ List.replicate 8 5 ++ List.replicate 12 6 ++ List.replicate 8 7,
    d := List.replicate 32 5 }

/-- Σ 2^(15 - length) over the coded symbols. -/
def kraft (lens : List Nat) : Nat := lens.foldl (fun a l => if l = 0 then a else a + 2 ^ (15 - l)) 0
/-- Log entry 63, DESIGN CHOICE. -/
def codesOk (lens : List Nat) : Bool :=
  decide (kraft lens = 2 ^ 15) || lens.all (fun l => decide (l = 0)) ||
  (decide ((lens.filter (fun l => decide (l ≠ 0))).length = 1) && lens.any (fun l => decide (l = 1)))

/-- Dynamic tables (R495): 84 lengths of 4 bits. -/
def dynTabs (bits : List Bool) : Option (RollTabs × List Bool) :=
  if bits.length < 336 then none
  else
    let ls := (List.range 84).map (fun i => bitsNat ((bits.drop (4 * i)).take 4))
    let t : RollTabs := { k := ls.take 16, l := (ls.drop 16).take 36, d := ls.drop 52 }
    if (t.k.drop 11).all (fun x => decide (x = 0)) && decide (kraft t.k = 2 ^ 15) && codesOk t.l && codesOk t.d then some (t, bits.drop 336) else none

/-! ### Tokens (R496, R497) -/

/-- Element width of ZERO and REP kinds 2 to 9. -/
def elemWidth (k : Nat) : Nat := 2 ^ ((k - 2) % 4)

def copyOut (d : Nat) : Nat → List Byte → List Byte
  | 0, out => out
  | n + 1, out => copyOut d n (out ++ [out.getD (out.length - d) 0])

/-- One token after its K code and length: what it appends, or the error. -/
def tokenOut (t : RollTabs) (k n : Nat) (bits : List Bool) (out : List Byte) : Except Nat (List Byte × List Bool) :=
  let bytes (m : Nat) : List Byte := (List.range m).map (fun i => bite8 (bitsNat ((bits.drop (8 * i)).take 8)))
  if k = 1 then
    if bits.length < 8 * n then .error rlLength else .ok (out ++ bytes n, bits.drop (8 * n))
  else if k = 10 then
    match nextSym t.d bits with
    | .illegal => .error rlIllegal
    | .exhausted => .error rlLength
    | .sym v r =>
      match symValue v r with
      | none => .error rlLength
      | some (d, r') => if out.length < d then .error rlDistance else .ok (copyOut d n out, r')
  else if k < 6 then .ok (out ++ List.replicate (n * elemWidth k) 0, bits)
  else
    let e := elemWidth k
    if bits.length < 8 * e then .error rlLength else .ok (out ++ (List.replicate n (bytes e)).flatMap id, bits.drop (8 * e))
where
  bite8 (n : Nat) : Byte := BitVec.ofNat 8 n

/-- The token stream of a block (R502): its output, or the first error. -/
def tokens (t : RollTabs) (olen : Nat) : Nat → List Bool → List Byte → Except Nat (List Byte)
  | 0, _, _ => .error rlLength
  | fuel + 1, bits, out =>
    match nextSym t.k bits with
    | .illegal => .error rlIllegal
    | .exhausted => .error rlLength
    | .sym k r =>
      if k = 0 then
        (if out.length = olen ∧ r.length < 8 ∧ r.all (fun b => !b) then .ok out else .error rlLength)
      else if 11 ≤ k then .error rlIllegal
      else
        match nextSym t.l r with
        | .illegal => .error rlIllegal
        | .exhausted => .error rlLength
        | .sym v r2 =>
          match symValue v r2 with
          | none => .error rlLength
          | some (n, r3) =>
            let w := if k = 1 ∨ k = 10 then 1 else elemWidth k
            if olen < out.length + n * w then .error rlLength
            else match tokenOut t k n r3 out with
              | .error e => .error e
              | .ok x => tokens t olen fuel x.2 x.1

/-- The body of a block: its original bytes, or the error. -/
def decodeBody (h : RollHdr) (body : List Byte) : Except Nat (List Byte) :=
  if h.flags % 2 = 1 then .ok body
  else
    let bits := bodyBits body
    if h.flags / 2 % 2 = 1 then
      match dynTabs bits with
      | none => .error rlTable
      | some x => tokens x.1 h.olen (x.2.length + 1) x.2 []
    else tokens staticTabs h.olen (bits.length + 1) bits []

/-! ### Blocks -/

/-- What decoding one block comes to: error code, header when its test passed, output. -/
structure BlockRes where
  err : Nat := 0
  hdr : Option RollHdr := none
  out : List Byte := []
  deriving DecidableEq, Repr

/-- Decode the block at offset p (R502). `bad` tells input bytes that a poisoned line holds; `limit` is the output still
allowed and `ratio` RATIO_SHIFT (R505). (log entry 63, DESIGN CHOICE) -/
def decodeBlock (maxOlen limit ratio : Nat) (inp : List Byte) (bad : Nat → Bool) (p : Nat) : BlockRes :=
  if (List.range 16).any (fun i => bad (p + i)) then { err := rlPoison }
  else match rollHdr maxOlen ((inp.drop p).take 16) with
    | none => { err := rlHeader }
    | some h =>
      if inp.length < p + 20 + h.clen then { err := rlTruncated, hdr := some h }
      else if limit < h.olen ∨ (ratio < 15 ∧ 2 ^ ratio * (20 + h.clen) < h.olen) then { err := rlLimit, hdr := some h }
      else if (List.range (20 + h.clen)).any (fun i => bad (p + i)) then { err := rlPoison, hdr := some h }
      else match decodeBody h ((inp.drop (p + 16)).take h.clen) with
        | .error e => { err := e, hdr := some h }
        | .ok out =>
          if crc32c out = leAt inp (p + 16 + h.clen) 4 then { hdr := some h, out := out } else { err := rlCheck, hdr := some h }

/-- The next offset from p whose 16 bytes pass the HEADER test (R504). -/
def nextHeader (maxOlen : Nat) (inp : List Byte) (bad : Nat → Bool) (p : Nat) : Option Nat :=
  ((List.range (inp.length + 1 - (p + 16))).map (p + ·)).find? (fun q =>
    !(List.range 16).any (fun i => bad (q + i)) && (rollHdr maxOlen ((inp.drop q).take 16)).isSome)

/-- A block with its header and trailer (R490). -/
def rollBlockBytes (flags seq : Nat) (orig body : List Byte) : List Byte :=
  let h := [0x52, 0xB1, 0x01, BitVec.ofNat 8 flags] ++ leBytes 4 orig.length ++ leBytes 4 body.length ++ leBytes 2 seq ++ [0]
  h ++ [xorBytesAll h] ++ body ++ leBytes 4 (crc32c orig)

/-- The body that the device encoder chooses for original data under TABLE (R500): true for dynamic tables. Which tokens it
emits is its own fixed choice. -/
def encodeBody (table : Nat) (orig : List Byte) : Bool × List Byte :=
  let st := Config.rollEncode 0 orig
  let dy := Config.rollEncode 1 orig
  match table with
  | 0 => (false, st)
  | 1 => (true, dy)
  | _ => if dy.length < st.length then (true, dy) else (false, st)

/-- A block as the engine releases it (R499, R501), and whether its own check made it RAW. `bad` says that the engine's
comparison fails. -/
def encodeBlock (table seq : Nat) (flushed bad : Bool) (orig : List Byte) : List Byte × Bool :=
  let x := encodeBody table orig
  let fl := 4 * b2n flushed
  let raw := rollBlockBytes (1 + fl) seq orig orig
  if x.2 = [] ∨ orig.length ≤ x.2.length then (raw, false)
  else
    let b := rollBlockBytes (2 * b2n x.1 + fl) seq orig x.2
    if !bad && decide (decodeBlock rlMax rlMax 15 b (fun _ => false) 0 = { hdr := rollHdr rlMax b, out := orig }) then (b, false) else (raw, true)

end Sys2Proof.Machine
end

