-- ==== Sys2Proof/Machine/Roll.lean ====
section
/-! DEFINITION. Roll engines (chapter 15): binding and grants, the DMA path, trace streams, jobs, and their abort. -/

namespace Sys2Proof.Machine

def rolUnit (r : Nat) : Nat := 0x850 + r
def rolBind (s : State) (r : Nat) : Nat := s.rf (aRol r 0) 30 2
def rolGrant (s : State) (r : Nat) : Nat := s.rf (aRol r 0) 24 4
def rolTable (s : State) (r : Nat) : Nat := s.rf (aRol r 0) 18 2
def rolRatio (s : State) (r : Nat) : Nat := s.rf (aRol r 0) 14 4
def jobBusy (s : State) (r : Nat) : Bool := s.rbit (aRol r 0x10) 30

/-- The function that uses a granted engine (R487, R513): PF0 for the operator, the VF of a held partition. -/
def rolWriter (s : State) (f r : Nat) : Bool :=
  let g := rolGrant s r
  if g = 8 then decide (f = 0) else decide (g < 8) && held s g && decide (f = g + 1)

/-- The tensor engine of a slip domain (R487): the lowest granted to its lowest partition. -/
def domEngine (s : State) (d : Nat) : Option Nat :=
  (List.range 4).find? (fun r => enginePresent s r && decide (rolBind s r = 1) && decide (rolGrant s r = d))

/-- Occurrences of ROLL records that engine r still has to serve, in issue order (R508); a halted domain's are discarded
(R516). -/
def rollOccs (s : State) (r : Nat) : List DmaRt :=
  s.dmas.filter (fun x => x.roll && decide (domEngine s (domLow s x.part) = some r) && decide (plnState s (domLow s x.part) ≠ stHalted) &&
    (if x.outb then decide (x.left ≠ 0) || decide (x.words ≠ []) else decide (x.sent < x.left)))

/-- The enabled channel that an engine serves (R489). -/
def rolChan (s : State) (r : Nat) : Option Nat := (List.range 24).find? (fun n => chanPresent s n && chOn s n && rollOn s n && decide (chEngine s n = r))
/-- A channel whose stream the engine still holds bytes of. -/
def rolStream (s : State) (r : Nat) : Option Nat :=
  (List.range 24).find? (fun n => chanPresent s n && rollStream s n && decide (chEngine s n = r) && decide (rollBase (chRt s n) < (chRt s n).bytePos))

/-- BUSY of ROL_r_STAT: a block, occurrence or job is in progress. -/
def rolBusy (s : State) (r : Nat) : Bool :=
  jobBusy s r || decide (rollOccs s r ≠ []) || ((List.range 24).any (fun n => rollStream s n && decide (chEngine s n = r) && decide ((chRt s n).rbuf ≠ [])))

/-- A resident context of the granted partition holds a ROLL record (R488, R510). -/
def rollResident (s : State) (r : Nat) : Bool :=
  let g := rolGrant s r
  decide (g < 8) && s.plan.resident.any (fun x => x.mask.testBit g && x.ctx.dmas.any dmRoll)

/-- Idle under R488. -/
def rolIdle (s : State) (r : Nat) : Bool := !jobBusy s r && (rolChan s r).isNone && !rollResident s r

/-! ### Blocks of the DMA path (R506 to R509) -/

/-- Log entry 65, DESIGN CHOICE. -/
def countBlock (s : State) : State := countDevice 0xC9 0 1 s
def countFallback (r : Nat) (fell : Bool) (s : State) : State := if fell then s.countSat (aRol r 4) 0 16 1 else s

/-- Words of an inbound occurrence set out towards the queue of its LBD port. -/
def rollEnter (x : DmaRt) (ws : List (List Byte × Nat)) (s : State) : State :=
  let q := 32 * x.part + x.lbd
  { s with xing := tabSet (fun _ => []) q (tabGet (fun _ => []) s.xing q ++ ws.map (fun w => (EntryData.word w.1 w.2, x.old))) s.xing }

/-- A block fails: poison for it and for every remaining word, and its capture (R509). -/
def rollFail (r code seq : Nat) (x : DmaRt) (s : State) : State :=
  let d := domLow s x.part
  let s := capture (aRol r 8) (aRol r 0xC) (BitVec.ofNat 32 (code * 2 ^ 26 + d * 2 ^ 16 + seq)) (BitVec.ofNat 32 (scOf s d).toNat) s
  let s := rollEnter x (List.replicate (x.left - x.sent) (zeros 64, 7 + 8 * r)) s
  putDma x { x with sent := x.left, dec := [] } s

/-- The lines of an inbound occurrence as the engine's input. -/
def rollInput (x : DmaRt) : List Byte := (x.words.flatMap (fun w => padTo 128 w.1)).drop (x.off % 128)
def rollBadAt (x : DmaRt) (i : Nat) : Bool := decide ((x.words.getD ((x.off % 128 + i) / 128) ([], 0)).2 ≠ 0)
/-- The lines of bytes [a, b) of the stream have returned. -/
def rollBack (x : DmaRt) (a b : Nat) : Bool :=
  (List.range ((x.off % 128 + b + 127) / 128)).all (fun i => decide (i < (x.off % 128 + a) / 128) || x.back.contains (x.off / 128 + i) || decide (x.words.length ≤ i))

/-- Decode the next block of an inbound occurrence, once its lines are there. (log entry 63, DESIGN CHOICE) -/
def rollInBlock (r : Nat) (x : DmaRt) (s : State) : State :=
  let inp := rollInput x
  if !rollBack x x.pos (x.pos + 16) then s
  else if inp.length < x.pos + 16 then countBlock (rollFail r rlLength 0xFFFF x s)
  else
    let need := match rollHdr rlDmaMax ((inp.drop x.pos).take 16) with | some h => 20 + h.clen | none => 16
    if !rollBack x x.pos (min (x.pos + need) inp.length) then s
    else
      let b := decodeBlock rlDmaMax rlMax (rolRatio s r) inp (rollBadAt x) x.pos
      let seq := match b.hdr with | some h => h.seq | none => 0xFFFF
      let s := countBlock s
      if b.err ≠ 0 then rollFail r b.err seq x s
      else if 64 * x.left < 64 * x.sent + x.dec.length + b.out.length then rollFail r rlLength seq x s
      else
        let all := x.dec ++ b.out
        let n := all.length / 64
        let ws := (List.range n).map (fun i => ((all.drop (64 * i)).take 64, 0))
        putDma x { x with pos := x.pos + need, sent := x.sent + n, dec := all.drop (64 * n) } (rollEnter x ws s)

/-- Write the encoded bytes of an outbound occurrence that fill lines, the last one padded with zeros (R506). -/
def rollWrite (x : DmaRt) (last : Bool) (s : State) : DmaRt × State :=
  let u := 0x800 + 8 * x.part + x.lbd
  let b := if last then x.dec ++ zeros ((128 - (x.off + x.pos + x.dec.length) % 128) % 128) else x.dec
  let n := if last then b.length else b.length - (x.off + x.pos + b.length) % 128
  let w := writeBytes 0 x.part x.region (x.off + x.pos) (b.take n) s
  let s := countDevice 0xC0 x.part (slotsOf (rgnProt s x.part x.region) true true * ((n + 127) / 128)) w.2
  let s := countUnit u 0x41 ((n + 127) / 128) s
  let s := if w.1 = 5 then memFault x.part 5 ((x.off + x.pos) / 128) s else s
  let s := lineTap u x.part x.region ((x.off + x.pos) / 128) true false ((b.take n).take 128) s
  let s := forL (lineSpan (x.off + x.pos) n) (refreshReads x) s
  ({ x with pos := x.pos + n, dec := b.drop n }, s)

/-- Encode the next block of an outbound occurrence, once it has its words. -/
def rollOutBlock (r : Nat) (bad : Bool) (x : DmaRt) (s : State) : State :=
  if (x.words.length < 1024 ∧ (x.left ≠ 0 ∨ x.words = [])) ∨ x.lines.any (fun l => dmaBehind x l s) then s
  else
    let n := min 1024 x.words.length
    let orig := (x.words.take n).flatMap (fun w => padTo 64 w.1)
    let e := encodeBlock (rolTable s r) (x.sent / 1024 % 2 ^ 16) false bad orig
    let y := { x with words := x.words.drop n, sent := x.sent + n, dec := x.dec ++ e.1 }
    let w := rollWrite y (decide (y.words = []) && decide (y.left = 0)) s
    putDma x w.1 (countBlock (countFallback r e.2 w.2))

/-! ### Blocks of trace streams (R460, R461, R514) -/

/-- Packets that begin in the stream bytes [a, b). -/
def packetsIn (r : ChRt) (a b : Nat) : Nat := (r.marks.filter (fun m => decide (a ≤ m) && decide (m < b))).length

/-- The engine takes stream bytes and releases a block at its limit or at a flush. `ev` 1 says that its comparison fails, 2
that its latch arrays hold an uncorrectable error (R518). -/
def rollChanBlock (e n ev : Nat) (s : State) : State :=
  let c := chRt s n
  let k := min (rlMax - c.rbuf.length) c.buf.length
  let c := { c with rbuf := c.rbuf ++ c.buf.take k, buf := c.buf.drop k }
  let s := refreshFull n (setChRt n c s)
  let base := rollBase c
  let len := match c.flushes.head? with | some f => min rlMax (f.1 - base) | none => rlMax
  if len = 0 ∨ c.rbuf.length < len then s
  else
    let fl := c.flushes.any (fun f => decide (f.1 = base + len))
    let c' := { c with rbuf := c.rbuf.drop len, flushes := c.flushes.filter (fun f => decide (base + len < f.1)),
                       marks := c.marks.filter (fun m => decide (base + len ≤ m)) }
    if ev = 2 then
      -- the block is discarded and its packets count with cause SRAM
      let pk := packetsIn c base (base + len)
      forN (max pk 1) (fun i s => loseTo n 3 (if i = 0 then len else 0) s) (setChRt n c' s)
    else
      let b := encodeBlock (rolTable s e) (c.rseq % 2 ^ 16) (fl && decide (len < rlMax)) (decide (ev = 1)) (c.rbuf.take len)
      let at' := c.zpos + c.zbuf.length
      let stop := at' + b.1.length
      let c' := { c' with zbuf := c.zbuf ++ b.1, rseq := c.rseq + 1, zmarks := c.zmarks ++ [at'],
                          zflush := if fl then c.zflush ++ [stop] else c.zflush,
                          zend := match c.endPos with | some p => if base < p ∧ p ≤ base + len then some stop else c.zend | none => c.zend }
      countBlock (countFallback e b.2 (setChRt n c' s))

/-- ROLL_BLOCK: engine r does one block of what it serves (R508, R460). `ev`: 0 nothing, 1 its comparison of R501 fails, 2
an uncorrectable error in its latch arrays (R518). (log entry 65, DESIGN CHOICE) -/
def execRollBlock (r ev : Nat) (s : State) : Out :=
  if !decide (r < 4) then .fault (.noSuchInstance "engine" r)
  else if !enginePresent s r then .next s
  else
    let s := forL ((rollOccs s r).map (fun x => domLow s x.part)).eraseDups (fun d s => pumpAll d s) s
    let s := if ev = 2 && jobBusy s r then stopJob r s else s
    .next (match rolStream s r with
      | some n => rollChanBlock r n ev s
      | none =>
        match rollOccs s r with
        | [] => s
        | x :: _ =>
          if ev = 2 then storageFault (domLow s x.part) 5 (rolUnit r) 0 s
          else if x.outb then rollOutBlock r (decide (ev = 1)) x s else rollInBlock r x s)
where
  /-- A job stops before its end (Table 15-7): the command that began it ends with what was done. -/
  stopJob (r : Nat) (s : State) : State :=
    let s := ((s.setBit (aRol r 0x10) 30 false).setBit (aRol r 0x10) 10 true).setBit (aRol r 0x10) 11 true
    finishWhere (fun o => o.acc && decide (o.op = 0x37) && decide (o.a = r)) sFault s

/-! ### Jobs (R510 to R512) -/

/-- The job interrupt of an engine's grantee (Table 18-4). (log entry 64, DESIGN CHOICE) -/
def jobIrq (r : Nat) (s : State) : State :=
  let g := rolGrant s r
  if g < 8 ∧ held s g = true ∧ g + 1 ≤ s.host.numVf then raise (g + 1) 6 s else raise 0 8 s

/-- Half-stack of a job: the granted partition's, or the one that the operator names. (log entry 64, DESIGN CHOICE) -/
def jobHs (s : State) (r : Nat) : Nat := if rolGrant s r < 8 then rolGrant s r else s.rf (aRol r 0x10) 7 3

/-- A region that a job may reach, and bytes [off, off + len) within it (R273, R510). -/
def jobRgnOk (s : State) (g h rg off len : Nat) : Bool :=
  rgnValid s h rg && decide (off + len ≤ rgnUsable s h rg) &&
  (if g < 8 then decide (1 ≤ rg) && decide (rg ≤ 14) else decide (rg = 15) || (hsPresent s h && !partPresent s h))

structure JobCfg where
  enc : Bool := false
  salvage : Bool := false
  src : Nat := 0
  dst : Nat := 0
  err : Nat := 0
  hs : Nat := 0
  srcOff : Nat := 0
  len : Nat := 0
  dstOff : Nat := 0
  max : Nat := 0
  errExp : Nat := 0
  errOff : Nat := 0
  deriving DecidableEq, Repr

/-- The job registers of engine r (Table 15-7). -/
def jobCfg (s : State) (r : Nat) : JobCfg :=
  let c := aRol r 0x10
  { enc := s.rbit c 29, salvage := s.rbit c 28, src := s.rf c 24 4, dst := s.rf c 20 4, err := s.rf c 16 4, hs := jobHs s r,
    srcOff := 64 * s.rf (aRol r 0x14) 0 28, len := (s.reg (aRol r 0x18)).toNat, dstOff := 64 * s.rf (aRol r 0x1C) 0 28,
    max := (s.reg (aRol r 0x20)).toNat, errExp := s.rf (aRol r 0x24) 28 4, errOff := 64 * s.rf (aRol r 0x24) 0 28 }

/-- Regions and extents of a job (R273, R510): the output may take up to MAX bytes, the error list 16 bytes a record.
(log entry 84, DESIGN CHOICE) -/
def jobOk (s : State) (r : Nat) (j : JobCfg) : Bool :=
  let g := rolGrant s r
  decide (rolBind s r = 1) && decide (j.max ≠ 0) && jobRgnOk s g j.hs j.src j.srcOff j.len && jobRgnOk s g j.hs j.dst j.dstOff 0 &&
  (!j.salvage || j.enc || jobRgnOk s g j.hs j.err j.errOff (16 * 2 ^ j.errExp))
def jobWaits (s : State) (j : JobCfg) : Bool := rgnBusy s j.hs j.src || rgnBusy s j.hs j.dst

/-- A job begins: GO clears, BUSY is set, the counts start at zero. -/
def startJob (r : Nat) (s : State) : State :=
  let c := aRol r 0x10
  let s := (((s.setBit c 31 false).setBit c 30 true).setBit c 10 false).put c 12 4 0
  ((s.setReg (aRol r 0x28) 0).setReg (aRol r 0x2C) 0).setReg (aRol r 0x30) 0

/-- A write of ROL_r_JCTL (R510, R513). (log entry 65, DESIGN CHOICE) -/
def writeJctl (r : Nat) (w : RegW) (v : Word) (s : State) : State :=
  let c := aRol r 0x10
  let s := if bit v 11 then s.setBit c 11 false else s
  if jobBusy s r then (if bit v 31 then refuse flagState w s else s)
  else
    let keep := s.reg c &&& 0x0000FC00#32
    let s := s.setReg c ((v &&& 0x3FFF0380#32) ||| keep)
    if !bit v 31 then s
    else if rollResident s r || rolBusy s r || !jobOk s r (jobCfg s r) || jobWaits s (jobCfg s r) then refuse flagState w s
    else startJob r s

structure JobSt where
  p : Nat := 0
  out : List Byte := []
  blocks : Nat := 0
  errs : List (Nat × Nat × Nat × Nat) := []
  first : Nat := 0
  stopped : Bool := false
  fell : Nat := 0
  deriving DecidableEq, Repr

/-- Note a failing block: input offset, output offset, code, SEQ. -/
def JobSt.fail (x : JobSt) (code seq : Nat) : JobSt :=
  { x with blocks := x.blocks + 1, errs := x.errs ++ [(x.p, x.out.length, code, seq)], first := if x.first = 0 then code else x.first }

/-- A decode job, block by block (R503, R504, R511). (log entry 63, DESIGN CHOICE) -/
def decodeJob (j : JobCfg) (ratio : Nat) (inp : List Byte) (bad : Nat → Bool) : Nat → JobSt → JobSt
  | 0, x => x
  | fuel + 1, x =>
    if inp.length ≤ x.p then x
    else if inp.length < x.p + 16 then { x.fail rlTruncated 0xFFFF with stopped := !j.salvage }
    else
      let b := decodeBlock rlMax (j.max - x.out.length) ratio inp bad x.p
      match b.hdr with
      | some h =>
        if b.err = 0 then decodeJob j ratio inp bad fuel { x with p := x.p + 20 + h.clen, out := x.out ++ b.out, blocks := x.blocks + 1 }
        else
          let y := x.fail b.err h.seq
          if !j.salvage || decide (b.err = rlLimit) then { y with stopped := true }
          else
            let z := if x.out.length + h.olen ≤ j.max then { y with out := y.out ++ zeros h.olen } else y
            if b.err = rlTruncated then z else decodeJob j ratio inp bad fuel { z with p := x.p + 20 + h.clen }
      | none =>
        let y := x.fail b.err 0xFFFF
        if !j.salvage then { y with stopped := true }
        else match nextHeader rlMax inp bad (x.p + 1) with
          | none => y
          | some q => decodeJob j ratio inp bad fuel { y with p := q }

/-- An encode job (R511): blocks of 262,144 original bytes. -/
def encodeJob (j : JobCfg) (table : Nat) (inp : List Byte) (bad : Nat → Bool) : Nat → JobSt → JobSt
  | 0, x => x
  | fuel + 1, x =>
    if inp.length ≤ x.p then x
    else
      let orig := (inp.drop x.p).take rlMax
      if (List.range orig.length).any (fun i => bad (x.p + i)) then { x.fail rlPoison (x.blocks % 2 ^ 16) with stopped := true }
      else
        let e := encodeBlock table (x.blocks % 2 ^ 16) false false orig
        if j.max < x.out.length + e.1.length then { x.fail rlLimit (x.blocks % 2 ^ 16) with stopped := true }
        else encodeJob j table inp bad fuel { x with p := x.p + orig.length, out := x.out ++ e.1, blocks := x.blocks + 1, fell := x.fell + b2n e.2 }

/-- Error record of R512. -/
def jobRecord (e : Nat × Nat × Nat × Nat) : List Byte :=
  leBytes 5 e.1 ++ leBytes 5 e.2.1 ++ [bite e.2.2.1, 0] ++ leBytes 2 e.2.2.2 ++ zeros 2

/-- ROLL_JOB_DONE: the job of engine r has run and ends (R511, R512). (log entry 64, DESIGN CHOICE) -/
def execRollJobDone (r : Nat) (s : State) : Out :=
  if !decide (r < 4) then .fault (.noSuchInstance "engine" r)
  else if !jobBusy s r || inSafe s then .next s
  else
    let j := jobCfg s r
    let rd := readBytes 1 j.hs j.src j.srcOff j.len s
    let badLine (l : Nat) : Bool := decide ((readLine s j.hs j.src l false).1 ≠ 0)
    let bad (i : Nat) : Bool := badLine ((j.srcOff + i) / 128)
    let s := rd.2.2
    let inp := if rd.1 = 0 then rd.2.1 else padTo j.len rd.2.1
    let x := if j.enc then encodeJob j (rolTable s r) inp bad (inp.length + 1) {} else decodeJob j (rolRatio s r) inp bad (inp.length + 1) {}
    let out := if rgnUsable s j.hs j.dst < j.dstOff + x.out.length then x.out.take (rgnUsable s j.hs j.dst - j.dstOff) else x.out
    let s := (writeBytes 1 j.hs j.dst j.dstOff out s).2
    let s := if j.salvage && !j.enc then (writeBytes 1 j.hs j.err j.errOff ((x.errs.take (2 ^ j.errExp)).flatMap jobRecord) s).2 else s
    let c := aRol r 0x10
    let s := (((s.setBit c 30 false).setBit c 10 x.stopped).put c 12 4 x.first).setBit c 11 true
    let s := ((s.setReg (aRol r 0x28) (BitVec.ofNat 32 out.length)).setReg (aRol r 0x2C) (BitVec.ofNat 32 x.blocks)).setReg (aRol r 0x30) (BitVec.ofNat 32 x.errs.length)
    let s := s.countSat (aRol r 4) 0 16 x.fell
    let s := countDevice 0xC9 0 x.blocks s
    let st := if !x.stopped then sOk else if x.first = rlLimit ∨ x.errs.any (fun e => decide (e.2.2.1 = rlLimit)) then sResource else sIntegrity
    let res := leBytes 4 out.length ++ leBytes 4 x.blocks ++ leBytes 4 x.errs.length ++ [bite x.first]
    let s := forL (s.host.outst.filter (fun o => o.acc && decide (o.op = 0x37) && decide (o.a = r))) (fun o s => finishO o st res s) s
    .next (jobIrq r s)

/-- Caller class G (R513); an absent engine is left to the row's first check (R642). -/
def callG (c : Call) (s : State) : Bool := !enginePresent s (c.b 16) || rolWriter s c.fn (c.b 16)

/-- Log entry 65, DESIGN CHOICE. -/
def bodyRollJob (c : Call) (s : State) : CmdRes :=
  let r := c.b 16
  if !enginePresent s r then .no sAbsent s
  else
    let g := rolGrant s r
    let h := if g < 8 then g else c.b 21
    let j : JobCfg := { enc := c.bit 17 0, salvage := c.bit 17 1, src := c.b 18, dst := c.b 19, err := c.b 20, hs := h, srcOff := 64 * c.le 24 4,
                        dstOff := 64 * c.le 28 4, len := c.le 32 4, max := c.le 36 4, errExp := c.b 22, errOff := 64 * c.le 40 4 }
    if decide (16 ≤ c.b 18) || decide (16 ≤ c.b 19) || decide (16 ≤ c.b 20) || decide (8 ≤ c.b 21) || decide (16 ≤ c.b 22) || decide (2 ^ 28 ≤ c.le 24 4) ||
        decide (2 ^ 28 ≤ c.le 28 4) || decide (2 ^ 28 ≤ c.le 40 4) || !jobOk s r j then .no sParam s
    else if rollResident s r || rolBusy s r || jobWaits s j then .no sBusy s
    else
      let v := b2n j.enc * 2 ^ 29 + b2n j.salvage * 2 ^ 28 + j.src * 2 ^ 24 + j.dst * 2 ^ 20 + j.err * 2 ^ 16 + (c.b 21 % 8) * 2 ^ 7
      let c10 := aRol r 0x10
      let s := s.setReg c10 (BitVec.ofNat 32 v ||| (s.reg c10 &&& 0x00000800#32))
      let s := ((s.setReg (aRol r 0x14) (BitVec.ofNat 32 (c.le 24 4))).setReg (aRol r 0x18) (BitVec.ofNat 32 j.len)).setReg (aRol r 0x1C) (BitVec.ofNat 32 (c.le 28 4))
      let s := (s.setReg (aRol r 0x20) (BitVec.ofNat 32 j.max)).setReg (aRol r 0x24) (BitVec.ofNat 32 (j.errExp * 2 ^ 28 + c.le 40 4))
      .long { a := r } (startJob r s)

/-- ROLL_JOB (0x37): the job registers are written and the job begins (R510). -/
def execRollJob (c : Call) (s : State) : Out := .next (runCmd 0x37 callG bodyRollJob c s)

/-! ### Grants (R488) -/

def bindOk (b : Nat) : Bool := decide (b ≤ 1)
def grantOk (g : Nat) : Bool := decide (g ≤ 8) || decide (g = 15)

def bodyRollGrant (c : Call) (s : State) : CmdRes :=
  let r := c.b 16
  if !enginePresent s r then .no sAbsent s
  else if !bindOk (c.b 17) || !grantOk (c.b 18) then .no sParam s
  else if decide (c.b 18 < 8) && !partPresent s (c.b 18) then .no sAbsent s
  else if !rolIdle s r then .no sState s
  else .done sOk [] ((s.put (aRol r 0) 30 2 (c.b 17)).put (aRol r 0) 24 4 (c.b 18))

/-- ROLL_GRANT (0x36). -/
def execRollGrant (c : Call) (s : State) : Out := .next (runCmd 0x36 callP bodyRollGrant c s)

/-- A write of ROL_r_CTL (R488, R513): BIND and GRANT are PF0's, TABLE and RATIO_SHIFT the grantee's. -/
def writeRolCtl (r : Nat) (w : RegW) (v : Word) (s : State) : State :=
  let a := aRol r 0
  let s :=
    if fld v 30 2 = rolBind s r ∧ fld v 24 4 = rolGrant s r then s
    else if w.fn ≠ 0 then refuse flagPerm w s
    else if !bindOk (fld v 30 2) || !grantOk (fld v 24 4) then refuse flagResval w s
    else if !rolIdle s r then refuse flagState w s
    else (s.put a 30 2 (fld v 30 2)).put a 24 4 (fld v 24 4)
  if fld v 18 2 = rolTable s r ∧ fld v 14 4 = rolRatio s r then s
  else if !rolWriter s w.fn r then refuse flagPerm w s
  else if rolBusy s r then refuse flagState w s
  else if fld v 18 2 = 3 then refuse flagResval w (s.put a 14 4 (fld v 14 4))
  else (s.put a 18 2 (fld v 18 2)).put a 14 4 (fld v 14 4)

/-! ### Abort (R517) -/

/-- A holder change or a reset of partition p reaches its engines: a running job aborts, channels of the engine stop, and a
holder change takes the grant away. -/
def abortEngines (p : Nat) (ungrant : Bool) (s : State) : State :=
  forN 4 (fun r s =>
    if enginePresent s r && decide (rolGrant s r = p) then
      let s := if jobBusy s r then
          finishWhere (fun o => o.acc && decide (o.op = 0x37) && decide (o.a = r)) sState
            ((s.setBit (aRol r 0x10) 30 false).setBit (aRol r 0x10) 10 true) else s
      let s := forN 24 (fun n s => if chanPresent s n && rollOn s n && decide (chEngine s n = r) then dropChannel n s else s) s
      let s := { s with dmas := s.dmas.filter (fun x => !(x.roll && decide (domEngine s (domLow s x.part) = some r))) }
      if ungrant then s.put (aRol r 0) 24 4 0xF else s
    else s) s

end Sys2Proof.Machine
end

