-- ==== Sys2Proof/Machine/Partition.lean ====
section
/-! DEFINITION. Partitions and tenancy (chapter 16): holder changes by phases, scrubbing, zero-fill, partition and
function resets. -/

namespace Sys2Proof.Machine

/-! ### Function-local state (R607, R656) -/

/-- Keys of the function-local registers of a function. -/
def fnLocal (f k : Nat) : Bool := decide (fnBase f ≤ k) && decide (k < fnBase (f + 1))

/-- Ring pairs, BAR2 windows, mailbox and MSI-X entries return to reset; a PCIe reset takes the configuration bits too. -/
def clearFnLocal (f : Nat) (pcie : Bool) (s : State) : State :=
  let r := fnRt s f
  let x : FnRt := if pcie then { flr := r.flr } else { flr := r.flr, bme := r.bme, msixMask := r.msixMask }
  setFnRt f x (s.dropRegs (fnLocal f))

/-- VF_EN of CMD_EXPERT shows PART_CTL_p.EXPERT of every partition (Table 18-5). -/
def refreshVfEn (s : State) : State :=
  s.put aCmdExpert 0 8 (maskOf ((List.range 8).filter (fun p => s.rbit (aPartCtl p) 29)))

/-! ### Commands that a change overtakes (R543, R544, R635) -/

/-- A running LONG command that belongs to partition p. -/
def ofPart (p : Nat) (o : Outst) : Bool :=
  o.acc && decide (o.op ≠ 0x11) && decide (o.op ≠ 0x12) &&
  (decide (o.call.fn = p + 1) || decide (o.call.part.toNat = p) ||
   (decide (0x30 ≤ o.op) && decide (o.op ≤ 0x35) && decide (o.call.b 16 = p)) ||
   (decide (o.op = 0x81) && (o.call.b 16).testBit p))

/-- DRAIN, MIGRATE, MIGRATE_RECV and RESTORE of a domain that reaches into p. -/
def drainsOf (s : State) (p : Nat) (o : Outst) : Bool :=
  o.acc && decide (0x82 ≤ o.op) && decide (o.op ≤ 0x85) && ((domMask s o.a).testBit p || (s.caps.any (fun c => decide (c.id = leNat o.data) && c.mask.testBit p)))

def endPartCmds (p : Nat) (s : State) : State := finishWhere (fun o => ofPart p o || drainsOf s p o) sState s

/-! ### HALT (R528 to R530, R537, R545) -/

/-- A start that waits for a context of the mask ends. -/
def dropPends (mask : Nat) (s : State) : State :=
  forN 8 (fun p s => match (domRt s p).pend with
    | some w => if w.mask &&& mask = 0 then s
        else endWaiters p sState sState (setPend (domMask s p) (match (domRt s p).resume with | some x => x.ctx | none => 0xFF) (setDomRt p { domRt s p with pend := none } s))
    | none => s) s

/-- One domain stops: as its captured faults say, or without a fault; its run is dropped. -/
def stopDomain (d : Nat) (s : State) : State :=
  let s := if (domRt s d).faults ≠ [] then haltOnFaults d s else s
  let s := if plnState s d = stRun || plnState s d = stSwitch then closeStopped d s else s
  let s := endWaiters d sState sState s
  clearRun d (planBoundary d (clearRun d s))

/-- Each partition of the mask becomes an idle domain of its own; runs of other partitions of its domain too. Answers the
state and the partitions outside the mask whose run stopped. -/
def haltParts (mask : Nat) (s : State) : Nat × State :=
  let ds := (((maskBits 8 mask).map (domLow s)).eraseDups)
  ds.foldl (fun (a : Nat × State) d =>
    let s := a.2
    let m := domMask s d
    let ran := plnState s d = stRun || plnState s d = stSwitch
    let out := maskOf ((maskBits 8 m).filter (fun p => !mask.testBit p))
    let s := stopDomain d s
    let s := putParts aPlnStat 20 4 0 m s
    let s := splitIdle out s
    let s := forL (maskBits 8 (m &&& mask)) (fun p s => splitIdle (2 ^ p) s) s
    (if ran then a.1 ||| out else a.1, s)) (0, s)

/-- Residents that name a partition of the mask are evicted, resume targets among them (R530). -/
def evictMask (mask : Nat) (s : State) : State :=
  let s := dropPends mask s
  let s := forN 8 (fun p s => if mask.testBit p then dropResume p s else
    match (domRt s p).resume with
    | some x => match findResident s p x.ctx with
      | some r => if r.mask &&& mask = 0 then s else dropResume p s
      | none => s
    | none => s) s
  forL (s.plan.resident.filter (fun r => decide (r.mask &&& mask ≠ 0))) (fun r s => evict r s) s

/-- OWNCTX of the halt, ascending: `reason` for the mask, IDLE for others whose run stopped (R414). -/
def haltOwn (mask out reason : Nat) (s : State) : State :=
  forN 8 (fun p s => if mask.testBit p then stageOwnctx reason (2 ^ p) s else if out.testBit p then stageOwnctx 4 (2 ^ p) s else s) s

/-- HALT of a holder change: the holder becomes none and EXPERT clears (R525). (log entry 57, DESIGN CHOICE) -/
def holderHalt (mask : Nat) (s : State) : State :=
  let h := haltParts mask s
  let s := evictMask mask h.2
  let s := forL (maskBits 8 mask) (fun p s => (s.put (aPartStat p) 0 16 0).setBit (aPartCtl p) 29 false) s
  haltOwn mask h.1 5 (refreshVfEn s)

/-! ### QUIESCE (R303, R373, R481, R517, R544) -/

/-- A self-trace channel of p stops: its packets and frames are lost and its registers return to reset. -/
def clearChannel (n : Nat) (s : State) : State :=
  let s := dropChannel n s
  s.dropRegs (fun k => (decide (bObs + 0x100 * n ≤ k) && decide (k < bObs + 0x100 * (n + 1))) ||
    (decide (bSnk + 0x40 * n ≤ k) && decide (k < bSnk + 0x40 * (n + 1))))

/-- A rekey sweep of half-stack h stops with ABORTED. -/
def stopRekey (h : Nat) (s : State) : State :=
  if s.rbit (aRkCtl h) 30 then (s.setBit (aRkCtl h) 30 false).setBit (aRkCtl h) 29 true else s

def quiescePart (ungrant pcie : Bool) (p : Nat) (s : State) : State :=
  let s := endPartCmds p s
  let s := clearFnLocal (p + 1) pcie s
  let s := clearChannel (9 + 2 * p) (clearChannel (8 + 2 * p) (drainStaged s))
  let engines := (List.range 4).filter (fun r => enginePresent s r && decide (rolGrant s r = p))
  let s := abortEngines p ungrant s
  let s := if ungrant then s else
    forL engines (fun r s => s.coverRegs (fun k => decide (aRol r 8 ≤ k) && decide (k < aRol r 0x34))) s
  stopRekey p s

/-! ### KEYS, SCRUB, TABLES (R304, R524, R531 to R533, R546) -/

/-- Every key slot of p goes, and with the keys the plan store in its half-stack. -/
def erasePart (fresh : Bool) (p : Nat) (s : State) : State :=
  let s := destroyKeys p s
  let s := if fresh then freshOperatorKey p s else s
  { s with plan := { s.plan with store := tabSet (fun _ => none) p none s.plan.store } }

/-- Everything on chip that the holder of p could have filled (R532). (log entry 106, DESIGN CHOICE) -/
def scrubPart (p : Nat) (s : State) : State :=
  let m := 2 ^ p
  let s := scrubSram m (clearMus m (clearCus m (clearNet m false s)))
  let s := forN 27 (fun i s => setQueueRt (32 * p + i) {} s) s
  let s := { s with xing := tabDrop (fun q => decide (queuePart q = p)) s.xing, outq := tabDrop (fun k => decide (k / 8 = p)) s.outq,
                    dmas := s.dmas.filter (fun x => decide (x.part ≠ p)), streams := s.streams.filter (fun x => decide (x.part ≠ p)),
                    obs := { s.obs with taps := tabDrop (fun u => decide (unitOwner s u = p)) s.obs.taps } }
  clearHolderCtrs p (resetBells p s)

/-- The registers of p that a reset covers beside those that other phases clear (Table 20-5).
(log entry 66, DESIGN CHOICE) -/
def partCover (s : State) (p k : Nat) : Bool :=
  let near (a n : Nat) : Bool := decide (a ≤ k) && decide (k < a + n)
  near (aCuRfltA p) 16 || near (aMuAfltA p) 16 || near (aMuEccA p) 16 || near (aNetFltA p) 16 || decide (k = aPlnSwitch p) ||
  near (aBelFltA p) 16 || near (aClkSlip p) 16 || near (aMemErrA p) 16 || decide (k = aTapL p) || near (aScfFltA p) 16 ||
  (List.range 16).any (fun n => decide (portPart s n = p) && (near (aLnkCap n) 8 || near (aLnkFltA n) 8 || near (aLnkImpA n 0) 0x100))

/-- A port of p that is UP moves to KEY (R347). (log entry 69, DESIGN CHOICE) -/
def portToKey (n : Nat) (s : State) : State := if lnkState s n = stUp then setLnkState n stKey 0 s else s

/-- TABLES of p; `regions` clears region table entries 0 to 14 too. (log entry 66, DESIGN CHOICE) -/
def tablesPart (regions : Bool) (p : Nat) (s : State) : State :=
  let s := if regions then s.dropRegs (fun k => decide (aRgnA p 0 ≤ k) && decide (k < aRgnA p 15)) else s
  let s := s.coverRegs (partCover s p)
  let s := setDomRt p { domRt s p with limit := s.rf (aClkSlip p) 27 5 } s
  let s := forL ((List.range 16).filter (fun n => portPresent s n && decide (portPart s n = p))) (fun n s => portToKey n s) s
  stopAtOnce p (s.setBit aPealCtl p false)

/-- The scrub of a mask: partitions of `bad` enter QUARANTINE (R533).
(log entry 66, DESIGN CHOICE; log entry 106, DESIGN CHOICE) -/
def scrubMask (mask bad : Nat) (s : State) : State :=
  forL (maskBits 8 mask) (fun p s =>
    let s := scrubPart p s
    let s := setPartRt p { partRt s p with quar := bad.testBit p } s
    if bad.testBit p then s.setBit (aPartStat p) 28 true else s) s

/-! ### Holder changes -/

/-- No tenant would hold two runs after the change (R523). -/
def oneRun (mask tenant : Nat) (s : State) : Bool :=
  let own (p : Nat) : Nat := if mask.testBit p then tenant else tenantOf s p
  (List.range 8).all (fun p => decide (own p = 0) ||
    decide ((runsOf (maskOf ((List.range 8).filter (fun q => partPresent s q && decide (own q = own p))))).length ≤ 1))

/-- The tests of R527 after PF0, in order: none when the change is accepted.
(log entry 50, DESIGN CHOICE; log entry 108, DESIGN CHOICE) -/
def assignBad (mask tenant : Nat) (s : State) : Option Nat :=
  firstFail
    [ ((maskBits 8 mask).all (partPresent s), sAbsent),
      (s.holder.isNone && (maskBits 8 mask).all (fun p => decide (partState s p ≤ 1) || (decide (partState s p = 4) && decide (tenant = 0))), sBusy),
      (decide (mask ≠ 0) && decide (tenant ≠ 0xFFFF) && oneRun mask tenant s, sParam) ]

/-- The change begins: its partitions read SWITCHING from HALT on. -/
def startChange (mask tenant : Nat) (zf : Bool) (s : State) : State :=
  let free := maskOf ((maskBits 8 mask).filter (fun p => !held s p))
  let s := { s with holder := some { mask := mask, tenant := tenant, zfill := zf, free := free } }
  forL (maskBits 8 mask) (fun p s => setPartState p 2 s) (s.setBit aPartSwitch 29 true)

def setHolder (h : HolderRt) (s : State) : State := { s with holder := some h }

/-- The final states of the partitions of a change, and its end (R527, R533). `failed` says that the safe state ended it. -/
def endChange (h : HolderRt) (failed : Bool) (s : State) : State :=
  let s := forL (maskBits 8 h.mask) (fun p s =>
    let st := if h.bad.testBit p then 4 else if failed || decide (h.tenant = 0) then 0 else 1
    -- a partition reset that the change absorbed ends with it (R542)
    setFnRt (p + 1) { fnRt s (p + 1) with flr := false } ((setPartState p st s).setBit (aPartCtl p) 31 false)) s
  let s := { s with holder := none }
  let s := (s.setBit aPartSwitch 29 false).setBit aPartSwitch 31 false
  let ok := h.mask &&& (0xFF ^^^ h.bad)
  let st := if failed then sFault else if h.bad ≠ 0 then sIntegrity else sOk
  forL (s.host.outst.filter (fun o => o.acc && decide (o.op = 0x11))) (fun o s =>
    finishO o st (if failed then [] else [bite ok, bite h.bad]) s) s

/-- ASSIGN: the new holder of every clean partition, PART_GEN, OWNCTX (R526, R528, R683). -/
def assignPart (tenant p : Nat) (s : State) : State :=
  let s := s.put (aPartStat p) 0 16 tenant
  let s := s.setReg (aPartGen p) (s.reg (aPartGen p) + 1)
  let s := s.dropRegs (fun k => decide (aIsrL (p + 1) ≤ k) && decide (k < aIsrL (p + 2)))
  let s := forL [4, 7] (fun l s => (s.setBit (aPwr l p 3) 30 false).clearReg (aPwr l p 2)) s
  let s := { s with safe := { s.safe with bufs := tabSet (fun _ => {}) p {} s.safe.bufs } }
  refreshKeys p s

def doAssign (h : HolderRt) (s : State) : State :=
  let ok := (maskBits 8 h.mask).filter (fun p => !h.bad.testBit p)
  let s := forL ok (fun p s => assignPart h.tenant p s) s
  -- a token that opens MRP debug ends when a tenant is assigned (R572)
  let s := if h.tenant ≠ 0 && decide (ok ≠ []) && tokenJtag s then endToken s else s
  endChange h false (stageOwnctx 5 (maskOf ok) s)

/-- Every raw line of half-stack h outside region 15 becomes zero (R534). -/
def zeroStack (h : Nat) (s : State) : State :=
  let lo := rgnBase s h 15 * 512
  let hi := (rgnBase s h 15 + rgnLen s h 15) * 512
  let ring := rgnValid s h 15
  forN 6291456 (fun m s => if ring && decide (lo ≤ m) && decide (m < hi) then s
    else forN 16 (fun n s => setCell (dla h m n) (zeros 128) s) s) s

/-- What a phase does; the change takes its effects as the phase ends (log entry 41). (log entry 41, DESIGN CHOICE) -/
def phaseWork (h : HolderRt) (bad : Nat) (s : State) : State :=
  let ps := maskBits 8 h.mask
  match h.phase with
  | 0 => setHolder { h with phase := 1 } (holderHalt h.mask s)
  | 1 => setHolder { h with phase := 2 } (forL ps (fun p s => quiescePart true false p s) s)
  | 2 => setHolder { h with phase := 3 } (forL ps (fun p s => erasePart (h.free.testBit p) p s) s)
  | 3 => setHolder { h with phase := 4, bad := bad &&& h.mask } (scrubMask h.mask bad s)
  | 4 =>
    let s := forL ps (fun p s => tablesPart true p s) s
    if inSafe s then endChange h true s
    else if h.zfill then setHolder { h with phase := 5 } (forL ps (fun p s => s.setBit (aPartStat p) 27 true) s)
    else setHolder { h with phase := 6 } s
  | 5 => s
  | _ => if inSafe s then endChange h true s else doAssign h s

/-- HOLDER_CHANGE_PHASE_END: the phase that runs ends, `bad` naming partitions whose read-back check failed (R528, R533).
(log entry 41, DESIGN CHOICE) -/
def execHolderChangePhaseEnd (bad : Byte) (s : State) : Out :=
  match s.holder with
  | none => .next s
  | some h => .next (phaseWork h bad.toNat s)

/-- ZFILL: the zero-fill of the change ends (R534). In the safe state it is omitted (R780). -/
def execZfill (s : State) : Out :=
  match s.holder with
  | none => .next s
  | some h =>
    if h.phase ≠ 5 then .next s
    else
      let s := forL (maskBits 8 h.mask) (fun p s => (if inSafe s then s else zeroStack p s).setBit (aPartStat p) 27 false) s
      .next (if inSafe s then endChange h true s else setHolder { h with phase := 6 } s)

/-- Log entry 108, DESIGN CHOICE. -/
def bodyPartAssign (c : Call) (s : State) : CmdRes :=
  let mask := c.b 16
  let tenant := c.le 18 2
  match assignBad mask tenant s with
  | some e => .no e s
  | none => .long {} (startChange mask tenant (c.bit 17 0) s)

/-- PART_ASSIGN (0x11). -/
def execPartAssign (c : Call) (s : State) : Out := .next (runCmd 0x11 callP bodyPartAssign c s)

/-- A write of PART_SWITCH (R527, R541, Table 16-9). TENANT 0xFFFF is reserved (R522). -/
def writePartSwitch (w : RegW) (v : Word) (s : State) : State :=
  if w.fn ≠ 0 then refuse flagPerm w s
  else
    let s := (s.put aPartSwitch 30 1 (fld v 30 1)).put aPartSwitch 16 8 (fld v 16 8)
    let s := if fld v 0 16 = 0xFFFF then refuse flagResval w s else s.put aPartSwitch 0 16 (fld v 0 16)
    if !bit v 31 then s
    else if s.rbit aPartSwitch 29 then refuse flagState w s
    else
      let mask := s.rf aPartSwitch 16 8
      let tenant := s.rf aPartSwitch 0 16
      match assignBad mask tenant s with
      | some e => refuse (if e = sBusy then flagState else flagPerm) w s
      | none => (startChange mask tenant (s.rbit aPartSwitch 30) s).setBit aPartSwitch 31 true

/-! ### Partition reset and function reset (R535 to R539, R542) -/

/-- The reset begins: p halts and quiesces, the rest of its domain goes idle. `pcie` for a function-level reset.
(log entry 66, DESIGN CHOICE) -/
def startReset (p : Nat) (erase pcie : Bool) (s : State) : State :=
  let s := setPartState p 3 s
  let h := haltParts (2 ^ p) s
  let s := haltOwn (2 ^ p) h.1 4 (evictMask (2 ^ p) h.2)
  let s := quiescePart false pcie p s
  setPartRt p { partRt s p with erase := erase } s

/-- The reset ends: KEYS when asked, SCRUB, TABLES; the counters are zero (R45). (log entry 66, DESIGN CHOICE) -/
def endReset (p : Nat) (bad : Bool) (s : State) : State :=
  let er := (partRt s p).erase
  let s := if er then erasePart (!held s p) p s else dropStaging p s
  let was := (partRt s p).quar
  let s := scrubMask (2 ^ p) (if bad then 2 ^ p else 0) s
  let s := tablesPart er p s
  let s := setPartRt p { partRt s p with fc := 0, sc := 0, erase := false, quar := was || bad } s
  let st := if (partRt s p).quar then 4 else if held s p then 1 else 0
  let s := (setPartState p st s).setBit (aPartCtl p) 31 false
  let s := setFnRt (p + 1) { fnRt s (p + 1) with flr := false } s
  forL (s.host.outst.filter (fun o => o.acc && decide (o.op = 0x12) && decide (o.call.part.toNat = p))) (fun o s =>
    finishO o (if bad then sIntegrity else sOk) [] s) s

/-- PARTITION_RESET_END: a partition reset ends, or a reset of a VF alone (R539). (log entry 106, DESIGN CHOICE) -/
def execPartitionResetEnd (p : Nat) (bad : Bool) (s : State) : Out :=
  if !decide (p < 8) then .fault (.noSuchInstance "partition" p)
  else if partState s p = 3 then .next (endReset p bad s)
  else if (fnRt s (p + 1)).flr && decide (partState s p ≠ 2) then .next (setFnRt (p + 1) { fnRt s (p + 1) with flr := false } s)
  else .next s

/-- Log entry 108, DESIGN CHOICE. -/
def bodyPartReset (c : Call) (s : State) : CmdRes :=
  let p := c.part.toNat
  if partState s p = 2 || partState s p = 3 then .no sBusy s else .long {} (startReset p (c.bit 16 0) false s)

/-- PART_RESET (0x12). -/
def execPartReset (c : Call) (s : State) : Out := .next (runCmd 0x12 callP bodyPartReset c s)

/-- A write of PART_CTL_p (R525, R540). A RESET while p is SWITCHING waits for the change to end (R542). -/
def writePartCtl (p : Nat) (w : RegW) (v : Word) (s : State) : State :=
  if w.fn ≠ 0 then refuse flagPerm w s
  else
    let s := refreshVfEn ((s.put (aPartCtl p) 30 1 (fld v 30 1)).put (aPartCtl p) 29 1 (fld v 29 1))
    if !bit v 31 || s.rbit (aPartCtl p) 31 then s
    else
      let s := s.setBit (aPartCtl p) 31 true
      if partState s p = 2 || partState s p = 3 then s else startReset p (s.rbit (aPartCtl p) 30) false s

/-- FUNCTION_RESET: PCIe FLR of a VF. Its replies are discarded (R607); with its partition held it is a partition reset. -/
def execFunctionReset (fn : Nat) (s : State) : Out :=
  if !(decide (1 ≤ fn) && decide (fn < 9)) then .fault (.noSuchInstance "VF" fn)
  else
    let p := fn - 1
    if !partPresent s p || (fnRt s fn).flr then .next s
    else
      let s := setFnRt fn { fnRt s fn with flr := true } s
      if partState s p = 2 || partState s p = 3 then .next s
      else if held s p then .next (startReset p false true s)
      else
        let s := finishWhere (fun o => o.acc && decide (o.call.fn = fn)) sState s
        .next (clearFnLocal fn true s)

def bodyPartExpert (c : Call) (s : State) : CmdRes :=
  let p := c.part.toNat
  if partState s p = 2 then .no sBusy s else .done sOk [] (refreshVfEn (s.setBit (aPartCtl p) 29 (c.bit 16 0)))

/-- PART_EXPERT (0x13). -/
def execPartExpert (c : Call) (s : State) : Out := .next (runCmd 0x13 callP bodyPartExpert c s)

def bodyPartQuery (c : Call) (s : State) : CmdRes :=
  let p := c.part.toNat
  let ex := if c.fn = 0 then b2n (s.rbit (aPartCtl p) 29) else 0
  .done sOk (leBytes 4 (s.reg (aPartStat p)).toNat ++ leBytes 4 (s.reg (aPartGen p)).toNat ++ [bite ex]) s

/-- PART_QUERY (0x10). -/
def execPartQuery (c : Call) (s : State) : Out := .next (runCmd 0x10 callA bodyPartQuery c s)

end Sys2Proof.Machine
end

