-- ==== Sys2Proof/Machine/MemCmd.lean ====
section
/-! DEFINITION. Memory commands and registers (R267, R268, R295 to R298, R482, R627) and pushes (R226, R628). -/

namespace Sys2Proof.Machine

/-! ### Region table entries -/

/-- Slot of State.keys that holds the memory keys of a region (R269). -/
def rgnSlot (s : State) (h r : Nat) : Nat :=
  if r = 15 then ringKeySlot else if partPresent s h && held s h then h else opKeySlot h
/-- The region's keys are the operator's. -/
def rgnOperator (s : State) (h r : Nat) : Bool := decide (rgnSlot s h r ≠ h)
def verLive (s : State) (h r ver : Nat) : Bool := memLive (tabGet (fun _ => {}) s.keys (rgnSlot s h r)) ver

/-- The region holds the ring of an enabled channel or ingest port (R482). -/
def rgnHoldsRing (s : State) (h r : Nat) : Bool :=
  let at' (ing : Bool) (n : Nat) : Bool :=
    ringBusy s ing n && ringHbm s ing n (s.reg (aRng ing n 0)) && decide (ringRgn s ing n (s.reg (aRng ing n 0)) = (h, r))
  (List.range 24).any (fun n => chanPresent s n && at' false n) || (List.range 16).any (fun n => portPresent s n && at' true n)

/-- An entry may not change now (R268, R482). -/
def rgnFixed (s : State) (h r : Nat) : Bool := rgnHeldByCtx s h || rgnHoldsRing s h r

/-- Caller class M, and the absence that the body tests. -/
def callMem (r0 r15 : Bool) (c : Call) (s : State) : Bool := !hsPresent s (c.b 16) || callM r0 r15 c s (c.b 16) (c.b 17)

/-- The entry becomes valid: KEY_VER is set and the sweep of R295 begins, if there is one. -/
def createRegion (h r ver : Nat) (zf : Bool) (s : State) : State :=
  let s := (s.setBit (aRgnA h r) 31 true).put (aRgnA h r) 16 8 ver
  if rgnProt s h r || zf then startSweep h r zf s else s

/-- A rekey sweep runs on the region. -/
def rekeying (s : State) (h r : Nat) : Bool :=
  s.rbit (aRkCtl h) 30 && (match tabGet (fun _ => none) s.mem.rekey h with | some k => decide (k.region = r) | none => false)

/-- Who writes a region table entry or the rekey registers of half-stack h (R298). -/
def memWriter (f h r : Nat) : Bool := decide (f = 0) || (decide (f = h + 1) && decide (1 ≤ r) && decide (r ≤ 14))

/-- A write of MEM_RGNA_h_r (R267, R268, R295, R298, R482). (log entry 68, DESIGN CHOICE) -/
def writeRgnA (h r : Nat) (w : RegW) (v : Word) (s : State) : State :=
  if !memWriter w.fn h r then refuse flagPerm w s
  else if rgnBusy s h r then refuse flagState w s
  else
    let old := s.reg (aRgnA h r)
    let m : Word := fmask 31 1 ||| fmask 30 1 ||| fmask 27 3 ||| fmask 0 14
    let now := (old &&& ~~~ m) ||| (v &&& m)
    let zf := bit v 25
    if decide (now ≠ old) && rgnFixed s h r then refuse flagState w s
    else if zf && !bit v 31 then refuse flagState w s
    else if zf && rekeying s h r then refuse flagState w s
    else if bit v 31 && !rgnRules s h r (bit v 30) (fld v 27 3) (fld v 0 14) (rgnLen s h r) then refuse flagResval w s
    else
      let s := s.setReg (aRgnA h r) now
      if !bit v 31 then s
      else if !bit old 31 then createRegion h r (newKeyVer s h r) zf s
      else if zf then startSweep h r true s else s

/-- A write of MEM_RGNB_h_r. (log entry 68, DESIGN CHOICE) -/
def writeRgnB (h r : Nat) (w : RegW) (v : Word) (s : State) : State :=
  if !memWriter w.fn h r then refuse flagPerm w s
  else if rgnBusy s h r then refuse flagState w s
  else if decide (fld v 0 14 ≠ rgnLen s h r) && rgnFixed s h r then refuse flagState w s
  else if rgnValid s h r && !rgnRules s h r (rgnProt s h r) (rgnKind s h r) (rgnBase s h r) (fld v 0 14) then refuse flagResval w s
  else s.put (aRgnB h r) 0 14 (fld v 0 14)

/-! ### Commands of region table entries (Table 19-7) -/

def bodyRgnSet (c : Call) (s : State) : CmdRes :=
  let h := c.b 16
  let r := c.b 17
  let prot := c.bit 18 0
  let kind := c.b 19
  let base := c.le 20 2
  let len := c.le 22 2
  if !hsPresent s h then .no sAbsent s
  else if rgnValid s h r || rgnFixed s h r || rgnBusy s h r then .no sState s
  else if !rgnRules s h r prot kind base len then .no sParam s
  else if !rgnOperator s h r && !verLive s h r (c.b 24) then .no sKey s
  else
    let ver := if rgnOperator s h r then 0 else c.b 24
    let s := s.setReg (aRgnA h r) (BitVec.ofNat 32 (b2n prot * 2 ^ 30 + kind * 2 ^ 27 + base))
    let s := createRegion h r ver (c.bit 18 1) (s.put (aRgnB h r) 0 14 len)
    if rgnBusy s h r then .long { a := 16 * h + r } s else .done sOk (leBytes 8 (rgnUsable s h r)) s

/-- RGN_SET (0x30): final when its sweep ends, at once when there is none. -/
def execRgnSet (c : Call) (s : State) : Out := .next (runCmd 0x30 (callMem true true) bodyRgnSet c s)

def bodyRgnClear (c : Call) (s : State) : CmdRes :=
  let h := c.b 16
  let r := c.b 17
  if !hsPresent s h then .no sAbsent s
  else if rgnFixed s h r || rgnBusy s h r then .no sState s
  else .done sOk [] (s.setBit (aRgnA h r) 31 false)

/-- RGN_CLEAR (0x31): VALID clears, the contents stay. -/
def execRgnClear (c : Call) (s : State) : Out := .next (runCmd 0x31 (callMem true true) bodyRgnClear c s)

def bodyRgnZfill (c : Call) (s : State) : CmdRes :=
  let h := c.b 16
  let r := c.b 17
  if !hsPresent s h then .no sAbsent s
  else if !rgnValid s h r then .no sState s
  else if rgnBusy s h r || rekeying s h r then .no sBusy s
  else .long { a := 16 * h + r } (startSweep h r true s)

/-- RGN_ZFILL (0x32). -/
def execRgnZfill (c : Call) (s : State) : Out := .next (runCmd 0x32 (callMem false false) bodyRgnZfill c s)

/-! ### Rekey (R296, R297) -/

/-- Start a sweep at the region's first line, or resume one at PTR. (log entry 67, DESIGN CHOICE) -/
def startRekey (h r ver : Nat) (resume : Bool) (s : State) : State :=
  let s := if resume && (tabGet (fun _ => none) s.mem.rekey h).isSome then s
    else setRekey h (some { region := r, ver := ver }) (if resume then s else s.setReg (aRkPtr h) 0)
  (s.setBit (aRkCtl h) 29 false).setBit (aRkCtl h) 30 true

/-- Log entry 67, DESIGN CHOICE. -/
def bodyRekey (c : Call) (s : State) : CmdRes :=
  let h := c.b 16
  let r := c.b 17
  let ab := s.rbit (aRkCtl h) 29
  if !hsPresent s h then .no sAbsent s
  else if !verLive s h r (c.b 18) then .no sKey s
  else if s.rbit (aRkCtl h) 30 || rgnBusy s h r then .no sBusy s
  else if !rgnValid s h r || (c.bit 19 0 != ab) then .no sState s
  else
    let s := (s.put (aRkCtl h) 16 8 (c.b 18)).put (aRkCtl h) 0 4 r
    .long { a := h } (startRekey h r (c.b 18) ab s)

/-- REKEY_REGION (0x33). -/
def execRekeyRegion (c : Call) (s : State) : Out := .next (runCmd 0x33 (callMem false false) bodyRekey c s)

/-- A write of MEM_RKCTL_h: GO starts a sweep, or resumes the one that ABORTED marks. (log entry 67, DESIGN CHOICE) -/
def writeRkCtl (h : Nat) (w : RegW) (v : Word) (s : State) : State :=
  if !(decide (w.fn = 0) || (decide (w.fn = h + 1) && (!bit v 31 || (decide (1 ≤ fld v 0 4) && decide (fld v 0 4 ≤ 14))))) then refuse flagPerm w s
  else
    let ab := s.rbit (aRkCtl h) 29
    let s := (s.put (aRkCtl h) 16 8 (fld v 16 8)).put (aRkCtl h) 0 4 (fld v 0 4)
    let s := if bit v 29 then s.setBit (aRkCtl h) 29 false else s
    if !bit v 31 then s
    else
      let r := fld v 0 4
      if s.rbit (aRkCtl h) 30 || rgnBusy s h r || !rgnValid s h r || !verLive s h r (fld v 16 8) then refuse flagState w s
      else startRekey h r (fld v 16 8) ab s

/-! ### Reads and writes -/

/-- Checks of MEM_READ and MEM_WRITE. -/
def memArgs (c : Call) (s : State) : Option Nat :=
  let h := c.b 16
  let r := c.b 17
  let off := c.le 24 8
  let len := c.le 32 4
  firstFail
    [ (hsPresent s h, sAbsent),
      (rgnValid s h r && decide (off % 64 = 0) && decide (len % 64 = 0) && decide (64 ≤ len) && decide (len ≤ 2 ^ 24) &&
        decide (off + len ≤ rgnUsable s h r), sParam),
      (!rgnBusy s h r, sBusy) ]

/-- Read lines in order up to the first error: code, line, bytes. -/
def readFrom (src h r off len : Nat) (s : State) : (Nat × Nat × List Byte) × State :=
  let l0 := off / 128
  let n := if len = 0 then 0 else (off + len - 1) / 128 - l0 + 1
  let x := (List.range n).foldl (fun (a : (Nat × Nat × List Byte) × State) i =>
    if a.1.1 ≠ 0 then a
    else
      let rd := readLine a.2 h r (l0 + i) false
      if rd.1 = 0 then ((0, 0, a.1.2.2 ++ rd.2), a.2) else ((rd.1, l0 + i, a.1.2.2), memError h rd.1 src r (l0 + i) a.2)) ((0, 0, []), s)
  ((x.1.1, x.1.2.1, (x.1.2.2.drop (off % 128)).take len), x.2)

/-- Log entry 68, DESIGN CHOICE. -/
def bodyMemRead (c : Call) (s : State) : CmdRes :=
  match memArgs c s with
  | some e => .no e s
  | none =>
    match c.outOk (c.le 40 8) (c.le 32 4) with
    | some e => .no e s
    | none =>
      let x := readFrom 1 (c.b 16) (c.b 17) (c.le 24 8) (c.le 32 4) s
      let res := [bite x.1.1, 0, 0, 0] ++ leBytes 4 x.1.2.1
      if x.1.1 ≠ 0 then .fail (memStatus x.1.1) res x.2
      else if c.bufErr then .fail sFault res x.2
      else .done sOk res (c.output (c.le 40 8) x.1.2.2 x.2)

/-- MEM_READ (0x34): its reads take effect together with the command (R606). -/
def execMemRead (c : Call) (s : State) : Out := .next (runCmd 0x34 (callMem false true) bodyMemRead c s)

def bodyMemWrite (c : Call) (s : State) : CmdRes :=
  match memArgs c s with
  | some e => .no e s
  | none =>
    match c.input s (c.le 40 8) (c.le 32 4) with
    | .error e => .no e s
    | .ok b =>
      let x := writeFrom 1 (c.b 16) (c.b 17) (c.le 24 8) b s
      let res := [bite x.1.1, 0, 0, 0] ++ leBytes 4 x.1.2.1 ++ leBytes 4 x.1.2.2
      .done (memStatus x.1.1) res x.2

/-- MEM_WRITE (0x35): in offset order up to the first error. -/
def execMemWrite (c : Call) (s : State) : Out := .next (runCmd 0x35 (callMem false true) bodyMemWrite c s)

/-! ### Pushes (R226, R628) -/

/-- The key of a sealed push of partition p. -/
def pushKey (job : List Byte) (p : Nat) : List Byte := (hkdf (zeros 48) job (ascii "SCEUX-PSH" ++ [bite p]) 32)

/-- Words of a push as bytes, or the status that ends it. -/
def pushWords (c : Call) (s : State) : Except Nat (List Byte) :=
  let p := c.part.toNat
  let len := c.le 32 4
  match c.input s (c.le 24 8) len with
  | .error e => .error e
  | .ok b =>
    if !c.bit 16 0 then .ok b
    else
      let n := leAt b 12 4
      if len ≠ 32 + 64 * n then .error sParam
      else match (holderKeys s p).job with
        | none => .error sKey
        | some k =>
          match gcmOpen (pushKey k p) (b.take 12) (b.take 16) ((b.drop 16).take (64 * n)) ((b.drop (16 + 64 * n)).take 16) with
          | none => .error sIntegrity
          | some w => .ok w

def bodyDpPush (c : Call) (s : State) : CmdRes :=
  let p := c.part.toNat
  let len := c.le 32 4
  let t := c.le 36 4
  if plnState s p ≠ stRun then .no sState s
  else if len = 0 || decide (2 ^ 20 < len) || (!c.bit 16 0 && decide (len % 64 ≠ 0)) || (c.bit 16 0 && decide (len < 32)) ||
      decide (t = 0) || decide (10 ^ 7 < t) then .no sParam s
  else match pushWords c s with
    | .error e => .no e s
    | .ok w => if w = [] then .done sOk (leBytes 4 0) s else .long { a := 32 * p + 24 + b2n (c.bit 16 0), data := w } s

/-- DP_PUSH (0x38): its words enter with PUSH_WORD_ENTER. -/
def execDpPush (c : Call) (s : State) : Out := .next (runCmd 0x38 callT bodyDpPush c s)

/-- PUSH_WORD_ENTER: the next word of push i enters its queue, which has room; pushes of one queue take their turn (R226). -/
def execPushWordEnter (i : Nat) (s : State) : Out :=
  match outstAt s i [0x38] with
  | none => .next s
  | some o =>
    let q := o.a
    let earlier := (s.host.outst.take i).any (fun x => x.acc && decide (x.op = 0x38) && decide (x.a = q))
    if earlier || decide (queueDepth q ≤ (queueRt s q).entries.length) then .next s
    else
      let o' : Outst := { o with b := o.b + 1, data := o.data.drop 64 }
      let s := updOutst o o' s
      let s := enterQueue q (.word (padTo 64 (o.data.take 64)) 0) s
      .next (if o'.data = [] then finishO o' sOk (leBytes 4 o'.b) s else s)

/-- PUSH_TIMEOUT: TIMEOUT µs have passed; words already entered stay. (log entry 5, DESIGN CHOICE) -/
def execPushTimeout (i : Nat) (s : State) : Out :=
  match outstAt s i [0x38] with
  | none => .next s
  | some o => .next (finishO o sTimeout (leBytes 4 o.b) s)

end Sys2Proof.Machine
end

