-- ==== Sys2Proof/Machine/LinkCmd.lean ====
section
/-! DEFINITION. Link and peal commands and registers (R315, R320, R328, R336, R341, R348, R631, Tables 9-11, 9-12, 19-11). -/

namespace Sys2Proof.Machine

/-- Who writes capture, pattern, impairments and counters of a port by register (R341). -/
def portWriter (s : State) (f n : Nat) : Bool :=
  decide (f = 0) || (decide (portPart s n + 1 = f) && held s (portPart s n))

/-- A port that trains anew takes its lanes back from the fallback once TOLL_REFCLK runs (R813). -/
def lanesBack (n : Nat) (s : State) : State :=
  if s.toll.refclk = 0 || s.toll.fallback then s else setToll { s.toll with laneFb := maskOf ((maskBits 17 s.toll.laneFb).filter (fun k => decide (k ≠ n))) } s

/-- EN, AUTO and RETRAIN of a port (R315, Table 9-11): EN rising starts TRAIN, falling disables, RETRAIN starts TRAIN anew.
(log entry 69, DESIGN CHOICE) -/
def portControl (n : Nat) (en auto retrain : Bool) (s : State) : State :=
  let was := s.rbit (aLnkCtl n) 31
  let s := (s.setBit (aLnkCtl n) 31 en).setBit (aLnkCtl n) 30 auto
  let s := if retrain then s.setBit (aLnkCtl n) 29 true else s
  if !en then (if was then setLnkState n stDisabled 0 s else s)
  else if !was || retrain then startTrain n (lanesBack n s) else s

/-- A write of LNK_n_CTL. -/
def writeLnkCtl (n : Nat) (w : RegW) (v : Word) (s : State) : State :=
  if w.fn ≠ 0 then refuse flagPerm w s
  else portControl n (bit v 31) (bit v 30) (bit v 29) (s.put (aLnkCtl n) 27 2 (fld v 27 2))

/-- A resident context of partition p has a LINK record for port n (R328). -/
def residentUses (s : State) (p n : Nat) : Bool :=
  s.plan.resident.any (fun r => r.mask.testBit p && r.ctx.links.any (fun l => decide (l.port = n)))

/-- The assignment may not change now. -/
def ownFixed (s : State) (n p : Nat) : Bool := residentUses s p n || (decide (portPart s n < 8) && residentUses s (portPart s n) n)

/-- LNK_n_OWN takes a new value; a change moves a trained port to KEY. -/
def assignPort (n : Nat) (valid : Bool) (p : Nat) (s : State) : State :=
  let old := s.reg (aLnkOwn n)
  let s := (s.setBit (aLnkOwn n) 31 valid).put (aLnkOwn n) 0 3 p
  if s.reg (aLnkOwn n) = old then s
  else if stMeasure ≤ lnkState s n ∧ lnkState s n ≤ stDownKey then setLnkState n stKey 0 s else s

/-- Log entry 69, DESIGN CHOICE. -/
def writeLnkOwn (n : Nat) (w : RegW) (v : Word) (s : State) : State :=
  if w.fn ≠ 0 then refuse flagPerm w s
  else if !partPresent s (fld v 0 3) then refuse flagResval w s
  else if ownFixed s n (fld v 0 3) then refuse flagState w s
  else assignPort n (bit v 31) (fld v 0 3) s

/-- MODE of LNK_n_CAP (R340): 3 is reserved, and PLAIN on PU4L. -/
def capModeOk (s : State) (m : Nat) : Bool := decide (m ≤ 1) || (decide (m = 2) && decide (s.fuse.variant ≠ 2))

def writeLnkCap (n : Nat) (w : RegW) (v : Word) (s : State) : State :=
  if !portWriter s w.fn n then refuse flagPerm w s
  else if capModeOk s (fld v 28 2) then s.setReg (aLnkCap n) v
  else refuse flagResval w (s.setReg (aLnkCap n) (putFld v 28 2 (s.rf (aLnkCap n) 28 2)))

/-- A context runs in the port's slip domain (R336). -/
def portRuns (s : State) (n : Nat) : Bool := decide (portPart s n < 8) && ctxRuns s (domLow s (portPart s n))

/-- A write of LNK_n_IMPA_k or LNK_n_IMPB_k. -/
def writeImp (n k : Nat) (b : Bool) (w : RegW) (v : Word) (s : State) : State :=
  if !portWriter s w.fn n then refuse flagPerm w s
  else if portRuns s n then refuse flagState w s
  else if b then s.setReg (aLnkImpB n k) v
  else if 6 ≤ fld v 28 4 then refuse flagResval w (s.setReg (aLnkImpA n k) (putFld v 28 4 (s.rf (aLnkImpA n k) 28 4)))
  else s.setReg (aLnkImpA n k) v

/-- Every port is DISABLED or DOWN_ERR. -/
def portsDown (s : State) : Bool := (List.range 16).all (fun n => decide (lnkState s n = stDisabled) || decide (lnkState s n = stDownErr))

def writePealId (w : RegW) (v : Word) (s : State) : State :=
  if w.fn ≠ 0 then refuse flagPerm w s else if !portsDown s then refuse flagState w s else s.setReg aPealId v

def writePealCtl (w : RegW) (v : Word) (s : State) : State :=
  if w.fn ≠ 0 then refuse flagPerm w s else demoteHold (s.setReg aPealCtl v)

/-- A route that names an absent port leaves its register unchanged (R348). -/
def writePealRt (d : Nat) (w : RegW) (v : Word) (s : State) : State :=
  if w.fn ≠ 0 then refuse flagPerm w s
  else if bit v 4 && !portPresent s (fld v 0 4) then refuse flagResval w s
  else s.setReg (aPealRt d) v

/-! ### Commands (Table 19-11) -/

/-- Class A on a port: a VF names a port assigned to its partition. -/
def callPortA (c : Call) (s : State) : Bool := !portPresent s (c.b 16) || decide (c.fn = 0) || decide (portPart s (c.b 16) + 1 = c.fn)
/-- Class H on a port. -/
def callPortH (c : Call) (s : State) : Bool := !portPresent s (c.b 16) || callH c s (c.b 16)

/-- Log entry 69, DESIGN CHOICE. -/
def bodyLinkCtl (c : Call) (s : State) : CmdRes :=
  let n := c.b 16
  if !portPresent s n then .no sAbsent s
  else if decide (4 ≤ c.b 18) && decide (c.b 18 ≠ 0xFF) then .no sParam s
  else
    let s := if c.b 18 = 0xFF then s else s.put (aLnkCtl n) 27 2 (c.b 18)
    .done sOk [] (portControl n (c.bit 17 0) (c.bit 17 1) (c.bit 17 2) s)

/-- LINK_CTL (0x60). -/
def execLinkCtl (c : Call) (s : State) : Out := .next (runCmd 0x60 callP bodyLinkCtl c s)

def bodyLinkAssign (c : Call) (s : State) : CmdRes :=
  let n := c.b 16
  let p := c.b 18
  if !portPresent s n || !partPresent s p then .no sAbsent s
  else if ownFixed s n p then .no sState s
  else .done sOk [] (assignPort n (c.bit 17 0) p s)

/-- LINK_ASSIGN (0x61). -/
def execLinkAssign (c : Call) (s : State) : Out := .next (runCmd 0x61 callP bodyLinkAssign c s)

/-- Log entry 69, DESIGN CHOICE. -/
def bodyLinkQuery (c : Call) (s : State) : CmdRes :=
  let n := c.b 16
  let k := c.b 17
  if !portPresent s n then .no sAbsent s
  else if k = 0 ∨ 4 < k then .no sParam s
  else .done sOk (([aLnkStat n, aLnkWlat n, aLnkLat n k, aLnkPeer n].map (fun a => leBytes 4 (s.reg a).toNat)).flatten) s

/-- LINK_QUERY (0x62). -/
def execLinkQuery (c : Call) (s : State) : Out := .next (runCmd 0x62 callPortA bodyLinkQuery c s)

def bodyLinkCapture (c : Call) (s : State) : CmdRes :=
  let n := c.b 16
  let seed := c.le 20 4
  if !portPresent s n then .no sAbsent s
  else if !capModeOk s (c.b 18) || decide (8 ≤ c.b 19) || (decide (2 ^ 31 ≤ seed) && decide (seed ≠ 2 ^ 32 - 1)) then .no sParam s
  else
    let v := b2n (c.bit 17 0) * 2 ^ 31 + b2n (c.bit 17 1) * 2 ^ 30 + c.b 18 * 2 ^ 28 + c.b 19 * 2 ^ 25 + b2n (c.bit 17 2) * 2 ^ 24
    let s := s.setReg (aLnkCap n) (BitVec.ofNat 32 v)
    .done sOk [] (if seed = 2 ^ 32 - 1 then s else s.setReg (aLnkPat n) (BitVec.ofNat 32 seed))

/-- LINK_CAPTURE (0x63). -/
def execLinkCapture (c : Call) (s : State) : Out := .next (runCmd 0x63 callPortH bodyLinkCapture c s)

def bodyLinkImpair (c : Call) (s : State) : CmdRes :=
  let n := c.b 16
  let k := c.b 17
  let m := c.b 18
  if !portPresent s n then .no sAbsent s
  else if m = 0 || decide (4 < m) || decide (32 < k + m) || (List.range m).any (fun i => decide (6 ≤ c.le (24 + 8 * i) 4 / 2 ^ 28)) then .no sParam s
  else if portRuns s n then .no sState s
  else .done sOk [] (forN m (fun i s =>
    (s.setReg (aLnkImpA n (k + i)) (BitVec.ofNat 32 (c.le (24 + 8 * i) 4))).setReg (aLnkImpB n (k + i)) (BitVec.ofNat 32 (c.le (28 + 8 * i) 4))) s)

/-- LINK_IMPAIR (0x64). -/
def execLinkImpair (c : Call) (s : State) : Out := .next (runCmd 0x64 callPortH bodyLinkImpair c s)

def bodyPealSet (c : Call) (s : State) : CmdRes :=
  if c.bit 16 0 && !portsDown s then .no sState s
  else
    let s := if c.bit 16 0 then s.setReg aPealId (BitVec.ofNat 32 (c.le 18 2)) else s
    let s := if c.bit 16 1 then s.setReg aPealTag (BitVec.ofNat 32 (c.le 20 4)) else s
    .done sOk [] (if c.bit 16 2 then demoteHold (s.setReg aPealCtl (BitVec.ofNat 32 (b2n (c.bit 24 0) * 2 ^ 31 + c.b 25))) else s)

/-- PEAL_SET (0x65). -/
def execPealSet (c : Call) (s : State) : Out := .next (runCmd 0x65 callP bodyPealSet c s)

def bodyPealRoute (c : Call) (s : State) : CmdRes :=
  let d := c.le 16 2
  let n := c.le 18 2
  if n = 0 || decide (1024 < d + n) then .no sParam s
  else match c.input s (c.le 24 8) n with
    | .error e => .no e s
    | .ok b =>
      if (List.range n).any (fun i => (byteAt b i).testBit 4 && !portPresent s (byteAt b i % 16)) then .no sAbsent s
      else .done sOk [] (forN n (fun i s => s.setReg (aPealRt (d + i)) (BitVec.ofNat 32 (byteAt b i % 32))) s)

/-- PEAL_ROUTE (0x66). -/
def execPealRoute (c : Call) (s : State) : Out := .next (runCmd 0x66 callP bodyPealRoute c s)

end Sys2Proof.Machine
end

