-- ==== Sys2Proof/Machine/Trust.lean ====
section
/-! DEFINITION. Trust (chapter 17): device keys, attestation reports, key sessions and installation, the trust record, debug
tokens and weight packages. -/

namespace Sys2Proof.Machine

/-! ### Device keys (R549, R550) -/

/-- Order of P-384. (log entry 12, PRESUMED) -/
def p384n : Nat := 0xFFFFFFFFFFFFFFFFFFFFFFFFFFFFFFFFFFFFFFFFFFFFFFFFC7634D81F4372DDF581A0DB248B0A77AECEC196ACCC52973

/-- A private key from a big-endian number. (log entry 12, PRESUMED) -/
def privKey (x : Nat) : List Byte := (leBytes 48 (x % (p384n - 1) + 1)).reverse

/-- The UDS as every derivation takes it (Table 17-3). -/
def udsOf (s : State) : List Byte := if s.trust.lifecycle = 2 then zeros 32 else padTo 32 Config.uds
def meas (s : State) : List Byte := Config.sha384 (Config.romDigest ++ s.trust.fwDigest ++ s.trust.cfgDigest)
def didKey (s : State) : List Byte := privKey (beNat (hkdf (zeros 48) (udsOf s) (ascii "SCEUX-DID") 64))
def akKey (s : State) : List Byte := privKey (beNat (hkdf (zeros 48) (udsOf s) (ascii "SCEUX-ALIAS" ++ meas s) 64))
def kRec (s : State) : List Byte := hkdf (zeros 48) (udsOf s) (ascii "SCEUX-REC") 32
def kSeal (s : State) : List Byte := hkdf (zeros 48) (udsOf s) (ascii "SCEUX-SEAL") 32
def ident (s : State) : List Byte := Config.sha384 (Config.pubPoint (didKey s))
/-- The certificate of the AK by the DID (R549). -/
def aliasSig (s : State) : List Byte :=
  padTo 96 (Config.ecdsaSign 0 (didKey s) (Config.sha384 (ascii "SCEUX-ALIAS" ++ padTo 97 (Config.pubPoint (akKey s)) ++ meas s)))

/-! ### The trust record (R566 to R570, Table 17-9) -/

def pad4 (b : List Byte) : List Byte := b ++ zeros ((4 - b.length % 4) % 4)
def recEntry (typ : Nat) (v : List Byte) : List Byte := [bite typ, 0] ++ leBytes 2 v.length ++ pad4 v
def setValue (x : SetRt) : List Byte := padTo 16 x.id ++ leBytes 4 x.gen ++ [bite x.member, 0, 0, 0] ++ padTo 97 x.owner ++ padTo 40 x.wrapped

/-- A record slot of the entries with a sequence number. -/
def recordOf (s : State) (seq : Nat) (r : RecRt) : List Byte :=
  let body := r.tools.flatMap (recEntry 1) ++ r.dbgs.flatMap (recEntry 2) ++ r.sets.flatMap (fun x => recEntry 3 (setValue x))
  let n := r.tools.length + r.dbgs.length + r.sets.length
  let b := [0x53, 0x58, 0x54, 0x52, 1, 0] ++ leBytes 2 n ++ leBytes 4 seq ++ leBytes 4 body.length ++ zeros 48 ++ body
  b ++ Config.hmac384 (kRec s) b

/-- A valid slot (R566). -/
def recordOk (s : State) (b : List Byte) : Bool :=
  let n := leAt b 12 4
  decide (b.take 6 = [0x53, 0x58, 0x54, 0x52, 1, 0]) && decide (n ≤ 65424) && decide (64 + n + 48 ≤ b.length) &&
  decide ((b.drop (64 + n)).take 48 = Config.hmac384 (kRec s) (b.take (64 + n)))

/-- Entries of a record body. -/
def recEntries : Nat → List Byte → RecRt → RecRt
  | 0, _, r => r
  | n + 1, b, r =>
    let len := leAt b 2 2
    let v := (b.drop 4).take len
    let r := match byteAt b 0 with
      | 1 => { r with tools := r.tools ++ [v] }
      | 2 => { r with dbgs := r.dbgs ++ [v] }
      | 3 => { r with sets := r.sets ++ [{ id := v.take 16, gen := leAt v 16 4, member := byteAt v 20, owner := (v.drop 24).take 97,
                                           wrapped := (v.drop 121).take 40 }] }
      | _ => r
    recEntries n (b.drop (4 + (len + 3) / 4 * 4)) r
def entriesOf (b : List Byte) : RecRt := recEntries (leAt b 6 2) (b.drop 64) {}

def recBusy (s : State) : Bool := s.rbit aTruStat 31
/-- The slot that an update writes (R567): true for B. -/
def idleSlot (t : TrustRt) : Bool := match t.active with | some b => !b | none => false
def putSlot (b : Bool) (x : List Byte) (t : TrustRt) : TrustRt := if b then { t with slotB := x } else { t with slotA := x }

/-- Start an update to new entries; `c` goes into the final RESULT of SET_ENROL (R567, R569, R580). -/
def startUpdate (r : RecRt) (c : Nat) (s : State) : CmdRes :=
  if recBusy s then .no sBusy s
  else if recLeft s.trust = 0 || !s.trust.flashOk then .no sResource s
  else .long { c := c, data := recordOf s (s.trust.recOtp + 1) r } (s.setBit aTruStat 31 true)

/-- A record becomes active. -/
def activate (b : Bool) (x : List Byte) (s : State) : State :=
  refreshTrust (setTrust { s.trust with active := some b, entries := entriesOf x } s)

/-- RECORD_UPDATE_DONE: the read-back verified (`ok`) and REC_OTP advances, or it failed and the OTP stays (R567).
(log entry 61, DESIGN CHOICE; log entry 85, DESIGN CHOICE) -/
def execRecordUpdateDone (i : Nat) (ok : Bool) (s : State) : Out :=
  match outstAt s i [0x47, 0x48, 0x4A, 0x4B, 0x4C, 0x4D] with
  | none => .next s
  | some o =>
    let b := idleSlot s.trust
    let s := s.setBit aTruStat 31 false
    if ok then
      let t := putSlot b o.data s.trust
      let s := activate b o.data (setTrust { t with recOtp := t.recOtp + 1 } s)
      .next (finishO o sOk (if o.op = 0x47 then [bite o.c] else []) s)
    else
      let s := errFlag 10 o.call.fn 1 o.op (setTrust (putSlot b [] s.trust) s)
      .next (finishO o sIntegrity [] s)

/-- R568 at boot: the state after, and REC_STATE. -/
def bootRecord (s : State) : State :=
  let t := s.trust
  let okAt (b : Bool) (q : Nat) : Bool :=
    let x := if b then t.slotB else t.slotA
    t.flashOk && recordOk s x && decide (recordSeq x = q)
  let pick (q : Nat) : Option Bool := if okAt false q then some false else if okAt true q then some true else none
  let slot (b : Bool) : List Byte := if b then t.slotB else t.slotA
  match pick (t.recOtp + 1), pick t.recOtp with
  | some b, _ =>
    if t.recOtp < 2048 then activate b (slot b) ((setTrust { t with recOtp := t.recOtp + 1 } s).put aTruStat 29 2 1)
    else (refreshTrust (setTrust { t with active := none, entries := {} } s)).put aTruStat 29 2 2
  | none, some b => activate b (slot b) (s.put aTruStat 29 2 0)
  | none, none => (refreshTrust (setTrust { t with active := none, entries := {} } s)).put aTruStat 29 2 2

/-! ### Reports (R552 to R555) -/

def tlv (typ : Nat) (v : List Byte) : List Byte := leBytes 2 typ ++ leBytes 2 v.length ++ pad4 v

/-- The availability map as the registers hold it (R677). -/
def mapBytes (s : State) : List Byte := (List.range 80).flatMap (fun i => leBytes 4 (s.reg (aAmap i)).toNat)

/-- Partitions of the variant. -/
def variantParts (s : State) : Nat := if s.fuse.variant = 0 then 8 else 4
def portsOf (s : State) (p : Nat) : Nat := maskOf ((List.range 16).filter (fun n => portPresent s n && decide (portPart s n = p)))

/-- PARTITION TLV of p, as function `f` sees it (R554). -/
def partTlv (s : State) (f p : Nat) : List Byte :=
  let k := keySlots s p
  let see := f = 0 || (held s (f - 1) && decide (tenantOf s p = tenantOf s (f - 1)))
  let head := [bite p, bite (partState s p)] ++ leBytes 2 (if see then tenantOf s p else 0xFFFF) ++ leBytes 4 (s.reg (aPartGen p)).toNat
  if !see then head.take 4 ++ leBytes 4 (s.reg (aPartGen p)).toNat ++ [bite (domMask s p)] ++ zeros 11
  else head ++ [bite (domMask s p), bite (b2n (s.rbit (aPartCtl p) 29)),
      bite (b2n k.link.isSome + 2 * b2n k.job.isSome + 4 * b2n k.trace.isSome + 8 * b2n (decide (k.staged ≠ []))), 0] ++
      memVers k ++ leBytes 2 (portsOf s p) ++ [bite (traceVer k), 0]

/-- Seconds left of the active token: counted on MCLK, which the model does not count; free up to DURATION.
(log entry 60, DESIGN CHOICE) -/
def secondsLeft (s : State) : Nat :=
  match s.trust.token with
  | some t => (Config.freeValue s.freeCtr).toNat % (t.2.2 + 1)
  | none => 0

/-- The TLVs of a report without SIGNATURE, as (count, bytes). `sess` is SID, PART and public point. -/
def reportTlvs (s : State) (f : Nat) (nonce : List Byte) (sess : Option (Nat × Nat × List Byte)) : Nat × List Byte :=
  let t := s.trust
  let e := t.entries
  let scope := match t.token with | some x => x.2.1 | none => 0
  let tok := match t.token with | some x => x.1 | none => 0
  let rec' := (activeRecord t).getD []
  let l : List (List Byte) :=
    [tlv 1 (padTo 32 nonce), tlv 2 (padTo 97 (Config.pubPoint (didKey s))),
     tlv 3 (padTo 97 (Config.pubPoint (akKey s)) ++ aliasSig s)] ++
    (match sess with | some x => [tlv 4 (leBytes 4 x.1 ++ [bite x.2.1, 0, 0, 0] ++ padTo 97 x.2.2)] | none => []) ++
    [tlv 0x10 ([bite s.fuse.variant, bite s.fuse.stepping] ++ leBytes 2 (devId s) ++ leBytes 4 (s.reg aPealTag).toNat ++
        leBytes 8 s.toll.now.toNat ++ [bite (tollState s), 0, 0, 0, bite (partMaskPresent s), bite (engineMask s)] ++
        leBytes 2 (portMaskPresent s) ++ Config.sha384 (mapBytes s)),
     tlv 0x11 (Config.romDigest ++ t.fwDigest ++ t.cfgDigest ++ meas s ++ leBytes 4 t.fwSvn ++ leBytes 4 t.fwVer ++ [bite t.fwSrc, 0, 0, 0]),
     tlv 0x12 ([bite t.lifecycle, 0] ++ leBytes 2 t.fwOtp ++ leBytes 4 t.recOtp ++ leBytes 2 (recLeft t) ++ [bite (s.rf aTruStat 29 2)] ++ zeros 5),
     tlv 0x13 ([bite (scope % 4), 0] ++ leBytes 2 tok ++ leBytes 2 t.admitted ++ zeros 2 ++ leBytes 4 (secondsLeft s) ++
        padTo 48 t.lastDigest ++ padTo 48 t.lastKey),
     tlv 0x14 (leBytes 4 (trustSeq t) ++ [bite e.tools.length, bite e.dbgs.length, bite e.sets.length, 0] ++
        Config.sha384 (rec'.take (64 + leAt rec' 12 4)))] ++
    (List.range (variantParts s)).map (fun p => tlv 0x20 (partTlv s f p)) ++
    e.tools.map (fun k => tlv 0x21 (Config.sha384 k)) ++
    e.sets.map (fun x => tlv 0x22 (padTo 16 x.id ++ leBytes 4 x.gen ++ [bite x.member, 0, 0, 0] ++ Config.sha384 x.owner))
  (l.length, l.flatten)

/-- A report signed now, and the state that has signed it. (log entry 70, DESIGN CHOICE) -/
def signReport (f : Nat) (nonce : List Byte) (sess : Option (Nat × Nat × List Byte)) (s : State) : List Byte × State :=
  let x := reportTlvs s f nonce sess
  let n := s.trust.reports + 1
  let b := [0x53, 0x58, 0x41, 0x54, 1, 0] ++ leBytes 2 (x.1 + 1) ++ leBytes 4 (16 + x.2.length + 100) ++ leBytes 4 n ++ x.2
  let sig := padTo 96 (Config.ecdsaSign s.freeCtr (akKey s) (Config.sha384 b))
  (b ++ tlv 0xFF sig, (setTrust { s.trust with reports := n } s).bump)

/-- Log entry 70, DESIGN CHOICE. -/
def bodyAttest (c : Call) (s : State) : CmdRes :=
  let len := c.le 56 4
  if len < 4096 then .no sParam s
  else match c.outOk (c.le 48 8) len with
    | some e => .no e s
    | none =>
      let x := signReport c.fn (c.bytes 16 32) none s
      .done sOk (leBytes 4 x.1.length ++ leBytes 4 x.2.trust.reports) (c.output (c.le 48 8) x.1 x.2)

/-- ATTEST (0x40). -/
def execAttest (c : Call) (s : State) : Out := .next (runCmd 0x40 callA bodyAttest c s)

def bodyCertGet (c : Call) (s : State) : CmdRes :=
  let len := c.le 56 4
  let n := Config.didCert.length
  if len < n then .fail sResource (leBytes 4 n) s
  else match c.outOk (c.le 48 8) len with
    | some e => .no e s
    | none => .done sOk (leBytes 4 n) (c.output (c.le 48 8) Config.didCert s)

/-- CERT_GET (0x41). -/
def execCertGet (c : Call) (s : State) : Out := .next (runCmd 0x41 callA bodyCertGet c s)

/-! ### Sessions and keys (R556 to R560) -/

/-- Holder index of a class K command: its partition, or 8 for the operator. -/
def holderIdx (c : Call) : Nat := if c.part = 0xFF then 8 else c.part.toNat
def genOf (s : State) (h : Nat) : Nat := if h < 8 then (s.reg (aPartGen h)).toNat else 0
def tenantH (s : State) (h : Nat) : Nat := if h < 8 then tenantOf s h else 0

/-- Class K with the partition HELD. -/
def callKHeld (c : Call) (s : State) : Bool := callK c s && (decide (c.fn = 0) || decide (partState s c.part.toNat = 1))

/-- Log entry 60, DESIGN CHOICE. -/
def bodyKeySession (c : Call) (s : State) : CmdRes :=
  let len := c.le 56 4
  if len < 4096 then .no sParam s
  else match c.outOk (c.le 48 8) len with
    | some e => .no e s
    | none =>
      let h := holderIdx c
      let d := privKey (beNat (Config.random s.freeCtr))
      let sid := s.trust.sids + 1
      let x : SessRt := { sid := sid, nonce := c.bytes 16 32, gen := genOf s h, tenant := tenantH s h, scalar := d }
      let s := setTrust { s.trust with sids := sid } s.bump
      let s := refreshHolder h (setSession h (some x) s)
      let y := signReport c.fn (c.bytes 16 32) (some (sid, c.part.toNat, Config.pubPoint d)) s
      .done sOk (leBytes 4 sid ++ leBytes 4 y.1.length) (c.output (c.le 48 8) y.1 y.2)

/-- KEY_SESSION (0x42). -/
def execKeySession (c : Call) (s : State) : Out := .next (runCmd 0x42 callKHeld bodyKeySession c s)

/-- SESSION_EXPIRY: 10 s after it opened. (log entry 5, DESIGN CHOICE) -/
def execSessionExpiry (holder : Nat) (s : State) : Out :=
  if !decide (holder < 9) then .fault (.noSuchInstance "holder" holder) else .next (closeSession holder s)

/-- KEK of an entry (R557). -/
def kekOf (x : SessRt) (h : Nat) (point : List Byte) (typ ver : Nat) : List Byte :=
  hkdf x.nonce (Config.ecdh x.scalar point)
    (ascii "SCEUX-KEK" ++ leBytes 4 x.sid ++ [bite (if h < 8 then h else 0xFF)] ++ leBytes 4 x.gen ++ leBytes 2 x.tenant ++ [bite typ, bite ver]) 32

/-- The open session that a message names (R558). -/
def sessMatch (s : State) (h sid : Nat) : Option SessRt :=
  (sessionOf s h).filter (fun x => decide (x.sid = sid) && decide (x.gen = genOf s h) && decide (x.tenant = tenantH s h))

/-- Layout of one entry of Table 17-6. -/
def entryOk (b : List Byte) : Bool :=
  let t := byteAt b 0
  let v := byteAt b 1
  decide (1 ≤ t) && decide (t ≤ 5) && (if t = 1 ∨ t = 4 then decide (v ≤ 254) else decide (v = 0)) && decide ((b.drop 2).take 6 = zeros 6)

/-- Types permitted to a holder (Table 17-7): none, or the status. -/
def typeBad (s : State) (h t : Nat) : Option Nat :=
  if h = 8 then (if t = 2 then none else some sPerm)
  else if t = 5 then some sPerm
  else if t = 4 ∧ s.fuse.variant = 2 then some sAbsent else none

/-- Log entry 60, DESIGN CHOICE. -/
def bodyKeyInstall (c : Call) (s : State) : CmdRes :=
  let len := c.le 24 4
  let h := holderIdx c
  match c.input s (c.le 16 8) len with
  | .error e => .no e s
  | .ok b =>
    let n := byteAt b 9
    let es := (List.range n).map (fun i => (b.drop (128 + 48 * i)).take 48)
    if decide (len ≠ 128 + 48 * n) || decide (n = 0) || decide (8 < n) || decide (byteAt b 8 ≠ c.part.toNat) ||
        decide (b.take 4 ≠ [0x53, 0x58, 0x4B, 0x4D]) || decide ((b.drop 10).take 6 ≠ zeros 6) || decide ((b.drop 113).take 15 ≠ zeros 15) ||
        !es.all entryOk then .no sParam s
    else match sessMatch s h (leAt b 4 4) with
      | none => .no sState s
      | some x =>
        let s := closeSession h s
        match es.findSome? (fun e => typeBad s h (byteAt e 0)) with
        | some e => .no e s
        | none =>
          let pt := (b.drop 16).take 97
          let ks := es.map (fun e => (byteAt e 0, byteAt e 1, keyUnwrap (kekOf x h pt (byteAt e 0) (byteAt e 1)) (e.drop 8)))
          if !Config.pointOk pt || ks.any (fun k => k.2.2.isNone) then .no sAuth s
          else
            let st := ks.map (fun k => (k.1, k.2.1, k.2.2.getD []))
            .done sOk [] (refreshHolder h (setKeys h { keySlots s h with staged := st } s))

/-- KEY_INSTALL (0x43). -/
def execKeyInstall (c : Call) (s : State) : Out := .next (runCmd 0x43 callK bodyKeyInstall c s)

/-- Install one staged key in its live slot. (log entry 59, DESIGN CHOICE) -/
def commitOne (x : Nat × Nat × List Byte) (k : KeySlots) : KeySlots :=
  match x.1 with
  | 1 =>
    let free := ((List.range 4).find? (fun i => !k.mem.any (fun m => decide (m.1 = i)))).getD 0
    if memLive k x.2.1 then { k with mem := k.mem.map (fun m => if m.2.1 = x.2.1 then (m.1, m.2.1, x.2.2) else m) }
    else { k with mem := k.mem ++ [(free, x.2.1, x.2.2)] }
  | 2 => { k with link := some x.2.2 }
  | 3 => { k with job := some x.2.2 }
  | 4 => { k with trace := some (x.2.1, x.2.2) }
  | _ => k

/-- A newly installed link key: the ports of its holder start again at FCNT 0 of epoch 0, and trained ones move to KEY. -/
def newLinkKey (h : Nat) (s : State) : State :=
  forL ((List.range 16).filter (fun n => portPresent s n && decide (portKeySlot s n = h))) (fun n s =>
    let s := setLink n { linkRt s n with fcnt := 0, epoch := 0, rxLast := none } (s.put (aLnkStat n) 8 16 0)
    if stMeasure ≤ lnkState s n ∧ lnkState s n ≤ stDownKey then setLnkState n stKey 0 s else s) s

def bodyKeyCommit (c : Call) (s : State) : CmdRes :=
  let h := holderIdx c
  let k := keySlots s h
  let mems := ((k.staged.filter (fun x => decide (x.1 = 1))).map (fun x => x.2.1)).eraseDups
  if (decide (h < 8) && decide (partState s h = 2)) || decide (k.staged = []) || mems.any (memLive k) then .no sState s
  else if 4 < k.mem.length + mems.length then .no sResource s
  else
    let k' := k.staged.foldl (fun k x => commitOne x k) k
    let s := refreshHolder h (setKeys h { k' with staged := [] } s)
    .done sOk [] (if k.staged.any (fun x => decide (x.1 = 2)) then newLinkKey h s else s)

/-- Class K, and the VF of a partition that is SWITCHING (R574). (log entry 60, DESIGN CHOICE) -/
def callKCommit (c : Call) (s : State) : Bool :=
  callK c s || (decide (c.part ≠ 0xFF) && decide (c.fn = c.part.toNat + 1) && decide (partState s c.part.toNat = 2))

/-- KEY_COMMIT (0x44): all staged keys, or none. -/
def execKeyCommit (c : Call) (s : State) : Out := .next (runCmd 0x44 callKCommit bodyKeyCommit c s)

def bodyKeyDiscard (c : Call) (s : State) : CmdRes :=
  let h := holderIdx c
  .done sOk [] (refreshHolder h (setKeys h { keySlots s h with staged := [] } s))

/-- KEY_DISCARD (0x45). -/
def execKeyDiscard (c : Call) (s : State) : Out := .next (runCmd 0x45 callK bodyKeyDiscard c s)

/-- A region of half-stack p, or a running rekey sweep of it, uses a version. -/
def verUsed (s : State) (p ver : Nat) : Bool :=
  (List.range 15).any (fun r => rgnValid s p r && decide (rgnVer s p r = ver)) ||
  (s.rbit (aRkCtl p) 30 && (match tabGet (fun _ => none) s.mem.rekey p with
    | some k => decide (k.ver = ver) || decide (rgnVer s p k.region = ver) | none => false))

def bodyKeyDelete (c : Call) (s : State) : CmdRes :=
  let p := c.part.toNat
  let k := keySlots s p
  if !memLive k (c.b 16) then .no sParam s
  else if verUsed s p (c.b 16) then .no sState s
  else .done sOk [] (refreshKeys p (setKeys p { k with mem := k.mem.filter (fun m => decide (m.2.1 ≠ c.b 16)) } s))

/-- KEY_DELETE (0x46). -/
def execKeyDelete (c : Call) (s : State) : Out := .next (runCmd 0x46 callV bodyKeyDelete c s)

/-! ### Sets and enrolled keys (R562, R563, R570) -/

/-- Log entry 60, DESIGN CHOICE. -/
def bodySetEnrol (c : Call) (s : State) : CmdRes :=
  let len := c.le 24 4
  match c.input s (c.le 16 8) len with
  | .error e => .no e s
  | .ok b =>
    let e := (b.drop 136).take 48
    if decide (len ≠ 384) || decide ((b.drop 25).take 7 ≠ zeros 7) || decide ((b.drop 129).take 7 ≠ zeros 7) ||
        decide ((b.drop 281).take 7 ≠ zeros 7) || decide (byteAt e 0 ≠ 5) || !entryOk e then .no sParam s
    else match sessMatch s 8 (leAt b 0 4) with
      | none => .no sState s
      | some x =>
        let s := closeSession 8 s
        let pt := (b.drop 32).take 97
        let owner := (b.drop 184).take 97
        let id := (b.drop 4).take 16
        let gen := leAt b 20 4
        let wrapped := e.drop 8
        let dig := Config.sha384 ((b.drop 4).take 21 ++ ident s ++ x.nonce ++ wrapped)
        let key := keyUnwrap (kekOf x 8 pt 5 0) wrapped
        let old := s.trust.entries.sets.find? (fun y => decide (y.id = id))
        if !Config.ecdsaVerify owner dig ((b.drop 288).take 48) ((b.drop 336).take 48) || !Config.pointOk pt || key.isNone then .no sAuth s
        else if 64 ≤ byteAt b 24 then .no sParam s
        else match old with
          | none => if 8 ≤ s.trust.entries.sets.length then .no sResource s else go b id gen owner (key.getD []) s
          | some y => if y.owner = owner ∧ y.gen < gen then go b id gen owner (key.getD []) s else .no sState s
where
  /-- The record with the set, new or in its old place. -/
  go (b id : List Byte) (gen : Nat) (owner key : List Byte) (s : State) : CmdRes :=
    let x : SetRt := { id := id, gen := gen, member := byteAt b 24, owner := owner, wrapped := keyWrap (kSeal s) key }
    let l := s.trust.entries.sets
    let l := if l.any (fun y => decide (y.id = id)) then l.map (fun y => if y.id = id then x else y) else l ++ [x]
    startUpdate { s.trust.entries with sets := l } (byteAt b 24) s

/-- SET_ENROL (0x47). -/
def execSetEnrol (c : Call) (s : State) : Out := .next (runCmd 0x47 callP bodySetEnrol c s)

def bodySetLeave (c : Call) (s : State) : CmdRes :=
  let id := c.bytes 16 16
  let e := s.trust.entries
  if !e.sets.any (fun y => decide (y.id = id)) then .no sParam s
  else startUpdate { e with sets := e.sets.filter (fun y => decide (y.id ≠ id)) } 0 s

/-- SET_LEAVE (0x48). -/
def execSetLeave (c : Call) (s : State) : Out := .next (runCmd 0x48 callP bodySetLeave c s)

/-- A new key joins a table of `n` keys. -/
def enrolKey (c : Call) (s : State) (l : List (List Byte)) (n : Nat) (upd : List (List Byte) → RecRt) : CmdRes :=
  let len := c.le 24 4
  match c.input s (c.le 16 8) len with
  | .error e => .no e s
  | .ok b =>
    if decide (len ≠ 97) || !Config.pointOk b || l.contains b then .no sParam s
    else if n ≤ l.length then .no sResource s
    else startUpdate (upd (l ++ [b])) 0 s

/-- A key leaves its table. -/
def revokeKey (c : Call) (s : State) (l : List (List Byte)) (upd : List (List Byte) → RecRt) : CmdRes :=
  let id := c.bytes 16 48
  if !l.any (fun k => decide (Config.sha384 k = id)) then .no sParam s
  else startUpdate (upd (l.filter (fun k => decide (Config.sha384 k ≠ id)))) 0 s

def bodyToolkeyEnrol (c : Call) (s : State) : CmdRes :=
  enrolKey c s s.trust.entries.tools 16 (fun l => { s.trust.entries with tools := l })
/-- TOOLKEY_ENROL (0x4A). -/
def execToolkeyEnrol (c : Call) (s : State) : Out := .next (runCmd 0x4A callP bodyToolkeyEnrol c s)
def bodyToolkeyRevoke (c : Call) (s : State) : CmdRes := revokeKey c s s.trust.entries.tools (fun l => { s.trust.entries with tools := l })
/-- TOOLKEY_REVOKE (0x4B). -/
def execToolkeyRevoke (c : Call) (s : State) : Out := .next (runCmd 0x4B callP bodyToolkeyRevoke c s)
def bodyDbgkeyEnrol (c : Call) (s : State) : CmdRes :=
  enrolKey c s s.trust.entries.dbgs 4 (fun l => { s.trust.entries with dbgs := l })
/-- DBGKEY_ENROL (0x4C). -/
def execDbgkeyEnrol (c : Call) (s : State) : Out := .next (runCmd 0x4C callP bodyDbgkeyEnrol c s)
def bodyDbgkeyRevoke (c : Call) (s : State) : CmdRes := revokeKey c s s.trust.entries.dbgs (fun l => { s.trust.entries with dbgs := l })
/-- DBGKEY_REVOKE (0x4D). -/
def execDbgkeyRevoke (c : Call) (s : State) : Out := .next (runCmd 0x4D callP bodyDbgkeyRevoke c s)

/-- Log entry 61, DESIGN CHOICE. -/
def bodySvnCommit (_ : Call) (s : State) : CmdRes :=
  let t := s.trust
  if t.fwSvn ≤ t.fwOtp then .no sParam s
  else if 64 < t.fwSvn then .no sResource s
  else .done sOk (leBytes 2 t.fwSvn) (refreshTrust (setTrust { t with fwOtp := t.fwSvn } s))

/-- FW_SVN_COMMIT (0x03). -/
def execFwSvnCommit (c : Call) (s : State) : Out := .next (runCmd 0x03 callP bodySvnCommit c s)

/-! ### Debug tokens (R571, R572, R577) -/

def bodyDbgNonce (c : Call) (s : State) : CmdRes :=
  match c.outOk (c.le 24 8) 32 with
  | some e => .no e s
  | none =>
    let n := padTo 32 (Config.random s.freeCtr)
    .done sOk [] (c.output (c.le 24 8) n (setTrust { s.trust with nonce := some n } s.bump))

/-- DBG_NONCE (0x86). -/
def execDbgNonce (c : Call) (s : State) : Out := .next (runCmd 0x86 callP bodyDbgNonce c s)

/-- NONCE_EXPIRY: 60 s after DBG_NONCE. -/
def execNonceExpiry (s : State) : Out := .next (setTrust { s.trust with nonce := none } s)

/-- The checks of R571 after the layout, in order. -/
def tokenBad (b : List Byte) (s : State) : Option Nat :=
  let key := s.trust.entries.dbgs.find? (fun k => decide (Config.sha384 k = (b.drop 92).take 48))
  firstFail
    [ (s.trust.token.isNone, sBusy), (key.isSome, sAuth), (decide ((b.drop 8).take 48 = ident s), sAuth),
      (decide (s.trust.nonce = some ((b.drop 56).take 32)), sAuth),
      (Config.ecdsaVerify (key.getD []) (Config.sha384 (b.take 144)) ((b.drop 144).take 48) ((b.drop 192).take 48), sAuth),
      (!(byteAt b 6).testBit 1 || (List.range 8).all (fun p => !partPresent s p || decide (partState s p = 0)), sState) ]

/-- A token is admitted (R572). -/
def admitToken (b : List Byte) (s : State) : Nat × State :=
  let n := min (s.trust.admitted + 1) 0xFFFF
  let scope := leAt b 6 2
  let s := setTrust { s.trust with token := some (n, scope, leAt b 88 4), admitted := n, lastDigest := Config.sha384 b,
                                   lastKey := (b.drop 92).take 48 } s
  let s := s.setReg aObsDbg (BitVec.ofNat 32 (b2n (scope.testBit 0) * 2 ^ 31 + n))
  (n, s.setBit aTruStat 28 (scope.testBit 1))

def bodyDbgAdmit (c : Call) (s : State) : CmdRes :=
  let len := c.le 24 4
  match c.input s (c.le 16 8) len with
  | .error e => .no e (setTrust { s.trust with nonce := none } s)
  | .ok b =>
    let done := setTrust { s.trust with nonce := none } s
    let dur := leAt b 88 4
    if decide (len ≠ 240) || decide (b.take 6 ≠ [0x53, 0x58, 0x44, 0x54, 1, 0]) || decide (4 ≤ leAt b 6 2) || decide (dur = 0) ||
        decide (86400 < dur) || decide ((b.drop 140).take 4 ≠ zeros 4) then .no sParam done
    else match tokenBad b s with
      | some e => .no e done
      | none =>
        let x := admitToken b done
        .done sOk (leBytes 2 x.1) x.2

/-- DBG_ADMIT (0x87): every one consumes the nonce. -/
def execDbgAdmit (c : Call) (s : State) : Out := .next (runCmd 0x87 callP bodyDbgAdmit c s)

def bodyDbgEnd (_ : Call) (s : State) : CmdRes := if s.trust.token.isNone then .no sState s else .done sOk [] (endToken s)

/-- DBG_END (0x88). -/
def execDbgEnd (c : Call) (s : State) : Out := .next (runCmd 0x88 callP bodyDbgEnd c s)

/-- TOKEN_EXPIRY: DURATION seconds after admission. -/
def execTokenExpiry (s : State) : Out := .next (if s.trust.token.isNone then s else endToken s)

/-! ### Weight packages (R564, R565, R579) -/

/-- Content key of a package for this device, when every condition of R565 holds. -/
def packageKey (s : State) (hd : List Byte) : Option (List Byte) :=
  match s.trust.entries.sets.find? (fun x => decide (x.id = (hd.drop 8).take 16)) with
  | none => none
  | some x =>
    if x.gen < leAt hd 24 4 || !(leAt hd 28 8).testBit x.member then none
    else match keyUnwrap (kSeal s) x.wrapped with
      | none => none
      | some k => keyUnwrap (hkdf (zeros 48) k (ascii "SCEUX-WPK" ++ x.id) 32) ((hd.drop 48).take 40)

def packageOk (hd : List Byte) : Bool :=
  decide (hd.take 6 = [0x53, 0x58, 0x57, 0x50, 1, 0]) && decide ((hd.drop 36).take 4 = zeros 4) && decide ((hd.drop 88).take 40 = zeros 40) &&
  decide (1 ≤ leAt hd 40 8) && decide (leAt hd 40 8 ≤ 2 ^ 40)
/-- Bytes of a package with its chunks and tags. -/
def packageLen (plen : Nat) : Nat := 128 + plen + 16 * ((plen + 2 ^ 20 - 1) / 2 ^ 20)

/-- Log entry 62, DESIGN CHOICE. -/
def bodyWeightUnwrap (c : Call) (s : State) : CmdRes :=
  let p := c.part.toNat
  let sr := c.b 16
  let dr := c.b 17
  let so := c.le 24 8
  let dof := c.le 32 8
  let inR (r : Nat) : Bool := decide (1 ≤ r) && decide (r ≤ 14) && rgnValid s p r
  if !inR sr || !inR dr || decide (sr = dr) || decide (dof % 128 ≠ 0) || decide (rgnUsable s p sr < so + 128) then .no sParam s
  else if rgnBusy s p sr || rgnBusy s p dr then .no sBusy s
  else
    let x := readFrom 1 p sr so 128 s
    let hd := x.1.2.2
    if x.1.1 ≠ 0 then .no sIntegrity x.2
    else if !packageOk hd || decide (rgnUsable s p sr < so + packageLen (leAt hd 40 8)) ||
        decide (rgnUsable s p dr < dof + (leAt hd 40 8 + 127) / 128 * 128) then .no sParam s
    else if leAt hd 6 2 ≠ 0 ∧ leAt hd 6 2 ≠ tenantOf s p then .no sPerm s
    else match packageKey s hd with
      | none => .no sAuth s
      | some k => .long { a := p, data := padTo 32 k ++ hd } s

/-- WEIGHT_UNWRAP (0x49). -/
def execWeightUnwrap (c : Call) (s : State) : Out := .next (runCmd 0x49 callV bodyWeightUnwrap c s)

/-- One chunk of a package: its plaintext, when its lines read and its tag verifies. -/
def openChunk (p sr so : Nat) (key hd : List Byte) (i n plen : Nat) (s : State) : Option (List Byte) × State :=
  let len := min (2 ^ 20) (plen - 2 ^ 20 * i)
  let x := readFrom 1 p sr (so + 128 + i * (2 ^ 20 + 16)) (len + 16) s
  if x.1.1 ≠ 0 then (none, x.2)
  else
    let aad := hd ++ leBytes 8 i ++ [bite (b2n (decide (i + 1 = n)))]
    (gcmOpen key (leBytes 8 i ++ zeros 4) aad (x.1.2.2.take len) (x.1.2.2.drop len), x.2)

/-- WEIGHT_UNWRAP_DONE: the chunks are decrypted in order, or it stops on a failed tag (R565).
(log entry 62, DESIGN CHOICE) -/
def execWeightUnwrapDone (i : Nat) (s : State) : Out :=
  match outstAt s i [0x49] with
  | none => .next s
  | some o =>
    let c := o.call
    let p := o.a
    let key := o.data.take 32
    let hd := o.data.drop 32
    let plen := leAt hd 40 8
    let n := (plen + 2 ^ 20 - 1) / 2 ^ 20
    let x := (List.range n).foldl (fun (a : (Bool × Nat × Nat) × State) k =>
      if a.1.1 then a
      else
        let y := openChunk p (c.b 16) (c.le 24 8) key hd k n plen a.2
        let at' := c.le 32 8 + 2 ^ 20 * k
        let len := min (2 ^ 20) (plen - 2 ^ 20 * k)
        let full := (len + 127) / 128 * 128
        match y.1 with
        | none => ((true, a.1.2.1, a.1.2.2), (writeFrom 1 p (c.b 17) at' (zeros full) y.2).2)
        | some b =>
          let w := writeFrom 1 p (c.b 17) at' (padTo full b) y.2
          if w.1.1 ≠ 0 ∧ w.1.1 ≠ 6 then ((true, a.1.2.1, a.1.2.2), w.2)
          else ((false, a.1.2.1 + len, a.1.2.2 + 1), w.2)) ((false, 0, 0), s)
    .next (finishO o (if x.1.1 then sIntegrity else sOk) (leBytes 8 x.1.2.1 ++ leBytes 4 x.1.2.2) x.2)

end Sys2Proof.Machine
end

