-- ==== Sys2Proof/Machine/Monitors.lean ====
section
/-! DEFINITION. The safety monitor (chapter 24): clock and rail monitors, SAFE_REQ_N and SAF_ENTER, the MRP watchdog,
self-test, fault records read back; and the PCIe resets (R607 to R609), of which a lost PCLK is one. -/

namespace Sys2Proof.Machine

/-! ### PCIe resets -/

/-- Running commands of PF0 go on and lose their replies (R608, R693). -/
def mutePf0 (s : State) : State :=
  setOutst (s.host.outst.map (fun o => if o.call.fn = 0 then { o with call := { o.call with via := .ring mutePair } } else o)) s

/-- PF0 loses its PCIe state, ring pairs, mailbox and MSI-X entries. CMD_EXPERT is not function-local (R656).
(log entry 71, DESIGN CHOICE) -/
def resetPf0 (s : State) : State := clearFnLocal 0 true (mutePf0 s)

/-- A VF loses them with its commands ended and their replies discarded; no partition reset. -/
def resetVf (f : Nat) (s : State) : State :=
  let was := (fnRt s f).flr
  let s := setFnRt f { fnRt s f with flr := true } s
  let s := finishWhere (fun o => o.acc && decide (o.call.fn = f)) sState s
  let s := clearFnLocal f true s
  setFnRt f { fnRt s f with flr := was } s

/-- NumVFs in force, shown in DEV_PCIE; VFs that it disables lose their PCIe state (R584).
(log entry 71, DESIGN CHOICE) -/
def setNumVf (n : Nat) (s : State) : State :=
  let old := s.host.numVf
  let s := forN 8 (fun k s => if n < k + 1 ∧ k + 1 ≤ old then resetVf (k + 1) s else s) s
  { s with host := { s.host with numVf := n } }.put aDevPcie 9 4 n

/-- PF0_FLR: a function-level reset of PF0; with PF0's SR-IOV capability, NumVFs returns to 0. -/
def execPf0Flr (s : State) : Out := .next (resetPf0 (setNumVf 0 s))

/-- Conventional PCIe reset (R609): every function, no partition.
(log entry 71, DESIGN CHOICE; log entry 72, DESIGN CHOICE) -/
def pcieReset (s : State) : State := resetPf0 (setNumVf 0 s)

/-- CONVENTIONAL_RESET: PCIE_PERST_N, hot reset or link down (`perst` tells PERST from the others). Until PERST is
released and 20 ms have passed, configuration requests are retried (R709). -/
def execConventionalReset (perst : Bool) (s : State) : Out :=
  let s := pcieReset s
  .next (if perst then { s with host := { s.host with cfgReady := false } } else s)

/-! ### Clock monitors (R223, R254, Table 7-3) -/

/-- HCLK_n is lost: a memory fault of the two partitions of stack n. (log entry 17, DESIGN CHOICE) -/
def hclkLost (n : Nat) (s : State) : State := memFault (2 * n + 1) Config.hclkKind.toNat 0 (memFault (2 * n) Config.hclkKind.toNat 0 s)

/-- FCLK_p is lost: the domain faults with kind CLOCK. No further edge of it need come, so it halts here.
(log entry 73, DESIGN CHOICE) -/
def fclkLost (p : Nat) (s : State) : State :=
  if !partPresent s p || plnState s (domLow s p) = stHalted then s else haltOnFaults (domLow s p) (clockFault 6 p 0 s)

/-- A clock is found lost: its CLK_MON bit and the reaction of Table 7-3.
(log entry 72, DESIGN CHOICE; log entry 73, DESIGN CHOICE) -/
def clockLost (clk : Nat) (s : State) : State :=
  let s := if clk < 32 then s.setBit aClkMon clk true else if clk < 34 then s.setBit aClkMonH (clk - 32) true else s
  if clk < 8 then fclkLost clk s
  else if clk ≤ 9 ∨ clk = 255 then deviceFault 1 0x876 clk false s
  else if clk = 10 then lanesMove (refLost ((setToll { s.toll with fallback := true } s).setBit aTolStat 25 true))
  else if clk ≤ 14 then hclkLost (clk - 11) s
  else if clk = 15 then pcieReset s
  else if clk ≤ 31 then
    (if portPresent s (clk - 16) && decide (lnkState s (clk - 16) ≠ stDisabled) then setLnkState (clk - 16) stDownErr 6 s else s)
  else s

/-- CLOCK_LOSS: monitored clock 0 to 33 of R254, or 255 for SCLK. -/
def execClockLoss (clk : Nat) (s : State) : Out :=
  if !(decide (clk < 34) || decide (clk = 255)) then .fault (.noSuchInstance "clock" clk) else .next (clockLost clk s)

/-! ### Rails, watchdog, pin and register requests (R766 to R768, R818) -/

/-- VOLTAGE: a rail has been outside its window for 2 µs. The checks begin at MRP_READY. -/
def execVoltage (rail : Nat) (high : Bool) (mV : Nat) (s : State) : Out :=
  .next (if mrpReady s then deviceFault 2 0x876 (rail % 256 + 256 * b2n high + 65536 * (mV % 65536)) false s else s)

/-- WATCHDOG_EXPIRY: the MRP did not restart its watchdog for 1 ms. It is off while the boot ROM runs and in recovery.
(log entry 78, DESIGN CHOICE) -/
def execWatchdogExpiry (s : State) : Out :=
  if s.boot.phase ≠ 3 ∧ s.boot.phase ≠ 5 then .next s
  else
    let s := s.countSat aSafWdt 0 16 1
    .next (deviceFault 4 0x876 (s.rf aSafWdt 0 16) false s)

/-- SAFE_REQ: the pin has been low for 100 ns, or has gone high. Before MRP_READY the request waits for it (R781). -/
def execSafeReq (low : Bool) (s : State) : Out :=
  let was := s.safe.reqLow
  let s := { s with safe := { s.safe with reqLow := low } }.setBit aSafStat 29 low
  .next (if low && !was && mrpReady s then deviceFault 5 0x876 0 false s else s)

/-- A write of SAF_ENTER (R766, R774). -/
def writeSafEnter (w : RegW) (v : Word) (s : State) : State :=
  if w.fn ≠ 0 then refuse flagPerm w s
  else if bit v 31 then deviceFault 5 0x876 1 true s else s

/-! ### Self-test (R769 to R772, R784) -/

/-- Units that a full test of a mask covers. -/
def testUnits (s : State) (mask : Nat) : List Nat :=
  (List.range 2048).filter (fun u => arrayUnit u && unitPresent s u && mask.testBit (unitPart u))

def failedOf (s : State) (u : Nat) : Bool := s.rbit (aSafFail (u / 32)) (u % 32)
/-- FAILED counts the units marked failed. (log entry 100, DESIGN CHOICE) -/
def refreshFailed (s : State) : State :=
  s.put aSafStstat 0 16 (((List.range 2048).filter (failedOf s)).length)

/-- A unit fails its test: it is marked and recorded as a latent fault (R771). -/
def unitFails (u : Nat) (s : State) : State :=
  deviceFault 8 0x876 u false (refreshFailed (s.setBit (aSafFail (u / 32)) (u % 32) true))

/-- An array unit is idle (R769). -/
def unitIdle (s : State) (u : Nat) : Bool :=
  let d := domLow s (unitPart u)
  decide (plnState s d = stIdle) ||
  ((isCu u || isMu u) && ctxRuns s d && (domRt s d).sw.isNone &&
    (match runCtx s d with | some r => r.ctx.units.all (fun b => decide (b.unit ≠ u)) | none => false))

/-- PERIODIC_SELFTEST: the monitor has tested an idle array unit. -/
def execPeriodicSelftest (unit : Nat) (fail : Bool) (s : State) : Out :=
  if !arrayUnit unit then .fault (.noSuchInstance "array unit" unit)
  else
    let run := s.rbit aSafStctl 31 && unitPresent s unit && !failedOf s unit && unitIdle s unit && !selfTesting s (2 ^ unitPart unit)
    .next (if run && fail then unitFails unit s else s)

def bodySelftest (c : Call) (s : State) : CmdRes :=
  let m := maskBits 8 (c.b 16)
  if m.any (fun p => !partPresent s p) then .no sAbsent s
  else if m.any (fun p => decide (plnState s p ≠ stIdle)) then .no sState s
  else .long {} (s.setBit aSafStat 28 true)

/-- SELFTEST (0x81): the full test of the partitions of MASK begins (R772). -/
def execSelftest (c : Call) (s : State) : Out := .next (runCmd 0x81 callP bodySelftest c s)

/-- SELFTEST_DONE: it ends; `failed` names the units that failed. -/
def execSelftestDone (i : Nat) (failed : List Nat) (s : State) : Out :=
  match outstAt s i [0x81] with
  | none => .next s
  | some o =>
    let mask := o.call.b 16
    let us := testUnits s mask
    let bad := us.filter (fun u => failed.contains u)
    let s := scrubSram mask s
    let s := refreshFailed (forL (us.filter (fun u => !failed.contains u)) (fun u s => s.setBit (aSafFail (u / 32)) (u % 32) false) s)
    let s := forL bad (fun u s => unitFails u s) s
    let ok := maskOf ((maskBits 8 mask).filter (fun p => bad.all (fun u => decide (unitPart u ≠ p))))
    let s := finishO o sOk [bite ok] s
    .next (s.setBit aSafStat 28 (s.host.outst.any (fun x => x.acc && decide (x.op = 0x81))))

/-! ### Fault records (R773, R777, R783) -/

def faultBuf (s : State) (b : Nat) : FaultBuf := tabGet (fun _ => {}) s.safe.bufs b

def bodyFaultRead (c : Call) (s : State) : CmdRes :=
  let p := c.b 16
  let addr := c.le 24 8
  let len := c.le 32 4
  if p = 0xFF && decide (c.fn ≠ 0) then .no sPerm s
  else if p ≠ 0xFF && !partPresent s p then .no sAbsent s
  else if p ≠ 0xFF && decide (c.fn ≠ 0) && decide (c.fn ≠ p + 1) then .no sPerm s
  else match c.outOk addr len with
    | some e => .no e s
    | none =>
      let r := (faultBuf s (if p = 0xFF then devBuf else p)).recs
      let need := 32 * r.length
      .done sOk (leBytes 4 r.length ++ leBytes 4 need) (c.output addr ((r.flatMap id).take (min len need)) s)

/-- FAULT_READ (0x80). -/
def execFaultRead (c : Call) (s : State) : Out := .next (runCmd 0x80 callA bodyFaultRead c s)

/-- The buffer that SAF_RSEL selects. -/
def selBuf (s : State) : FaultBuf := faultBuf s (if s.rf aSafRsel 8 8 = 0xFF then devBuf else s.rf aSafRsel 8 8)

/-- A write of SAF_RSEL: GO copies the selected record into SAF_RDATA. -/
def writeSafRsel (w : RegW) (v : Word) (s : State) : State :=
  if w.fn ≠ 0 then refuse flagPerm w s
  else
    let b := fld v 8 8
    let s := s.put aSafRsel 0 4 (fld v 0 4)
    let s := if 8 ≤ b ∧ b ≠ 0xFF then refuse flagResval w s else s.put aSafRsel 8 8 b
    if !bit v 31 then s
    else
      let r := selBuf s
      let i := s.rf aSafRsel 0 4
      let l := (r.recs[i]?).getD (zeros 32)
      let s := forN 8 (fun k s => s.setReg (aSafRdata k) (BitVec.ofNat 32 (leAt l (4 * k) 4))) s
      s.setReg aSafRstat (BitVec.ofNat 32 (2 ^ 31 * b2n (decide (i < r.recs.length)) + 2 ^ 16 * r.recs.length + r.missed))

/-- A write of SAF_STCTL: PERIOD_EXP outside 4 to 10 is reserved. -/
def writeSafStctl (w : RegW) (v : Word) (s : State) : State :=
  if w.fn ≠ 0 then refuse flagPerm w s
  else if s.rbit aDevLock 14 then refuse flagLock w s
  else
    let s := s.put aSafStctl 31 1 (fld v 31 1)
    if fld v 0 4 < 4 ∨ 10 < fld v 0 4 then refuse flagResval w s else s.put aSafStctl 0 4 (fld v 0 4)

end Sys2Proof.Machine
end

