-- ==== Sys2Proof/Machine/Drain.lean ====
section
/-! DEFINITION. Drain images, migration and restore (R716 to R733, Tables 19-13, 22-9 to 22-11). What a control chunk holds
is readable by a device of the same stepping only: its bytes, and its reading by another device, are constants of the
implementation. -/

namespace Sys2Proof.Machine

/-- What a device reads from the control chunks of an image that it did not write itself.
(log entry 75, DESIGN CHOICE) -/
opaque decodeDrain : List Byte → Option DrainCap

/-! ### The image (R717 to R719) -/

def mig65 : Nat := 65664

/-- SRAM bytes of partition p as captured: each present MU in ascending unit ID and word order, then the slice (R717). -/
def sramBytes (s : State) (c : DrainCap) (p : Nat) : List Byte :=
  let us := (List.range 2048).filter (fun u => isMu u && unitPresent s u && decide (unitPart u = p))
  let word (k : Nat) : List Byte := tabGet (fun _ => zeros 64) c.fab.sram k
  us.flatMap (fun u => (List.range 2560).flatMap (fun w => word (65536 * u + w))) ++
    (List.range 32768).flatMap (fun w => word (65536 * (0x1000 + p) + w))
/-- Number of SRAM chunks of partition p: 192 when no MU is harvested. (log entry 75, DESIGN CHOICE) -/
def sramChunks (s : State) (p : Nat) : Nat :=
  (((List.range 2048).filter (fun u => isMu u && unitPresent s u && decide (unitPart u = p))).length * 163840 + 2097152 + 65535) / 65536
def ctlChunks (mask : Nat) : Nat := 56 * popCount 8 mask
def chunkCount (s : State) (mask : Nat) (sram : Bool) : Nat :=
  ctlChunks mask + (if sram then ((maskBits 8 mask).map (sramChunks s)).foldl (· + ·) 0 else 0)
def imgLen (chunks : Nat) : Nat := 128 + mig65 * chunks

/-- A control chunk's 65,536 bytes. -/
def ctlBody (id i : Nat) : List Byte := (List.range 65536).map (fun j => Config.drainByte id i j)
/-- Bodies of the SRAM chunks of one partition. -/
def cut64k : Nat → List Byte → List (List Byte)
  | 0, _ => []
  | n + 1, b => b.take 65536 :: cut64k n (b.drop 65536)
def chunkBodies (s : State) (c : DrainCap) (sram : Bool) : List (List Byte) :=
  (List.range (ctlChunks c.mask)).map (ctlBody c.id) ++
    (if sram then (maskBits 8 c.mask).flatMap (fun p => cut64k (sramChunks s p) (sramBytes s c p)) else [])

def chunkDigest (id : List Byte) (i : Nat) (body : List Byte) : List Byte := padTo 48 (Config.sha384 (id ++ leBytes 4 i ++ body))
/-- A chunk record (R718). (log entry 75, DESIGN CHOICE) -/
def chunkRecord (id : List Byte) (i : Nat) (body : List Byte) : List Byte :=
  padTo 65536 body ++ leBytes 4 i ++ leBytes 4 body.length ++ id ++ chunkDigest id i body ++ zeros 64
/-- The header over its first 64 bytes. (log entry 75, DESIGN CHOICE) -/
def imgHeader (head : List Byte) (digests : List (List Byte)) : List Byte :=
  let h := padTo 64 head ++ leBytes 4 digests.length ++ zeros 4 ++ leBytes 8 (imgLen digests.length)
  h ++ padTo 48 (Config.sha384 (h ++ digests.flatMap (fun d => d)))

/-- A complete image in region r from an offset (R719): its header and the DIGEST of each chunk record, with the state
after the reads. -/
def readDigests (h r off : Nat) : Nat → Nat → List Byte → State → List Byte × State
  | 0, _, l, s => (l, s)
  | n + 1, i, l, s =>
    let x := readBytes 1 h r (off + 128 + mig65 * i + 65536 + 16) 48 s
    readDigests h r off n (i + 1) (l ++ padTo 48 x.2.1) x.2.2
def completeImage (h r off : Nat) (s : State) : Option (List Byte) × State :=
  let x := readBytes 1 h r off 128 s
  let hdr := padTo 128 x.2.1
  let n := leAt hdr 64 4
  if x.1 ≠ 0 || decide (hdr.take 6 ≠ [0x53, 0x58, 0x44, 0x49, 1, 0]) || decide (leAt hdr 72 8 ≠ imgLen n) || decide (rgnUsable s h r < off + imgLen n) then (none, x.2.2)
  else
    let d := readDigests h r off n 0 [] x.2.2
    (if (hdr.drop 80).take 48 = padTo 48 (Config.sha384 (hdr.take 80 ++ d.1)) then some hdr else none, d.2)

/-! ### DRAIN -/

/-- A region that holds drain images, or the status of naming it. (log entry 75, DESIGN CHOICE) -/
def drainRegion (s : State) (p r off : Nat) : Bool :=
  decide (1 ≤ r) && decide (r ≤ 14) && rgnValid s p r && decide (rgnKind s p r = 4) && !rgnBusy s p r && decide (off % 64 = 0) && decide (off ≤ rgnUsable s p r)

/-- Another DRAIN, MIGRATE, MIGRATE_RECV or RESTORE of domain d runs (R731); an entry without data is the command under way.
(log entry 77, DESIGN CHOICE) -/
def drainBusy (s : State) (c : Call) (op d : Nat) : Bool :=
  s.host.outst.any (fun o => o.acc && decide (0x82 ≤ o.op) && decide (o.op ≤ 0x85) && decide (o.a = d) && decide (o.data ≠ []) && !isCall c op o)

/-- DRAIN_ID: 64 random bits that no image of this device has. -/
def drawId (s : State) : Nat := leNat ((Config.random s.freeCtr).take 8) % 2 ^ 64

def bodyDrain (c : Call) (s : State) : CmdRes :=
  let p := c.part.toNat
  let r := c.b 16
  let off := c.le 24 8
  if domLow s p ≠ p then .no sParam s
  else if !drainRegion s p r off then .no sParam s
  else if drainBusy s c 0x82 p || (maskBits 8 (domMask s p)).any (startPending s) then .no sBusy s
  else if rgnUsable s p r < off + imgLen (chunkCount s (domMask s p) (c.bit 17 0)) then .no sResource s
  else
    let id := drawId s
    let idle := plnState s p = stIdle || plnState s p = stHalted
    let s' := s.bump
    let s' := if idle then { s' with caps := captureDom p id allOnes48 s' :: s'.caps.filter (fun x => decide (x.id ≠ id)) } else s'
    .long { a := p, b := b2n idle, data := leBytes 8 id } s'

/-- DRAIN (0x82): a running domain stops as under PLAN_STOP and its state is captured on the stop edge (R716, R641). -/
def execDrain (c : Call) (s : State) : Out := .next (runCmd 0x82 callT bodyDrain c s)

/-- Write the image of a capture: zero header, chunk records, header (R719). The first error stops it. -/
def writeChunks (h r off : Nat) (id : List Byte) : Nat → List (List Byte) → Nat × State → Nat × State
  | _, [], x => x
  | i, b :: l, x => if x.1 ≠ 0 then x else writeChunks h r off id (i + 1) l (writeBytes 1 h r (off + 128 + mig65 * i) (chunkRecord id i b) x.2)
def writeImage (h r off : Nat) (sram : Bool) (c : DrainCap) (s : State) : Nat × State :=
  let id := leBytes 8 c.id
  let bs := chunkBodies s c sram
  let head := if sram then c.head.set 6 (bite (byteAt c.head 6 ||| 1)) else c.head
  let x := writeChunks h r off id 0 bs (writeBytes 1 h r off (zeros 128) s)
  if x.1 ≠ 0 then x
  else writeBytes 1 h r off (imgHeader head ((List.range bs.length).map (fun i => chunkDigest id i (bs.getD i [])))) x.2

/-- DRAIN_DONE: the image stands in its region (R720). A drain whose domain halted before its capture takes the halted
state (R641). -/
def execDrainDone (i : Nat) (s : State) : Out :=
  match outstAt s i [0x82] with
  | none => .next s
  | some o =>
    let p := o.a
    let id := leNat o.data
    let s := if o.b = 0 ∧ (plnState s p = stHalted ∨ plnState s p = stIdle) then
        { s with caps := captureDom p id allOnes48 s :: s.caps.filter (fun x => decide (x.id ≠ id)) } else s
    match s.caps.find? (fun c => decide (c.id = id)) with
    | none => .next s
    | some c =>
      let r := o.call.b 16
      let off := o.call.le 24 8
      let n := imgLen (chunkCount s c.mask (o.call.bit 17 0))
      if !rgnValid s p r || decide (rgnKind s p r ≠ 4) || decide (rgnUsable s p r < off + n) then .next (finishO o sState [] s)
      else
        let x := writeImage p r off (o.call.bit 17 0) c s
        .next (if x.1 ≠ 0 then finishO o sIntegrity [] x.2 else finishO o sOk (leBytes 8 n) x.2)

/-! ### Migration -/

/-- The port's holder is p's, and it counts as UP for the named device (R722, Table 19-13). -/
def migPort (s : State) (p n dev : Nat) : Bool :=
  migUp s n dev && (if held s p then decide (portPart s n < 8) && decide (tenantOf s (portPart s n) = tenantOf s p)
    else !(decide (portPart s n < 8) && held s (portPart s n)))

/-- Log entry 77, DESIGN CHOICE. -/
def bodyMigrate (c : Call) (s : State) : CmdRes :=
  let p := c.part.toNat
  let r := c.b 16
  let n := c.b 17
  let off := c.le 24 8
  if !portPresent s n then .no sAbsent s
  else if domLow s p ≠ p || !drainRegion s p r off then .no sParam s
  else if drainBusy s c 0x83 p || s.host.outst.any (fun o => o.acc && (decide (o.op = 0x83) || decide (o.op = 0x84)) && decide (o.call.b 17 = n) && !isCall c 0x83 o) then .no sBusy s
  else
    let x := completeImage p r off s
    match x.1 with
    | none => .no sState x.2
    | some hdr =>
      match (holderKeys s p).job with
      | none => .no sKey x.2
      | some k =>
        if !migPort s p n (c.le 18 2) then .no sState x.2
        else .long { a := p, data := hdr ++ migKey k ((hdr.drop 56).take 8) (s.rf aPealId 0 10) (c.le 18 2) } x.2

/-- MIGRATE (0x83): the image is sent by the port's frames (R724). -/
def execMigrate (c : Call) (s : State) : Out := .next (runCmd 0x83 callT bodyMigrate c s)

/-- MIGRATE_TIMEOUT: 100 ms after END, or after the port left UP. -/
def execMigrateTimeout (i : Nat) (s : State) : Out :=
  match outstAt s i [0x83] with
  | none => .next s
  | some o => .next (if o.c = 1 || !migUp s (o.call.b 17) (o.call.le 18 2) then finishO o sTimeout [] s else s)

/-- Log entry 77, DESIGN CHOICE. -/
def bodyMigrateRecv (c : Call) (s : State) : CmdRes :=
  let p := c.part.toNat
  let r := c.b 16
  let n := c.b 17
  if !portPresent s n then .no sAbsent s
  else if domLow s p ≠ p || !drainRegion s p r (c.le 24 8) then .no sParam s
  else if drainBusy s c 0x84 p || s.host.outst.any (fun o => o.acc && (decide (o.op = 0x83) || decide (o.op = 0x84)) && decide (o.call.b 17 = n) && !isCall c 0x84 o) then .no sBusy s
  else match (holderKeys s p).job with
    | none => .no sKey s
    | some k => if !migPort s p n (c.le 18 2) then .no sState s else .long { a := p, data := zeros 128 ++ k } s

/-- MIGRATE_RECV (0x84): waits for OFFER (R725). -/
def execMigrateRecv (c : Call) (s : State) : Out := .next (runCmd 0x84 callT bodyMigrateRecv c s)

/-- The receiver's key for an image. -/
def recvKey (o : Outst) (id : List Byte) (s : State) : List Byte := migKey (o.data.drop 128) id (o.call.le 18 2) (s.rf aPealId 0 10)

/-- The receiver takes OFFER (R725): a later entry holds the header, the migration key and the digests so far.
(log entry 77, DESIGN CHOICE) -/
def takeOffer (o : Outst) (m : MigMsg) (s : State) : State :=
  let p := o.call.part.toNat
  let off := o.call.le 24 8
  let key := recvKey o ((m.hdr.drop 12).take 8) s
  match gcmOpen key (migIv 0 1) (m.hdr.take 28) (padTo 128 m.payload) ((m.hdr.drop 28).take 16) with
  | none => migDiscard o 2 s
  | some hdr =>
    if rgnUsable s p (o.call.b 16) < off + leAt hdr 72 8 then migDiscard o 1 s
    else
      let s := (writeBytes 1 p (o.call.b 16) off (zeros 128) s).2
      updOutst o { o with c := 1, b := 0, data := padTo 128 hdr ++ key } s

/-- The receiver takes a chunk. (log entry 77, DESIGN CHOICE) -/
def takeChunk (o : Outst) (m : MigMsg) (s : State) : State :=
  let p := o.call.part.toNat
  let off := o.call.le 24 8
  let key := (o.data.drop 128).take 32
  let id := (o.data.drop 56).take 8
  let i := leAt m.hdr 20 4
  if m.gap || decide (i ≠ o.b) || decide (leAt o.data 64 4 ≤ i) || decide ((m.hdr.drop 12).take 8 ≠ id) then migDiscard o 4 s
  else match gcmOpen key (migIv i 2) (m.hdr.take 28) (padTo mig65 m.payload) ((m.hdr.drop 28).take 16) with
    | none => migDiscard o 2 s
    | some b =>
      let len := leAt b 65540 4
      if (b.drop 65552).take 48 ≠ chunkDigest id i (b.take (min len 65536)) || decide (leAt b 65536 4 ≠ i) then migDiscard o 3 s
      else
        let x := writeBytes 1 p (o.call.b 16) (off + 128 + mig65 * i) b s
        if x.1 ≠ 0 then migDiscard o 3 x.2
        else updOutst o { o with b := i + 1, data := o.data ++ (b.drop 65552).take 48 } x.2

/-- The receiver takes END: the header is written last, then ACK (R725). -/
def takeEnd (o : Outst) (m : MigMsg) (s : State) : State :=
  let p := o.call.part.toNat
  let n := o.call.b 17
  let dev := o.call.le 18 2
  let hdr := o.data.take 128
  let id := (hdr.drop 56).take 8
  if m.gap || decide ((m.hdr.drop 12).take 8 ≠ id) then migDiscard o 4 s
  else if leAt m.hdr 20 4 ≠ leAt hdr 64 4 || decide (o.b ≠ leAt hdr 64 4) || decide ((hdr.drop 80).take 48 ≠ padTo 48 (Config.sha384 (hdr.take 80 ++ o.data.drop 160))) then
    migDiscard o 3 s
  else
    let x := writeBytes 1 p (o.call.b 16) (o.call.le 24 8) hdr s
    if x.1 ≠ 0 then migDiscard o 3 x.2
    else
      let f : Flit := { kind := 1, dest := dev, payload := migFlitOf (migHead 4 0 (s.rf aPealId 0 10) dev id 0 0) [] }
      finishO o sOk [] (setLink n { linkRt x.2 n with mig := (linkRt x.2 n).mig ++ [f] } x.2)

/-- MIGRATION_MESSAGE: a message has been received whole on a port. (log entry 77, DESIGN CHOICE) -/
def execMigrationMessage (port : Nat) (m : MigMsg) (s : State) : Out :=
  if !decide (port < 16) then .fault (.noSuchInstance "port" port)
  else match migOn s port with
    | none => .next s
    | some o =>
      let typ := byteAt m.hdr 4
      if !migUp s port (o.call.le 18 2) || inSafe s || decide (m.hdr.take 4 ≠ [0x53, 0x58, 0x4D, 0x47]) || decide (leAt m.hdr 6 2 ≠ o.call.le 18 2) ||
          decide (leAt m.hdr 8 2 ≠ s.rf aPealId 0 10) then .next s
      else if o.op = 0x83 then
        .next (if decide ((m.hdr.drop 12).take 8 ≠ (o.data.drop 56).take 8) then s
               else if typ = 4 then finishO o sOk [] s else if typ = 5 then finishO o sIntegrity [] s else s)
      else .next (match typ with
        | 1 => if o.c = 0 then takeOffer o m s else migDiscard o 4 s
        | 2 => if o.c = 1 then takeChunk o m s else s
        | 3 => if o.c = 1 then takeEnd o m s else s
        | _ => s)

/-- STALL: no message for 1 ms after OFFER (R726). -/
def execStall (i : Nat) (s : State) : Out :=
  match outstAt s i [0x84] with
  | none => .next s
  | some o => .next (if o.c = 1 then migDiscard o 5 s else s)

/-- OFFER_TIMEOUT: no OFFER within TIMEOUT ms. -/
def execOfferTimeout (i : Nat) (s : State) : Out :=
  match outstAt s i [0x84] with
  | none => .next s
  | some o => .next (if o.c = 0 then finishO o sTimeout [] s else s)

/-! ### RESTORE (R728, R729, R732) -/

/-- Bodies of the chunk records of an image, with whether every DIGEST holds. -/
def readChunks (h r off : Nat) (id : List Byte) : Nat → Nat → List (List Byte) → Bool → State → List (List Byte) × Bool × State
  | 0, _, l, ok, s => (l, ok, s)
  | n + 1, i, l, ok, s =>
    let x := readBytes 1 h r (off + 128 + mig65 * i) mig65 s
    let b := padTo mig65 x.2.1
    let body := b.take (min (leAt b 65540 4) 65536)
    readChunks h r off id n (i + 1) (l ++ [body])
      (ok && decide (x.1 = 0) && decide (leAt b 65536 4 = i) && decide ((b.drop 65552).take 48 = chunkDigest id i body)) x.2.2

/-- The capture that an image's control chunks hold: this device's own, or what it reads from another's.
(log entry 75, DESIGN CHOICE) -/
def capOf (s : State) (hdr : List Byte) (bodies : List (List Byte)) : DrainCap :=
  let id := leAt hdr 56 8
  let ctl := bodies.take (ctlChunks (byteAt hdr 7))
  match s.caps.find? (fun c => decide (c.id = id) && decide (ctl = (List.range (ctlChunks c.mask)).map (ctlBody c.id))) with
  | some c => c
  | none => (decodeDrain (ctl.flatMap (fun b => b))).getD {}

/-- The resident context that an image's run needs. -/
def imageCtx (s : State) (p : Nat) (hdr : List Byte) : Option Resident :=
  s.plan.resident.find? (fun r => !r.loading && decide (r.mask = domMask s p) && decide (r.imageId = leAt hdr 16 8) && decide (r.ctx.index = byteAt hdr 9))

/-- Log entry 76, DESIGN CHOICE. -/
def bodyRestore (c : Call) (s : State) : CmdRes :=
  let p := c.part.toNat
  let r := c.b 16
  let off := c.le 24 8
  if domLow s p ≠ p || !drainRegion s p r off then .no sParam s
  else if drainBusy s c 0x85 p then .no sBusy s
  else if plnState s p ≠ stIdle then .no sState s
  else
    let x := completeImage p r off s
    match x.1 with
    | none => .no sState x.2
    | some hdr =>
      let run := (byteAt hdr 6).testBit 1
      if byteAt hdr 8 ≠ s.fuse.stepping || decide (byteAt hdr 7 ≠ domMask s p) || (byteAt hdr 6).testBit 2 || (run && (imageCtx s p hdr).isNone) then .no sState x.2
      else
        let y := readChunks p r off ((hdr.drop 56).take 8) (leAt hdr 64 4) 0 [] true x.2
        if !y.2.1 then .no sIntegrity y.2.2
        else
          let cap := capOf s hdr y.1
          if leAt hdr 12 2 ≠ tenantOf s p || (decide (cap.streams ≠ []) && (holderKeys s p).job.isNone) then .no sKey y.2.2
          else .long { a := p, data := hdr ++ y.1.flatMap (fun b => leBytes 4 b.length ++ b) } y.2.2

/-- RESTORE (0x85): every check, then the load ends with RESTORE_DONE. -/
def execRestore (c : Call) (s : State) : Out := .next (runCmd 0x85 callT bodyRestore c s)

/-- The bodies kept in a RESTORE's entry. -/
def keptBodies : Nat → List Byte → List (List Byte)
  | 0, _ => []
  | n + 1, b => let len := leAt b 0 4; (b.drop 4).take len :: keptBodies n (b.drop (4 + len))

/-- Entries of a table outside a set of indices, and those of another inside it, in order of index. -/
def mergeTab {α : Type} [DecidableEq α] (d : Nat → α) (inside : Nat → Bool) (new old : Tab α) : Tab α :=
  (new.filter (fun x => inside x.1)).foldl (fun t x => tabSet d x.1 x.2 t) (tabDrop inside old)

/-- SRAM words of partition p from its bytes. -/
def loadSram (p : Nat) (b : List Byte) (s : State) : State :=
  let us := (List.range 2048).filter (fun u => isMu u && unitPresent s u && decide (unitPart u = p))
  let keys := us.flatMap (fun u => (List.range 2560).map (65536 * u + ·)) ++ (List.range 32768).map (65536 * (0x1000 + p) + ·)
  let t := (keys.foldl (fun (a : Tab (List Byte) × List Byte) k =>
    (tabSet (fun _ => zeros 64) k (padTo 64 (a.2.take 64)) a.1, a.2.drop 64)) (tabDrop (fun k => decide (muPart (k / 65536) = p)) s.fab.sram, b)).1
  { s with fab := { s.fab with sram := t, serr := tabDrop (fun k => decide (muPart (k / 65536) = p)) s.fab.serr } }

/-- Every captured element goes into the domain (R729). Of a port only its queues, DSEQ and PSEQ are state of the run.
(log entry 76, DESIGN CHOICE) -/
def loadCap (p : Nat) (hdr : List Byte) (c : DrainCap) (s : State) : State :=
  let m := domMask s p
  let inm (q : Nat) : Bool := m.testBit q
  let fc : Cnt := BitVec.ofNat 56 (leAt hdr 41 7)
  let sc : Cnt := BitVec.ofNat 56 (leAt hdr 34 7)
  let s := forL (maskBits 8 m) (fun q s => setPartRt q { partRt s q with fc := fc, sc := sc } s) s
  let s := { s with queues := mergeTab (fun _ => {}) (fun q => inm (queuePart q)) c.queues s.queues,
                    ctrs := mergeTab (fun _ => {}) (fun a => decide (bCnt ≤ a) && decide (a < bCnt + 0x40000) && decide (2 ≤ (a - bCnt) / 16 % 4) && inm (unitOwner s (ctrUnit a))) c.ctrs s.ctrs,
                    streams := s.streams.filter (fun (x : StreamRt) => !inm x.part) ++ c.streams.filter (fun (x : StreamRt) => inm x.part),
                    dmas := s.dmas.filter (fun (x : DmaRt) => !inm x.part) ++ c.dmas.filter (fun (x : DmaRt) => inm x.part),
                    outq := mergeTab (fun _ => []) (fun k => inm (k / 8)) c.outq s.outq }
  let s := holdStrikes m s
  let n := s.fab.net
  let w := c.fab.net
  let u32 (k : Nat) : Bool := inm (unitPart (k / 32))
  let net : NetRt := { sbs := mergeTab (fun _ => {}) (fun u => inm (unitPart u)) w.sbs n.sbs,
                       fly := n.fly.filter (fun x => !u32 x.2.1) ++ w.fly.filter (fun x => u32 x.2.1),
                       loc := n.loc.filter (fun x => !u32 x.2.1) ++ w.loc.filter (fun x => u32 x.2.1),
                       queues := mergeTab (fun _ => []) u32 w.queues n.queues, srcs := mergeTab (fun _ => {}) u32 w.srcs n.srcs,
                       creds := n.creds.filter (fun x => !u32 x.2.1) ++ w.creds.filter (fun x => u32 x.2.1),
                       later := n.later.filter (fun x => !u32 x.2.1) ++ w.later.filter (fun x => u32 x.2.1) }
  let s := { s with fab := { s.fab with net := net, cus := mergeTab (fun _ => {}) (fun u => inm (unitPart u)) c.fab.cus s.fab.cus,
                                        mus := mergeTab (fun _ => {}) (fun u => inm (muPart u)) c.fab.mus s.fab.mus } }
  let s := forL (c.regs.filter (fun x => (decide (bBel ≤ x.1) && decide (x.1 < bBel + 0x1000) && inm ((x.1 - bBel) / 0x200)) ||
      (maskBits 8 m).any (fun q => decide (x.1 = aScfCnt q)) ||
      (decide (bCnt ≤ x.1) && decide (x.1 < bCnt + 0x40000) && decide (2 ≤ (x.1 - bCnt) / 16 % 4) && inm (unitOwner s (ctrUnit x.1)))))
    (fun x s => s.setReg x.1 x.2) s
  forL (c.links.filter (fun x => inm (portPart s x.1))) (fun x s =>
    let r := linkRt s x.1
    setLink x.1 { r with txq := x.2.txq, held := x.2.held, dseqTx := x.2.dseqTx, dseqRx := x.2.dseqRx, pseq := x.2.pseq } s) s

/-- The restored domain: with RUN its context is the resume target, PEND_ID naming it. (log entry 76, DESIGN CHOICE) -/
def loadDom (p : Nat) (hdr : List Byte) (c : DrainCap) (s : State) : State :=
  match (if (byteAt hdr 6).testBit 1 then imageCtx s p hdr else none) with
  | none => s
  | some r =>
    let x : ResumeRt := { ctx := r.id, fclass := byteAt hdr 10, stop := leAt hdr 28 6, sc := leAt hdr 34 7, fc := leAt hdr 41 7, job := BitVec.ofNat 32 (leAt hdr 24 4) }
    let s := setDomRt p { c.dom with resume := some x, job := x.job, slip := none, sw := none, chg := none, pend := none, faults := [], limit := (domRt s p).limit } s
    setPend (domMask s p) r.id s

/-- RESTORE_DONE: the load ends. A domain that has left IDLE meanwhile keeps no resume target (R732).
(log entry 76, DESIGN CHOICE) -/
def execRestoreDone (i : Nat) (s : State) : Out :=
  match outstAt s i [0x85] with
  | none => .next s
  | some o =>
    let p := o.a
    if plnState s p ≠ stIdle || (domRt s p).pend.isSome then .next (finishO o sState [] s)
    else
      let hdr := o.data.take 128
      let bodies := keptBodies (leAt hdr 64 4) (o.data.drop 128)
      let c := capOf s hdr bodies
      let m := domMask s p
      let s := loadDom p hdr c (loadCap p hdr c s)
      let s := if (byteAt hdr 6).testBit 0 then
          ((maskBits 8 m).foldl (fun (a : List Byte × State) q =>
            let n := ((List.range 2048).filter (fun u => isMu u && unitPresent s u && decide (unitPart u = q))).length * 163840 + 2097152
            (a.1.drop n, loadSram q (a.1.take n) a.2)) ((bodies.drop (ctlChunks m)).flatMap (fun b => b), s)).2
        else s
      .next (finishO o sOk [] (refreshWaiters p s))

end Sys2Proof.Machine
end

