-- ==== Sys2Proof/Machine/Boot.lean ====
section
/-! DEFINITION. Power, cold and warm reset, boot and host recovery (R194, R264, R347, R374, R452, R481, R547 to R549, R568,
R655 to R657, R674 to R680, R700 to R713, R734 to R736, R764, R765, R781, R782, R815, R817). -/

namespace Sys2Proof.Machine

def setBoot (b : BootRt) (s : State) : State := { s with boot := b }

/-! ### Power -/

/-- A record update that a reset or power loss cuts: its slot holds the whole new record, or is invalid (R567, R568).
(log entry 61, DESIGN CHOICE) -/
def settleRecord (s : State) : State :=
  match s.host.outst.find? (fun o => o.acc && [0x47, 0x48, 0x4A, 0x4B, 0x4C, 0x4D].contains o.op && decide (o.data ≠ [])) with
  | none => s
  | some o =>
    let whole := (Config.freeValue s.freeCtr).getLsbD 0
    (setTrust (putSlot (idleSlot s.trust) (if whole then o.data else []) s.trust) s).bump

/-- What outlives the loss of power: fuses, OTP and flash; and what stands outside the device: reference clocks and pin
levels, the messages it has sent, the commands that wait. -/
def unpowered (s : State) : State :=
  let s := settleRecord s
  { pending := s.pending, fuse := { s.fuse with badStacks := 0 }, out := s.out,
    toll := { refclk := s.toll.refclk }, clap := { inputs := s.clap.inputs }, safe := { reqLow := s.safe.reqLow },
    trust := { slotA := s.trust.slotA, slotB := s.trust.slotB, recOtp := s.trust.recOtp, fwOtp := s.trust.fwOtp, lifecycle := s.trust.lifecycle },
    mem := { gen := s.mem.gen + 1 }, jtag := 1, freeCtr := s.freeCtr }

/-- POWER_LOSS: SYS_PWRGD has fallen (R701). No flash or OTP programming begins from here. -/
def execPowerLoss (s : State) : Out := .next (setBoot { phase := 0, rstLow := s.boot.rstLow } (unpowered s))

/-! ### Firmware (R548, R549, R706, R707) -/

/-- An admissible firmware image. -/
def fwOk (s : State) (img : List Byte) : Bool :=
  let len := leAt img 16 4
  decide (img.take 6 = [0x53, 0x58, 0x46, 0x57, 1, 0]) && decide (4096 ≤ len) && decide (len ≤ 2097152) && decide (len ≤ img.length) &&
  decide ((img.drop 64).take 48 = padTo 48 (Config.sha384 ((img.take len).drop 256))) && decide (s.trust.fwOtp ≤ leAt img 8 4) &&
  Config.ecdsaVerify Config.fwKey (Config.sha384 (img.take 160)) ((img.drop 160).take 48) ((img.drop 208).take 48)

/-- Which slot boots: 0 A, 1 B. -/
def fwPick (s : State) (a b : List Byte) : Option Nat :=
  if fwOk s a && fwOk s b then
    (if leAt a 8 4 < leAt b 8 4 ∨ (leAt a 8 4 = leAt b 8 4 ∧ leAt a 12 4 < leAt b 12 4) then some 1 else some 0)
  else if fwOk s a then some 0 else if fwOk s b then some 1 else none

/-- Measurement of an image from a source of the FIRMWARE TLV; DEV_CFG and DEV_LOCK are loaded (R549, R687, R707). -/
def measure (img : List Byte) (src : Nat) (s : State) : State :=
  let cfg := padTo 4096 (if s.boot.found.flashOk then s.boot.found.cfg else [])
  let s := setTrust { s.trust with fwDigest := padTo 48 (Config.sha384 (img.take (leAt img 16 4))), cfgDigest := padTo 48 (Config.sha384 cfg),
                                   fwSvn := leAt img 8 4, fwVer := leAt img 12 4, fwSrc := src } s
  if cfg.take 4 = [0x53, 0x58, 0x43, 0x46] then
    (s.setReg aDevCfg (BitVec.ofNat 32 (leAt cfg 4 4))).setReg aDevLock (BitVec.ofNat 32 (leAt cfg 8 4))
  else s

/-- The ROM waits for the host, with the beacon (R710). -/
def awaitHost (s : State) : State :=
  setBoot { s.boot with phase := 4, image := [] } ((s.clearReg (aMbxCtl 0)).setReg (aMbxReply 0 0) 0x57525853#32)

/-- Reset value of LNK_n_CTL.PMD: the strap of its half (Table 21-9). -/
def strapPmd (s : State) : State :=
  forN 16 (fun n s => s.put (aLnkCtl n) 27 2 (s.rf aDevStrap (if n < 8 then 14 else 16) 2)) s

/-- Steps 1 to 3 of Table 22-4: straps, choice of the image, measurement. -/
def bootSteps (s : State) : State :=
  let b := s.boot.found
  let strap := if 2 ≤ fld b.strap 0 2 then putFld b.strap 0 2 0 else b.strap
  let s := strapPmd (s.setReg aDevStrap strap)
  let s := if b.flashOk then s else errFlag 9 0 0 0 s
  let s := setTrust { s.trust with flashOk := b.flashOk } s
  match (if b.flashOk && decide (fld strap 0 2 = 0) then fwPick s b.fwA b.fwB else none) with
  | some 0 => setBoot { s.boot with phase := 2 } (measure b.fwA 0 s)
  | some _ => setBoot { s.boot with phase := 2 } (measure b.fwB 1 s)
  | none => awaitHost s

/-- COLD_RESET: SYS_PWRGD rises (R700, R708). TEST_EN, or SYS_RST_N low, holds the boot at step 1 (R735, R815).
(log entry 20, DESIGN CHOICE) -/
def execColdReset (b : BootIn) (s : State) : Out :=
  let low := b.rstLow
  let s := (unpowered s).emit (.pin "GONG_N" 0 false)
  let s := s.setBit aSafStat 29 s.safe.reqLow
  let s := setBoot { phase := 1, rstLow := low, found := b } s
  .next (if b.testEn || low then s else bootSteps s)

/-- SYS_RST_RELEASE: SYS_RST_N rises: a held cold reset goes on (R735). -/
def execSysRstRelease (s : State) : Out :=
  let s := setBoot { s.boot with rstLow := false } s
  .next (if s.boot.phase = 1 && !s.boot.found.testEn then bootSteps s else s)

/-- PERST_RELEASE: configuration requests are answered from 20 ms after PCIE_PERST_N has risen and step 1 is over (R709). -/
def execPerstRelease (s : State) : Out :=
  .next (if 2 ≤ s.boot.phase then { s with host := { s.host with cfgReady := true } } else s)

/-- PCIE_LINK_TRAINED: DEV_PCIE takes the negotiated rate and width (R676). -/
def execPcieLinkTrained (rate width : Nat) (s : State) : Out := .next ((s.put aDevPcie 0 3 rate).put aDevPcie 3 6 width)

/-! ### Host recovery (R710, R711) -/

/-- The status byte of a piece; GO and BUSY clear and DONE sets. (log entry 78, DESIGN CHOICE) -/
def pieceDone (st : Nat) (s : State) : State :=
  let s := (s.clearReg (aMbxCtl 0)).put (aMbxReply 0 0) 0 8 st
  (s.setBit (aMbxStat 0) 31 false).setBit (aMbxStat 0) 30 true

/-- RECOVERY_PIECE: the ROM takes the piece that the mailbox of PF0 holds. -/
def execRecoveryPiece (s : State) : Out :=
  if s.boot.phase ≠ 4 || !s.rbit (aMbxStat 0) 31 then .next s
  else
    let off := (s.reg (aMbxDesc 0 1)).toNat
    let len := (s.reg (aMbxDesc 0 2)).toNat
    let total := s.rf (aMbxDesc 0 3) 0 31
    if s.reg (aMbxDesc 0 0) ≠ 0x43525853#32 || decide (len = 0) || decide (65536 < len) || decide (total < off + len) then .next (pieceDone sParam s)
    else
      let img := spliceAt (padTo (max s.boot.image.length off) s.boot.image) off (mbxInBytes s 0 0 len)
      if !s.rbit (aMbxDesc 0 3) 31 then .next (pieceDone sOk (setBoot { s.boot with image := img } s))
      else
        let img := padTo total img
        if fwOk s img then .next (pieceDone sOk (setBoot { s.boot with phase := 2, image := [] } (measure img 2 s)))
        else .next (pieceDone sAuth (setBoot { s.boot with image := [] } s))

/-! ### The end of a boot (R675, R676, R680, R712) -/

/-- Presence bits of the IDs `base` to `base + 8n - 1` as bytes. -/
def presentBytes (s : State) (base n : Nat) : List Byte :=
  (List.range n).map (fun i => bite (maskOf ((List.range 8).filter (fun j => unitPresent s (base + 8 * i + j)))))

/-- Pseudo-channels 32s + 2c + q that trained. -/
def pcBytes (bad : List Nat) : List Byte :=
  (List.range 16).map (fun i => bite (maskOf ((List.range 8).filter (fun j => !bad.contains (8 * i + j)))))

/-- The availability map (Table 21-5). -/
def availMap (s : State) (bad : List Nat) : List Byte :=
  let chans := maskOf ((List.range 24).filter (chanPresent s))
  let whole := maskOf ((List.range 4).filter (fun k => hsPresent s (2 * k)))
  let body := presentBytes s 0 256 ++ presentBytes s 0x800 16 ++
    [bite (partMaskPresent s), bite (maskOf ((List.range 8).filter (hsPresent s))), bite whole, bite (engineMask s)] ++
    leBytes 2 (portMaskPresent s) ++ leBytes 3 chans ++ [bite (1 + 2 * b2n (decide (s.fuse.variant = 0)))] ++ zeros 6 ++ pcBytes bad
  [0x53, 0x58, 0x41, 0x4D, 1, 0] ++ leBytes 2 320 ++ zeros 4 ++ leBytes 4 (crc32c body) ++ body

/-- Stacks with a pseudo-channel that failed training (R264, R678). -/
def badStacksOf (bad : List Nat) : Nat := maskOf ((List.range 4).filter (fun k => bad.any (fun x => decide (x / 32 = k))))

/-- DEV_CAPS (Table 21-4): DVTRACE is absent on PU4L. -/
def capsOf (s : State) : Nat :=
  s.fuse.variant * 2 ^ 30 + b2n (decide (s.fuse.variant = 0)) * 2 ^ 29 + b2n (decide (s.fuse.variant ≠ 2)) * 2 ^ 28 + engineMask s * 2 ^ 24 +
    partMaskPresent s * 2 ^ 16 + portMaskPresent s

/-- Registers that the MRP fills at the end of a cold boot, and the operator memory keys that it generates (R269). -/
def fillRegs (r : ReadyIn) (s : State) : State :=
  let s := { s with fuse := { s.fuse with badStacks := badStacksOf r.badPcs } }
  let map := availMap s r.badPcs
  let s := forN 80 (fun i s => s.setReg (aAmap i) (BitVec.ofNat 32 (leAt map (4 * i) 4))) s
  let s := s.setReg aDevCaps (BitVec.ofNat 32 (capsOf s))
  let s := (s.setReg aDevFwver (BitVec.ofNat 32 s.trust.fwVer)).setReg aDevFwsvn (BitVec.ofNat 32 s.trust.fwSvn)
  let id := padTo 48 (ident s)
  let s := forN 12 (fun i s => s.setReg (aDevIdent i) (BitVec.ofNat 32 (leAt id (4 * i) 4))) s
  let s := s.setBit aDevStatus 27 (decide (s.trust.fwSrc = 2))
  let s := if s.trust.fwSrc = 2 then errFlag 11 0 0 0 s else s
  let s := if r.otpMargin then errFlag 8 0 0 0 s else s
  let s := forL ((List.range 8).filter (hsPresent s)) (fun h s => freshOperatorKey h s) (bootRecord s)
  let k := drawKey s
  setKeys ringKeySlot { mem := [(0, 0, k.1)] } k.2

/-- Causes of SAF_CAUSE that still hold at MRP_READY (R764, R781). -/
def causesHold (s : State) (cold : Bool) (hold : Nat) : Bool :=
  let c := s.reg aSafCause
  s.safe.reqLow && (cold || c.getLsbD 14) || (cold && decide (c ≠ 0)) || (c.getLsbD 10 && hold.testBit 10) || (c.getLsbD 11 && hold.testBit 11) ||
    (c.getLsbD 12 && s.safe.active.testBit 12)

/-- The safe state as MRP_READY finds it: held or entered while a cause holds, else left, and GONG_N released.
(log entry 79, DESIGN CHOICE) -/
def settleSafe (cold : Bool) (hold : Nat) (s : State) : State :=
  if causesHold s cold hold then
    (if inSafe s then raise 0 12 s
     else if cold && s.safe.reqLow then deviceFault 5 0x876 0 false s
     else raise 0 12 (((s.setBit aSafStat 31 true).setBit aSafStat 30 true).setBit aDevStatus 30 true))
  else
    let s := ((s.setBit aSafStat 31 false).setBit aSafStat 30 false).setBit aDevStatus 30 false
    ((s.clearReg aSafCause)).emit (.pin "GONG_N" 0 true)

/-- From MRP_READY the governor loop holds LOOP at 4 (R752), which settles EFF (R366). -/
def startGov (s : State) : State :=
  forL ((List.range 8).filter (hsPresent s)) (fun h s => refreshGov 0 h (s.put (aGovStat h) 24 4 4)) s

/-- MRP_READY: a boot ends (cold: Table 22-4 step 5; warm: R704). (log entry 20, DESIGN CHOICE) -/
def execMrpReady (r : ReadyIn) (s : State) : Out :=
  if s.boot.rstLow || !(decide (s.boot.phase = 2) || decide (s.boot.phase = 5)) then .next s
  else
    let cold := decide (s.boot.phase = 2)
    let s := setBoot { s.boot with phase := 3 } (if cold then fillRegs r s else s)
    let s := startGov ((s.setBit aDevStatus 31 true).put aDevStatus 28 2 (svcLevel s))
    .next (settleSafe cold r.hold s)

/-! ### Warm reset (R703, R704, Table 20-5) -/

/-- A domain stops at once, without closing its checker and without a packet (R194, R402). -/
def warmStop (d : Nat) (s : State) : State :=
  let s := planBoundary d (clearRun d s)
  let s := setDomRt d { domRt s d with resume := none } s
  setFclass d 0 (setPln d stIdle 0xFF 0xFF s)

/-- A register instance that warm reset covers. (log entry 79, DESIGN CHOICE) -/
def warmCovers (k : Nat) : Bool :=
  let near (a n : Nat) : Bool := decide (a ≤ k) && decide (k < a + n)
  near (aIsrL 0) 0x90 || (decide (bClp ≤ k) && decide (k < bCnt)) || decide (k = aSafRsel) ||
  (List.range 16).any (fun n => near (aLnkCtl n) 4 || near (aLnkCap n) 8 || near (aLnkEcnt n 0) 0x40 || near (aLnkFltA n) 8 || near (aLnkImpA n 0) 0x100) ||
  (List.range 4).any (fun r => near (aRol r 8) 0x2C) ||
  [3, 4, 5, 6, 7].any (fun l => near (aPwr l 0 0) 0x100 && (decide (k % 16 = 8) || decide (k % 16 = 12)))

/-- Function-local instances and MSI-X masks of a function; PCIe configuration stays. Replies of cut commands are lost. -/
def warmFn (f : Nat) (s : State) : State := clearFnLocal f false s

/-- Ports end DISABLED, with keys, identity and routes kept (R347). -/
def warmPort (n : Nat) (s : State) : State :=
  let s := s.put (aLnkStat n) 28 4 stDisabled
  let r := linkRt s n
  setLink n { fcnt := r.fcnt, epoch := r.epoch, rxLast := r.rxLast } s

/-- Staging areas, sessions, nonce and token end (R572, R575). -/
def warmKeys (s : State) : State :=
  let s := forN 9 (fun h s => dropStaging h s) s
  let s := setTrust { s.trust with nonce := none } s
  if s.trust.token.isSome then endToken s else s

/-- Everything a warm reset does at its trigger. (log entry 79, DESIGN CHOICE) -/
def warmReset (s : State) : State :=
  if s.boot.phase = 4 then awaitHost (clearFnLocal 0 false s)
  else if s.boot.phase < 3 then s
  else
    let s := settleRecord s
    let s := setOutst [] s
    let s := s.setBit aTruStat 31 false
    let s := s.setBit aSafStat 28 false
    let s := forL ((List.range 8).filter (fun d => partPresent s d && decide (domLow s d = d))) (fun d s => warmStop d s) s
    let s := forN 9 (fun f s => warmFn f s) s
    let s := forN 24 (fun n s => (dropChannel n s).setBit (aChCtl n) 31 false) s
    let s := { s with obs := { s.obs with staged := [] } }
    let s := forN 4 (fun i s => s.emit (.pin "CLAP_OUT" i false)) s
    let s := setClap { inputs := s.clap.inputs } s
    let s := forN 4 (fun r s => abortEngines (rolGrant s r) false s) s
    let s := forN 16 (fun n s => warmPort n s) s
    let s := strapPmd (s.coverRegs warmCovers)
    let s := warmKeys s
    refreshSvc (setBoot { s.boot with phase := 5 } (s.setBit aDevStatus 31 false))

/-- WARM_RESET: SYS_RST_N has been low for 1 µs. -/
def execWarmReset (s : State) : Out :=
  if s.boot.phase = 0 then .next s
  else
    let s := setBoot { s.boot with rstLow := true } s
    .next (if s.boot.phase = 5 then s else warmReset s)

/-- WATCHDOG_WARM_RESET: 100 µs after the safe state was entered on the watchdog (R768, R782). -/
def execWatchdogWarmReset (s : State) : Out :=
  .next (if s.boot.phase = 3 && inSafe s && s.rbit aSafCause 13 then warmReset s else s)

end Sys2Proof.Machine
end

