-- ==== Sys2Proof/Machine/Pins.lean ====
section
/-! DEFINITION. The TAP (R803, R804, R816), and what the pins show of the state: GONG_N, SMB_ALERT_N and the SMBus telemetry
(R765, R806, R807, R814). -/

namespace Sys2Proof.Machine

/-! ### The TAP -/

/-- The instruction that the TAP holds after one is loaded: BYPASS in the place of EXTEST, EXTEST_PULSE, EXTEST_TRAIN, CLAMP and
HIGHZ unless every slip domain is IDLE or HALTED or the MRP is not ready, and in the place of one it does not know.
(log entry 23, PRESUMED; log entry 99, DESIGN CHOICE) -/
def tapTakes (s : State) (ir : Nat) : Nat :=
  let quiet := (List.range 8).all (fun p => !partPresent s p || decide (plnState s p = stIdle) || decide (plnState s p = stHalted))
  if 3 ≤ ir ∧ ir ≤ 7 then (if quiet || !mrpReady s then ir else 0) else if ir ≤ 8 then ir else 0

/-- JTAG_INSTRUCTION_LOAD: the numbers of `State.jtag` name the instructions. -/
def execJtagInstructionLoad (ir : Nat) (s : State) : Out := .next { s with jtag := tapTakes s ir }

/-- MRP_DEBUG acts only under a token with JTAG_MRP; else as BYPASS. -/
def mrpDebugOpen (s : State) : Bool := decide (s.jtag = 8) && tokenJtag s

/-- IDCODE: STEPPING in bits 31:28. -/
def idcode (s : State) : Nat := s.fuse.stepping % 16 * 2 ^ 28 + 0x05CE1D5B % 2 ^ 28

/-! ### Pins -/

/-- GONG_N is driven low (R765); without power it is not driven (R817). -/
def gongLow (s : State) : Bool := s.rbit aSafStat 30 && decide (s.boot.phase ≠ 0)

/-- SMB_ALERT_N is low (R807). (log entry 98, DESIGN CHOICE) -/
def smbAlert (s : State) : Bool :=
  inSafe s || (List.range 9).any (fun i => s.rbit (aPwrTj i) 31 && decide (tjTarget s ≤ tjOf s i))

/-- The target answers its address (R806, R814). (log entry 98, DESIGN CHOICE) -/
def smbAnswers (s : State) : Bool :=
  let a := s.rf aDevStrap 6 7
  decide (s.boot.phase ≠ 0) && decide (8 ≤ a) && decide (a < 0x78)

/-- DEV_ID (Table 21-3), from the fuses. -/
def devIdOf (s : State) : Word := BitVec.ofNat 32 (0x5CE01 * 2 ^ 12 + s.fuse.stepping % 16 * 2 ^ 8 + s.fuse.variant % 4 * 2 ^ 6 + s.fuse.grade % 4 * 2 ^ 4)

/-- Data bytes of an SMBus telemetry read before its PEC (Table 25-13); none where the target does not acknowledge.
(log entry 98, DESIGN CHOICE) -/
def smbRead (s : State) (cmd : Nat) : Option (List Byte) :=
  if !smbAnswers s then none
  else match cmd with
    | 0x00 => some (leBytes 4 (devIdOf s).toNat)
    | 0x01 => some (leBytes 4 (s.reg aDevStatus).toNat)
    | 0x02 => some (leBytes 4 (s.reg aSafStat).toNat)
    | 0x03 => some (leBytes 4 (s.reg aSafCause).toNat)
    | 0x20 => some (leBytes 2 (s.rf aPwrPower 0 16))
    | 0x21 => some (leBytes 2 (((List.range 4).map (fun k => s.rf (aMemRef k) 24 8)).foldl max 0))
    | 0x30 => some ((List.range 12).flatMap (fun i => leBytes 4 (s.reg (aDevIdent i)).toNat))
    | _ => if 0x10 ≤ cmd ∧ cmd ≤ 0x18 then some (leBytes 2 (s.rf (aPwrTj (cmd - 0x10)) 0 8 + 2 ^ 15 * b2n (s.rbit (aPwrTj (cmd - 0x10)) 31))) else none

end Sys2Proof.Machine
end

