-- ==== Sys2Proof/Machine/HostCmds.lean ====
section
/-! DEFINITION. Device commands of Table 19-4 and the PCIe configuration rows: Bus Master Enable (R610), MSI-X masks (R588),
NumVFs (R584). -/

namespace Sys2Proof.Machine

/-- NOP (0x00): no effect; a FENCE on it acts in the fetch (R601). -/
def execNop (c : Call) (s : State) : Out := .next (runCmd 0x00 callA (fun _ s => .done sOk [] s) c s)

/-- The availability map as the registers hold it (R677). -/
def amapBytes (s : State) : List Byte := (List.range 80).flatMap (fun i => leBytes 4 (s.reg (aAmap i)).toNat)

/-- Capabilities of QUERY_CAPS: those of DEV_CAPS and DEV_PCIE (R676). -/
def capsBytes (s : State) : List Byte :=
  [bite (s.rf aDevCaps 30 2), bite (s.rf aDevCaps 16 8)] ++ leBytes 2 (s.rf aDevCaps 0 16) ++
    [bite (s.rf aDevCaps 24 4), bite (b2n (s.rbit aDevCaps 29) + 2 * b2n (s.rbit aDevCaps 28)), bite (s.rf aDevPcie 0 3),
     bite (s.rf aDevPcie 3 6)] ++ leBytes 4 320

/-- QUERY_CAPS: E_STATE before MRP_READY (R698); min(LEN, 320) bytes of the map. -/
def bodyQueryCaps (c : Call) (s : State) : CmdRes :=
  if !mrpReady s then .no sState s
  else match c.outOk (c.le 16 8) (c.le 24 4) with
    | some e => .no e s
    | none => .done sOk (capsBytes s) (c.output (c.le 16 8) ((amapBytes s).take (c.le 24 4)) s)

/-- QUERY_CAPS (0x01). -/
def execQueryCaps (c : Call) (s : State) : Out := .next (runCmd 0x01 callA bodyQueryCaps c s)

/-- ERRLOG_READ: the flags; with CLEAR a W1C write of exactly those (R684). -/
def bodyErrlogRead (c : Call) (s : State) : CmdRes :=
  let v := s.reg aDevErrl
  .done sOk (leBytes 4 v.toNat ++ leBytes 4 (s.reg aDevErrh).toNat) (if c.bit 16 0 then s.setReg aDevErrl (s.reg aDevErrl &&& ~~~ v) else s)

/-- ERRLOG_READ (0x02). -/
def execErrlogRead (c : Call) (s : State) : Out := .next (runCmd 0x02 callP bodyErrlogRead c s)

/-! ### PCIe configuration -/

/-- A function that answers: PF0, or an enabled VF (R584). (log entry 31, DEDUCED) -/
def fnEnabled (s : State) (f : Nat) : Bool := decide (f ≤ s.host.numVf)

/-- Send the messages that wait on nothing any more (R588). -/
def flushMsix (f : Nat) (s : State) : State :=
  forN 64 (fun v s =>
    let r := fnRt s f
    if r.vpend.getLsbD v && !r.vmask.getLsbD v && !r.msixMask && r.bme && !r.flr then
      (setFnRt f { r with vpend := r.vpend &&& ~~~ BitVec.ofNat 64 (2 ^ v) } s).emit (.msix f v)
    else s) s

/-- BUS_MASTER_ENABLE: while it is 0 replies and messages wait; its return writes them in order. -/
def execBusMasterEnable (fn : Nat) (en : Bool) (s : State) : Out :=
  if 8 < fn then .fault (.noSuchInstance "function" fn)
  else if !fnEnabled s fn || (fnRt s fn).flr then .next s
  else
    let s := setFnRt fn { fnRt s fn with bme := en } s
    .next (if en then flushMsix fn (flushHeld fn s) else s)

/-- Vectors of a function (Table 18-1). -/
def vecCount (f : Nat) : Nat := if f = 0 then 64 else 8

/-- MSIX_UNMASK: the mask of a vector, or of the function, clears. -/
def execMsixUnmask (fn : Nat) (vec : Option Nat) (s : State) : Out :=
  if 8 < fn then .fault (.noSuchInstance "function" fn)
  else if !fnEnabled s fn then .next s
  else
    let r := fnRt s fn
    match vec with
    | none => .next (flushMsix fn (setFnRt fn { r with msixMask := false } s))
    | some v =>
      if vecCount fn ≤ v then .fault (.noSuchInstance "vector" v)
      else .next (flushMsix fn (setFnRt fn { r with vmask := r.vmask &&& ~~~ BitVec.ofNat 64 (2 ^ v) } s))

/-- NUMVFS_WRITE: VFs above NumVFs are disabled, and their partitions are reached only through PF0 (R584).
(log entry 30, DESIGN CHOICE) -/
def execNumvfsWrite (n : Nat) (s : State) : Out :=
  if 8 < n then .fault (.noSuchInstance "VF" n) else .next (setNumVf n s)

end Sys2Proof.Machine
end

