-- ==== Sys2Proof/Machine/Bar0.lean ====
section
/-! DEFINITION. BAR0 (chapter 20): which instances exist, which function reads and writes which register, what each access
does. Every write of a register, by whatever row, ends in `writeReg`. -/

namespace Sys2Proof.Machine

/-! ### Instances (R3, R20, R589, R646, R650, R699) -/

/-- The register instance at PF0-map offset `o` is present; `f` is the function for the function-local blocks.
(log entry 84, DESIGN CHOICE) -/
def regPresent (s : State) (f o : Nat) : Bool :=
  match blockOf o with
  | 0 =>
    let x := o - bDev
    if 0x200 ≤ x ∧ x < 0x290 then decide (x < 0x210) || partPresent s ((x - 0x210) / 0x10)
    else if 0x10000 ≤ x ∧ x < 0x10100 then partPresent s ((x - 0x10000) / 0x20)
    else if 0x20000 ≤ x ∧ x < 0x20080 then partPresent s ((x - 0x20000) / 0x10)
    else true
  | 1 => let x := o - bCmd; decide (0x4000 ≤ x) || decide (x / 0x1000 < pairCount f)
  | 3 =>
    let x := o - bFab
    if x = 0x30100 ∨ x = 0x33000 ∨ x = 0x34100 then true
    else if 0x39000 ≤ x then decide ((x - 0x39000) / 0x10 < if s.fuse.variant = 0 then 8 else 4)
    else if 0x38000 ≤ x then partPresent s ((x - 0x38000) / 0x20)
    else partPresent s (x % 0x1000 / 0x10)
  | 4 =>
    let x := o - bBel
    if x < 0x1000 then partPresent s (bellPart (x / 0x10)) else if 0x3000 ≤ x then partPresent s ((x - 0x3000) / 0x10) else true
  | 5 =>
    let x := o - bTol
    if 0x100 ≤ x ∧ x < 0x140 then portPresent s ((x - 0x100) / 4)
    else if 0x1000 ≤ x ∧ x < 0x1200 then partPresent s ((x - 0x1000) / 0x40)
    else true
  | 6 =>
    let x := o - bMem
    if x < 0x1000 then hsPresent s (x / 0x200)
    else if x < 0x30000 then hsPresent s (x % 0x10000 / 0x20)
    else hsPresent s (2 * ((x - 0x30000) / 4))
  | 7 => let x := o - bLnk; decide (0x400000 ≤ x) || portPresent s (x / 0x40000)
  | 8 =>
    let x := o - bObs
    if x < 0x1800 then chanPresent s (x / 0x100)
    else if x < 0x11000 then hsPresent s ((x - 0x10000) / 0x10)
    else if x = 0x11000 then true
    else if x < 0x13000 then partPresent s ((x - 0x12000) / 4)
    else partPresent s ((x - 0x13000) / 0x10)
  | 10 =>
    let x := o - bCnt
    if x < 0x40000 then unitPresent s (x / 0x40)
    else if 0x41000 ≤ x ∧ x < 0x42000 then decide (s.fuse.variant = 0)
    else if 0x50000 ≤ x ∧ x < 0x50080 then partPresent s ((x - 0x50000) / 0x10)
    else true
  | 11 => enginePresent s ((o - bRol) / 0x1000)
  | 12 =>
    let x := o - bSnk
    if x < 0x600 then chanPresent s (x / 0x40)
    else if 0x10000 ≤ x ∧ x < 0x10400 then portPresent s ((x - 0x10000) / 0x40)
    else if x = 0x20010 then decide (s.fuse.variant = 0)
    else if 0x20100 ≤ x then portPresent s ((x - 0x20100) / 4)
    else true
  | 13 =>
    let x := o - bPwr
    if x < 0x5000 then (let l := 3 + x / 0x1000; let i := x % 0x1000 / 0x10; decide (l = 3) || lpPresent s l i)
    else if 0x10100 ≤ x ∧ x < 0x10120 then partPresent s ((x - 0x10100) / 4)
    else true
  | _ => true

/-- A VF's BAR0 shows the offset (Table 20-3): CLP and the peal registers are not there. -/
def vfSees (o : Nat) : Bool := decide (blockOf o ≠ 9) && !(decide (blockOf o = 7) && decide (bLnk + 0x400000 ≤ o))

/-! ### Reading permission (R649 and the defining chapters) -/

/-- VF f reads the register at PF0-map offset `o`: what a chapter grants by name, and the instances that the VF writes.
(log entry 24, DESIGN CHOICE) -/
def vfReads (s : State) (f o : Nat) : Bool :=
  let p := f - 1
  match blockOf o with
  | 0 =>
    let x := o - bDev
    decide (x ≤ 0x14) || (decide (0x40 ≤ x) && decide (x < 0x70)) || (decide (0x400 ≤ x) && decide (x < 0x540)) ||
      (decide (0x200 ≤ x) && decide (x < 0x290) && decide ((x - 0x200) / 0x10 = f)) ||
      decide (o = aPartStat p) || decide (o = aPartGen p) || decide (o = aKeyStat p) || decide (o = aKeyMemv p)
  | 1 => decide (o ≠ aCmdExpert)
  | 2 => true
  | 3 => decide (o = aPlnSwitch p)
  | 4 => decide (o - bBel < 0x1000) && decide (bellPart ((o - bBel) / 0x10) = p)
  | 5 => decide (o = aTolStat) || decide (o = aTolNowL) || decide (o = aTolNowH) || (decide (aClkFcL p ≤ o) && decide (o < aClkFcL p + 0x40))
  | 6 =>
    let x := o - bMem
    if x < 0x1000 then decide (x / 0x200 = p) && decide (1 ≤ x % 0x200 / 0x10) && decide (x % 0x200 / 0x10 ≤ 14)
    else decide (x < 0x30000) && decide (x % 0x10000 / 0x20 = p)
  | 7 => decide (portPart s ((o - bLnk) / 0x40000) = p)
  | 8 =>
    let x := o - bObs
    if x < 0x1800 then decide (8 ≤ x / 0x100) && decide (chanPart (x / 0x100) = p)
    else decide (o = aGov p) || (decide (0x13000 ≤ x) && decide ((x - 0x13000) / 0x10 = p))
  | 10 => decide (o - bCnt < 0x40000) && decide (unitOwner s ((o - bCnt) / 0x40) = p)
  | 11 => decide (rolGrant s ((o - bRol) / 0x1000) = p)
  | 12 => let x := o - bSnk; decide (x < 0x600) && decide (8 ≤ x / 0x40) && decide (chanPart (x / 0x40) = p)
  | 13 =>
    let x := o - bPwr
    if x < 0x5000 then (let l := 3 + x / 0x1000; let i := x % 0x1000 / 0x10
      if l = 4 ∨ l = 7 then decide (i = p) else decide (l = 5) && decide (portPart s i = p))
    else decide (o = aPwrTj p)
  | 14 => decide (o = aSafStat)
  | _ => false

/-! ### What a read returns -/

/-- The value a register shows: the stored bits, and what reflects hardware at the moment of the read.
(log entry 24, DESIGN CHOICE) -/
def shown (s : State) (key : Nat) : Word :=
  let o := offOf key
  let v := s.reg key
  match blockOf o with
  | 0 => if o = aDevId then devIdOf s else v
  | 5 =>
    let x := o - bTol
    if o = aTolStat then putFld v 0 10 (tollRoot s)
    else if o = aTolNowL then BitVec.ofNat 32 s.toll.now.toNat
    else if o = aTolNowH then s.toll.latHi
    else if o = aTolOffset then tollOffset s
    else if 0x1000 ≤ x ∧ x < 0x1200 then
      (let p := (x - 0x1000) / 0x40
       match x % 0x40 with
       | 0x00 => BitVec.ofNat 32 (fcOf s p).toNat
       | 0x04 => (partRt s p).latFch
       | 0x08 => (partRt s p).latScl
       | 0x0C => (partRt s p).latSch
       | _ => v)
    else v
  | 10 => if o - bCnt < 0x50000 ∧ o % 16 = 12 then putBit v 30 (ctrFrozen s (o - 12)) else v
  | 11 => if (o - bRol) % 0x1000 = 4 then (let r := (o - bRol) / 0x1000; putBit (putBit v 31 (rolBusy s r)) 30 (rolChan s r).isSome) else v
  | 12 =>
    let x := o - bSnk
    if x < 0x600 ∧ x % 0x40 = 4 then putBit v 29 (ringDown s false (x / 0x40))
    else if 0x10000 ≤ x ∧ x < 0x10400 ∧ x % 0x40 = 4 then putBit v 29 (ringDown s true ((x - 0x10000) / 0x40))
    else if o = aSnkRemStat then putBit v 31 (remDown s)
    else v
  | 13 => if o = aPwrStat then putBit v 31 (!avsOn s) else v
  | _ => v

/-- What a read latches (R253). -/
def readLatch (key : Nat) (s : State) : State :=
  if key = aTolNowL then setToll { s.toll with latHi := BitVec.ofNat 32 (s.toll.now.toNat / 2 ^ 32) } s
  else if aClkFcL 0 ≤ key ∧ key < aClkFcL 8 ∧ (key - bTol) % 0x40 = 0 then
    (let p := (key - aClkFcL 0) / 0x40
     setPartRt p { partRt s p with latFch := BitVec.ofNat 32 ((fcOf s p).toNat / 2 ^ 32), latScl := BitVec.ofNat 32 (scOf s p).toNat,
                                   latSch := BitVec.ofNat 32 ((scOf s p).toNat / 2 ^ 32) } s)
  else s

/-- A function reaches the instance: it is enabled, its partition is present, its map shows the offset. -/
def reaches (s : State) (f o : Nat) : Bool := fnEnabled s f && (decide (f = 0) || (partPresent s (f - 1) && vfSees o))

/-- One 32-bit read at PF0-map offset `o` (R646, R649, R652). (log entry 24, DESIGN CHOICE) -/
def readReg (f o : Nat) (s : State) : Word × State :=
  let key := keyOf f o
  if regFields key = [] || !regPresent s f o || !reaches s f o || !(decide (f = 0) || vfReads s f o) then (0, s)
  else (shown s key, readLatch key s)

/-! ### Writing permission -/

/-- A write that needs no expert control (R604): the function's CMD window, RNG_RD of its own rings. MBX_CTL tests the grant
itself (R689). -/
def noExpert (s : State) (f o : Nat) : Bool :=
  decide (blockOf o = 1) || decide (o = bMbx) ||
  (decide (blockOf o = 12) && decide (o - bSnk < 0x10400) && decide ((o - bSnk) % 0x40 = 0x18) &&
    (if o - bSnk < 0x600 then chanWriter s f ((o - bSnk) / 0x40) else decide (f = 0)))

/-- The function may write the register, as far as the register alone decides; writers of single registers test further.
(log entry 25, DEDUCED) -/
def mayWrite (s : State) (f o : Nat) : Bool :=
  let p := f - 1
  let pf := decide (f = 0)
  match blockOf o with
  | 0 => let x := o - bDev; if 0x200 ≤ x ∧ x < 0x290 then decide ((x - 0x200) / 0x10 = f) else pf
  | 1 => decide (o ≠ aCmdExpert) || pf
  | 2 => true
  | 3 => pf || decide (o = aPlnSwitch p)
  | 4 => let x := o - bBel; if x < 0x1000 then bellWriter s f (x / 0x10) else if x = 0x2000 then true else pf
  | 6 =>
    let x := o - bMem
    if x < 0x1000 then memWriter f (x / 0x200) (x % 0x200 / 0x10)
    else pf || (decide (x < 0x30000) && decide (x % 0x10000 / 0x20 = p))
  | 7 =>
    let x := o - bLnk
    let r := x % 0x40000
    pf || (decide (x < 0x400000) && (decide (r = 0x20) || decide (r = 0x24) || (decide (0x40 ≤ r) && decide (r < 0x70)) || decide (0x1000 ≤ r)) &&
      portWriter s f (x / 0x40000))
  | 8 =>
    let x := o - bObs
    if x < 0x1800 then chanWriter s f (x / 0x100) || (pf && decide (x % 0x100 = 0))
    else pf || decide (o = aGov p) || (decide (0x13000 ≤ x) && decide ((x - 0x13000) / 0x10 = p))
  | 10 => if o - bCnt < 0x50000 then ctrWriter s f (o / 16 * 16) else pf
  | 11 => rolWriter s f ((o - bRol) / 0x1000) || decide ((o - bRol) % 0x1000 = 0)
  | 12 => if o - bSnk < 0x600 then chanWriter s f ((o - bSnk) / 0x40) else pf
  | 13 =>
    let x := o - bPwr
    pf || (decide (x < 0x5000) && (decide (x % 16 = 8) || decide (x % 16 = 12)) && lpTakesHints (3 + x / 0x1000) &&
      decide (x % 0x1000 / 0x10 = p) && held s p)
  | _ => pf

/-- Register instances that a reset of partition p covers (Table 20-5). -/
def resetCovers (s : State) (p key : Nat) : Bool :=
  let near (a n : Nat) : Bool := decide (a ≤ key) && decide (key < a + n)
  partCover s p key || near (aBelCnt (32 * p)) 0x200 || near (aChCtl (8 + 2 * p)) 0x200 || near (aRng false (8 + 2 * p) 0) 0x80 ||
  (near bCnt 0x40000 && decide (unitOwner s (ctrUnit key) = p) && decide (2 ≤ (key - bCnt) / 16 % 4)) ||
  (List.range 4).any (fun r => enginePresent s r && decide (rolGrant s r = p) && near (aRol r 8) 0x2C)

/-- A reset that covers the instance is in progress (R658). (log entry 29, DEDUCED) -/
def underReset (s : State) (key : Nat) : Bool :=
  let o := offOf key
  let f := key / 0x10000000 - 1
  decide (s.boot.phase ≤ 1) ||
  (decide (s.boot.phase = 5) && (isLocal o || warmCovers key)) ||
  (isLocal o && decide (0x10000000 ≤ key) && ((fnRt s f).flr || (decide (1 ≤ f) && decide (partState s (f - 1) = 3)))) ||
  (List.range 8).any (fun p => decide (partState s p = 3) && resetCovers s p key)

/-! ### Writers of single registers -/

/-- The write by the types of the register's fields alone (R13, R14, R654). (log entry 28, DESIGN CHOICE) -/
def writeGeneric (w : RegW) (v : Word) (s : State) : State :=
  let fs := regFields w.key
  let locked := s.rbit aDevLock (blockOf (offOf w.key))
  let s := s.setReg w.key (writeFields fs locked (s.reg w.key) v)
  if locked && decide (tyMask fs .rwl ≠ 0) then refuse flagLock w s else s

/-- A field that takes only some values (R16): outside them it keeps its value. -/
def writeRanged (lo wd : Nat) (ok : Nat → Bool) (w : RegW) (v : Word) (s : State) : State :=
  if ok (fld v lo wd) then writeGeneric w v s
  else refuse flagResval w (writeGeneric w (putFld v lo wd (s.rf w.key lo wd)) s)

/-- IMR (R681): a bit that goes from 1 to 0 while its cause is set issues one message. -/
def writeImr (f : Nat) (high : Bool) (v : Word) (s : State) : State :=
  let imr := if high then aImrH f else aImrL f
  let isr := if high then aIsrH f else aIsrL f
  let open' := s.reg imr &&& ~~~ v &&& s.reg isr
  let s := s.setReg imr v
  forN 32 (fun i s => if bit open' i then msixSend f (i + 32 * b2n high) s else s) s

/-- RQ_k_CTL (R590, R591, R596): while ACTIVE only EN may fall. (log entry 80, DEDUCED) -/
def writeRqCtl (f k : Nat) (w : RegW) (v : Word) (s : State) : State :=
  let a := aRqCtl f k
  let old := s.reg a
  if s.rbit (aRqStat f k) 31 then
    (if bit old 31 && decide (v &&& definedMask a = putBit old 31 false) then
       let r := fnRt s f
       refreshPair f k (setFnRt f { r with fenced := r.fenced.filter (fun c => decide (c.via ≠ .ring k)) } (s.setReg a v))
     else refuse flagState w s)
  else if !(decide (4 ≤ fld v 16 4) && decide (fld v 16 4 ≤ 12) && decide (fld v 16 4 < fld v 12 4) && decide (fld v 12 4 ≤ 13)) then refuse flagState w s
  else if !bit v 31 then s.setReg a v
  else if f ≠ 0 ∧ partState s (f - 1) ≠ 1 then refuse flagState w s
  else
    let r := fnRt s f
    let s := setFnRt f { r with stopped := r.stopped.filter (fun j => decide (j ≠ k)),
                                fenced := r.fenced.filter (fun c => decide (c.via ≠ .ring k)) } (s.setReg a v)
    let s := ((s.setReg (aSqTail f k) 0).setReg (aSqHead f k) 0).setReg (aCqHead f k) 0
    let s := s.setReg (aCqTail f k) (BitVec.ofNat 32 (2 ^ 31))
    s.setReg (aRqStat f k) (BitVec.ofNat 32 (2 ^ 31))

/-- A ring base register (R590). -/
def writeRqBase (f k : Nat) (w : RegW) (v : Word) (s : State) : State :=
  if s.rbit (aRqStat f k) 31 then refuse flagState w s else s.setReg w.key v

/-- SQ_TAIL, the doorbell (R592, R612). (log entry 80, DEDUCED) -/
def writeTail (f k : Nat) (v : Word) (s : State) : State :=
  let s := s.setReg (aSqTail f k) v
  if fld v 0 12 < 2 ^ s.rf (aRqCtl f k) 16 4 then s
  else
    let r := fnRt s f
    setFnRt f { r with stopped := k :: r.stopped.filter (fun j => decide (j ≠ k)) } ((s.setBit (aRqStat f k) 30 true).put (aRqStat f k) 28 2 1)

/-- CQ_HEAD (R594). (log entry 84, DESIGN CHOICE) -/
def writeCqHead (f k : Nat) (w : RegW) (v : Word) (s : State) : State :=
  let n := 2 ^ s.rf (aRqCtl f k) 12 4
  let h := s.rf (aCqHead f k) 0 13
  let t := s.rf (aCqTail f k) 0 13
  let x := fld v 0 13
  if x < n ∧ (x + n - h) % n ≤ (t + n - h) % n then s.setReg (aCqHead f k) v else refuse flagState w s

/-- A function may open a window onto a region (R661): class M, regions 15 among them, and no PLAN region. -/
def b2wReach (s : State) (f h r : Nat) : Bool :=
  hsPresent s h && callM false true { fn := f } s h r && decide (rgnKind s h r ≠ 0)

/-- B2W_k_CTL (R661). -/
def writeB2wCtl (f k : Nat) (w : RegW) (v : Word) (s : State) : State :=
  let a := aB2wCtl f k
  if s.rbit a 31 && decide (fld v 0 7 ≠ s.rf a 0 7) then refuse flagState w s
  else if bit v 31 && !b2wReach s f (fld v 4 3) (fld v 0 4) then refuse flagPerm w s
  else s.setReg a v

/-- B2W_k_BASEL and BASEH. -/
def writeB2wBase (f k : Nat) (w : RegW) (v : Word) (s : State) : State :=
  if s.rbit (aB2wCtl f k) 31 then refuse flagState w s else s.setReg w.key v

/-- A GO is refused (R689). (log entry 82, DESIGN CHOICE) -/
def mbxRefuse (flag kind f : Nat) (s : State) : State :=
  let op := s.rf (aMbxDesc f 0) 0 8
  let s := (s.setBit (aMbxStat f) 28 true).put (aMbxStat f) 26 2 kind
  errFlag flagMbx f 3 op (errFlag flag f 3 op s)

/-- MBX_CTL.GO (R689, R690). In host recovery the ROM takes the request, whatever R689 says (R710).
(log entry 82, DESIGN CHOICE) -/
def writeMbxCtl (f : Nat) (v : Word) (s : State) : State :=
  if !bit v 31 then s
  else if s.boot.phase ≠ 4 ∧ expertOf s f = false then mbxRefuse flagPerm 1 f s
  else if s.boot.phase ≠ 4 ∧ s.rbit (aMbxStat f) 31 = true then mbxRefuse flagState 2 f s
  else (s.setBit (aMbxStat f) 31 true).setBit (aMbxStat f) 30 false

/-- MBX_DESC and MBX_IN keep while a request runs (R692). -/
def writeMbxArea (f : Nat) (w : RegW) (v : Word) (s : State) : State :=
  if s.rbit (aMbxStat f) 31 then refuse flagState w s else s.setReg w.key v

/-- An injection register (R86, R122, R156): `tgt` is the target's partition, `lo`, `wd`, `ok` the field with reserved values. -/
def writeInj (tgt lo wd : Nat) (ok : Nat → Bool) (w : RegW) (v : Word) (s : State) : State :=
  if bit v 31 && held s tgt then refuse flagPerm w s else writeRanged lo wd ok w v s

def writeResinj (w : RegW) (v : Word) (s : State) : State :=
  writeInj (unitPart (fld v 0 12)) 29 2 (fun x => decide (x = 1) || decide (x = 2)) w v s
def writeEinj (w : RegW) (v : Word) (s : State) : State :=
  writeInj (if fld v 28 2 = 1 then fld v 12 3 else unitPart (fld v 0 12)) 28 2 (fun x => decide (x ≤ 1)) w v s
def writeCinj (w : RegW) (v : Word) (s : State) : State :=
  writeInj (unitPart (fld v 0 12)) 12 5 (fun _ => true) w v s

/-- CLK_SLIP_p: LIMIT_EXP is taken at the next plan boundary, at once while no context runs (R233).
(log entry 25, DEDUCED) -/
def writeClkSlip (p : Nat) (w : RegW) (v : Word) (s : State) : State :=
  let s := writeRanged 27 5 (fun x => decide (10 ≤ x) && decide (x ≤ 19)) w v s
  if domLow s p = p && !ctxRuns s p then setDomRt p { domRt s p with limit := s.rf (aClkSlip p) 27 5 } s else s

/-- Report a pin or hint of the governor that yields to what is in force (R367, R740). -/
def govWritten (h : Nat) (pin hint : Bool) (s : State) : State :=
  let s := s.put (aGovStat h) 0 8 (peakNow s h)
  let d := govDec s h
  let part := if partPresent s h then some h else none
  match d.conf with
  | some (up, down, req) =>
    if (decide (down = 2) && pin) || (decide (down = 4) && hint) then
      (if d.val = govEff s h then stagePolicy 0x872 1 up down part h 1 req d.val s else refreshGov 1 h s)
    else refreshGov 0 h s
  | none => refreshGov 0 h s

/-- OBS_GOV_h (R371): HINT is the VF's and PF0's, the pins are PF0's. (log entry 26, DESIGN CHOICE) -/
def writeGov (h : Nat) (w : RegW) (v : Word) (s : State) : State :=
  let pinsOk := decide (fld v 24 4 ≤ 10) && decide (fld v 20 4 ≤ fld v 24 4)
  let hintOk := decide (fld v 16 4 ≤ 10) || decide (fld v 16 4 = 15)
  let newPins := decide (fld v 24 4 ≠ govMax s h) || decide (fld v 20 4 ≠ govMin s h)
  let s :=
    if !newPins then s
    else if w.fn ≠ 0 then refuse flagPerm w s
    else if !pinsOk then refuse flagResval w s
    else (s.put (aGov h) 24 4 (fld v 24 4)).put (aGov h) 20 4 (fld v 20 4)
  let s := if hintOk then s.put (aGov h) 16 4 (fld v 16 4) else refuse flagResval w s
  govWritten h (newPins && decide (w.fn = 0) && pinsOk) hintOk s

/-- A counter's registers (R440 to R446): SEL, VALL, VALH, STAT. -/
def writeCtr (w : RegW) (v : Word) (s : State) : State :=
  let o := offOf w.key
  let a := o / 16 * 16
  match o % 16 with
  | 0 =>
    let s := ((s.setBit a 31 (bit v 31)).setBit a 19 (bit v 19)).put a 16 3 (fld v 16 3)
    if codeOk (ctrGroup a) (ctrUnit a) (fld v 0 8) then writeEvsel a (fld v 0 8) s else refuse flagResval w s
  | 4 => writeVall a v.toNat s
  | 8 => writeValh a (fld v 0 16) s
  | _ => writeGeneric w v s

/-- CNT_SNAP (R447). -/
def writeCntSnap (v : Word) (s : State) : State :=
  let s := s.put aCntSnap 0 11 (fld v 0 11)
  if bit v 31 then goSnap (fld v 0 11) s else s

/-- The writer of HINT and HINT_EN (R753). (log entry 26, DESIGN CHOICE) -/
def hintWriter (s : State) (f l i : Nat) : Bool := lpTakesHints l && (if held s i then decide (f = i + 1) else decide (f = 0))

/-- A bound written by register that yields is reported with ORIGIN 1 (R740). (log entry 27, DESIGN CHOICE) -/
def boundYields (l i up down : Nat) (y : Option (Nat × Nat)) (s : State) : State :=
  match y with
  | some (req, app) => stagePolicy 0x875 l up down (lpPart s l i) i 1 req app s
  | none => s

/-- A register of a loop (Table 23-4): 0 VAL, 1 PIN, 2 HINT, 3 CTL. -/
def writeLoop (l i j : Nat) (w : RegW) (v : Word) (s : State) : State :=
  let mine := hintWriter s w.fn l i
  match j with
  | 1 =>
    if !boundsOk l (fld v 0 16) (fld v 16 16) then refuse flagResval w s
    else (let s := s.setReg w.key v; boundYields l i 1 2 (pinYields s l i) s)
  | 2 =>
    if !lpTakesHints l then s
    else if !mine then refuse flagPerm w s
    else if !boundsOk l (fld v 0 16) (fld v 16 16) then refuse flagResval w s
    else (let s := s.setReg w.key v; boundYields l i 3 4 (hintYields s l i) s)
  | 3 =>
    let pinBits := decide (bit v 31 ≠ s.rbit w.key 31) || bit v 29
    let hintBit := decide (bit v 30 ≠ s.rbit w.key 30) && lpTakesHints l
    let s := if w.fn ≠ 0 then (if pinBits then refuse flagPerm w s else s)
      else (if bit v 29 then s.setBit w.key 29 false else s).setBit w.key 31 (bit v 31)
    let s := if !hintBit then s else if mine then s.setBit w.key 30 (bit v 30) else refuse flagPerm w s
    let s := if w.fn = 0 && bit v 31 && pinBits then boundYields l i 1 2 (pinYields s l i) s else s
    if hintBit && mine && bit v 30 then boundYields l i 3 4 (hintYields s l i) s else s
  | _ => s

/-- PWR_LIM: TJ_TARGET 60 to 100, PCAP 200 to 800. -/
def writePwrLim (w : RegW) (v : Word) (s : State) : State :=
  let tOk := decide (60 ≤ fld v 24 8) && decide (fld v 24 8 ≤ 100)
  let pOk := decide (200 ≤ fld v 0 10) && decide (fld v 0 10 ≤ 800)
  let s := if tOk then s.put aPwrLim 24 8 (fld v 24 8) else s
  let s := if pOk then s.put aPwrLim 0 10 (fld v 0 10) else s
  if tOk && pOk then s else refuse flagResval w s

/-! ### The write -/

/-- Log entry 25, DEDUCED. -/
def writeDev (w : RegW) (v : Word) (s : State) : State :=
  let x := offOf w.key - bDev
  if 0x208 ≤ x ∧ x < 0x290 ∧ x % 0x10 = 8 then writeImr ((x - 0x200) / 0x10) false v s
  else if x = 0x20C then writeImr 0 true v s
  else if 0x10000 ≤ x ∧ x < 0x10100 ∧ x % 0x20 = 0 then writePartCtl ((x - 0x10000) / 0x20) w v s
  else if x = 0x10100 then writePartSwitch w v s
  else writeGeneric w v s

def writeCmd (w : RegW) (v : Word) (s : State) : State :=
  let x := offOf w.key - bCmd
  let f := w.fn
  if x < 0x4000 then
    (let k := x / 0x1000
     match x % 0x1000 with
     | 0x00 => writeRqCtl f k w v s
     | 0x08 => writeRqBase f k w v s
     | 0x0C => writeRqBase f k w v s
     | 0x10 => writeRqBase f k w v s
     | 0x14 => writeRqBase f k w v s
     | 0x18 => writeTail f k v s
     | 0x20 => writeCqHead f k w v s
     | _ => writeGeneric w v s)
  else if 0x9000 ≤ x ∧ x < 0x9100 then
    (if x % 0x10 = 0 then writeB2wCtl f ((x - 0x9000) / 0x10) w v s else writeB2wBase f ((x - 0x9000) / 0x10) w v s)
  else writeGeneric w v s

def writeMbx (w : RegW) (v : Word) (s : State) : State :=
  let x := offOf w.key - bMbx
  if x = 0 then writeMbxCtl w.fn v s
  else if 0x100 ≤ x ∧ x < 0x140 then writeMbxArea w.fn w v s
  else if 0x10000 ≤ x ∧ x < 0x20000 then writeMbxArea w.fn w v s
  else writeGeneric w v s

def writeFab (w : RegW) (v : Word) (s : State) : State :=
  let x := offOf w.key - bFab
  if x = 0x30100 then writeResinj w v s
  else if x = 0x33000 then writeEinj w v s
  else if x = 0x34100 then writeCinj w v s
  else if 0x38000 ≤ x ∧ x < 0x38100 ∧ x % 0x20 = 12 then writePlnSwitch ((x - 0x38000) / 0x20) w v s
  else writeGeneric w v s

def writeBel (w : RegW) (v : Word) (s : State) : State :=
  let x := offOf w.key - bBel
  if x < 0x1000 then (if x % 16 = 12 then writeGeneric w v s else writeBell (x / 16) (x % 16 / 4) w v s)
  else if x = 0x2000 then writeStrk w v s
  else writeGeneric w v s

def writeTol (w : RegW) (v : Word) (s : State) : State :=
  let x := offOf w.key - bTol
  if x = 0 then writeTolCtl w v s
  else if x = 0x1C then writeSetsec w v s
  else if x = 0x28 then writeRanged 0 12 (fun h => decide (1 ≤ h) && decide (h ≤ 3600)) w v s
  else if 0x1000 ≤ x ∧ x < 0x1200 ∧ x % 0x40 = 0x10 then writeClkSlip ((x - 0x1000) / 0x40) w v s
  else writeGeneric w v s

def writeMem (w : RegW) (v : Word) (s : State) : State :=
  let x := offOf w.key - bMem
  if x < 0x1000 then
    (if x % 16 = 0 then writeRgnA (x / 0x200) (x % 0x200 / 16) w v s else writeRgnB (x / 0x200) (x % 0x200 / 16) w v s)
  else if 0x10000 ≤ x ∧ x < 0x10100 ∧ x % 0x20 = 0 then writeRkCtl ((x - 0x10000) / 0x20) w v s
  else writeGeneric w v s

def writeLnk (w : RegW) (v : Word) (s : State) : State :=
  let x := offOf w.key - bLnk
  if 0x400000 ≤ x then
    (let r := x - 0x400000
     if r = 0 then writePealId w v s
     else if r = 8 then writePealCtl w v s
     else if 0x1000 ≤ r then writePealRt ((r - 0x1000) / 4) w v s
     else writeGeneric w v s)
  else
    let n := x / 0x40000
    let r := x % 0x40000
    if r = 0 then writeLnkCtl n w v s
    else if r = 8 then writeLnkOwn n w v s
    else if r = 0x20 then writeLnkCap n w v s
    else if 0x1000 ≤ r then writeImp n ((r - 0x1000) / 8) (decide (r % 8 = 4)) w v s
    else writeGeneric w v s

/-- PF0 writes BUF and PORT_OK of a tenant's channel and nothing else of it (R355). (log entry 26, DESIGN CHOICE) -/
def writeHeldCtl (n : Nat) (w : RegW) (v : Word) (s : State) : State :=
  let a := aChCtl n
  let m : Word := fmask 29 1 ||| fmask 16 5
  let rest := decide ((v &&& definedMask a &&& ~~~ m) ≠ (s.reg a &&& ~~~ m))
  let s := if rest then refuse flagPerm w s else s
  writeChCtl n w ((s.reg a &&& ~~~ m) ||| (v &&& m)) s

def writeObs (w : RegW) (v : Word) (s : State) : State :=
  let x := offOf w.key - bObs
  if x < 0x1800 then
    (let n := x / 0x100
     let r := x % 0x100
     if r = 0 then (if chanWriter s w.fn n then writeChCtl n w v s else writeHeldCtl n w v s)
     else if r = 4 then writeChCls n w v s
     else if r = 8 then writeChUr n 0 v s
     else if r = 12 then writeChUr n 1 v s
     else if 0x20 ≤ r ∧ r % 16 = 0 then writeAwSel n ((r - 0x20) / 16) w v s
     else writeGeneric w v s)
  else if 0x10000 ≤ x ∧ x < 0x10080 ∧ x % 16 = 0 then writeGov ((x - 0x10000) / 16) w v s
  else writeGeneric w v s

def writeClpBlock (w : RegW) (v : Word) (s : State) : State :=
  let x := offOf w.key - bClp
  if x = 0 then writeClpCtl v s else if x = 4 then writeGeneric w v s else writeClp w v s

def writeCnt (w : RegW) (v : Word) (s : State) : State :=
  let x := offOf w.key - bCnt
  if x < 0x50000 then writeCtr w v s
  else if x < 0x51000 then writeRanged 0 5 (fun e => decide (8 ≤ e) && decide (e ≤ 24)) w v s
  else if x = 0x51000 then writeRanged 0 6 (fun e => decide (16 ≤ e) && decide (e ≤ 40)) w v s
  else if x = 0x52000 then writeCntSnap v s
  else writeGeneric w v s

def writeRol (w : RegW) (v : Word) (s : State) : State :=
  let x := offOf w.key - bRol
  match x % 0x1000 with
  | 0x00 => writeRolCtl (x / 0x1000) w v s
  | 0x10 => writeJctl (x / 0x1000) w v s
  | 0x20 => if v = 0 then refuse flagResval w s else writeGeneric w v s
  | _ => writeGeneric w v s

/-- A ring set register of a channel or of an ingest port. -/
def writeRng (ing : Bool) (n r : Nat) (w : RegW) (v : Word) (s : State) : State :=
  match r with
  | 0x00 => writeRngCtl ing n w (v &&& definedMask w.key) s
  | 0x08 => writeRngBase ing n false w v s
  | 0x0C => writeRngBase ing n true w v s
  | 0x10 => writeRngLen ing n w v s
  | 0x18 => writeRngRd ing n w v s
  | 0x1C => writeRngWb ing n false w v s
  | 0x20 => writeRngWb ing n true w v s
  | 0x24 => writeSnkCfg n w v s
  | _ => writeGeneric w v s

def writeSnk (w : RegW) (v : Word) (s : State) : State :=
  let x := offOf w.key - bSnk
  if x < 0x600 then writeRng false (x / 0x40) (x % 0x40) w v s
  else if 0x10000 ≤ x ∧ x < 0x10400 then writeRng true ((x - 0x10000) / 0x40) (x % 0x40) w v s
  else if x = 0x20000 then writePar w v s
  else if x = 0x20010 then writeSer v s
  else if x = 0x20020 then writeRem w v s
  else writeGeneric w v s

def writePwr (w : RegW) (v : Word) (s : State) : State :=
  let x := offOf w.key - bPwr
  if x < 0x5000 then writeLoop (3 + x / 0x1000) (x % 0x1000 / 0x10) (x % 16 / 4) w v s
  else if x = 0x10000 then writePwrLim w v s
  else writeGeneric w v s

def writeSaf (w : RegW) (v : Word) (s : State) : State :=
  let x := offOf w.key - bSaf
  if x = 0x0C then writeSafEnter w v s
  else if x = 0x10 then writeSafStctl w v s
  else if x = 0x40 then writeSafRsel w v s
  else writeGeneric w v s

/-- A write that the permissions let through, by block. -/
def writeBlock (w : RegW) (v : Word) (s : State) : State :=
  match blockOf (offOf w.key) with
  | 0 => writeDev w v s
  | 1 => writeCmd w v s
  | 2 => writeMbx w v s
  | 3 => writeFab w v s
  | 4 => writeBel w v s
  | 5 => writeTol w v s
  | 6 => writeMem w v s
  | 7 => writeLnk w v s
  | 8 => writeObs w v s
  | 9 => writeClpBlock w v s
  | 10 => writeCnt w v s
  | 11 => writeRol w v s
  | 12 => writeSnk w v s
  | 13 => writePwr w v s
  | _ => writeSaf w v s

/-- One 32-bit write at PF0-map offset `o` by function `f`: nothing where no register lies or the function sees none (R646,
R650), a flag where a reset (R658), expert control (R604) or a permission refuses it. -/
def writeReg (f src o : Nat) (v : Word) (s : State) : State :=
  let w : RegW := { fn := f, src := src, key := keyOf f o }
  if regFields w.key = [] || !regPresent s f o || !reaches s f o then s
  else if underReset s w.key then refuse flagState w s
  else if !noExpert s f o && !expertOf s f then refuse flagPerm w s
  else if !mayWrite s f o then refuse flagPerm w s
  else writeBlock w v s

/-- PF0-map offset of an offset in a function's BAR0 (R648). -/
def bar0Map (f o : Nat) : Option Nat := if f = 0 then some o else vfMap o

/-- Size of a function's BAR0 (Table 18-3). -/
def bar0Size (f : Nat) : Nat := if f = 0 then 0x4000000 else 0x1000000

def bar0Read (f o : Nat) (s : State) : Word × State :=
  match bar0Map f o with | some x => readReg f x s | none => (0, s)

def bar0Write (f src o : Nat) (v : Word) (s : State) : State :=
  match bar0Map f o with | some x => writeReg f src x v s | none => s

end Sys2Proof.Machine
end

