-- ==== Sys2Proof/Machine/Bar2.lean ====
section
/-! DEFINITION. The BAR2 aperture (R659 to R668). -/

namespace Sys2Proof.Machine

/-- Region offset that an aperture address reaches (R659). -/
def b2wOffset (s : State) (f addr : Nat) : Nat :=
  let k := addr / 2 ^ 28
  (s.reg (aB2wBaseL f k)).toNat + 2 ^ 32 * (s.reg (aB2wBaseH f k)).toNat + addr % 2 ^ 28

def b2wHs (s : State) (f k : Nat) : Nat := s.rf (aB2wCtl f k) 4 3
def b2wRgn (s : State) (f k : Nat) : Nat := s.rf (aB2wCtl f k) 0 4

/-- Set bits of B2W_STAT. (log entry 81, DESIGN CHOICE) -/
def b2wFlag (f : Nat) (bits : List Nat) (s : State) : State := forL bits (fun i s => s.setBit (aB2wStat f) i true) s

/-- What the tests of R662 say of a request: 0 the window is off, 1 refused, 2 outside, 3 served. -/
structure B2wTest where
  res : Nat := 0
  flags : List Nat := []
  deriving DecidableEq, Repr

/-- R662 in order; the safe state sets DENIED (Table 24-4). A region that is invalid or busy sets DENIED (R662) and OOR (R667,
Table 20-6). (log entry 81, DESIGN CHOICE) -/
def b2wTest (s : State) (f addr len : Nat) (write : Bool) : B2wTest :=
  let k := addr / 2 ^ 28
  let h := b2wHs s f k
  let r := b2wRgn s f k
  if !s.rbit (aB2wCtl f k) 31 then { res := 0 }
  else if !hsPresent s h || !rgnValid s h r || rgnBusy s h r then { res := 1, flags := [30, 31] }
  else if inSafe s || !expertOf s f || (partPresent s h && (decide (partState s h = 2) || decide (partState s h = 3))) ||
      (write && !s.rbit (aB2wCtl f k) 30) then { res := 1, flags := [30] }
  else if rgnUsable s h r < b2wOffset s f addr + len then { res := 2, flags := [31] }
  else { res := 3 }

/-- Slots that an access to a TRACE or OPRING region takes from the governor (R665). (log entry 81, DESIGN CHOICE) -/
def b2wCount (h r lines : Nat) (s : State) : State :=
  if rgnKind s h r = 1 ∨ rgnKind s h r = 2 then
    { s with obs := { s.obs with used := tabSet (fun _ => 0) h (tabGet (fun _ => 0) s.obs.used h + lines) s.obs.used } }
  else s

/-- Read the lines of a request: bytes, poison by line. -/
def b2wRead (h r off len : Nat) (s : State) : List Byte × List Bool × State :=
  let l0 := off / 128
  let n := if len = 0 then 0 else (off + len - 1) / 128 - l0 + 1
  let x := (List.range n).foldl (fun (a : List Byte × List Bool × State) i =>
    let rd := readLine a.2.2 h r (l0 + i) false
    let s := if rd.1 = 0 then a.2.2 else memError h rd.1 1 r (l0 + i) a.2.2
    (a.1 ++ rd.2, a.2.1 ++ [decide (rd.1 ≠ 0)], s)) ([], [], s)
  ((x.1.drop (off % 128)).take len, x.2.1, b2wCount h r n x.2.2)

/-- Bytes of one 64-byte half of a line that a request enables (index in the half, byte). -/
def halfBytes (off : Nat) (data : List Byte) (en : List Bool) (l hf : Nat) : List (Nat × Byte) :=
  (List.range 64).filterMap (fun j =>
    let a := 128 * l + 64 * hf + j
    if off ≤ a ∧ a < off + data.length ∧ en.getD (a - off) true = true then some (j, data.getD (a - off) 0) else none)

/-- One piece of a write, in one line (R663): a full line write, or a partial write of each half touched. -/
def b2wLine (h r off : Nat) (data : List Byte) (en : List Bool) (l : Nat) (s : State) : State :=
  let lo := halfBytes off data en l 0
  let hi := halfBytes off data en l 1
  if lo.length = 64 ∧ hi.length = 64 then (writeReport 1 h r l 0 ((lo ++ hi).map Prod.snd) s).2
  else
    let one (hf : Nat) (bs : List (Nat × Byte)) (s : State) : State :=
      if bs = [] then s
      else
        let old := (((readLine s h r l false).2).drop (64 * hf)).take 64
        (writeReport 1 h r l (64 * hf) (bs.foldl (fun o x => o.set x.1 x.2) old) s).2
    one 1 hi (one 0 lo s)

/-- A request of PCIe: 1 to 4,096 bytes inside one 4 KiB block. -/
def b2wShape (addr len : Nat) : Bool := decide (addr < 2 ^ 32) && decide (1 ≤ len) && decide (addr % 4096 + len ≤ 4096)

/-- BAR2_ACCESS: one request, tested on arrival (R662), served in unplanned slots (R665).
(log entry 81, DESIGN CHOICE) -/
def execBar2Access (fn addr : Nat) (write : Bool) (len : Nat) (data : List Byte) (en : List Bool) (s : State) : Out :=
  let n := if write then data.length else len
  if 8 < fn then .fault (.noSuchInstance "function" fn)
  else if !b2wShape addr n then .fault (.noSuchInstance "BAR2 request" addr)
  else if !fnEnabled s fn then .next s
  else
    let k := addr / 2 ^ 28
    let t := b2wTest s fn addr n write
    let h := b2wHs s fn k
    let r := b2wRgn s fn k
    let off := b2wOffset s fn addr
    let s := b2wFlag fn t.flags s
    if t.res = 3 then
      (if write then
         let l0 := off / 128
         let m := (off + n - 1) / 128 - l0 + 1
         .next (b2wCount h r m (forN m (fun i s => b2wLine h r off data en (l0 + i) s) s))
       else
         let x := b2wRead h r off n s
         let s := if x.2.1.any id then b2wFlag fn [29] x.2.2 else x.2.2
         .next (s.emit (.bar2 fn x.1 x.2.1 false)))
    else if write then .next (if t.res ≠ 0 && !expertOf s fn then errFlag flagPerm fn 2 k s else s)
    else .next (s.emit (.bar2 fn (zeros n) [] false))

/-- BAR2_READ_TIMEOUT: a read that passed its tests was not served within 40 µs (R664). -/
def execBar2ReadTimeout (fn addr : Nat) (s : State) : Out :=
  if 8 < fn then .fault (.noSuchInstance "function" fn)
  else if !b2wShape addr 1 then .fault (.noSuchInstance "BAR2 request" addr)
  else if fnEnabled s fn && decide ((b2wTest s fn addr 1 false).res = 3) then .next ((b2wFlag fn [28] s).emit (.bar2 fn [] [] true))
  else .next s

end Sys2Proof.Machine
end

