-- ==== Sys2Proof/Machine/RegRows.lean ====
section
/-! DEFINITION. Rows that write or read one register. Each ends in the one write of Bar0. -/

namespace Sys2Proof.Machine

/-- A row that writes one register through BAR0. -/
def rowWrite (o : Nat) (w : Wr) (s : State) : Out :=
  if 8 < w.fn then .fault (.noSuchInstance "function" w.fn) else .next (writeReg w.fn 0 o w.val s)

/-- An instance number below its count, or the fault that names it. -/
def guarded (what : String) (n count : Nat) (k : Out) : Out := if n < count then k else .fault (.noSuchInstance what n)

/-- PART_SWITCH_GO (R527). -/
def execPartSwitchGo (w : Wr) (s : State) : Out := rowWrite aPartSwitch w s
/-- PART_CTL_RESET (R535). -/
def execPartCtlReset (w : Wr) (p : Nat) (s : State) : Out := guarded "partition" p 8 (rowWrite (aPartCtl p) w s)
/-- BEL_STRK (R211). -/
def execBelStrk (w : Wr) (s : State) : Out := rowWrite aBelStrk w s
/-- PLN_SWITCH_GO (R187). -/
def execPlnSwitchGo (w : Wr) (p : Nat) (s : State) : Out := guarded "partition" p 8 (rowWrite (aPlnSwitch p) w s)
/-- MEM_RGNA (R267, R295). -/
def execMemRgna (w : Wr) (h r : Nat) (s : State) : Out :=
  guarded "half-stack" h 8 (guarded "region" r 16 (rowWrite (aRgnA h r) w s))
/-- MEM_RKCTL_GO (R296). -/
def execMemRkctlGo (w : Wr) (h : Nat) (s : State) : Out := guarded "half-stack" h 8 (rowWrite (aRkCtl h) w s)
/-- JCTL_GO (R510). -/
def execJctlGo (w : Wr) (r : Nat) (s : State) : Out := guarded "Roll engine" r 4 (rowWrite (aRol r 0x10) w s)
/-- CHANNEL_EN (R359). -/
def execChannelEn (w : Wr) (n : Nat) (s : State) : Out := guarded "channel" n 24 (rowWrite (aChCtl n) w s)
/-- SNK_PAR_EN (R463). -/
def execSnkParEn (w : Wr) (s : State) : Out := rowWrite aSnkPar w s
/-- SNK_SER_EN (R467). -/
def execSnkSerEn (w : Wr) (s : State) : Out := rowWrite aSnkSer w s
/-- CLP_ARM (R436). -/
def execClpArm (w : Wr) (s : State) : Out := rowWrite aClpCtl w s
/-- CLP_LEVEL_RELEASE (R439). -/
def execClpLevelRelease (w : Wr) (s : State) : Out := rowWrite aClpOut w s

/-- The counter is one of the device's (Table 13-5). -/
def ctrOk (c : CtrId) : Bool := decide (c.group ≤ 3) && decide (c.idx < groupSize c.group) && (decide (c.group ≠ 0) || decide (c.unit < 0x877))

/-- EVSEL_WRITE (R444). -/
def execEvselWrite (w : Wr) (ctr : CtrId) (s : State) : Out :=
  if ctrOk ctr then rowWrite (aCntSel ctr.group ctr.unit ctr.idx) w s else .fault (.noSuchInstance "counter" ctr.idx)
/-- VALH_LOAD (R446). -/
def execValhLoad (w : Wr) (ctr : CtrId) (s : State) : Out :=
  if ctrOk ctr then rowWrite (aCntSel ctr.group ctr.unit ctr.idx + 8) w s else .fault (.noSuchInstance "counter" ctr.idx)
/-- CNT_SNAP_GO (R447). -/
def execCntSnapGo (w : Wr) (s : State) : Out := rowWrite aCntSnap w s
/-- CNT_FRZ_RELEASE (R448). -/
def execCntFrzRelease (w : Wr) (s : State) : Out := rowWrite aCntFrz w s
/-- RETRAIN (R315). -/
def execRetrain (w : Wr) (n : Nat) (s : State) : Out := guarded "port" n 16 (rowWrite (aLnkCtl n) w s)
/-- TOL_CTL_SRC (R830). -/
def execTolCtlSrc (w : Wr) (s : State) : Out := rowWrite aTolCtl w s
/-- TOL_SETSEC (R249). -/
def execTolSetsec (w : Wr) (s : State) : Out := rowWrite aTolSetsec w s
/-- SAF_RSEL_GO (R777). -/
def execSafRselGo (w : Wr) (s : State) : Out := rowWrite aSafRsel w s
/-- SAF_ENTER (R766). -/
def execSafEnter (w : Wr) (s : State) : Out := rowWrite aSafEnter w s
/-- INJECTION_ARM (R86, R122, R156): 0 CU_RESINJ, 1 SRAM_EINJ, 2 NET_CINJ. -/
def execInjectionArm (w : Wr) (which : Nat) (s : State) : Out :=
  guarded "injection register" which 3 (rowWrite (match which with | 0 => aCuResinj | 1 => aSramEinj | _ => aNetCinj) w s)
/-- DOORBELL (R592). -/
def execDoorbell (w : Wr) (k : Nat) (s : State) : Out := guarded "ring pair" k 4 (rowWrite (bCmd + 0x1000 * k + 0x18) w s)
/-- CQ_HEAD_WRITE (R594). -/
def execCqHeadWrite (w : Wr) (k : Nat) (s : State) : Out := guarded "ring pair" k 4 (rowWrite (bCmd + 0x1000 * k + 0x20) w s)
/-- RQ_EN (R591, R596). -/
def execRqEn (w : Wr) (k : Nat) (s : State) : Out := guarded "ring pair" k 4 (rowWrite (bCmd + 0x1000 * k) w s)
/-- RNG_RD (R470). -/
def execRngRd (w : Wr) (n : Nat) (ingest : Bool) (s : State) : Out :=
  guarded "ring" n (if ingest then 16 else 24) (rowWrite (aRng ingest n 0x18) w s)
/-- FLUSH (R458). -/
def execFlush (w : Wr) (n : Nat) (s : State) : Out := guarded "channel" n 24 (rowWrite (aSnkCfg n) w s)
/-- DEV_LOCK (R687). -/
def execDevLock (w : Wr) (s : State) : Out := rowWrite aDevLock w s
/-- IMR_WRITE (R681). -/
def execImrWrite (w : Wr) (f : Nat) (high : Bool) (s : State) : Out :=
  guarded "function" f 9 (rowWrite (if high then aImrH f else aImrL f) w s)
/-- B2W_CTL (R661). -/
def execB2wCtl (w : Wr) (k : Nat) (s : State) : Out := guarded "window" k 16 (rowWrite (bCmd + 0x9000 + 0x10 * k) w s)

/-- A row that reads one register: the value leaves the device (R652). -/
def rowRead (fn o : Nat) (s : State) : Out :=
  if 8 < fn then .fault (.noSuchInstance "function" fn)
  else if !fnEnabled s fn then .next s
  else
    let x := readReg fn o s
    .next (x.2.emit (.read fn o x.1))

/-- TOL_NOWL_READ (R253). -/
def execTolNowlRead (fn : Nat) (s : State) : Out := rowRead fn aTolNowL s
/-- CLK_FCL_READ (R253). -/
def execClkFclRead (fn p : Nat) (s : State) : Out := guarded "partition" p 8 (rowRead fn (aClkFcL p) s)

end Sys2Proof.Machine
end

