-- ==== Sys2Proof/Machine/Rings.lean ====
section
/-! DEFINITION. Where commands come from: descriptors of the rings (R592 to R601), requests of the mailbox (R689 to R693), and
the two commands that access registers (R634, R671). -/

namespace Sys2Proof.Machine

/-- The state a command leaves; every command answers a next state. -/
def afterExec (o : Out) (s : State) : State := match o with | .next t => t | _ => s

/-! ### REG_READ and REG_WRITE -/

/-- OFFSET and COUNT are acceptable. (log entry 33, DESIGN CHOICE) -/
def regArgs (c : Call) (most : Nat) : Bool :=
  let n := c.b 20
  decide (c.le 16 4 % 4 = 0) && decide (1 ≤ n) && decide (n ≤ most) && decide (c.le 16 4 + 4 * n ≤ bar0Size c.fn)

/-- Read `n` registers from an offset, ascending. -/
def regReads (f : Nat) : Nat → Nat → State → List Byte × State
  | 0, _, s => ([], s)
  | n + 1, o, s =>
    let x := bar0Read f o s
    let r := regReads f n (o + 4) x.2
    (leBytes 4 x.1.toNat ++ r.1, r.2)

/-- Log entry 33, DESIGN CHOICE. -/
def bodyRegRead (c : Call) (s : State) : CmdRes :=
  if !regArgs c 4 then .no sParam s
  else
    let x := regReads c.fn (c.b 20) (c.le 16 4) s
    .done sOk x.1 x.2

/-- REG_READ (0xF0). -/
def execRegRead (c : Call) (s : State) : Out := .next (runCmd 0xF0 callA bodyRegRead c s)

/-- A state without what the error log leaves of a refused write: its registers, PF0's cause and message. -/
def noTrace (s : State) : State :=
  { s with regs := tabDrop (fun k => decide (k = aDevErrl) || decide (k = aErrCapA) || decide (k = aErrCapB) || decide (k = aErrCapC) || decide (k = aIsrL 0)) s.regs,
           out := [], host := { s.host with fns := tabSet (fun _ => {}) 0 {} s.host.fns } }

/-- One write of REG_WRITE: the status that stops the command when the write had no effect, and the state.
(log entry 32, DEDUCED) -/
def regWriteOne (c : Call) (o : Nat) (v : Word) (s : State) : Option Nat × State :=
  match bar0Map c.fn o with
  | none => (some sState, s)
  | some x =>
    let fs := regFields (keyOf c.fn x)
    let s0 := s.setReg aDevErrl 0
    let t := writeReg c.fn c.src x v s0
    let fl := t.reg aDevErrl
    let s' := writeReg c.fn c.src x v s
    if !regPresent s c.fn x || fs = [] then (some sState, s)
    else if decide (fl ≠ 0) && (decide (noTrace t = noTrace s0) || bit fl flagMbx) then (some (if bit fl flagPerm then sPerm else sState), s')
    else if fs.all (fun f => decide (f.ty = .ro)) then (some sState, s')
    else (none, s')

/-- The writes of REG_WRITE in ascending order: writes made, the status that stopped them. (log entry 32, DEDUCED) -/
def regWrites (c : Call) : Nat → Nat → State → Nat × Option Nat × State
  | 0, _, s => (0, none, s)
  | n + 1, i, s =>
    match regWriteOne c (c.le 16 4 + 4 * i) (BitVec.ofNat 32 (c.le (24 + 4 * i) 4)) s with
    | (some e, s') => (0, some e, s')
    | (none, s') =>
      let r := regWrites c n (i + 1) s'
      (r.1 + 1, r.2)

/-- Log entry 32, DEDUCED; log entry 33, DESIGN CHOICE. -/
def bodyRegWrite (c : Call) (s : State) : CmdRes :=
  if !regArgs c 8 then .no sParam s
  else
    let x := regWrites c (c.b 20) 0 s
    match x.2.1 with
    | some e => .fail e [bite x.1] (if x.1 = 0 then x.2.2 else mark c 0xF1 x.2.2)
    | none => .done sOk [bite x.1] x.2.2

/-- REG_WRITE without the mailbox request that it may submit. -/
def regWriteCore (c : Call) (s : State) : State := runCmd 0xF1 callA bodyRegWrite c s

/-! ### The catalogue (R624 to R634) -/

/-- Run a command by its opcode. -/
def runOpcode (op : Nat) (c : Call) (s : State) : State :=
  match op with
  | 0x00 => afterExec (execNop c s) s
  | 0x01 => afterExec (execQueryCaps c s) s
  | 0x02 => afterExec (execErrlogRead c s) s
  | 0x03 => afterExec (execFwSvnCommit c s) s
  | 0x10 => afterExec (execPartQuery c s) s
  | 0x11 => afterExec (execPartAssign c s) s
  | 0x12 => afterExec (execPartReset c s) s
  | 0x13 => afterExec (execPartExpert c s) s
  | 0x14 => afterExec (execBellSet c s) s
  | 0x15 => afterExec (execBellStrike c s) s
  | 0x16 => afterExec (execBellWait c s) s
  | 0x20 => afterExec (execPlanAdmit c s) s
  | 0x21 => afterExec (execPlanLoad c s) s
  | 0x22 => afterExec (execPlanStart c s) s
  | 0x23 => afterExec (execPlanSwitch c s) s
  | 0x24 => afterExec (execPlanEvict c s) s
  | 0x25 => afterExec (execPlanStop c s) s
  | 0x26 => afterExec (execPlanClear c s) s
  | 0x30 => afterExec (execRgnSet c s) s
  | 0x31 => afterExec (execRgnClear c s) s
  | 0x32 => afterExec (execRgnZfill c s) s
  | 0x33 => afterExec (execRekeyRegion c s) s
  | 0x34 => afterExec (execMemRead c s) s
  | 0x35 => afterExec (execMemWrite c s) s
  | 0x36 => afterExec (execRollGrant c s) s
  | 0x37 => afterExec (execRollJob c s) s
  | 0x38 => afterExec (execDpPush c s) s
  | 0x40 => afterExec (execAttest c s) s
  | 0x41 => afterExec (execCertGet c s) s
  | 0x42 => afterExec (execKeySession c s) s
  | 0x43 => afterExec (execKeyInstall c s) s
  | 0x44 => afterExec (execKeyCommit c s) s
  | 0x45 => afterExec (execKeyDiscard c s) s
  | 0x46 => afterExec (execKeyDelete c s) s
  | 0x47 => afterExec (execSetEnrol c s) s
  | 0x48 => afterExec (execSetLeave c s) s
  | 0x49 => afterExec (execWeightUnwrap c s) s
  | 0x4A => afterExec (execToolkeyEnrol c s) s
  | 0x4B => afterExec (execToolkeyRevoke c s) s
  | 0x4C => afterExec (execDbgkeyEnrol c s) s
  | 0x4D => afterExec (execDbgkeyRevoke c s) s
  | 0x50 => afterExec (execChConfig c s) s
  | 0x51 => afterExec (execChWindow c s) s
  | 0x52 => afterExec (execChEnable c s) s
  | 0x53 => afterExec (execRingSet c s) s
  | 0x54 => afterExec (execSinkPort c s) s
  | 0x55 => afterExec (execGovSet c s) s
  | 0x56 => afterExec (execClapLoad c s) s
  | 0x57 => afterExec (execCntSet c s) s
  | 0x58 => afterExec (execCntSnap c s) s
  | 0x60 => afterExec (execLinkCtl c s) s
  | 0x61 => afterExec (execLinkAssign c s) s
  | 0x62 => afterExec (execLinkQuery c s) s
  | 0x63 => afterExec (execLinkCapture c s) s
  | 0x64 => afterExec (execLinkImpair c s) s
  | 0x65 => afterExec (execPealSet c s) s
  | 0x66 => afterExec (execPealRoute c s) s
  | 0x67 => afterExec (execTollSet c s) s
  | 0x68 => afterExec (execTollQuery c s) s
  | 0x70 => afterExec (execPwrPin c s) s
  | 0x71 => afterExec (execPwrHint c s) s
  | 0x72 => afterExec (execPwrQuery c s) s
  | 0x80 => afterExec (execFaultRead c s) s
  | 0x81 => afterExec (execSelftest c s) s
  | 0x82 => afterExec (execDrain c s) s
  | 0x83 => afterExec (execMigrate c s) s
  | 0x84 => afterExec (execMigrateRecv c s) s
  | 0x85 => afterExec (execRestore c s) s
  | 0x86 => afterExec (execDbgNonce c s) s
  | 0x87 => afterExec (execDbgAdmit c s) s
  | 0x88 => afterExec (execDbgEnd c s) s
  | 0xF0 => afterExec (execRegRead c s) s
  | 0xF1 => regWriteCore c s
  | n => runCmd n callA (fun _ t => .no sOpcode t) c s

/-- A call from the 64 bytes of a descriptor (Table 18-6). -/
def callOf (f : Nat) (via : Via) (d : List Byte) (buf : List Byte) (bufErr : Bool) : Call :=
  { fn := f, via := via, flags := bite (byteAt d 1), tag := BitVec.ofNat 16 (leAt d 2 2), part := bite (byteAt d 4),
    rsv := BitVec.ofNat 24 (leAt d 5 3), job := BitVec.ofNat 32 (leAt d 8 4), layer := BitVec.ofNat 16 (leAt d 12 2),
    oper := BitVec.ofNat 16 (leAt d 14 2), param := padTo 48 (d.drop 16), buf := buf, bufErr := bufErr }

/-! ### The mailbox (R689 to R691) -/

def mbxBusy (s : State) (f : Nat) : Bool := s.rbit (aMbxStat f) 31

/-- The 64 bytes of MBX_DESC. -/
def mbxDesc (s : State) (f : Nat) : List Byte := (List.range 16).flatMap (fun i => leBytes 4 (s.reg (aMbxDesc f i)).toNat)

/-- Run the request that an access or a command has just submitted: BUSY has risen since state `s0`. In host recovery the ROM takes the
request instead (R710). (log entry 82, DESIGN CHOICE) -/
def runMail (f : Nat) (s0 s : State) : State :=
  if mbxBusy s f && !mbxBusy s0 f && decide (s.boot.phase ≠ 4) then
    (let d := mbxDesc s f
     runOpcode (byteAt d 0) (callOf f .mailbox d [] false) s)
  else s

/-- MBX_GO (R689). (log entry 82, DESIGN CHOICE) -/
def execMbxGo (w : Wr) (s : State) : Out :=
  if 8 < w.fn then .fault (.noSuchInstance "function" w.fn) else .next (runMail w.fn s (writeReg w.fn 0 bMbx w.val s))

/-- REG_WRITE (0xF1): its writes, then the mailbox request that one of them submitted. -/
def execRegWrite (c : Call) (s : State) : Out := .next (runMail c.fn s (regWriteCore c s))

/-- REGISTER_WRITE: a BAR0 write (R586, R651): aligned, of 4 or 8 bytes, a 64-bit write as two, the lower address first; any
other access completes with Unsupported Request. (log entry 30, DESIGN CHOICE) -/
def execRegisterWrite (a : Acc) (s : State) : Out :=
  if 8 < a.fn then .fault (.noSuchInstance "function" a.fn)
  else if bar0Size a.fn ≤ a.off then .fault (.noSuchInstance "BAR0 offset" a.off)
  else if !fnEnabled s a.fn then .next s
  else if !((decide (a.width = 4) || decide (a.width = 8)) && decide (a.off % a.width = 0)) then
    .next (errFlag flagUr a.fn 0 ((bar0Map a.fn a.off).getD 0) (s.emit (.unsupported a.fn a.off)))
  else
    let t := bar0Write a.fn 0 a.off (BitVec.ofNat 32 a.val.toNat) s
    let t := if a.width = 8 then bar0Write a.fn 0 (a.off + 4) (BitVec.ofNat 32 (a.val.toNat / 2 ^ 32)) t else t
    .next (runMail a.fn s t)

/-! ### The rings (R593 to R601, R609 to R611, R709) -/

/-- Descriptors offered and not read (R592). -/
def offered (s : State) (f k : Nat) : Nat :=
  let n := 2 ^ s.rf (aRqCtl f k) 16 4
  (s.rf (aSqTail f k) 0 12 + n - s.rf (aSqHead f k) 0 12) % n

/-- The pair may take a descriptor now (R595, R596, R601, R610, R709). (log entry 83, DESIGN CHOICE) -/
def pairTakes (s : State) (f k : Nat) : Bool :=
  mrpReady s && fnEnabled s f && (fnRt s f).bme && !(fnRt s f).flr && s.rbit (aRqCtl f k) 31 && !(fnRt s f).stopped.contains k &&
    decide (2 * (outCount s f k + 1) ≤ cqFree s f k)

/-- The opcode travels with a descriptor held by FENCE as its last byte beyond PARAM. (log entry 83, DESIGN CHOICE) -/
def fenceOp (c : Call) : Nat := byteAt c.param 48

/-- DESCRIPTOR_FETCH: read the next descriptor and take it; one with FENCE waits until every earlier command of the pair is
final, and the pair reads no further one before. (log entry 7, DESIGN CHOICE; log entry 83, DESIGN CHOICE) -/
def execDescriptorFetch (fn k : Nat) (desc : List Byte) (readErr : Bool) (buf : List Byte) (bufErr : Bool) (s : State) : Out :=
  if 8 < fn then .fault (.noSuchInstance "function" fn)
  else if pairCount fn ≤ k then .fault (.noSuchInstance "ring pair" k)
  else if !pairTakes s fn k then .next s
  else
    let r := fnRt s fn
    match r.fenced.find? (fun c => decide (c.via = .ring k)) with
    | some c =>
      if outCount s fn k ≠ 0 then .next s
      else .next (runMail fn s (runOpcode (fenceOp c) { c with param := c.param.take 48 } (setFnRt fn { r with fenced := r.fenced.erase c } s)))
    | none =>
      if offered s fn k = 0 then .next s
      else if readErr then
        .next (setFnRt fn { r with stopped := k :: r.stopped } ((s.setBit (aRqStat fn k) 30 true).put (aRqStat fn k) 28 2 2))
      else
        let n := 2 ^ s.rf (aRqCtl fn k) 16 4
        let s := s.put (aSqHead fn k) 0 12 ((s.rf (aSqHead fn k) 0 12 + 1) % n)
        let d := padTo 64 desc
        let c := callOf fn (.ring k) d buf bufErr
        if c.flags.getLsbD 0 && decide (outCount s fn k ≠ 0) then
          .next (setFnRt fn { r with fenced := r.fenced ++ [{ c with param := c.param ++ [bite (byteAt d 0)] }] } s)
        else .next (runMail fn s (runOpcode (byteAt d 0) c s))

end Sys2Proof.Machine
end

