-- ==== Sys2Proof/Machine/Dispatch.lean ====
section
/-! DEFINITION. exec: one arm per command, each a direct call of that command's meaning. -/

namespace Sys2Proof.Machine

def exec (i : Instr) (s : State) : Host.Outcome State Fault Refusal :=
  match i with
  | .nop c => Sys2Proof.Machine.execNop c s
  | .queryCaps c => Sys2Proof.Machine.execQueryCaps c s
  | .errlogRead c => Sys2Proof.Machine.execErrlogRead c s
  | .fwSvnCommit c => Sys2Proof.Machine.execFwSvnCommit c s
  | .partQuery c => Sys2Proof.Machine.execPartQuery c s
  | .partAssign c => Sys2Proof.Machine.execPartAssign c s
  | .partSwitchGo w => Sys2Proof.Machine.execPartSwitchGo w s
  | .holderChangePhaseEnd bad => Sys2Proof.Machine.execHolderChangePhaseEnd bad s
  | .zfill => Sys2Proof.Machine.execZfill s
  | .partReset c => Sys2Proof.Machine.execPartReset c s
  | .partCtlReset w p => Sys2Proof.Machine.execPartCtlReset w p s
  | .partitionResetEnd p bad => Sys2Proof.Machine.execPartitionResetEnd p bad s
  | .partExpert c => Sys2Proof.Machine.execPartExpert c s
  | .bellSet c => Sys2Proof.Machine.execBellSet c s
  | .bellStrike c => Sys2Proof.Machine.execBellStrike c s
  | .belStrk w => Sys2Proof.Machine.execBelStrk w s
  | .bellWait c => Sys2Proof.Machine.execBellWait c s
  | .bellWaitEnd idx => Sys2Proof.Machine.execBellWaitEnd idx s
  | .bellWaitTimeout idx => Sys2Proof.Machine.execBellWaitTimeout idx s
  | .idleStrikeApply p => Sys2Proof.Machine.execIdleStrikeApply p s
  | .planAdmit c => Sys2Proof.Machine.execPlanAdmit c s
  | .planAdmitDone idx => Sys2Proof.Machine.execPlanAdmitDone idx s
  | .planLoad c => Sys2Proof.Machine.execPlanLoad c s
  | .contextLoadDone idx bad => Sys2Proof.Machine.execContextLoadDone idx bad s
  | .planStart c => Sys2Proof.Machine.execPlanStart c s
  | .tollStart d => Sys2Proof.Machine.execTollStart d s
  | .planSwitch c => Sys2Proof.Machine.execPlanSwitch c s
  | .plnSwitchGo w p => Sys2Proof.Machine.execPlnSwitchGo w p s
  | .planEvict c => Sys2Proof.Machine.execPlanEvict c s
  | .planStop c => Sys2Proof.Machine.execPlanStop c s
  | .planClear c => Sys2Proof.Machine.execPlanClear c s
  | .classChangeDone d => Sys2Proof.Machine.execClassChangeDone d s
  | .classLock d => Sys2Proof.Machine.execClassLock d s
  | .switchEnd d => Sys2Proof.Machine.execSwitchEnd d s
  | .runEnd d => Sys2Proof.Machine.execRunEnd d s
  | .rgnSet c => Sys2Proof.Machine.execRgnSet c s
  | .rgnClear c => Sys2Proof.Machine.execRgnClear c s
  | .rgnZfill c => Sys2Proof.Machine.execRgnZfill c s
  | .memRgna w h r => Sys2Proof.Machine.execMemRgna w h r s
  | .sweepEnd h r => Sys2Proof.Machine.execSweepEnd h r s
  | .rekeyRegion c => Sys2Proof.Machine.execRekeyRegion c s
  | .memRkctlGo w h => Sys2Proof.Machine.execMemRkctlGo w h s
  | .rekeyEnd h unread => Sys2Proof.Machine.execRekeyEnd h unread s
  | .memRead c => Sys2Proof.Machine.execMemRead c s
  | .memWrite c => Sys2Proof.Machine.execMemWrite c s
  | .rollGrant c => Sys2Proof.Machine.execRollGrant c s
  | .rollJob c => Sys2Proof.Machine.execRollJob c s
  | .jctlGo w r => Sys2Proof.Machine.execJctlGo w r s
  | .rollJobDone r => Sys2Proof.Machine.execRollJobDone r s
  | .dpPush c => Sys2Proof.Machine.execDpPush c s
  | .pushWordEnter idx => Sys2Proof.Machine.execPushWordEnter idx s
  | .pushTimeout idx => Sys2Proof.Machine.execPushTimeout idx s
  | .attest c => Sys2Proof.Machine.execAttest c s
  | .certGet c => Sys2Proof.Machine.execCertGet c s
  | .keySession c => Sys2Proof.Machine.execKeySession c s
  | .sessionExpiry holder => Sys2Proof.Machine.execSessionExpiry holder s
  | .keyInstall c => Sys2Proof.Machine.execKeyInstall c s
  | .keyCommit c => Sys2Proof.Machine.execKeyCommit c s
  | .keyDiscard c => Sys2Proof.Machine.execKeyDiscard c s
  | .keyDelete c => Sys2Proof.Machine.execKeyDelete c s
  | .setEnrol c => Sys2Proof.Machine.execSetEnrol c s
  | .setLeave c => Sys2Proof.Machine.execSetLeave c s
  | .weightUnwrap c => Sys2Proof.Machine.execWeightUnwrap c s
  | .toolkeyEnrol c => Sys2Proof.Machine.execToolkeyEnrol c s
  | .toolkeyRevoke c => Sys2Proof.Machine.execToolkeyRevoke c s
  | .dbgkeyEnrol c => Sys2Proof.Machine.execDbgkeyEnrol c s
  | .dbgkeyRevoke c => Sys2Proof.Machine.execDbgkeyRevoke c s
  | .dbgNonce c => Sys2Proof.Machine.execDbgNonce c s
  | .nonceExpiry => Sys2Proof.Machine.execNonceExpiry s
  | .dbgAdmit c => Sys2Proof.Machine.execDbgAdmit c s
  | .dbgEnd c => Sys2Proof.Machine.execDbgEnd c s
  | .tokenExpiry => Sys2Proof.Machine.execTokenExpiry s
  | .chConfig c => Sys2Proof.Machine.execChConfig c s
  | .chWindow c => Sys2Proof.Machine.execChWindow c s
  | .chEnable c => Sys2Proof.Machine.execChEnable c s
  | .channelEn w n => Sys2Proof.Machine.execChannelEn w n s
  | .ringSet c => Sys2Proof.Machine.execRingSet c s
  | .sinkPort c => Sys2Proof.Machine.execSinkPort c s
  | .snkParEn w => Sys2Proof.Machine.execSnkParEn w s
  | .snkSerEn w => Sys2Proof.Machine.execSnkSerEn w s
  | .govSet c => Sys2Proof.Machine.execGovSet c s
  | .clapLoad c => Sys2Proof.Machine.execClapLoad c s
  | .clpArm w => Sys2Proof.Machine.execClpArm w s
  | .clpLevelRelease w => Sys2Proof.Machine.execClpLevelRelease w s
  | .cntSet c => Sys2Proof.Machine.execCntSet c s
  | .evselWrite w ctr => Sys2Proof.Machine.execEvselWrite w ctr s
  | .valhLoad w ctr => Sys2Proof.Machine.execValhLoad w ctr s
  | .cntSnap c => Sys2Proof.Machine.execCntSnap c s
  | .cntSnapGo w => Sys2Proof.Machine.execCntSnapGo w s
  | .cntFrzRelease w => Sys2Proof.Machine.execCntFrzRelease w s
  | .linkCtl c => Sys2Proof.Machine.execLinkCtl c s
  | .retrain w n => Sys2Proof.Machine.execRetrain w n s
  | .linkAssign c => Sys2Proof.Machine.execLinkAssign c s
  | .linkQuery c => Sys2Proof.Machine.execLinkQuery c s
  | .linkCapture c => Sys2Proof.Machine.execLinkCapture c s
  | .linkImpair c => Sys2Proof.Machine.execLinkImpair c s
  | .pealSet c => Sys2Proof.Machine.execPealSet c s
  | .pealRoute c => Sys2Proof.Machine.execPealRoute c s
  | .tollSet c => Sys2Proof.Machine.execTollSet c s
  | .tolCtlSrc w => Sys2Proof.Machine.execTolCtlSrc w s
  | .tolSetsec w => Sys2Proof.Machine.execTolSetsec w s
  | .tollQuery c => Sys2Proof.Machine.execTollQuery c s
  | .tolNowlRead fn => Sys2Proof.Machine.execTolNowlRead fn s
  | .clkFclRead fn p => Sys2Proof.Machine.execClkFclRead fn p s
  | .pwrPin c => Sys2Proof.Machine.execPwrPin c s
  | .pwrHint c => Sys2Proof.Machine.execPwrHint c s
  | .pwrQuery c => Sys2Proof.Machine.execPwrQuery c s
  | .faultRead c => Sys2Proof.Machine.execFaultRead c s
  | .safRselGo w => Sys2Proof.Machine.execSafRselGo w s
  | .selftest c => Sys2Proof.Machine.execSelftest c s
  | .drain c => Sys2Proof.Machine.execDrain c s
  | .migrate c => Sys2Proof.Machine.execMigrate c s
  | .migrateRecv c => Sys2Proof.Machine.execMigrateRecv c s
  | .migrationMessage port m => Sys2Proof.Machine.execMigrationMessage port m s
  | .migrateTimeout idx => Sys2Proof.Machine.execMigrateTimeout idx s
  | .stall idx => Sys2Proof.Machine.execStall idx s
  | .offerTimeout idx => Sys2Proof.Machine.execOfferTimeout idx s
  | .restore c => Sys2Proof.Machine.execRestore c s
  | .regRead c => Sys2Proof.Machine.execRegRead c s
  | .regWrite c => Sys2Proof.Machine.execRegWrite c s
  | .registerWrite a => Sys2Proof.Machine.execRegisterWrite a s
  | .injectionArm w which => Sys2Proof.Machine.execInjectionArm w which s
  | .doorbell w k => Sys2Proof.Machine.execDoorbell w k s
  | .cqHeadWrite w k => Sys2Proof.Machine.execCqHeadWrite w k s
  | .rqEn w k => Sys2Proof.Machine.execRqEn w k s
  | .descriptorFetch fn k desc readErr buf bufErr => Sys2Proof.Machine.execDescriptorFetch fn k desc readErr buf bufErr s
  | .mbxGo w => Sys2Proof.Machine.execMbxGo w s
  | .rngRd w n ingest => Sys2Proof.Machine.execRngRd w n ingest s
  | .flush w n => Sys2Proof.Machine.execFlush w n s
  | .devLock w => Sys2Proof.Machine.execDevLock w s
  | .imrWrite w f high => Sys2Proof.Machine.execImrWrite w f high s
  | .b2wCtl w k => Sys2Proof.Machine.execB2wCtl w k s
  | .bar2Access fn addr write len data en => Sys2Proof.Machine.execBar2Access fn addr write len data en s
  | .bar2ReadTimeout fn addr => Sys2Proof.Machine.execBar2ReadTimeout fn addr s
  | .safEnter w => Sys2Proof.Machine.execSafEnter w s
  | .coldReset b => Sys2Proof.Machine.execColdReset b s
  | .mrpReady b => Sys2Proof.Machine.execMrpReady b s
  | .powerLoss => Sys2Proof.Machine.execPowerLoss s
  | .warmReset => Sys2Proof.Machine.execWarmReset s
  | .conventionalReset perst => Sys2Proof.Machine.execConventionalReset perst s
  | .functionReset fn => Sys2Proof.Machine.execFunctionReset fn s
  | .pf0Flr => Sys2Proof.Machine.execPf0Flr s
  | .busMasterEnable fn en => Sys2Proof.Machine.execBusMasterEnable fn en s
  | .recoveryPiece => Sys2Proof.Machine.execRecoveryPiece s
  | .safeReq low => Sys2Proof.Machine.execSafeReq low s
  | .clockLoss clk => Sys2Proof.Machine.execClockLoss clk s
  | .voltage rail high mV => Sys2Proof.Machine.execVoltage rail high mV s
  | .watchdogExpiry => Sys2Proof.Machine.execWatchdogExpiry s
  | .watchdogWarmReset => Sys2Proof.Machine.execWatchdogWarmReset s
  | .thermalLoop r => Sys2Proof.Machine.execThermalLoop r s
  | .voltageLoop rail early settled => Sys2Proof.Machine.execVoltageLoop rail early settled s
  | .governorLoop h => Sys2Proof.Machine.execGovernorLoop h s
  | .linkEq n code => Sys2Proof.Machine.execLinkEq n code s
  | .refreshRate stack tempC => Sys2Proof.Machine.execRefreshRate stack tempC s
  | .throttleWindow d => Sys2Proof.Machine.execThrottleWindow d s
  | .periodicSelftest unit fail => Sys2Proof.Machine.execPeriodicSelftest unit fail s
  | .arrival q => Sys2Proof.Machine.execArrival q s
  | .release q => Sys2Proof.Machine.execRelease q s
  | .slipEnd d => Sys2Proof.Machine.execSlipEnd d s
  | .slipLimit d => Sys2Proof.Machine.execSlipLimit d s
  | .waitTimeout d idx => Sys2Proof.Machine.execWaitTimeout d idx s
  | .slotSwitch unit slot => Sys2Proof.Machine.execSlotSwitch unit slot s
  | .dotStep unit bad => Sys2Proof.Machine.execDotStep unit bad s
  | .agRun unit ag prog => Sys2Proof.Machine.execAgRun unit ag prog s
  | .agAccess unit ag ecc => Sys2Proof.Machine.execAgAccess unit ag ecc s
  | .eccWriteBack unit => Sys2Proof.Machine.execEccWriteBack unit s
  | .route unit set => Sys2Proof.Machine.execRoute unit set s
  | .steer unit elem len => Sys2Proof.Machine.execSteer unit elem len s
  | .creditLate unit src => Sys2Proof.Machine.execCreditLate unit src s
  | .dmaIssue d ri occ => Sys2Proof.Machine.execDmaIssue d ri occ s
  | .dmaComplete d ri occ => Sys2Proof.Machine.execDmaComplete d ri occ s
  | .hbmReadReturn d ri occ line fault => Sys2Proof.Machine.execHbmReadReturn d ri occ line fault s
  | .rollBlock r ev => Sys2Proof.Machine.execRollBlock r ev s
  | .tx port ri occ => Sys2Proof.Machine.execTx port ri occ s
  | .frameSend port => Sys2Proof.Machine.execFrameSend port s
  | .frameReceive port f => Sys2Proof.Machine.execFrameReceive port f s
  | .linkDown port reason => Sys2Proof.Machine.execLinkDown port reason s
  | .train port => Sys2Proof.Machine.execTrain port s
  | .trainTimeout port => Sys2Proof.Machine.execTrainTimeout port s
  | .autoRetrain port => Sys2Proof.Machine.execAutoRetrain port s
  | .hello port m => Sys2Proof.Machine.execHello port m s
  | .latrsp port m => Sys2Proof.Machine.execLatrsp port m s
  | .sync port m => Sys2Proof.Machine.execSync port m s
  | .dreq port m => Sys2Proof.Machine.execDreq port m s
  | .dresp port m => Sys2Proof.Machine.execDresp port m s
  | .syncSend port => Sys2Proof.Machine.execSyncSend port s
  | .referenceLost cause => Sys2Proof.Machine.execReferenceLost cause s
  | .holdoverLimit => Sys2Proof.Machine.execHoldoverLimit s
  | .ppsEdge => Sys2Proof.Machine.execPpsEdge s
  | .tollRefclkLoss => Sys2Proof.Machine.execTollRefclkLoss s
  | .tollRefclkPresent => Sys2Proof.Machine.execTollRefclkPresent s
  | .clapIn pin level => Sys2Proof.Machine.execClapIn pin level s
  | .tapRecord unit data => Sys2Proof.Machine.execTapRecord unit data s
  | .packetWrite => Sys2Proof.Machine.execPacketWrite s
  | .scoreClose d cluster => Sys2Proof.Machine.execScoreClose d cluster s
  | .clapperMatch => Sys2Proof.Machine.execClapperMatch s
  | .stopCountEnd => Sys2Proof.Machine.execStopCountEnd s
  | .pulseEnd pin => Sys2Proof.Machine.execPulseEnd pin s
  | .sample unit => Sys2Proof.Machine.execSample unit s
  | .groupSample group => Sys2Proof.Machine.execGroupSample group s
  | .threshold t => Sys2Proof.Machine.execThreshold t s
  | .overflow ctr => Sys2Proof.Machine.execOverflow ctr s
  | .frameForm n => Sys2Proof.Machine.execFrameForm n s
  | .flushTimer n => Sys2Proof.Machine.execFlushTimer n s
  | .ringDeliver n ok => Sys2Proof.Machine.execRingDeliver n ok s
  | .portFrame serial => Sys2Proof.Machine.execPortFrame serial s
  | .fclkEdge d => Sys2Proof.Machine.execFclkEdge d s
  | .latreq port m => Sys2Proof.Machine.execLatreq port m s
  | .frameLock port => Sys2Proof.Machine.execFrameLock port s
  | .tollRefclkReturn => Sys2Proof.Machine.execTollRefclkReturn s
  | .sysRstRelease => Sys2Proof.Machine.execSysRstRelease s
  | .perstRelease => Sys2Proof.Machine.execPerstRelease s
  | .pcieLinkTrained rate width => Sys2Proof.Machine.execPcieLinkTrained rate width s
  | .msixUnmask fn vec => Sys2Proof.Machine.execMsixUnmask fn vec s
  | .numvfsWrite n => Sys2Proof.Machine.execNumvfsWrite n s
  | .jtagInstructionLoad ir => Sys2Proof.Machine.execJtagInstructionLoad ir s
  | .regulatorTimeout rail => Sys2Proof.Machine.execRegulatorTimeout rail s
  | .drainDone idx => Sys2Proof.Machine.execDrainDone idx s
  | .restoreDone idx => Sys2Proof.Machine.execRestoreDone idx s
  | .selftestDone idx failed => Sys2Proof.Machine.execSelftestDone idx failed s
  | .recordUpdateDone idx ok => Sys2Proof.Machine.execRecordUpdateDone idx ok s
  | .weightUnwrapDone idx => Sys2Proof.Machine.execWeightUnwrapDone idx s

end Sys2Proof.Machine
end

