-- ==== Sys2Proof/Machine/Tick.lean ====
section
/-! DEFINITION. What a step does when no command waits: one TKCLK edge passes (log entry 2). -/

namespace Sys2Proof.Machine

/-- One TKCLK edge of an idle device. (log entry 2, DESIGN CHOICE) -/
def idleTick (s : State) : State := tollTick s

end Sys2Proof.Machine
end

