-- ==== Sys2Proof/WellFormed.lean ====
section
/-! DEFINITION. Well-formed commands: every operand that names an instance of the device names one that the device range
has (Tables 0-2, 1-6, 1-7), every access lies in the space it names. -/

namespace Sys2Proof

open Sys2Proof.Machine

/-- An operand of a command, by what it names. -/
inductive Operand where
  /-- A taken descriptor: a function, and a ring pair that the function has (R589). -/
  | call (c : Call)
  /-- A BAR0 write by a function. -/
  | wr (w : Wr)
  /-- A BAR0 access: inside the function's BAR0 (R644). -/
  | acc (a : Acc)
  /-- A function: PF0 or a VF (R584). -/
  | fn (f : Nat)
  /-- One of `n` like instances. -/
  | below (n i : Nat)
  | above (n i : Nat)
  /-- A counter of a group; a unit counter names a unit below the bound (R440). -/
  | ctr (bound : Nat) (c : CtrId)
  | arrayUnit (u : Nat)
  | cu (u : Nat)
  /-- An MU or a slice. -/
  | memory (u : Nat)
  /-- A monitored clock of R254, or SCLK. -/
  | clock (n : Nat)
  /-- A counter group with a time base of its own (R443). -/
  | group (g : Nat)
  /-- The ring of a channel, or of an ingest port from 32 (R469). -/
  | ring (n : Nat)
  /-- An MSI-X vector of a function, or its function mask (R588). -/
  | vector (f : Nat) (v : Option Nat)
  /-- A BAR2 request: 1 to 4,096 bytes inside one 4 KiB block (R660). -/
  | bar2 (addr len : Nat)
  deriving DecidableEq, Repr

def Operand.ok : Operand → Bool
  | .call c => decide (c.fn ≤ 8) && (match c.via with | .ring k => decide (k < pairCount c.fn) | .mailbox => true)
  | .wr w => decide (w.fn ≤ 8)
  | .acc a => decide (a.fn ≤ 8) && decide (a.off < bar0Size a.fn)
  | .fn f => decide (f ≤ 8)
  | .below n i => decide (i < n)
  | .above n i => decide (n < i)
  | .ctr n c => decide (c.group ≤ 3) && decide (c.idx < groupSize c.group) && (decide (c.group ≠ 0) || decide (c.unit < n)) &&
      decide (c.unit < 0x1000)
  | .arrayUnit u => Machine.arrayUnit u
  | .cu u => isCu u
  | .memory u => isMem u
  | .clock n => decide (n < 34) || decide (n = 255)
  | .group g => decide (1 ≤ g) && decide (g ≤ 3)
  | .ring n => decide (n < 24) || (decide (32 ≤ n) && decide (n < 48))
  | .vector f v => match v with | none => true | some v => decide (v < vecCount f)
  | .bar2 addr len => b2wShape addr len

/-- The operands of a command that name something of the device. -/
def operands : Instr → List Operand
  | .nop c | .queryCaps c | .errlogRead c | .fwSvnCommit c | .partQuery c | .partAssign c | .partReset c
    | .partExpert c | .bellSet c | .bellStrike c | .bellWait c | .planAdmit c | .planLoad c | .planStart c
    | .planSwitch c | .planEvict c | .planStop c | .planClear c | .rgnSet c | .rgnClear c | .rgnZfill c
    | .rekeyRegion c | .memRead c | .memWrite c | .rollGrant c | .rollJob c | .dpPush c | .attest c | .certGet c
    | .keySession c | .keyInstall c | .keyCommit c | .keyDiscard c | .keyDelete c | .setEnrol c | .setLeave c
    | .weightUnwrap c | .toolkeyEnrol c | .toolkeyRevoke c | .dbgkeyEnrol c | .dbgkeyRevoke c | .dbgNonce c
    | .dbgAdmit c | .dbgEnd c | .chConfig c | .chWindow c | .chEnable c | .ringSet c | .sinkPort c | .govSet c
    | .clapLoad c | .cntSet c | .cntSnap c | .linkCtl c | .linkAssign c | .linkQuery c | .linkCapture c
    | .linkImpair c | .pealSet c | .pealRoute c | .tollSet c | .tollQuery c | .pwrPin c | .pwrHint c | .pwrQuery c
    | .faultRead c | .selftest c | .drain c | .migrate c | .migrateRecv c | .restore c | .regRead c | .regWrite c => [.call c]
  | .partSwitchGo w | .belStrk w | .snkParEn w | .snkSerEn w | .clpArm w | .clpLevelRelease w | .cntSnapGo w
    | .cntFrzRelease w | .tolCtlSrc w | .tolSetsec w | .safRselGo w | .mbxGo w | .devLock w | .safEnter w => [.wr w]
  | .holderChangePhaseEnd _ | .zfill | .bellWaitEnd _ | .bellWaitTimeout _ | .planAdmitDone _ | .contextLoadDone _ _
    | .pushWordEnter _ | .pushTimeout _ | .nonceExpiry | .tokenExpiry | .migrateTimeout _ | .stall _
    | .offerTimeout _ | .coldReset _ | .mrpReady _ | .powerLoss | .warmReset | .conventionalReset _ | .pf0Flr
    | .recoveryPiece | .safeReq _ | .voltage _ _ _ | .watchdogExpiry | .watchdogWarmReset | .thermalLoop _
    | .referenceLost _ | .holdoverLimit | .ppsEdge | .tollRefclkLoss | .tollRefclkPresent | .packetWrite
    | .clapperMatch | .stopCountEnd | .portFrame _ | .tollRefclkReturn | .sysRstRelease | .perstRelease
    | .pcieLinkTrained _ _ | .jtagInstructionLoad _ | .drainDone _ | .restoreDone _
    | .selftestDone _ _ | .recordUpdateDone _ _ | .weightUnwrapDone _ => []
  | .partCtlReset w p | .plnSwitchGo w p => [.wr w, .below 8 p]
  | .partitionResetEnd p _ | .idleStrikeApply p => [.below 8 p]
  | .tollStart d | .classChangeDone d | .classLock d | .switchEnd d | .runEnd d | .throttleWindow d | .slipEnd d
    | .slipLimit d | .waitTimeout d _ | .dmaIssue d _ _ | .dmaComplete d _ _ | .hbmReadReturn d _ _ _ _ | .fclkEdge d => [.below 8 d]
  | .memRgna w h r => [.wr w, .below 8 h, .below 16 r]
  | .sweepEnd h r => [.below 8 h, .below 16 r]
  | .memRkctlGo w h => [.wr w, .below 8 h]
  | .rekeyEnd h _ | .governorLoop h => [.below 8 h]
  | .jctlGo w r => [.wr w, .below 4 r]
  | .rollJobDone r | .rollBlock r _ => [.below 4 r]
  | .sessionExpiry holder => [.below 9 holder]
  | .channelEn w n | .flush w n => [.wr w, .below 24 n]
  | .evselWrite w ctr | .valhLoad w ctr => [.wr w, .ctr 0x877 ctr]
  | .retrain w n => [.wr w, .below 16 n]
  | .tolNowlRead fn | .busMasterEnable fn _ => [.fn fn]
  | .clkFclRead fn p => [.fn fn, .below 8 p]
  | .migrationMessage port _ | .tx port _ _ | .frameSend port | .frameReceive port _ | .linkDown port _ | .train port
    | .trainTimeout port | .autoRetrain port | .hello port _ | .latrsp port _ | .sync port _ | .dreq port _
    | .dresp port _ | .syncSend port | .latreq port _ | .frameLock port => [.below 16 port]
  | .registerWrite a => [.acc a]
  | .injectionArm w which => [.wr w, .below 3 which]
  | .doorbell w k | .cqHeadWrite w k | .rqEn w k => [.wr w, .below 4 k]
  | .descriptorFetch fn k _ _ _ _ => [.fn fn, .below (if fn = 0 then 4 else 2) k]
  | .rngRd w n ingest => [.wr w, .below (if ingest then 16 else 24) n]
  | .imrWrite w f _ => [.wr w, .fn f]
  | .b2wCtl w k => [.wr w, .below 16 k]
  | .bar2Access fn addr write len data _ => [.fn fn, .bar2 addr (if write then data.length else len)]
  | .bar2ReadTimeout fn addr => [.fn fn, .bar2 addr 1]
  | .functionReset fn => [.below 9 fn, .above 0 fn]
  | .clockLoss clk => [.clock clk]
  | .voltageLoop rail _ _ | .regulatorTimeout rail => [.below 3 rail]
  | .linkEq n _ => [.below 16 n]
  | .refreshRate stack _ => [.below 4 stack]
  | .periodicSelftest unit _ | .route unit _ | .steer unit _ _ | .creditLate unit _ => [.arrayUnit unit]
  | .arrival q | .release q => [.below 256 q]
  | .slotSwitch unit _ | .dotStep unit _ => [.cu unit]
  | .agRun unit _ _ | .agAccess unit _ _ | .eccWriteBack unit => [.memory unit]
  | .clapIn pin _ | .pulseEnd pin => [.below 4 pin]
  | .tapRecord unit _ => [.below 0x1000 unit]
  | .scoreClose d cluster => [.below 8 d, .below 2 cluster]
  | .sample unit => [.below 0x877 unit]
  | .groupSample group => [.group group]
  | .threshold t => [.below 4 t]
  | .overflow ctr => [.ctr 0x1000 ctr]
  | .frameForm n | .flushTimer n => [.below 24 n]
  | .ringDeliver n _ => [.ring n]
  | .msixUnmask fn vec => [.fn fn, .vector fn vec]
  | .numvfsWrite n => [.below 9 n]

/-- A well-formed command. (log entry 6, DESIGN CHOICE; log entry 30, DESIGN CHOICE) -/
def wellFormed (i : Instr) : Bool := (operands i).all Operand.ok

/-- The function that a command names: the one whose host side it concerns. -/
def Operand.func : Operand → Option Nat
  | .call c => some c.fn
  | .wr w => some w.fn
  | .acc a => some a.fn
  | .fn f => some f
  | .below _ _ | .above _ _ | .ctr _ _ | .arrayUnit _ | .cu _ | .memory _ | .clock _ | .group _ | .ring _ | .vector _ _
  | .bar2 _ _ => none

end Sys2Proof
end

