-- ==== Sys2Proof/Safety.lean ====
section
/-! DEFINITION. What claims take as a sound state: the register table and the two addressed memories in canonical form,
reserved register bits zero (R15, R646), no more VFs than the device has (R584). -/

namespace Sys2Proof.Machine

/-- The register table is canonical and no register holds a bit that no field defines. -/
def regsWf (s : State) : Bool :=
  tabWf regReset s.regs && s.regs.all (fun e => decide (e.2 &&& ~~~ definedMask e.1 = 0))

/-- HBM: stored lines in canonical form. -/
def memWf (s : State) : Bool := tabWf (fun _ => none) s.mem.cells

/-- SRAM: stored words in canonical form. -/
def sramWf (s : State) : Bool := tabWf (fun _ => []) s.fab.sram

/-- The invariant that every step keeps. -/
structure Inv (s : State) : Prop where
  regs : regsWf s = true
  mem : memWf s = true
  sram : sramWf s = true
  vfs : s.host.numVf ≤ 8

/-! ### How claims speak of host commands -/

/-- The command meets the tests that every opcode shares (Table 18-7, R616 to R618, R623, R688) and its row's caller test. -/
def Passes (op : Nat) (caller : Call → State → Bool) (c : Call) (s : State) : Prop :=
  commonTests op c s = none ∧ cfgAllows op s = true ∧ caller c s = true

/-- The state in which the ACCEPTED reply of a LONG command has been posted (R600). -/
def accepted (op : Nat) (c : Call) (s : State) : State := accept { op := op, call := c } s

/-- The same for a LONG command, whose row's tests meet the state after ACCEPTED (R618, R600). -/
def PassesLong (op : Nat) (caller : Call → State → Bool) (c : Call) (s : State) : Prop :=
  commonTests op c s = none ∧ cfgAllows op (accepted op c s) = true ∧ caller c (accepted op c s) = true

/-- The command has had effect `e`: its MARKER when it asked for one (R598), then the final reply of status OK with RESULT
`res` (R600). -/
def replied (op : Nat) (c : Call) (res : List Byte) (e : State) : State := finish c op sOk res (mark c op e)

/-- A LONG command that has begun: it stays outstanding with what its end needs, `o` (R600). -/
def running (op : Nat) (c : Call) (o : Outst) (e : State) : State :=
  mark c op (setOutst (e.host.outst.map (fun x => if isCall c op x then { o with op := op, call := c, acc := true } else x)) e)

/-! ### How claims speak of register writes -/

/-- A write by function `f` at PF0-map offset `o` meets the tests of every BAR0 write: the register is present and shown to the
function (R646, R650), no reset covers it (R658), expert control lets it through (R604), the function may write it. -/
def WriteTakes (f o : Nat) (s : State) : Prop :=
  f ≤ 8 ∧ regFields (keyOf f o) ≠ [] ∧ regPresent s f o = true ∧ reaches s f o = true ∧ underReset s (keyOf f o) = false ∧
    (noExpert s f o = true ∨ expertOf s f = true) ∧ mayWrite s f o = true

/-! ### Which commands reach what -/

/-- The commands and events that configure or carry on observation (R37): channels, filters, windows, rings and sinks, governor
settings, counter selection, Clapper triggers, link capture. -/
def observes : Instr → Bool
  | .chConfig _ | .chWindow _ | .chEnable _ | .ringSet _ | .sinkPort _ | .govSet _ | .clapLoad _ | .cntSet _
    | .cntSnap _ | .linkCapture _ | .clapIn _ _ | .packetWrite | .clapperMatch | .stopCountEnd | .pulseEnd _
    | .groupSample _ | .threshold _ | .overflow _ | .frameForm _ | .flushTimer _ | .portFrame _ => true
  | _ => false

/-- The commands that may reach a key store: the key commands, what runs such a command for a function, what destroys keys at a
change of holder or a reset (R559, R560, R574, R575). -/
def reachesKeys : Instr → Bool
  | .holderChangePhaseEnd _ | .partitionResetEnd _ _ | .keyInstall _ | .keyCommit _ | .keyDiscard _ | .keyDelete _
    | .regWrite _ | .registerWrite _ | .descriptorFetch _ _ _ _ _ _ | .mbxGo _ | .coldReset _ | .mrpReady _
    | .powerLoss | .warmReset | .watchdogWarmReset => true
  | _ => false

/-- The commands that may reach the trust state: sessions, nonces, tokens, records, measurements, OTP (R551 to R572). -/
def reachesTrust : Instr → Bool
  | .fwSvnCommit _ | .holderChangePhaseEnd _ | .partitionResetEnd _ _ | .attest _ | .keySession _ | .sessionExpiry _
    | .keyInstall _ | .setEnrol _ | .dbgNonce _ | .nonceExpiry | .dbgAdmit _ | .dbgEnd _ | .tokenExpiry
    | .regWrite _ | .registerWrite _ | .descriptorFetch _ _ _ _ _ _ | .mbxGo _ | .coldReset _ | .mrpReady _
    | .powerLoss | .warmReset | .recoveryPiece | .watchdogWarmReset | .sysRstRelease | .recordUpdateDone _ _ => true
  | _ => false

/-- The commands that may write an SRAM word: an address generator's access, alone or in its domain's edge, a scrub, a
restore, a self-test, loss of power (R111, R113). -/
def reachesSram : Instr → Bool
  | .holderChangePhaseEnd _ | .partitionResetEnd _ _ | .coldReset _ | .powerLoss | .agAccess _ _ _ | .sample _
    | .fclkEdge _ | .restoreDone _ | .selftestDone _ _ => true
  | _ => false

/-- The commands that may change NumVFs (R584). -/
def reachesVfs : Instr → Bool
  | .coldReset _ | .powerLoss | .conventionalReset _ | .pf0Flr | .clockLoss _ | .numvfsWrite _ => true
  | _ => false

end Sys2Proof.Machine
end

