-- ==== Sys2Proof/Certificates/Slice0/Obligations.lean ====
section
/-! DEFINITION. The statements about the machine, one definition each. A command that completes is stated as an equation
for the whole next state, which is its frame as well: what the reply operations named there leave unchanged is a statement
of its own (RepliesChangeHostSideOnly). -/

section

open Sys2Proof Sys2Proof.Machine

/-- Device commands of Table 19-4 and CERT_GET answer, and what they answer (R624, R684, R551, R628). -/
def Obligations.DeviceCommandsComplete : Prop :=
  ∀ (c : Call) (s a : State),
    (Passes 0x00 callA c s → exec (.nop c) s = .next (replied 0x00 c [] s)) ∧
    (Passes 0x01 callA c s → mrpReady s = true → c.outOk (c.le 16 8) (c.le 24 4) = none →
      exec (.queryCaps c) s =
        .next (replied 0x01 c (capsBytes s) (c.output (c.le 16 8) ((amapBytes s).take (c.le 24 4)) s))) ∧
    (Passes 0x02 callP c s →
      exec (.errlogRead c) s = .next (replied 0x02 c (leBytes 4 (s.reg aDevErrl).toNat ++ leBytes 4 (s.reg aDevErrh).toNat)
        (if c.bit 16 0 then s.setReg aDevErrl 0 else s))) ∧
    (Passes 0x41 callA c s → c.outOk (c.le 48 8) (c.le 56 4) = none →
      exec (.certGet c) s = .next (if Config.didCert.length ≤ c.le 56 4 then
          replied 0x41 c (leBytes 4 Config.didCert.length) (c.output (c.le 48 8) Config.didCert s)
        else finish c 0x41 sResource (leBytes 4 Config.didCert.length) s)) ∧
    (a = accepted 0x03 c s → PassesLong 0x03 callP c s → a.trust.fwOtp < a.trust.fwSvn → a.trust.fwSvn ≤ 64 →
      exec (.fwSvnCommit c) s = .next (replied 0x03 c (leBytes 2 a.trust.fwSvn)
        (refreshTrust { a with trust := { a.trust with fwOtp := a.trust.fwSvn } })))

/-- Partition commands (R625, R527, R528, R535, R525): the query answers registers, an assignment or a reset begins and stays
outstanding, EXPERT is set or cleared. -/
def Obligations.PartitionCommandsComplete : Prop :=
  ∀ (c : Call) (s a : State) (p : Nat), p = c.part.toNat →
    (Passes 0x10 callA c s →
      exec (.partQuery c) s = .next (replied 0x10 c (leBytes 4 (s.reg (aPartStat p)).toNat ++ leBytes 4 (s.reg (aPartGen p)).toNat ++
        [bite (if c.fn = 0 then b2n (s.rbit (aPartCtl p) 29) else 0)]) s)) ∧
    (a = accepted 0x11 c s → PassesLong 0x11 callP c s → c.b 16 ≠ 0 → c.le 18 2 ≠ 0xFFFF → a.holder = none →
      (∀ q ∈ maskBits 8 (c.b 16), partPresent a q = true ∧ partState a q ≤ 1) → oneRun (c.b 16) (c.le 18 2) a = true →
      exec (.partAssign c) s = .next (running 0x11 c {} (startChange (c.b 16) (c.le 18 2) (c.bit 17 0) a))) ∧
    (a = accepted 0x12 c s → PassesLong 0x12 callP c s → partState a p ≠ 2 → partState a p ≠ 3 →
      exec (.partReset c) s = .next (running 0x12 c {} (startReset p (c.bit 16 0) false a))) ∧
    (Passes 0x13 callP c s → partState s p ≠ 2 →
      exec (.partExpert c) s = .next (replied 0x13 c [] (refreshVfEn (s.setBit (aPartCtl p) 29 (c.bit 16 0)))))

/-- Host access to bells (R195, R212, R625): BELL_SET writes the selected fields and answers the status read before,
BELL_STRIKE sends one strike, BELL_WAIT waits for COUNT. -/
def Obligations.BellCommandsComplete : Prop :=
  ∀ (c : Call) (s a : State), bellPart (c.b 16) = c.part.toNat →
    (Passes 0x14 callT c s → (c.bit 17 2 = true → c.le 28 4 ≤ 2 ^ 19) → (c.b 17 % 8 = 0 ∨ bellIdle s (c.b 16) = true) →
      ∃ t, exec (.bellSet c) s = .next (replied 0x14 c (leBytes 4 (s.reg (aBelStat (c.b 16))).toNat) t) ∧
        t.reg (aBelCnt (c.b 16)) = (if c.bit 17 0 then BitVec.ofNat 32 (c.le 20 4) else s.reg (aBelCnt (c.b 16))) ∧
        t.reg (aBelTgt (c.b 16)) = (if c.bit 17 1 then BitVec.ofNat 32 (c.le 24 4) else s.reg (aBelTgt (c.b 16))) ∧
        t.rf (aBelCfg (c.b 16)) 0 20 = (if c.bit 17 2 then c.le 28 4 else s.rf (aBelCfg (c.b 16)) 0 20) ∧
        t.rbit (aBelStat (c.b 16)) 30 = (if c.bit 17 3 then c.bit 18 0 else s.rbit (aBelStat (c.b 16)) 30) ∧
        t.mem = s.mem ∧ t.fab = s.fab ∧ t.doms = s.doms ∧ t.plan = s.plan ∧ t.toll = s.toll ∧ t.keys = s.keys ∧ t.out = s.out) ∧
    (Passes 0x15 callT c s →
      exec (.bellStrike c) s = .next (replied 0x15 c [] (sendStrike (c.b 16) (fnUnit c.fn) none s))) ∧
    (a = accepted 0x16 c s → PassesLong 0x16 callT c s → 1 ≤ c.le 24 4 → c.le 24 4 ≤ 10 ^ 7 →
      (a.host.outst.filter (fun o => decide (o.op = 0x16) && decide (o.call.fn = c.fn))).length ≤ 8 →
      exec (.bellWait c) s = .next (running 0x16 c { a := c.b 16, b := c.le 20 4 } a))

/-- Plan admission, load and eviction (R180, R626, R192). -/
def Obligations.PlanStoreCommandsComplete : Prop :=
  ∀ (c : Call) (s a : State) (p : Nat), p = c.part.toNat →
    (a = accepted 0x20 c s → PassesLong 0x20 callT c s → 1 ≤ c.b 16 → c.b 16 < 15 → c.le 24 8 % 64 = 0 →
      rgnValid a p (c.b 16) = true → rgnBusy a p (c.b 16) = false → c.le 24 8 + c.le 32 8 ≤ rgnUsable a p (c.b 16) →
      ∀ img t, readBytes 1 p (c.b 16) (c.le 24 8) (c.le 32 8) a = (0, img, t) →
        (∀ o ∈ t.host.outst, ¬ (o.acc = true ∧ o.op = 0x20 ∧ o.b = 1)) →
        exec (.planAdmit c) s = .next (match admitBad { s := t, part := p, len := c.le 32 8, img := img } with
          | none => running 0x20 c { a := storePart p img, b := 1, data := img } t
          | some x => finish c 0x20 (admitStatus x.reason) (badResult x) t)) ∧
    (Passes 0x24 callT c s → ∀ r, findResident s p (c.b 16) = some r → inUse s r = false → (domRt s p).resume = none →
      exec (.planEvict c) s = .next (replied 0x24 c [] (evict r s))) ∧
    (a = accepted 0x21 c s → PassesLong 0x21 callT c s →
      ∀ im x l, imageOf a p = some im → im.ctxs[c.b 16]? = some x → c.b 17 ≠ 0xFF →
        (∀ r ∈ residentsOf a p, r.id ≠ c.b 17) → x.dmas.filterMap (dmaLoad a) = [] → x.dmas.any (dmaBusy a) = false →
        migrates a p = false → selfTesting a im.partMask = false → failedUnit a x = false → pickSlots a x = .ok l →
        loadWaits a im.partMask = none →
        (domRt a p).resume = none →
        ∃ r t, r.id = c.b 17 ∧ r.mask = im.partMask ∧ r.tenant = tenantOf a p ∧ r.imageId = im.imageId ∧ r.ctx = x ∧ r.slots = l ∧
          r.loading = true ∧ t.plan.resident = a.plan.resident ++ [r] ∧
          exec (.planLoad c) s = .next (running 0x21 c { a := p, b := c.b 17, data := leBytes 1 p } t) ∧
          t.mem = s.mem ∧ t.fab = s.fab ∧ t.doms = s.doms ∧ t.toll = s.toll ∧ t.keys = s.keys)

/-- Start, switch, stop and clear of a slip domain (R626, R637, R192, R749): the request is kept for its edge. -/
def Obligations.PlanRunCommandsComplete : Prop :=
  ∀ (c : Call) (s a : State) (p : Nat), p = c.part.toNat →
    (a = accepted 0x22 c s → PassesLong 0x22 callT c s → ∀ r, findResident a p (c.b 16) = some r →
      (∀ q ∈ maskBits 8 r.mask, startPending a q = false ∧ plnState a q = stIdle) → migrates a p = false →
      selfTesting a r.mask = false → extest a = false → isInvalid a r = false → failedUnit a r.ctx = false →
      1 ≤ c.b 17 → c.b 17 ≤ 4 → r.ctx.fmask.testBit (c.b 17 - 1) = true → (domRt a p).resume = none → c.bit 18 0 = false →
      portsUp a r.ctx = true → (needsJobKey r.ctx = true → (holderKeys a p).job.isSome = true) → pinBars a p (c.b 17) = false →
      exec (.planStart c) s = .next (running 0x22 c { a := p } (setPend r.mask r.id (setDomRt p { domRt a p with
        pend := some { ctx := r.id, mask := r.mask, fclass := c.b 17, reason := 2, atToll := none, job := c.job,
                       jobKey := (holderKeys a p).job.getD [] } } a)))) ∧
    (a = accepted 0x23 c s → PassesLong 0x23 callT c s → domLow a p = p → plnState a p = stRun → (domRt a p).pend = none →
      extest a = false → ∀ r, switchTarget a p (c.b 16) = some r → isInvalid a r = false → c.b 17 ≤ 4 →
      (c.b 17 ≠ 0 → r.ctx.fmask.testBit (c.b 17 - 1) = true ∧ pinBars a p (c.b 17) = false) →
      exec (.planSwitch c) s = .next (running 0x23 c { a := p } (askSwitch p r.id (c.b 17) a))) ∧
    (a = accepted 0x25 c s → PassesLong 0x25 callT c s → domLow a p = p → plnState a p ≠ stIdle → plnState a p ≠ stHalted →
      exec (.planStop c) s = .next (running 0x25 c { a := p } a)) ∧
    (Passes 0x26 callT c s → domLow s p = p → plnState s p = stHalted →
      exec (.planClear c) s = .next (replied 0x26 c [] (clearDomain p s)))

/-- Region commands (R267, R295, R296, R627): an entry is created and its sweep begins, VALID clears, a zero-fill or a rekey
sweep begins. -/
def Obligations.RegionCommandsComplete : Prop :=
  ∀ (c : Call) (s a : State) (h r : Nat), h = c.b 16 → r = c.b 17 →
    (a = accepted 0x30 c s → PassesLong 0x30 (callMem true true) c s → hsPresent a h = true → rgnValid a h r = false →
      rgnFixed a h r = false → rgnBusy a h r = false → rgnRules a h r (c.bit 18 0) (c.b 19) (c.le 20 2) (c.le 22 2) = true →
      (rgnOperator a h r = true ∨ verLive a h r (c.b 24) = true) →
      ∀ e, e = createRegion h r (if rgnOperator a h r then 0 else c.b 24) (c.bit 18 1)
            ((a.setReg (aRgnA h r) (BitVec.ofNat 32 (b2n (c.bit 18 0) * 2 ^ 30 + c.b 19 * 2 ^ 27 + c.le 20 2))).put (aRgnB h r) 0 14 (c.le 22 2)) →
        exec (.rgnSet c) s = .next (if rgnBusy e h r then running 0x30 c { a := 16 * h + r } e
          else replied 0x30 c (leBytes 8 (rgnUsable e h r)) e)) ∧
    (Passes 0x31 (callMem true true) c s → hsPresent s h = true → rgnFixed s h r = false → rgnBusy s h r = false →
      exec (.rgnClear c) s = .next (replied 0x31 c [] (s.setBit (aRgnA h r) 31 false))) ∧
    (a = accepted 0x32 c s → PassesLong 0x32 (callMem false false) c s → hsPresent a h = true → rgnValid a h r = true →
      rgnBusy a h r = false → rekeying a h r = false →
      exec (.rgnZfill c) s = .next (running 0x32 c { a := 16 * h + r } (startSweep h r true a))) ∧
    (a = accepted 0x33 c s → PassesLong 0x33 (callMem false false) c s → hsPresent a h = true → rgnValid a h r = true →
      verLive a h r (c.b 18) = true → a.rbit (aRkCtl h) 30 = false → rgnBusy a h r = false → c.bit 19 0 = a.rbit (aRkCtl h) 29 →
      exec (.rekeyRegion c) s = .next (running 0x33 c { a := h }
        (startRekey h r (c.b 18) (a.rbit (aRkCtl h) 29) ((a.put (aRkCtl h) 16 8 (c.b 18)).put (aRkCtl h) 0 4 r))))

/-- The end of a sweep (R295, R627): every line of the region holds zeros under its key, INIT_BUSY and ZFILL clear, and the
commands that wait for it end. -/
def Obligations.SweepsComplete : Prop :=
  ∀ (h r : Nat) (s : State), h < 8 → inSafe s = false →
    (r < 16 → rgnBusy s h r = true →
      ∃ e, e.mem = (zeroRegion h r s).mem ∧ e.rbit (aRgnA h r) 26 = false ∧ e.rbit (aRgnA h r) 25 = false ∧
        exec (.sweepEnd h r) s = .next (forL (e.host.outst.filter (fun o => o.acc && (decide (o.op = 0x30) || decide (o.op = 0x32)) &&
          decide (o.a = 16 * h + r))) (fun o t => finishO o sOk (if o.op = 0x30 then leBytes 8 (rgnUsable t h r) else []) t) e)) ∧
    (∀ k unread, tabGet (fun _ => none) s.mem.rekey h = some k → s.rbit (aRkCtl h) 30 = true → k.region < 16 → k.ver < 256 →
      ∃ e, e.mem.cells = (rekeyLines h k.region k.ver unread s).2.2.mem.cells ∧ e.rf (aRgnA h k.region) 16 8 = k.ver ∧
        e.rbit (aRkCtl h) 30 = false ∧ e.reg (aRkPtr h) = 0 ∧ tabGet (fun _ => none) e.mem.rekey h = none ∧
        exec (.rekeyEnd h unread) s = .next (forL (e.host.outst.filter (fun o => o.acc && decide (o.op = 0x33) && decide (o.a = h)))
          (fun o t => finishO o sOk (leBytes 4 (rekeyLines h k.region k.ver unread s).1 ++
            leBytes 4 (rekeyLines h k.region k.ver unread s).2.1) t) e))

/-- MEM_READ and MEM_WRITE (R627, R606): the bytes of the lines leave in offset order, the bytes of the buffer reach the
lines in offset order, and a command without an error ends OK. -/
def Obligations.MemoryAccessCommandsComplete : Prop :=
  ∀ (c : Call) (s a : State) (h r : Nat), h = c.b 16 → r = c.b 17 → hsPresent a h = true → rgnValid a h r = true → rgnBusy a h r = false →
    c.le 24 8 % 64 = 0 → c.le 32 4 % 64 = 0 → 64 ≤ c.le 32 4 → c.le 32 4 ≤ 2 ^ 24 → c.le 24 8 + c.le 32 4 ≤ rgnUsable a h r →
    (a = accepted 0x34 c s → PassesLong 0x34 (callMem false true) c s → c.outOk (c.le 40 8) (c.le 32 4) = none → c.bufErr = false →
      ∀ b t, readFrom 1 h r (c.le 24 8) (c.le 32 4) a = ((0, 0, b), t) →
        exec (.memRead c) s = .next (replied 0x34 c (zeros 8) (c.output (c.le 40 8) b t))) ∧
    (a = accepted 0x35 c s → PassesLong 0x35 (callMem false true) c s →
      ∀ b n t, c.input a (c.le 40 8) (c.le 32 4) = .ok b → writeFrom 1 h r (c.le 24 8) b a = ((0, 0, n), t) →
        exec (.memWrite c) s = .next (replied 0x35 c (zeros 8 ++ leBytes 4 n) t))

/-- Pushes (R226, R628): a push keeps its words and waits; each word enters the partition's PCIe or MRP inbound queue in order
once the queue has room; the last ends the command; TIMEOUT ends it with the count of the words that entered. -/
def Obligations.PushesComplete : Prop :=
  (∀ (c : Call) (s a : State) (p : Nat), p = c.part.toNat → a = accepted 0x38 c s → PassesLong 0x38 callT c s → plnState a p = stRun →
    1 ≤ c.le 32 4 → c.le 32 4 ≤ 2 ^ 20 → (if c.bit 16 0 then 32 ≤ c.le 32 4 else c.le 32 4 % 64 = 0) → 1 ≤ c.le 36 4 → c.le 36 4 ≤ 10 ^ 7 →
    ∀ w, pushWords c a = .ok w → w ≠ [] →
      exec (.dpPush c) s = .next (running 0x38 c { a := 32 * p + 24 + b2n (c.bit 16 0), data := w } a)) ∧
  (∀ (i : Nat) (o : Outst) (s : State), outstAt s i [0x38] = some o →
    ((∀ x ∈ s.host.outst.take i, ¬ (x.acc = true ∧ x.op = 0x38 ∧ x.a = o.a)) → (queueRt s o.a).entries.length < queueDepth o.a →
      exec (.pushWordEnter i) s = .next
        (if o.data.drop 64 = [] then
          finishO { o with b := o.b + 1, data := [] } sOk (leBytes 4 (o.b + 1))
            (enterQueue o.a (.word (padTo 64 (o.data.take 64)) 0) (updOutst o { o with b := o.b + 1, data := [] } s))
         else enterQueue o.a (.word (padTo 64 (o.data.take 64)) 0) (updOutst o { o with b := o.b + 1, data := o.data.drop 64 } s))) ∧
    exec (.pushTimeout i) s = .next (finishO o sTimeout (leBytes 4 o.b) s))

/-- Roll engines (R488, R510 to R512): a grant takes an idle engine, a job loads the job registers and begins, and ends with BUSY
clear, DONE set and the job interrupt. -/
def Obligations.RollEnginesComplete : Prop :=
  (∀ (c : Call) (s : State) (r : Nat), r = c.b 16 → Passes 0x36 callP c s → enginePresent s r = true → c.b 17 ≤ 1 →
    (c.b 18 = 8 ∨ c.b 18 = 15 ∨ (c.b 18 < 8 ∧ partPresent s (c.b 18) = true)) → rolIdle s r = true →
    exec (.rollGrant c) s = .next (replied 0x36 c [] ((s.put (aRol r 0) 30 2 (c.b 17)).put (aRol r 0) 24 4 (c.b 18)))) ∧
  (∀ (c : Call) (s a : State) (r : Nat) (j : JobCfg), r = c.b 16 → a = accepted 0x37 c s → PassesLong 0x37 callG c s →
    enginePresent a r = true → c.b 18 < 16 → c.b 19 < 16 → c.b 20 < 16 → c.b 21 < 8 → c.b 22 < 16 →
    c.le 24 4 < 2 ^ 28 → c.le 28 4 < 2 ^ 28 → c.le 40 4 < 2 ^ 28 →
    j = { enc := c.bit 17 0, salvage := c.bit 17 1, src := c.b 18, dst := c.b 19, err := c.b 20,
          hs := if rolGrant a r < 8 then rolGrant a r else c.b 21, srcOff := 64 * c.le 24 4, dstOff := 64 * c.le 28 4,
          len := c.le 32 4, max := c.le 36 4, errExp := c.b 22, errOff := 64 * c.le 40 4 } →
    jobOk a r j = true → rollResident a r = false → rolBusy a r = false → jobWaits a j = false →
    ∃ e, exec (.rollJob c) s = .next (running 0x37 c { a := r } (startJob r e)) ∧
      e.rbit (aRol r 0x10) 29 = c.bit 17 0 ∧ e.rbit (aRol r 0x10) 28 = c.bit 17 1 ∧ e.rf (aRol r 0x10) 24 4 = c.b 18 ∧
      e.rf (aRol r 0x10) 20 4 = c.b 19 ∧ e.rf (aRol r 0x14) 0 28 = c.le 24 4 ∧ e.reg (aRol r 0x18) = BitVec.ofNat 32 (c.le 32 4) ∧
      e.rf (aRol r 0x1C) 0 28 = c.le 28 4 ∧ e.reg (aRol r 0x20) = BitVec.ofNat 32 (c.le 36 4) ∧
      e.mem = a.mem ∧ e.host = a.host ∧ e.out = a.out ∧ e.fab = a.fab) ∧
  (∀ (r : Nat) (s : State), r < 4 → jobBusy s r = true → inSafe s = false →
    ∃ e st res, e.rbit (aRol r 0x10) 30 = false ∧ e.rbit (aRol r 0x10) 11 = true ∧
      exec (.rollJobDone r) s = .next (jobIrq r
        (forL (e.host.outst.filter (fun o => o.acc && decide (o.op = 0x37) && decide (o.a = r))) (fun o t => finishO o st res t) e))) ∧
  (∀ (r n ev : Nat) (s : State), r < 4 → enginePresent s r = true → rollOccs s r = [] → ev ≠ 2 → rolStream s r = some n →
    exec (.rollBlock r ev) s = .next (rollChanBlock r n ev s))

/-- Reports and key sessions (R555, R556): ATTEST returns a signed report, KEY_SESSION opens a session with a fresh SID and a
fresh scalar and returns a report that carries its point; a session closes at its expiry. -/
def Obligations.ReportsAndSessionsComplete : Prop :=
  (∀ (c : Call) (s a : State), 4096 ≤ c.le 56 4 → c.outOk (c.le 48 8) (c.le 56 4) = none →
    (a = accepted 0x40 c s → PassesLong 0x40 callA c s →
      ∀ b t, signReport c.fn (c.bytes 16 32) none a = (b, t) →
        t.trust.reports = a.trust.reports + 1 ∧
        exec (.attest c) s = .next (replied 0x40 c (leBytes 4 b.length ++ leBytes 4 t.trust.reports) (c.output (c.le 48 8) b t))) ∧
    (a = accepted 0x42 c s → PassesLong 0x42 callKHeld c s →
      ∀ h d x t, h = holderIdx c → d = privKey (beNat (Config.random a.freeCtr)) →
        x = { sid := a.trust.sids + 1, nonce := c.bytes 16 32, gen := genOf a h, tenant := tenantH a h, scalar := d } →
        t = refreshHolder h (setSession h (some x) (setTrust { a.trust with sids := a.trust.sids + 1 } a.bump)) →
        ∀ b u, signReport c.fn (c.bytes 16 32) (some (x.sid, c.part.toNat, Config.pubPoint d)) t = (b, u) →
          exec (.keySession c) s = .next (replied 0x42 c (leBytes 4 x.sid ++ leBytes 4 b.length) (c.output (c.le 48 8) b u)))) ∧
  (∀ (h : Nat) (s : State), h < 9 → exec (.sessionExpiry h) s = .next (closeSession h s))

/-- Keys of a holder (R557 to R560): KEY_INSTALL replaces the staging area with the keys it unwraps and closes the session,
KEY_COMMIT moves every staged key into its slot and empties the area, KEY_DISCARD empties it, KEY_DELETE removes one version. -/
def Obligations.KeyCommandsComplete : Prop :=
  ∀ (c : Call) (s a : State) (h : Nat), h = holderIdx c →
    (a = accepted 0x43 c s → PassesLong 0x43 callK c s → ∀ b n es ks x t,
      c.input a (c.le 16 8) (c.le 24 4) = .ok b → n = byteAt b 9 → es = (List.range n).map (fun i => (b.drop (128 + 48 * i)).take 48) →
      c.le 24 4 = 128 + 48 * n → 1 ≤ n → n ≤ 8 → byteAt b 8 = c.part.toNat → b.take 4 = [0x53, 0x58, 0x4B, 0x4D] →
      (b.drop 10).take 6 = zeros 6 → (b.drop 113).take 15 = zeros 15 → es.all entryOk = true →
      sessMatch a h (leAt b 4 4) = some x → t = closeSession h a → (∀ e ∈ es, typeBad t h (byteAt e 0) = none) →
      ks = es.map (fun e => (byteAt e 0, byteAt e 1, keyUnwrap (kekOf x h ((b.drop 16).take 97) (byteAt e 0) (byteAt e 1)) (e.drop 8))) →
      exec (.keyInstall c) s = .next (if Config.pointOk ((b.drop 16).take 97) && ks.all (fun k => k.2.2.isSome) then
          replied 0x43 c [] (refreshHolder h (setKeys h { keySlots t h with staged := ks.map (fun k => (k.1, k.2.1, k.2.2.getD [])) } t))
        else finish c 0x43 sAuth [] t)) ∧
    (Passes 0x44 callKCommit c s → ¬ (h < 8 ∧ partState s h = 2) → (keySlots s h).staged ≠ [] →
      (∀ x ∈ (keySlots s h).staged, x.1 = 1 → memLive (keySlots s h) x.2.1 = false) →
      (keySlots s h).mem.length + (((keySlots s h).staged.filter (fun x => decide (x.1 = 1))).map (fun x => x.2.1)).eraseDups.length ≤ 4 →
      ∀ e, e = refreshHolder h (setKeys h { (keySlots s h).staged.foldl (fun k x => commitOne x k) (keySlots s h) with staged := [] } s) →
        exec (.keyCommit c) s = .next (replied 0x44 c []
          (if (keySlots s h).staged.any (fun x => decide (x.1 = 2)) then newLinkKey h e else e))) ∧
    (Passes 0x45 callK c s →
      exec (.keyDiscard c) s = .next (replied 0x45 c [] (refreshHolder h (setKeys h { keySlots s h with staged := [] } s)))) ∧
    (Passes 0x46 callV c s → memLive (keySlots s c.part.toNat) (c.b 16) = true → verUsed s c.part.toNat (c.b 16) = false →
      exec (.keyDelete c) s = .next (replied 0x46 c [] (refreshKeys c.part.toNat (setKeys c.part.toNat { keySlots s c.part.toNat with
        mem := (keySlots s c.part.toNat).mem.filter (fun m => decide (m.2.1 ≠ c.b 16)) } s))))

/-- The trust record (R562, R563, R567, R569, R570): an enrolment or removal that passes its checks marks the record busy and
keeps the new record's bytes; the update's end activates them and advances REC_OTP, or leaves the OTP and reports the failure. -/
def Obligations.TrustRecordCommandsComplete : Prop :=
  (∀ (c : Call) (s a : State), recBusy a = false → recLeft a.trust ≠ 0 → a.trust.flashOk = true →
    (a = accepted 0x47 c s → PassesLong 0x47 callP c s → ∀ b e x t key, c.input a (c.le 16 8) (c.le 24 4) = .ok b → c.le 24 4 = 384 →
      (b.drop 25).take 7 = zeros 7 → (b.drop 129).take 7 = zeros 7 → (b.drop 281).take 7 = zeros 7 →
      e = (b.drop 136).take 48 → byteAt e 0 = 5 → entryOk e = true → sessMatch a 8 (leAt b 0 4) = some x → t = closeSession 8 a →
      key = keyUnwrap (kekOf x 8 ((b.drop 32).take 97) 5 0) (e.drop 8) → byteAt b 24 < 64 → (∀ y ∈ t.trust.entries.sets, y.id ≠ (b.drop 4).take 16) → t.trust.entries.sets.length < 8 →
      recBusy t = false → recLeft t.trust ≠ 0 → t.trust.flashOk = true →
      exec (.setEnrol c) s = .next (if Config.ecdsaVerify ((b.drop 184).take 97)
            (Config.sha384 ((b.drop 4).take 21 ++ ident t ++ x.nonce ++ e.drop 8)) ((b.drop 288).take 48) ((b.drop 336).take 48) &&
          Config.pointOk ((b.drop 32).take 97) && key.isSome then
        running 0x47 c { c := byteAt b 24, data := recordOf t (t.trust.recOtp + 1) { t.trust.entries with
          sets := t.trust.entries.sets ++ [{ id := (b.drop 4).take 16, gen := leAt b 20 4, member := byteAt b 24,
                                             owner := (b.drop 184).take 97, wrapped := keyWrap (kSeal t) (key.getD []) }] } }
          (t.setBit aTruStat 31 true)
        else finish c 0x47 sAuth [] t)) ∧
    (a = accepted 0x48 c s → PassesLong 0x48 callP c s → (∃ y ∈ a.trust.entries.sets, y.id = c.bytes 16 16) →
      exec (.setLeave c) s = .next (running 0x48 c { data := recordOf a (a.trust.recOtp + 1) { a.trust.entries with
        sets := a.trust.entries.sets.filter (fun y => decide (y.id ≠ c.bytes 16 16)) } } (a.setBit aTruStat 31 true))) ∧
    (∀ b, c.input a (c.le 16 8) (c.le 24 4) = .ok b → c.le 24 4 = 97 →
      (a = accepted 0x4A c s → PassesLong 0x4A callP c s → b ∉ a.trust.entries.tools → a.trust.entries.tools.length < 16 →
        exec (.toolkeyEnrol c) s = .next (if Config.pointOk b then
            running 0x4A c { data := recordOf a (a.trust.recOtp + 1) { a.trust.entries with tools := a.trust.entries.tools ++ [b] } }
              (a.setBit aTruStat 31 true)
          else finish c 0x4A sParam [] a)) ∧
      (a = accepted 0x4C c s → PassesLong 0x4C callP c s → b ∉ a.trust.entries.dbgs → a.trust.entries.dbgs.length < 4 →
        exec (.dbgkeyEnrol c) s = .next (if Config.pointOk b then
            running 0x4C c { data := recordOf a (a.trust.recOtp + 1) { a.trust.entries with dbgs := a.trust.entries.dbgs ++ [b] } }
              (a.setBit aTruStat 31 true)
          else finish c 0x4C sParam [] a))) ∧
    (a = accepted 0x4B c s → PassesLong 0x4B callP c s → 
      exec (.toolkeyRevoke c) s = .next (if a.trust.entries.tools.any (fun k => decide (Config.sha384 k = c.bytes 16 48)) then
        running 0x4B c { data := recordOf a (a.trust.recOtp + 1) { a.trust.entries with
          tools := a.trust.entries.tools.filter (fun k => decide (Config.sha384 k ≠ c.bytes 16 48)) } } (a.setBit aTruStat 31 true)
        else finish c 0x4B sParam [] a)) ∧
    (a = accepted 0x4D c s → PassesLong 0x4D callP c s → 
      exec (.dbgkeyRevoke c) s = .next (if a.trust.entries.dbgs.any (fun k => decide (Config.sha384 k = c.bytes 16 48)) then
        running 0x4D c { data := recordOf a (a.trust.recOtp + 1) { a.trust.entries with
          dbgs := a.trust.entries.dbgs.filter (fun k => decide (Config.sha384 k ≠ c.bytes 16 48)) } } (a.setBit aTruStat 31 true)
        else finish c 0x4D sParam [] a))) ∧
  (∀ (i : Nat) (o : Outst) (s : State), outstAt s i [0x47, 0x48, 0x4A, 0x4B, 0x4C, 0x4D] = some o →
    (∀ t, t = putSlot (idleSlot s.trust) o.data s.trust →
      exec (.recordUpdateDone i true) s = .next (finishO o sOk (if o.op = 0x47 then [bite o.c] else [])
        (activate (idleSlot s.trust) o.data (setTrust { t with recOtp := t.recOtp + 1 } (s.setBit aTruStat 31 false))))) ∧
    exec (.recordUpdateDone i false) s = .next (finishO o sIntegrity []
      (errFlag 10 o.call.fn 1 o.op (setTrust (putSlot (idleSlot s.trust) [] s.trust) (s.setBit aTruStat 31 false)))))

/-- Debug authorisation (R571, R572): a nonce is drawn and kept, a token that passes every check is admitted under the next
number and consumes it, a token ends by command or by time, a nonce expires. -/
def Obligations.DebugTokensComplete : Prop :=
  (∀ (c : Call) (s a : State),
    (Passes 0x86 callP c s → c.outOk (c.le 24 8) 32 = none → ∀ n, n = padTo 32 (Config.random s.freeCtr) →
      exec (.dbgNonce c) s = .next (replied 0x86 c [] (c.output (c.le 24 8) n (setTrust { s.trust with nonce := some n } s.bump)))) ∧
    (a = accepted 0x87 c s → PassesLong 0x87 callP c s → ∀ b t, c.input a (c.le 16 8) (c.le 24 4) = .ok b → c.le 24 4 = 240 →
      b.take 6 = [0x53, 0x58, 0x44, 0x54, 1, 0] → leAt b 6 2 < 4 → 1 ≤ leAt b 88 4 → leAt b 88 4 ≤ 86400 →
      (b.drop 140).take 4 = zeros 4 → t = admitToken b (setTrust { a.trust with nonce := none } a) →
      t.2.trust.nonce = none ∧ t.2.trust.token = some (t.1, leAt b 6 2, leAt b 88 4) ∧ t.1 = min (a.trust.admitted + 1) 0xFFFF ∧
      exec (.dbgAdmit c) s = .next (match tokenBad b a with
        | none => replied 0x87 c (leBytes 2 t.1) t.2
        | some e => finish c 0x87 e [] (setTrust { a.trust with nonce := none } a))) ∧
    (Passes 0x88 callP c s → s.trust.token ≠ none → exec (.dbgEnd c) s = .next (replied 0x88 c [] (endToken s)))) ∧
  (∀ s : State, (s.trust.token ≠ none → exec .tokenExpiry s = .next (endToken s)) ∧
    exec .nonceExpiry s = .next { s with trust := { s.trust with nonce := none } })

/-- A weight package (R564, R565): a package whose header, extents, tenant and content key pass keeps its key and header and
waits; each failed check names its status. A package of one chunk ends with its plaintext in the destination, padded to whole
lines, when its tag verifies, and with zeros there when it does not. -/
def Obligations.WeightPackagesComplete : Prop :=
  (∀ (c : Call) (s a t : State) (p : Nat) (hd : List Byte), p = c.part.toNat → a = accepted 0x49 c s → PassesLong 0x49 callV c s →
    1 ≤ c.b 16 → c.b 16 ≤ 14 → 1 ≤ c.b 17 → c.b 17 ≤ 14 → c.b 16 ≠ c.b 17 → rgnValid a p (c.b 16) = true → rgnValid a p (c.b 17) = true →
    c.le 32 8 % 128 = 0 → c.le 24 8 + 128 ≤ rgnUsable a p (c.b 16) → rgnBusy a p (c.b 16) = false → rgnBusy a p (c.b 17) = false →
    readFrom 1 p (c.b 16) (c.le 24 8) 128 a = ((0, 0, hd), t) →
    exec (.weightUnwrap c) s = .next (
      if packageOk hd ∧ c.le 24 8 + packageLen (leAt hd 40 8) ≤ rgnUsable a p (c.b 16) ∧
          c.le 32 8 + (leAt hd 40 8 + 127) / 128 * 128 ≤ rgnUsable a p (c.b 17) then
        if leAt hd 6 2 = 0 ∨ leAt hd 6 2 = tenantOf a p then
          match packageKey a hd with
          | some k => running 0x49 c { a := p, data := padTo 32 k ++ hd } a
          | none => finish c 0x49 sAuth [] a
        else finish c 0x49 sPerm [] a
      else finish c 0x49 sParam [] a)) ∧
  (∀ (i : Nat) (o : Outst) (s : State) (x : Option (List Byte) × State) (plen full : Nat), outstAt s i [0x49] = some o →
    plen = leAt (o.data.drop 32) 40 8 → 1 ≤ plen → plen ≤ 2 ^ 20 → full = (plen + 127) / 128 * 128 →
    x = openChunk o.a (o.call.b 16) (o.call.le 24 8) (o.data.take 32) (o.data.drop 32) 0 1 plen s →
    exec (.weightUnwrapDone i) s = .next (match x.1 with
      | none => finishO o sIntegrity (zeros 12) (writeFrom 1 o.a (o.call.b 17) (o.call.le 32 8) (zeros full) x.2).2
      | some b =>
        let w := writeFrom 1 o.a (o.call.b 17) (o.call.le 32 8) (padTo full b) x.2
        if w.1.1 = 0 ∨ w.1.1 = 6 then finishO o sOk (leBytes 8 plen ++ leBytes 4 1) w.2 else finishO o sIntegrity (zeros 12) w.2))

/-- Trace channels (R355 to R359, R630): CH_CONFIG writes the control, class and range registers, CH_WINDOW one window, CH_ENABLE
enables a stopped channel, disables a running one and answers its packets, or flushes. -/
def Obligations.ChannelCommandsComplete : Prop :=
  ∀ (c : Call) (s e : State) (n : Nat), n = c.b 16 → chanPresent s n = true →
    (Passes 0x50 (fun c s => callC (c.b 16) c s) c s → (c.fn = 0 ∨ (c.b 17 / 2 % 4 = 0 ∧ c.b 20 = 0)) →
      ∀ portOk, portOk = (if c.b 17 / 2 % 4 = 1 then false else if c.b 17 / 2 % 4 = 2 then true else s.rbit (aChCtl n) 29) →
      sinkRefused s n (c.b 18) portOk = none → c.b 17 / 2 % 4 ≠ 3 → 12 ≤ c.b 19 → c.b 19 ≤ 24 → c.b 20 ≤ 16 → c.le 24 4 < 2 ^ 10 →
      (∀ i, i < 2 → c.le (28 + 4 * i) 4 / 2 ^ 28 = 0 ∧ c.le (28 + 4 * i) 4 / 2 ^ 12 % 16 = 0) →
      ¬ (s.fuse.variant = 2 ∧ (c.le 24 4).testBit 4 = true) → (c.b 20 = 0 ∨ bufSum s n (c.b 20) ≤ 64) → chOn s n = false →
      ¬ ((c.le 24 4).testBit 4 = true ∧ dataBarred s n = true) →
      e = (((((((if c.b 20 = 0 then s else s.put (aChCtl n) 16 5 (c.b 20)).setBit (aChCtl n) 29 portOk).put (aChCtl n) 26 3 (c.b 18)).put
            (aChCtl n) 21 5 (c.b 19)).setReg (aChCls n) (BitVec.ofNat 32 (c.le 24 4))).setReg (aChUr n 0) (BitVec.ofNat 32 (c.le 28 4))).setReg
            (aChUr n 1) (BitVec.ofNat 32 (c.le 32 4))) →
      (c.bit 17 0 = true → holdBar e n = none) →
      exec (.chConfig c) s = .next (replied 0x50 c [] (refreshFull n (e.setBit (aChCtl n) 30 (c.bit 17 0))))) ∧
    (Passes 0x51 (fun c s => callC (c.b 16) c s) c s → c.b 17 < 4 → c.b 18 < 4 → c.le 20 2 < 2 ^ 12 → ¬ (s.fuse.variant = 2 ∧ c.b 18 ≠ 0) →
      exec (.chWindow c) s = .next (replied 0x51 c [] (((s.setReg (aChAwSel n (c.b 17)) (BitVec.ofNat 32 (c.b 18 * 2 ^ 30 + c.le 20 2))).setReg
        (aChAwLo n (c.b 17)) (BitVec.ofNat 32 (c.le 24 4))).setReg (aChAwHi n (c.b 17)) (BitVec.ofNat 32 (c.le 28 4))))) ∧
    (Passes 0x52 (fun c s => callC (c.b 16) c s) c s →
      (c.bit 17 0 = true → chOn s n = false → chSink s n ≠ 0 → engineTaken s n = false →
        (rollOn s n = true → rollAllowed s n (chEngine s n) = true) →
        exec (.chEnable c) s = .next (replied 0x52 c [] (if c.bit 17 1 then flushChannel n (enableChannel n s) else enableChannel n s))) ∧
      (c.bit 17 0 = false → c.bit 17 1 = false → chOn s n = true →
        exec (.chEnable c) s = .next (replied 0x52 c (leBytes 6 ((chRt (disableChannel n 1 s) n).packets % 2 ^ 48)) (disableChannel n 1 s))) ∧
      (c.bit 17 0 = true → chOn s n = true → c.bit 17 1 = true →
        exec (.chEnable c) s = .next (replied 0x52 c [] (flushChannel n s))))

/-- Sinks (R472, R473, R479, R462, R467, R476, R366, R630): RING_SET writes one ring set, SINK_PORT a port, GOV_SET the governor
pins or hint of a half-stack. -/
def Obligations.SinkCommandsComplete : Prop :=
  (∀ (c : Call) (s e : State) (n : Nat) (ing : Bool) (ctl : Word), ing = c.bit 16 7 → n = c.b 16 % 32 →
    Passes 0x53 (fun c s => if c.bit 16 7 then decide (c.fn = 0) else callC (c.b 16 % 32) c s) c s →
    ctl = BitVec.ofNat 32 (b2n (c.bit 17 0) * 2 ^ 31 + c.b 18 % 16 * 2 ^ 27 + b2n (c.bit 17 1) * 2 ^ 26 + c.b 19 % 8 * 2 ^ 23 +
      c.b 20 % 16 * 2 ^ 19 + (if ing then b2n (c.bit 17 2) * 2 ^ 18 + b2n (c.bit 17 3) * 2 ^ 17 else 0)) →
    (if ing then portPresent s n = true else chanPresent s n = true) → ringBusy s ing n = false →
    c.b 18 < 16 → c.b 19 < 8 → c.b 20 < 16 → c.b 22 < 4 → (ing = false → c.bit 17 2 = false ∧ c.bit 17 3 = false) →
    c.bit 21 0 = false → 16 ≤ c.le 32 4 → c.le 32 4 ≤ 2 ^ 24 → c.le 40 8 % 8 = 0 →
    (ringHbm s ing n ctl = true → ringFits s ing n ctl (c.le 24 8) (c.le 32 4) = true) →
    (ringHost s ing n ctl = true → c.le 24 8 % 4096 = 0) →
    e = (((((s.setReg (aRng ing n 0) ctl).setReg (aRng ing n 8) (BitVec.ofNat 32 (c.le 24 8))).setReg (aRng ing n 12)
          (BitVec.ofNat 32 (c.le 24 8 / 2 ^ 32))).setReg (aRng ing n 0x10) (BitVec.ofNat 32 (c.le 32 4))).setReg (aRng ing n 0x1C)
          (BitVec.ofNat 32 (c.le 40 8))).setReg (aRng ing n 0x20) (BitVec.ofNat 32 (c.le 40 8 / 2 ^ 32)) →
    exec (.ringSet c) s = .next (replied 0x53 c []
      (if ing then (if !s.rbit (aRng ing n 0) 17 && c.bit 17 3 then e.setReg (aRng ing n 0x14) 0 else e)
       else ((e.setBit (aSnkCfg n) 31 false).put (aSnkCfg n) 28 2 (c.b 22)).put (aSnkCfg n) 0 8 (c.b 23)))) ∧
  (∀ (c : Call) (s : State), Passes 0x54 callP c s →
    (c.b 16 = 3 → portPresent s (c.b 18) = true →
      exec (.sinkPort c) s = .next (replied 0x54 c [] (s.setReg aSnkRem (BitVec.ofNat 32 (b2n (c.bit 17 0) * 2 ^ 31 + c.b 18))))) ∧
    (c.b 16 = 4 → c.b 18 < 4 → (s.rbit aSnkPar 31 = true → c.bit 17 0 = true → c.b 18 = s.rf aSnkPar 29 2) →
      exec (.sinkPort c) s = .next (replied 0x54 c [] (s.setReg aSnkPar (BitVec.ofNat 32 (b2n (c.bit 17 0) * 2 ^ 31 + c.b 18 * 2 ^ 29))))) ∧
    (c.b 16 = 5 → s.fuse.variant = 0 → c.b 18 < 16 →
      exec (.sinkPort c) s = .next (replied 0x54 c [] (writeSer (BitVec.ofNat 32 (b2n (c.bit 17 0) * 2 ^ 31 + c.b 18)) s)))) ∧
  (∀ (c : Call) (s e : State) (h mn mx hint : Nat), h = c.b 16 → Passes 0x55 callA c s → h < 8 → hsPresent s h = true →
    (c.fn = 0 ∨ (c.fn = h + 1 ∧ c.b 17 = 0xFF ∧ c.b 18 = 0xFF)) → mn = (if c.b 17 = 0xFF then govMin s h else c.b 17) →
    mx = (if c.b 18 = 0xFF then govMax s h else c.b 18) → hint = (if c.b 19 = 0xFF then govHint s h else c.b 19) →
    mx ≤ 10 → mn ≤ mx → (hint ≤ 10 ∨ hint = 15) →
    e = (((s.put (aGov h) 20 4 mn).put (aGov h) 24 4 mx).put (aGov h) 16 4 hint).put (aGovStat h) 0 8
      (peakNow (((s.put (aGov h) 20 4 mn).put (aGov h) 24 4 mx).put (aGov h) 16 4 hint) h) →
    (govDec e h).conf = none →
    exec (.govSet c) s = .next (replied 0x55 c [bite (govEff (refreshGov 0 h e) h)] (refreshGov 0 h e)))

/-- Clapper and counters (R430, R440 to R447, R630): CLAP_LOAD writes the image through the register rules and then ARM, CNT_SET
the selected fields of a counter, CNT_SNAP answers a snapshot of the device's groups at once and waits for the edges of the
partitions it names. -/
def Obligations.ClapperAndCounterCommandsComplete : Prop :=
  (∀ (c : Call) (s : State) (b : List Byte), Passes 0x56 callP c s → c.le 24 4 = 1040 → c.input s (c.le 16 8) 1040 = .ok b →
    ∀ offs, offs = ((List.range 260).map (fun i => 4 * i)).filter (fun o => decide (o ≠ 0) && decide (o ≠ 4) && decide (regFields (bClp + o) ≠ [])) →
    (∀ o ∈ offs, clpReserved o (imgWord b o) = false) →
    ((∃ i < 8, (imgWord b (0x300 + 8 * i)).getLsbD 1 = true ∧ fld (imgWord b (0x300 + 8 * i)) 16 16 ≠ 0) → fld (imgWord b 0x404) 30 2 ≠ 0) →
    exec (.clapLoad c) s = .next (replied 0x56 c [] (writeClpCtl (if c.bit 28 0 then BitVec.ofNat 32 (2 ^ 31) else 0)
      (forL offs (fun o t => writeClp { key := bClp + o, src := c.src, op := some 0x56 } (imgWord b o) t) (writeClpCtl 0 s))))) ∧
  (∀ (c : Call) (s e : State) (a : Nat), a = aCntSel (c.b 16) (c.le 18 2) (c.b 17) → Passes 0x57 callA c s → c.b 16 ≤ 3 →
    c.b 17 < groupSize (c.b 16) → c.le 18 2 < 0x1000 → ctrWriter s c.fn a = true → (c.b 16 = 0 → unitPresent s (c.le 18 2) = true) →
    (c.b 20 = 0xFF ∨ codeOk (c.b 16) (c.le 18 2) (c.b 20) = true) → c.b 22 < 8 →
    e = ((s.setBit a 31 (c.bit 21 0)).setBit a 19 (c.bit 21 1)).put a 16 3 (c.b 22) →
    ∀ u, u = (if c.b 20 = 0xFF then e else writeEvsel a (c.b 20) e) →
    exec (.cntSet c) s = .next (replied 0x57 c [] (if c.bit 21 2 then writeValh a (c.le 28 2) (writeVall a (c.le 24 4) u) else u))) ∧
  (∀ (c : Call) (s e : State) (scope : Nat), scope = c.le 16 2 → Passes 0x58 callA c s → (c.fn = 0 ∨ scope = 0 ∨ scope = 2 ^ (c.fn - 1)) →
    scope < 2 ^ 11 → (c.le 24 8 ≠ 0 → c.outOk (c.le 24 8) (c.le 32 4) = none) → e = requestSnap scope false s →
    (maskOf ((maskBits 8 scope).filter (partPresent s)) = 0 →
      exec (.cntSnap c) s = .next (replied 0x58 c (leBytes 4 (scopeNeed e scope)) (if c.le 24 8 = 0 then e else
        c.output (c.le 24 8) (((maskBits 11 scope).flatMap (fun b => (scopeCtrs e b).flatMap (snapEntry e))).take
          (min (c.le 32 4) (scopeNeed e scope))) e))) ∧
    (∀ o, o = { op := 0x58, call := c, acc := true, a := maskOf ((maskBits 8 scope).filter (partPresent s)) } → o.a ≠ 0 →
      exec (.cntSnap c) s = .next (running 0x58 c o (refreshCall c (requestSnap scope false
        (setOutst (s.host.outst.eraseP (isCall c 0x58) ++ [o]) s))))))

/-- Link commands (R315, R320, R336, R340, R631). -/
def Obligations.LinkCommandsComplete : Prop :=
  ∀ (c : Call) (s : State) (n : Nat), n = c.b 16 → portPresent s n = true →
    (Passes 0x60 callP c s → (c.b 18 < 4 ∨ c.b 18 = 0xFF) →
      exec (.linkCtl c) s = .next (replied 0x60 c [] (portControl n (c.bit 17 0) (c.bit 17 1) (c.bit 17 2)
        (if c.b 18 = 0xFF then s else s.put (aLnkCtl n) 27 2 (c.b 18))))) ∧
    (Passes 0x61 callP c s → partPresent s (c.b 18) = true → ownFixed s n (c.b 18) = false →
      exec (.linkAssign c) s = .next (replied 0x61 c [] (assignPort n (c.bit 17 0) (c.b 18) s))) ∧
    (Passes 0x62 callPortA c s → 1 ≤ c.b 17 → c.b 17 ≤ 4 →
      exec (.linkQuery c) s = .next (replied 0x62 c (leBytes 4 (s.reg (aLnkStat n)).toNat ++ leBytes 4 (s.reg (aLnkWlat n)).toNat ++
        leBytes 4 (s.reg (aLnkLat n (c.b 17))).toNat ++ leBytes 4 (s.reg (aLnkPeer n)).toNat) s)) ∧
    (Passes 0x63 callPortH c s → capModeOk s (c.b 18) = true → c.b 19 < 8 → (c.le 20 4 < 2 ^ 31 ∨ c.le 20 4 = 2 ^ 32 - 1) →
      ∀ e, e = s.setReg (aLnkCap n) (BitVec.ofNat 32 (b2n (c.bit 17 0) * 2 ^ 31 + b2n (c.bit 17 1) * 2 ^ 30 + c.b 18 * 2 ^ 28 +
        c.b 19 * 2 ^ 25 + b2n (c.bit 17 2) * 2 ^ 24)) →
      exec (.linkCapture c) s = .next (replied 0x63 c []
        (if c.le 20 4 = 2 ^ 32 - 1 then e else e.setReg (aLnkPat n) (BitVec.ofNat 32 (c.le 20 4))))) ∧
    (Passes 0x64 callPortH c s → 1 ≤ c.b 18 → c.b 18 ≤ 4 → c.b 17 + c.b 18 ≤ 32 →
      (∀ i < c.b 18, c.le (24 + 8 * i) 4 / 2 ^ 28 < 6) → portRuns s n = false →
      exec (.linkImpair c) s = .next (replied 0x64 c [] (forN (c.b 18) (fun i t =>
        (t.setReg (aLnkImpA n (c.b 17 + i)) (BitVec.ofNat 32 (c.le (24 + 8 * i) 4))).setReg (aLnkImpB n (c.b 17 + i))
          (BitVec.ofNat 32 (c.le (28 + 8 * i) 4))) s)))

/-- Peal and Toll commands (R328, R344, R348, R236, R249, R631, R632). -/
def Obligations.PealAndTollCommandsComplete : Prop :=
  ∀ (c : Call) (s : State),
    (Passes 0x65 callP c s → (c.bit 16 0 = true → portsDown s = true) →
      ∀ e f, e = (if c.bit 16 0 then s.setReg aPealId (BitVec.ofNat 32 (c.le 18 2)) else s) →
        f = (if c.bit 16 1 then e.setReg aPealTag (BitVec.ofNat 32 (c.le 20 4)) else e) →
        exec (.pealSet c) s = .next (replied 0x65 c [] (if c.bit 16 2 then
          demoteHold (f.setReg aPealCtl (BitVec.ofNat 32 (b2n (c.bit 24 0) * 2 ^ 31 + c.b 25))) else f))) ∧
    (Passes 0x66 callP c s → 1 ≤ c.le 18 2 → c.le 16 2 + c.le 18 2 ≤ 1024 → ∀ b, c.input s (c.le 24 8) (c.le 18 2) = .ok b →
      (∀ i < c.le 18 2, (byteAt b i).testBit 4 = true → portPresent s (byteAt b i % 16) = true) →
      exec (.pealRoute c) s = .next (replied 0x66 c [] (forN (c.le 18 2) (fun i t =>
        t.setReg (aPealRt (c.le 16 2 + i)) (BitVec.ofNat 32 (byteAt b i % 32))) s))) ∧
    (Passes 0x67 callP c s →
      (c.b 16 = 1 → c.b 17 ≤ 2 → c.b 18 ≤ 15 → c.b 19 ≤ 10 →
        exec (.tollSet c) s = .next (replied 0x67 c [] (writeTolCtl { fn := c.fn, src := c.src, key := aTolCtl, op := some 0x67 }
          (BitVec.ofNat 32 (c.b 19 * 2 ^ 24 + c.b 18 * 2 ^ 20 + c.b 17 * 2 ^ 18 + b2n (c.bit 20 0) * 2 ^ 17 + b2n (c.bit 20 1) * 2 ^ 16 +
            c.le 22 2)) s))) ∧
      (c.b 16 = 4 → 1 ≤ c.le 28 2 → c.le 28 2 ≤ 3600 →
        exec (.tollSet c) s = .next (replied 0x67 c [] (s.setReg aTolHold (BitVec.ofNat 32 (c.le 28 2))))) ∧
      (c.b 16 = 8 → tollSrc s ≠ 2 →
        exec (.tollSet c) s = .next (replied 0x67 c [] { s with toll := { s.toll with setSec := some (c.le 32 4 % 2 ^ 32) } })) ∧
      (c.b 16 = 16 → portPresent s (c.b 36) = true →
        exec (.tollSet c) s = .next (replied 0x67 c [] (s.setReg (aTolAsym (c.b 36)) (BitVec.ofNat 32 (c.le 38 2)))))) ∧
    (Passes 0x68 callA c s →
      exec (.tollQuery c) s = .next (replied 0x68 c (leBytes 8 s.toll.now.toNat ++ [bite (tollState s), bite (s.rf aTolStat 26 4)] ++
        leBytes 2 (tollRoot s) ++ leBytes 4 (tollOffset s).toNat) s))

/-- Power loops, fault records and self-test (R738 to R740, R773, R772, R632, R633). -/
def Obligations.PowerAndFaultCommandsComplete : Prop :=
  (∀ (c : Call) (s e : State) (l i : Nat), l = c.b 16 → i = c.b 17 →
    (Passes 0x70 callP c s → 3 ≤ l → l ≤ 7 → i < lpCount l → lpPresent s l i = true → boundsOk l (c.le 20 4) (c.le 24 4) = true →
      ¬ (c.bit 18 0 = true ∧ c.bit 18 1 = true) →
      ∀ f, f = s.setReg (aPwr l i 1) (BitVec.ofNat 32 (c.le 24 4 * 2 ^ 16 + c.le 20 4)) →
      e = (if c.bit 18 0 then f.setBit (aPwr l i 3) 31 true else if c.bit 18 1 then f.setBit (aPwr l i 3) 31 false else f) →
      pinYields e l i = none →
      exec (.pwrPin c) s = .next (replied 0x70 c (leBytes 4 (lpValue e l i)) e)) ∧
    (Passes 0x71 callT c s → lpTakesHints l = true → i < lpCount l → i = c.part.toNat → boundsOk l (c.le 20 4) (c.le 24 4) = true →
      e = (s.setReg (aPwr l i 2) (BitVec.ofNat 32 (c.le 24 4 * 2 ^ 16 + c.le 20 4))).setBit (aPwr l i 3) 30 (c.bit 18 0) →
      hintYields e l i = none →
      exec (.pwrHint c) s = .next (replied 0x71 c (leBytes 4 (lpValue e l i)) e)) ∧
    (Passes 0x72 callA c s → 3 ≤ l → l ≤ 7 → i < lpCount l → (c.fn = 0 ∨ lpPart s l i = some (c.fn - 1)) → lpPresent s l i = true →
      ∀ b, b = (if lpPinned s l i then (lpPinLo s l i, lpPinHi s l i) else pwrLimits l) →
      exec (.pwrQuery c) s = .next (replied 0x72 c (leBytes 4 (lpValue s l i) ++ leBytes 4 b.1 ++ leBytes 4 b.2 ++
        [bite (s.rf (aPwr l i 0) 28 4)]) s))) ∧
  (∀ (c : Call) (s : State) (r : List (List Byte)), Passes 0x80 callA c s →
    (c.fn = 0 ∨ c.fn = c.b 16 + 1) → (c.b 16 = 0xFF → c.fn = 0) → (c.b 16 ≠ 0xFF → partPresent s (c.b 16) = true) → c.outOk (c.le 24 8) (c.le 32 4) = none →
    r = (faultBuf s (if c.b 16 = 0xFF then devBuf else c.b 16)).recs →
    exec (.faultRead c) s = .next (replied 0x80 c (leBytes 4 r.length ++ leBytes 4 (32 * r.length))
      (c.output (c.le 24 8) ((r.flatMap id).take (min (c.le 32 4) (32 * r.length))) s))) ∧
  (∀ (c : Call) (s a : State), a = accepted 0x81 c s → PassesLong 0x81 callP c s →
    (∀ p ∈ maskBits 8 (c.b 16), partPresent a p = true ∧ plnState a p = stIdle) →
    exec (.selftest c) s = .next (running 0x81 c {} (a.setBit aSafStat 28 true)))

/-- Drain images, their transfer and their restore (R716, R719, R720, R724 to R726, R728, R729): the commands begin, each end of
theirs answers what was done. What the cryptographic tests of an image say is left open by a match. -/
def Obligations.DrainAndMigrationComplete : Prop :=
  (∀ (c : Call) (s a : State) (p off : Nat), p = c.part.toNat → off = c.le 24 8 →
    (a = accepted 0x82 c s → PassesLong 0x82 callT c s → domLow a p = p → drainRegion a p (c.b 16) off = true →
      drainBusy a c 0x82 p = false → (∀ q ∈ maskBits 8 (domMask a p), startPending a q = false) →
      off + imgLen (chunkCount a (domMask a p) (c.bit 17 0)) ≤ rgnUsable a p (c.b 16) →
      exec (.drain c) s = .next (
        if plnState a p = stIdle ∨ plnState a p = stHalted then
          running 0x82 c { a := p, b := 1, data := leBytes 8 (drawId a) }
            { a.bump with caps := captureDom p (drawId a) allOnes48 a.bump :: a.caps.filter (fun x => decide (x.id ≠ drawId a)) }
        else running 0x82 c { a := p, b := 0, data := leBytes 8 (drawId a) } a.bump)) ∧
    (a = accepted 0x83 c s → PassesLong 0x83 callT c s → portPresent a (c.b 17) = true → domLow a p = p →
      drainRegion a p (c.b 16) off = true → drainBusy a c 0x83 p = false →
      (∀ o ∈ a.host.outst, o.acc = true → (o.op = 0x83 ∨ o.op = 0x84) → o.call.b 17 = c.b 17 → isCall c 0x83 o = true) →
      exec (.migrate c) s = .next (match completeImage p (c.b 16) off a with
        | (none, t) => finish c 0x83 sState [] t
        | (some hdr, t) => match (holderKeys a p).job with
          | none => finish c 0x83 sKey [] t
          | some k => if migPort a p (c.b 17) (c.le 18 2) then
              running 0x83 c { a := p, data := hdr ++ migKey k ((hdr.drop 56).take 8) (a.rf aPealId 0 10) (c.le 18 2) } t
            else finish c 0x83 sState [] t)) ∧
    (a = accepted 0x84 c s → PassesLong 0x84 callT c s → portPresent a (c.b 17) = true → domLow a p = p →
      drainRegion a p (c.b 16) off = true → drainBusy a c 0x84 p = false →
      (∀ o ∈ a.host.outst, o.acc = true → (o.op = 0x83 ∨ o.op = 0x84) → o.call.b 17 = c.b 17 → isCall c 0x84 o = true) →
      ∀ k, (holderKeys a p).job = some k → migPort a p (c.b 17) (c.le 18 2) = true →
      exec (.migrateRecv c) s = .next (running 0x84 c { a := p, data := zeros 128 ++ k } a)) ∧
    (a = accepted 0x85 c s → PassesLong 0x85 callT c s → domLow a p = p → drainRegion a p (c.b 16) off = true →
      drainBusy a c 0x85 p = false → plnState a p = stIdle →
      exec (.restore c) s = .next (match completeImage p (c.b 16) off a with
        | (none, t) => finish c 0x85 sState [] t
        | (some hdr, t) =>
          if byteAt hdr 8 ≠ a.fuse.stepping ∨ byteAt hdr 7 ≠ domMask a p ∨ (byteAt hdr 6).testBit 2 = true ∨
              ((byteAt hdr 6).testBit 1 = true ∧ imageCtx a p hdr = none) then finish c 0x85 sState [] t
          else match readChunks p (c.b 16) off ((hdr.drop 56).take 8) (leAt hdr 64 4) 0 [] true t with
            | (_, false, u) => finish c 0x85 sIntegrity [] u
            | (bs, true, u) =>
              if leAt hdr 12 2 ≠ tenantOf a p ∨ ((capOf a hdr bs).streams ≠ [] ∧ (holderKeys a p).job = none) then finish c 0x85 sKey [] u
              else running 0x85 c { a := p, data := hdr ++ bs.flatMap (fun b => leBytes 4 b.length ++ b) } u))) ∧
  (∀ (s : State) (i : Nat) (o : Outst),
    (outstAt s i [0x82] = some o → o.b = 1 → ∀ d, s.caps.find? (fun d => decide (d.id = leNat o.data)) = some d →
      ∀ n off, n = imgLen (chunkCount s d.mask (o.call.bit 17 0)) → off = o.call.le 24 8 →
      rgnValid s o.a (o.call.b 16) = true → rgnKind s o.a (o.call.b 16) = 4 → off + n ≤ rgnUsable s o.a (o.call.b 16) →
      exec (.drainDone i) s = .next (match writeImage o.a (o.call.b 16) off (o.call.bit 17 0) d s with
        | (0, t) => finishO o sOk (leBytes 8 n) t
        | (_ + 1, t) => finishO o sIntegrity [] t)) ∧
    (outstAt s i [0x83] = some o → o.c = 1 → exec (.migrateTimeout i) s = .next (finishO o sTimeout [] s)) ∧
    (outstAt s i [0x84] = some o → o.c = 1 → exec (.stall i) s = .next (migDiscard o 5 s)) ∧
    (outstAt s i [0x84] = some o → o.c = 0 → exec (.offerTimeout i) s = .next (finishO o sTimeout [] s)) ∧
    (outstAt s i [0x85] = some o → plnState s o.a = stIdle → (domRt s o.a).pend = none →
      ∀ hdr bs, hdr = o.data.take 128 → bs = keptBodies (leAt hdr 64 4) (o.data.drop 128) → (byteAt hdr 6).testBit 0 = false →
      exec (.restoreDone i) s = .next (finishO o sOk [] (refreshWaiters o.a
        (loadDom o.a hdr (capOf s hdr bs) (loadCap o.a hdr (capOf s hdr bs) s)))))) ∧
  (∀ (s : State) (n : Nat) (m : MigMsg) (o : Outst), n < 16 → migOn s n = some o → migUp s n (o.call.le 18 2) = true →
    inSafe s = false → m.hdr.take 4 = [0x53, 0x58, 0x4D, 0x47] → leAt m.hdr 6 2 = o.call.le 18 2 → leAt m.hdr 8 2 = s.rf aPealId 0 10 →
    (o.op = 0x83 → (m.hdr.drop 12).take 8 = (o.data.drop 56).take 8 →
      (byteAt m.hdr 4 = 4 → exec (.migrationMessage n m) s = .next (finishO o sOk [] s)) ∧
      (byteAt m.hdr 4 = 5 → exec (.migrationMessage n m) s = .next (finishO o sIntegrity [] s))) ∧
    (o.op = 0x84 →
      (byteAt m.hdr 4 = 1 → o.c = 0 → exec (.migrationMessage n m) s = .next (takeOffer o m s)) ∧
      (byteAt m.hdr 4 = 2 → o.c = 1 → exec (.migrationMessage n m) s = .next (takeChunk o m s)) ∧
      (byteAt m.hdr 4 = 3 → o.c = 1 → exec (.migrationMessage n m) s = .next (takeEnd o m s))))

/-- Accesses to registers by command and by BAR0 (R634, R648, R651, R652, R693): REG_READ answers what a BAR0 read by its
function answers; REG_WRITE and a BAR0 write take effect by the registers' own rules; a read of a wide counter latches its
upper half. -/
def Obligations.RegisterAccessesComplete : Prop :=
  (∀ (c : Call) (s : State), regArgs c 4 = true → Passes 0xF0 callA c s →
    exec (.regRead c) s = .next (replied 0xF0 c (regReads c.fn (c.b 20) (c.le 16 4) s).1 (regReads c.fn (c.b 20) (c.le 16 4) s).2)) ∧
  (∀ (c : Call) (s t : State) (n : Nat), regArgs c 8 = true → Passes 0xF1 callA c s → regWrites c (c.b 20) 0 s = (n, none, t) →
    exec (.regWrite c) s = .next (runMail c.fn s (replied 0xF1 c [bite n] t))) ∧
  (∀ (a : Acc) (s : State), a.fn ≤ 8 → a.off < bar0Size a.fn → fnEnabled s a.fn = true →
    (a.width = 4 → a.off % 4 = 0 →
      exec (.registerWrite a) s = .next (runMail a.fn s (bar0Write a.fn 0 a.off (BitVec.ofNat 32 a.val.toNat) s))) ∧
    (a.width = 8 → a.off % 8 = 0 →
      exec (.registerWrite a) s = .next (runMail a.fn s (bar0Write a.fn 0 (a.off + 4) (BitVec.ofNat 32 (a.val.toNat / 2 ^ 32))
        (bar0Write a.fn 0 a.off (BitVec.ofNat 32 a.val.toNat) s))))) ∧
  (∀ (f : Nat) (s : State), f ≤ 8 → fnEnabled s f = true → (f = 0 ∨ partPresent s (f - 1) = true) →
    exec (.tolNowlRead f) s = .next ((setToll { s.toll with latHi := BitVec.ofNat 32 (s.toll.now.toNat / 2 ^ 32) } s).emit
      (.read f aTolNowL (BitVec.ofNat 32 s.toll.now.toNat))) ∧
    (∀ p < 8, partPresent s p = true → (f = 0 ∨ p = f - 1) →
      exec (.clkFclRead f p) s = .next ((setPartRt p { partRt s p with
        latFch := BitVec.ofNat 32 ((fcOf s p).toNat / 2 ^ 32), latScl := BitVec.ofNat 32 (scOf s p).toNat,
        latSch := BitVec.ofNat 32 ((scOf s p).toNat / 2 ^ 32) } s).emit (.read f (aClkFcL p) (BitVec.ofNat 32 (fcOf s p).toNat)))))
/-- Register rows of the partitions, bells, plan store and memory (R211, R187, R267, R295, R296, R510, R527, R535): what a write
that the permissions let through does. -/
def Obligations.EngineRegisterRowsComplete : Prop :=
  ∀ (w : Wr) (s e : State) (v : Word), v = w.val →
    (WriteTakes w.fn aPartSwitch s → w.fn = 0 → bit v 31 = true → fld v 0 16 ≠ 0xFFFF → s.rbit aPartSwitch 29 = false →
      e = ((s.put aPartSwitch 30 1 (fld v 30 1)).put aPartSwitch 16 8 (fld v 16 8)).put aPartSwitch 0 16 (fld v 0 16) →
      assignBad (fld v 16 8) (fld v 0 16) e = none →
      exec (.partSwitchGo w) s = .next ((startChange (fld v 16 8) (fld v 0 16) (bit v 30) e).setBit aPartSwitch 31 true)) ∧
    (∀ p < 8, WriteTakes w.fn (aPartCtl p) s → w.fn = 0 → bit v 31 = true → s.rbit (aPartCtl p) 31 = false →
      partState s p ≠ 2 → partState s p ≠ 3 →
      e = (refreshVfEn ((s.put (aPartCtl p) 30 1 (fld v 30 1)).put (aPartCtl p) 29 1 (fld v 29 1))).setBit (aPartCtl p) 31 true →
      exec (.partCtlReset w p) s = .next (startReset p (bit v 30) false e)) ∧
    (WriteTakes w.fn aBelStrk s → partPresent s (bellPart (fld v 0 8)) = true → bellWriter s w.fn (fld v 0 8) = true →
      exec (.belStrk w) s = .next (sendStrike (fld v 0 8) (fnUnit w.fn) none s)) ∧
    (∀ p < 8, WriteTakes w.fn (aPlnSwitch p) s → bit v 31 = true → expertFor s w.fn p = true → domLow s p = p →
      e = s.put (aPlnSwitch p) 16 8 (fld v 16 8) → plnState e p = stRun → (domRt e p).pend = none → extest e = false →
      ∀ r, switchTarget e p (fld v 16 8) = some r → isInvalid e r = false →
      exec (.plnSwitchGo w p) s = .next (askSwitch p (fld v 16 8) 0 (e.setBit (aPlnSwitch p) 31 true))) ∧
    (∀ h < 8, ∀ r < 16, WriteTakes w.fn (aRgnA h r) s → rgnBusy s h r = false → rgnFixed s h r = false →
      ∀ m : Word, m = fmask 31 1 ||| fmask 30 1 ||| fmask 27 3 ||| fmask 0 14 →
      e = s.setReg (aRgnA h r) ((s.reg (aRgnA h r) &&& ~~~ m) ||| (v &&& m)) →
      (bit v 31 = false → bit v 25 = false → exec (.memRgna w h r) s = .next e) ∧
      (bit v 31 = true → rgnRules s h r (bit v 30) (fld v 27 3) (fld v 0 14) (rgnLen s h r) = true →
        (bit v 25 = true → rekeying s h r = false) →
        exec (.memRgna w h r) s = .next (if s.rbit (aRgnA h r) 31 = true then (if bit v 25 then startSweep h r true e else e)
          else createRegion h r (newKeyVer e h r) (bit v 25) e))) ∧
    (∀ h < 8, WriteTakes w.fn (aRkCtl h) s → (w.fn = 0 ∨ (w.fn = h + 1 ∧ 1 ≤ fld v 0 4 ∧ fld v 0 4 ≤ 14)) → bit v 31 = true →
      e = (s.put (aRkCtl h) 16 8 (fld v 16 8)).put (aRkCtl h) 0 4 (fld v 0 4) → e.rbit (aRkCtl h) 30 = false →
      rgnBusy e h (fld v 0 4) = false → rgnValid e h (fld v 0 4) = true → verLive e h (fld v 0 4) (fld v 16 8) = true →
      bit v 29 = false →
      exec (.memRkctlGo w h) s = .next (startRekey h (fld v 0 4) (fld v 16 8) (s.rbit (aRkCtl h) 29) e)) ∧
    (∀ r < 4, WriteTakes w.fn (aRol r 0x10) s → bit v 31 = true → bit v 11 = false → jobBusy s r = false →
      e = s.setReg (aRol r 0x10) ((v &&& 0x3FFF0380#32) ||| (s.reg (aRol r 0x10) &&& 0x0000FC00#32)) →
      rollResident e r = false → rolBusy e r = false → jobOk e r (jobCfg e r) = true → jobWaits e (jobCfg e r) = false →
      exec (.jctlGo w r) s = .next (startJob r e))

/-- Register rows of the observation side (R359, R436, R439, R444, R446 to R448, R458, R463, R467, R470). -/
def Obligations.ObservationRegisterRowsComplete : Prop :=
  ∀ (w : Wr) (s e : State) (v : Word), v = w.val →
    (∀ n < 24, ∀ a, a = aChCtl n → WriteTakes w.fn a s → chanWriter s w.fn n = true → fld v 16 5 = s.rf a 16 5 →
      fld v 26 3 = s.rf a 26 3 → (w.fn ≠ 0 → bit v 29 = s.rbit a 29) → 12 ≤ fld v 21 5 → fld v 21 5 ≤ 24 →
      (bit v 30 = true → s.rbit a 30 = true) →
      e = (((if w.fn = 0 then s.setBit a 29 (bit v 29) else s).put a 21 5 (fld v 21 5)).setBit a 30 (bit v 30)) →
      (bit v 31 = true → chOn s n = false → chSink e n ≠ 0 → engineTaken e n = false →
        exec (.channelEn w n) s = .next (enableChannel n e)) ∧
      (bit v 31 = false → chOn s n = true → exec (.channelEn w n) s = .next (disableChannel n 1 e)) ∧
      (bit v 31 = chOn s n → exec (.channelEn w n) s = .next (refreshFull n e))) ∧
    (WriteTakes w.fn aSnkPar s → (s.rbit aSnkPar 31 = true → fld v 29 2 = s.rf aSnkPar 29 2) →
      exec (.snkParEn w) s = .next (s.setReg aSnkPar v)) ∧
    (WriteTakes w.fn aSnkSer s → s.fuse.variant = 0 →
      exec (.snkSerEn w) s = .next (
        if s.rbit aSnkSer 31 = false ∧ bit v 31 = true then
          forN 64 (fun _ t => amRow (t.emit (.serCtl none 63))) (s.setReg aSnkSer v)
        else if s.rbit aSnkSer 31 = true ∧ bit v 31 = false then (s.setReg aSnkSer v).emit (.serCtl none 64)
        else s.setReg aSnkSer v)) ∧
    (∀ n < 24, ∀ a, a = aSnkCfg n → WriteTakes w.fn a s → bit v 31 = s.rbit a 31 → fld v 28 2 = s.rf a 28 2 → bit v 8 = true →
      exec (.flush w n) s = .next (flushChannel n (s.put a 0 8 (fld v 0 8)))) ∧
    (∀ n ing, n < (if ing then 16 else 24) → WriteTakes w.fn (aRng ing n 0x18) s →
      (s.reg (aRng ing n 0x14) - v).toNat ≤ ringLen s ing n →
      exec (.rngRd w n ing) s = .next (s.setReg (aRng ing n 0x18) v)) ∧
    (WriteTakes w.fn aClpCtl s → exec (.clpArm w) s = .next (writeClpCtl v s)) ∧
    (WriteTakes w.fn aClpOut s → e = writeClpLevel (fld v 0 4) s →
      (s.rbit aClpCtl 31 = false → 4 ≤ fld v 24 8 →
        exec (.clpLevelRelease w) s = .next (e.setReg aClpOut (putFld v 0 4 (e.rf aClpOut 0 4)))) ∧
      (s.rbit aClpCtl 31 = true → putFld v 0 4 (e.rf aClpOut 0 4) &&& definedMask aClpOut = e.reg aClpOut →
        exec (.clpLevelRelease w) s = .next e)) ∧
    (∀ (c : CtrId) (a : Nat), ctrOk c = true → a = aCntSel c.group c.unit c.idx →
      (WriteTakes w.fn a s → codeOk (ctrGroup a) (ctrUnit a) (fld v 0 8) = true →
        exec (.evselWrite w c) s = .next (writeEvsel a (fld v 0 8)
          (((s.setBit a 31 (bit v 31)).setBit a 19 (bit v 19)).put a 16 3 (fld v 16 3)))) ∧
      (WriteTakes w.fn (a + 8) s → exec (.valhLoad w c) s = .next (writeValh a (fld v 0 16) s))) ∧
    (WriteTakes w.fn aCntSnap s → bit v 31 = true →
      exec (.cntSnapGo w) s = .next (goSnap (fld v 0 11) (s.put aCntSnap 0 11 (fld v 0 11)))) ∧
    (WriteTakes w.fn aCntFrz s →
      exec (.cntFrzRelease w) s = .next (s.setReg aCntFrz (s.reg aCntFrz &&& ~~~ (v &&& 0x7FF#32))))

/-- Register rows of the links, the Toll, the safe state and the host side (R249, R315, R661, R681, R687, R766, R777, R830,
R592, R594, R591, R596, R86, R122, R156). -/
def Obligations.ControlRegisterRowsComplete : Prop :=
  ∀ (w : Wr) (s e : State) (v : Word), v = w.val →
    (∀ n < 16, WriteTakes w.fn (aLnkCtl n) s → w.fn = 0 →
      exec (.retrain w n) s = .next (portControl n (bit v 31) (bit v 30) (bit v 29) (s.put (aLnkCtl n) 27 2 (fld v 27 2)))) ∧
    (WriteTakes w.fn aTolCtl s → fld v 18 2 ≠ 3 → fld v 24 4 ≤ 10 → e = s.setReg aTolCtl v →
      exec (.tolCtlSrc w) s = .next (refreshDepth (
        if fld v 18 2 ≠ s.rf aTolCtl 18 2 ∨ (fld v 18 2 = 2 ∧ fld v 20 4 ≠ s.rf aTolCtl 20 4) then replaceRef e else e))) ∧
    (WriteTakes w.fn aTolSetsec s → tollSrc s ≠ 2 →
      exec (.tolSetsec w) s = .next (setToll { s.toll with setSec := some v.toNat } s)) ∧
    (WriteTakes w.fn aSafRsel s → w.fn = 0 → bit v 31 = true → (fld v 8 8 < 8 ∨ fld v 8 8 = 0xFF) →
      e = (s.put aSafRsel 0 4 (fld v 0 4)).put aSafRsel 8 8 (fld v 8 8) →
      ∀ r, r = faultBuf s (if fld v 8 8 = 0xFF then devBuf else fld v 8 8) →
      exec (.safRselGo w) s = .next (
        (forN 8 (fun k t => t.setReg (aSafRdata k) (BitVec.ofNat 32 (leAt ((r.recs[fld v 0 4]?).getD (zeros 32)) (4 * k) 4))) e).setReg aSafRstat
          (BitVec.ofNat 32 (2 ^ 31 * b2n (decide (fld v 0 4 < r.recs.length)) + 2 ^ 16 * r.recs.length + r.missed)))) ∧
    (WriteTakes w.fn aSafEnter s → w.fn = 0 → bit v 31 = true →
      exec (.safEnter w) s = .next (deviceFault 5 0x876 1 true s)) ∧
    (WriteTakes w.fn aDevLock s → exec (.devLock w) s = .next (s.setReg aDevLock (s.reg aDevLock ||| (v &&& 0x7FFF#32)))) ∧
    (∀ f ≤ 8, (WriteTakes w.fn (aImrL f) s → exec (.imrWrite w f false) s = .next (writeImr f false v s)) ∧
      (f = 0 → WriteTakes w.fn (aImrH f) s → exec (.imrWrite w f true) s = .next (writeImr f true v s))) ∧
    (∀ k < 4, WriteTakes w.fn (bCmd + 0x1000 * k + 0x18) s → fld v 0 12 < 2 ^ s.rf (aRqCtl w.fn k) 16 4 →
      exec (.doorbell w k) s = .next (s.setReg (aSqTail w.fn k) v)) ∧
    (∀ k < 4, WriteTakes w.fn (bCmd + 0x1000 * k + 0x20) s → ∀ n x y, n = 2 ^ s.rf (aRqCtl w.fn k) 12 4 → x = s.rf (aCqHead w.fn k) 0 13 →
      y = s.rf (aCqTail w.fn k) 0 13 → fld v 0 13 < n → (fld v 0 13 + n - x) % n ≤ (y + n - x) % n →
      exec (.cqHeadWrite w k) s = .next (s.setReg (aCqHead w.fn k) v)) ∧
    (∀ k < 4, WriteTakes w.fn (bCmd + 0x1000 * k) s → s.rbit (aRqStat w.fn k) 31 = false → bit v 31 = true → 4 ≤ fld v 16 4 →
      fld v 16 4 ≤ 12 → fld v 16 4 < fld v 12 4 → fld v 12 4 ≤ 13 → (w.fn ≠ 0 → partState s (w.fn - 1) = 1) →
      ∃ t, exec (.rqEn w k) s = .next t ∧ t.reg (aRqCtl w.fn k) = v &&& definedMask (aRqCtl w.fn k) ∧ t.reg (aSqTail w.fn k) = 0 ∧
        t.reg (aSqHead w.fn k) = 0 ∧ t.reg (aCqHead w.fn k) = 0 ∧ t.reg (aCqTail w.fn k) = 0x80000000#32 ∧
        t.reg (aRqStat w.fn k) = 0x80000000#32 ∧ t.mem = s.mem ∧ t.fab = s.fab ∧ t.doms = s.doms) ∧
    (∀ k < 16, WriteTakes w.fn (bCmd + 0x9000 + 0x10 * k) s → s.rbit (aB2wCtl w.fn k) 31 = false →
      (bit v 31 = true → b2wReach s w.fn (fld v 4 3) (fld v 0 4) = true) →
      exec (.b2wCtl w k) s = .next (s.setReg (aB2wCtl w.fn k) v)) ∧
    (WriteTakes w.fn aCuResinj s → held s (unitPart (fld v 0 12)) = false → 1 ≤ fld v 29 2 → fld v 29 2 ≤ 2 →
      exec (.injectionArm w 0) s = .next (s.setReg aCuResinj (writeFields (regFields aCuResinj) false (s.reg aCuResinj) v))) ∧
    (WriteTakes w.fn aSramEinj s → held s (if fld v 28 2 = 1 then fld v 12 3 else unitPart (fld v 0 12)) = false → fld v 28 2 ≤ 1 →
      exec (.injectionArm w 1) s = .next (s.setReg aSramEinj (writeFields (regFields aSramEinj) false (s.reg aSramEinj) v))) ∧
    (WriteTakes w.fn aNetCinj s → held s (unitPart (fld v 0 12)) = false →
      exec (.injectionArm w 2) s = .next (s.setReg aNetCinj (writeFields (regFields aNetCinj) false (s.reg aNetCinj) v)))
/-- Where commands come from (R592 to R596, R601, R610, R689): a ring pair that may take a descriptor takes the next one and
runs it, holds one with FENCE until the pair's earlier commands are final, stops on a read error; MBX_CTL.GO runs MBX_DESC. -/
def Obligations.CommandSourcesComplete : Prop :=
  (∀ (f k : Nat) (d buf : List Byte) (re be : Bool) (s e : State), f ≤ 8 → k < pairCount f → pairTakes s f k = true →
    (∀ c ∈ (fnRt s f).fenced, c.via ≠ .ring k) → offered s f k ≠ 0 →
    (re = true → exec (.descriptorFetch f k d re buf be) s = .next (setFnRt f { fnRt s f with stopped := k :: (fnRt s f).stopped }
      ((s.setBit (aRqStat f k) 30 true).put (aRqStat f k) 28 2 2))) ∧
    (re = false → e = s.put (aSqHead f k) 0 12 ((s.rf (aSqHead f k) 0 12 + 1) % 2 ^ s.rf (aRqCtl f k) 16 4) →
      ∀ c, c = callOf f (.ring k) (padTo 64 d) buf be →
      ((c.flags.getLsbD 0 = false ∨ outCount e f k = 0) →
        exec (.descriptorFetch f k d re buf be) s = .next (runMail f e (runOpcode (byteAt (padTo 64 d) 0) c e))) ∧
      (c.flags.getLsbD 0 = true → outCount e f k ≠ 0 →
        exec (.descriptorFetch f k d re buf be) s = .next (setFnRt f { fnRt s f with
          fenced := (fnRt s f).fenced ++ [{ c with param := c.param ++ [bite (byteAt (padTo 64 d) 0)] }] } e)))) ∧
  (∀ (f k : Nat) (d buf : List Byte) (re be : Bool) (s e : State) (c : Call), f ≤ 8 → k < pairCount f → pairTakes s f k = true →
    (fnRt s f).fenced = [c] → c.via = .ring k → outCount s f k = 0 → e = setFnRt f { fnRt s f with fenced := [] } s →
    exec (.descriptorFetch f k d re buf be) s = .next (runMail f s (runOpcode (fenceOp c) { c with param := c.param.take 48 } e))) ∧
  (∀ (w : Wr) (s e : State) (f : Nat), f = w.fn → WriteTakes f bMbx s → bit w.val 31 = true → s.boot.phase ≠ 4 → expertOf s f = true →
    s.rbit (aMbxStat f) 31 = false → e = (s.setBit (aMbxStat f) 31 true).setBit (aMbxStat f) 30 false →
    exec (.mbxGo w) s = .next (runOpcode (byteAt (mbxDesc e f) 0) (callOf f .mailbox (mbxDesc e f) [] false) e))

/-- The BAR2 aperture (R659, R662 to R665): a request that passes its tests reads or writes the region; one that does not is
answered with zeros or dropped, its window's flags set; a read not served in 40 us is answered by a timeout. -/
def Obligations.ApertureAccessesComplete : Prop :=
  ∀ (f addr len : Nat) (data : List Byte) (en : List Bool) (s : State), f ≤ 8 → fnEnabled s f = true →
    ∀ k h r off, k = addr / 2 ^ 28 → h = b2wHs s f k → r = b2wRgn s f k → off = b2wOffset s f addr →
    (b2wShape addr len = true → (b2wTest s f addr len false).res = 3 →
      exec (.bar2Access f addr false len data en) s = .next (match b2wRead h r off len (b2wFlag f (b2wTest s f addr len false).flags s) with
        | (b, bad, t) => (if bad.any id then b2wFlag f [29] t else t).emit (.bar2 f b bad false))) ∧
    (b2wShape addr len = true → (b2wTest s f addr len false).res ≠ 3 →
      exec (.bar2Access f addr false len data en) s =
        .next ((b2wFlag f (b2wTest s f addr len false).flags s).emit (.bar2 f (zeros len) [] false))) ∧
    (b2wShape addr data.length = true → (b2wTest s f addr data.length true).res = 3 →
      ∀ m, m = (off + data.length - 1) / 128 - off / 128 + 1 →
      exec (.bar2Access f addr true len data en) s = .next (b2wCount h r m (forN m (fun i t => b2wLine h r off data en (off / 128 + i) t)
        (b2wFlag f (b2wTest s f addr data.length true).flags s)))) ∧
    (b2wShape addr data.length = true → (b2wTest s f addr data.length true).res ≠ 3 → expertOf s f = true →
      exec (.bar2Access f addr true len data en) s = .next (b2wFlag f (b2wTest s f addr data.length true).flags s)) ∧
    (b2wShape addr 1 = true → (b2wTest s f addr 1 false).res = 3 →
      exec (.bar2ReadTimeout f addr) s = .next ((b2wFlag f [28] s).emit (.bar2 f [] [] true)))

/-- PCIe configuration of the functions (R584, R588, R607 to R610, R676, R709): Bus Master Enable, vector masks, NumVFs, the
function-level and conventional resets, the end of a VF's reset. -/
def Obligations.PcieFunctionsComplete : Prop :=
  (∀ (f : Nat) (s : State), f ≤ 8 → fnEnabled s f = true →
    ((fnRt s f).flr = false →
      exec (.busMasterEnable f false) s = .next (setFnRt f { fnRt s f with bme := false } s) ∧
      exec (.busMasterEnable f true) s = .next (flushMsix f (flushHeld f (setFnRt f { fnRt s f with bme := true } s)))) ∧
    exec (.msixUnmask f none) s = .next (flushMsix f (setFnRt f { fnRt s f with msixMask := false } s)) ∧
    (∀ v < vecCount f, exec (.msixUnmask f (some v)) s =
      .next (flushMsix f (setFnRt f { fnRt s f with vmask := (fnRt s f).vmask &&& ~~~ BitVec.ofNat 64 (2 ^ v) } s)))) ∧
  (∀ (n : Nat) (s : State), n ≤ 8 → ∃ t, exec (.numvfsWrite n) s = .next t ∧ t.host.numVf = n ∧ t.rf aDevPcie 9 4 = n ∧
    t.mem = s.mem ∧ t.fab = s.fab ∧ t.doms = s.doms ∧ t.parts = s.parts) ∧
  (∀ (s : State) (p : Nat), p < 8 → partPresent s p = true → (fnRt s (p + 1)).flr = false →
    ∀ e, e = setFnRt (p + 1) { fnRt s (p + 1) with flr := true } s → partState s p ≠ 2 → partState s p ≠ 3 →
    (held s p = true → exec (.functionReset (p + 1)) s = .next (startReset p false true e)) ∧
    (held s p = false → exec (.functionReset (p + 1)) s =
      .next (clearFnLocal (p + 1) true (finishWhere (fun o => o.acc && decide (o.call.fn = p + 1)) sState e)))) ∧
  (∀ (s : State) (p : Nat) (bad : Bool), p < 8 →
    (partState s p = 3 → exec (.partitionResetEnd p bad) s = .next (endReset p bad s)) ∧
    (partState s p ≠ 3 → partState s p ≠ 2 → (fnRt s (p + 1)).flr = true →
      exec (.partitionResetEnd p bad) s = .next (setFnRt (p + 1) { fnRt s (p + 1) with flr := false } s))) ∧
  (∀ s : State, ∃ t, exec .pf0Flr s = .next t ∧ t.host.numVf = 0 ∧ (fnRt t 0).held = [] ∧ (fnRt t 0).bme = false ∧
    t.mem = s.mem ∧ t.doms = s.doms ∧ t.parts = s.parts) ∧
  (∀ s : State, (∃ t, exec (.conventionalReset false) s = .next t ∧ t.host.numVf = 0 ∧ t.host.cfgReady = s.host.cfgReady ∧
      t.mem = s.mem ∧ t.doms = s.doms ∧ t.parts = s.parts) ∧
    (∃ t, exec (.conventionalReset true) s = .next t ∧ t.host.numVf = 0 ∧ t.host.cfgReady = false ∧
      t.mem = s.mem ∧ t.doms = s.doms ∧ t.parts = s.parts)) ∧
  (∀ (s : State) (r w : Nat), r < 8 → w < 64 → ∃ t, exec (.pcieLinkTrained r w) s = .next t ∧ t.rf aDevPcie 0 3 = r ∧ t.rf aDevPcie 3 6 = w ∧
    t.rf aDevPcie 9 4 = s.rf aDevPcie 9 4 ∧ (∀ k, k ≠ aDevPcie → t.reg k = s.reg k) ∧ t.host = s.host) ∧
  (∀ s : State, 2 ≤ s.boot.phase → exec .perstRelease s = .next { s with host := { s.host with cfgReady := true } }) ∧
  (∀ (s : State) (ir : Nat), exec (.jtagInstructionLoad ir) s = .next { s with jtag := tapTakes s ir })

/-- A holder change goes through its phases (R528, R533, R534). -/
def Obligations.HolderChangePhasesComplete : Prop :=
  ∀ (s : State) (h : HolderRt) (bad : Byte), s.holder = some h →
    exec (.holderChangePhaseEnd bad) s = .next (phaseWork h bad.toNat s) ∧
    (h.phase = 0 → phaseWork h bad.toNat s = setHolder { h with phase := 1 } (holderHalt h.mask s)) ∧
    (h.phase = 1 → phaseWork h bad.toNat s = setHolder { h with phase := 2 } (forL (maskBits 8 h.mask) (fun p t => quiescePart true false p t) s)) ∧
    (h.phase = 2 → phaseWork h bad.toNat s = setHolder { h with phase := 3 } (forL (maskBits 8 h.mask) (fun p t => erasePart (h.free.testBit p) p t) s)) ∧
    (h.phase = 3 → phaseWork h bad.toNat s = setHolder { h with phase := 4, bad := bad.toNat &&& h.mask } (scrubMask h.mask bad.toNat s)) ∧
    (h.phase = 6 → inSafe s = false → phaseWork h bad.toNat s = doAssign h s) ∧
    (h.phase = 5 → inSafe s = false → exec .zfill s = .next (setHolder { h with phase := 6 }
      (forL (maskBits 8 h.mask) (fun p t => (if inSafe t then t else zeroStack p t).setBit (aPartStat p) 27 false) s)))
/-- Power, resets and boot (R700, R701, R703, R704, R708 to R712, R735, R782): loss of power, the start of a cold boot, its
release, warm reset, the pieces of host recovery, MRP_READY. -/
def Obligations.BootAndResetsComplete : Prop :=
  (∀ s : State, ∃ t, exec .powerLoss s = .next t ∧ t.boot.phase = 0 ∧ t.regs = [] ∧ t.doms = [] ∧ t.host = {} ∧ t.fuse.variant = s.fuse.variant ∧
    t.trust.fwOtp = s.trust.fwOtp ∧ t.trust.token = none) ∧
  (∀ (s : State) (b : BootIn), (b.testEn = true ∨ b.rstLow = true) → ∃ t, exec (.coldReset b) s = .next t ∧ t.boot.phase = 1 ∧
    t.boot.found = b ∧ t.boot.rstLow = b.rstLow ∧ t.host = {} ∧ t.doms = []) ∧
  (∀ (s : State) (b : BootIn), b.testEn = false → b.rstLow = false → ∃ t, exec (.coldReset b) s = .next t ∧
    (t.boot.phase = 2 ∨ t.boot.phase = 4) ∧ (b.flashOk = false → t.boot.phase = 4) ∧ t.host.numVf = 0 ∧ t.doms = []) ∧
  (∀ s : State, s.boot.phase = 1 → s.boot.found.testEn = false →
    exec .sysRstRelease s = .next (bootSteps (setBoot { s.boot with rstLow := false } s))) ∧
  (∀ s : State, s.boot.phase = 3 → exec .warmReset s = .next (warmReset (setBoot { s.boot with rstLow := true } s)) ∧
    (∀ e, e = warmReset (setBoot { s.boot with rstLow := true } s) → e.boot.phase = 5 ∧ e.rbit aDevStatus 31 = false ∧ e.host.outst = [])) ∧
  (∀ s : State, s.boot.phase = 3 → inSafe s = true → s.rbit aSafCause 13 = true → exec .watchdogWarmReset s = .next (warmReset s)) ∧
  (∀ s : State, s.boot.phase = 4 → s.rbit (aMbxStat 0) 31 = true →
    ∀ off len total img, off = (s.reg (aMbxDesc 0 1)).toNat → len = (s.reg (aMbxDesc 0 2)).toNat → total = s.rf (aMbxDesc 0 3) 0 31 →
    img = spliceAt (padTo (max s.boot.image.length off) s.boot.image) off (mbxInBytes s 0 0 len) →
    ((s.reg (aMbxDesc 0 0) ≠ 0x43525853#32 ∨ len = 0 ∨ 65536 < len ∨ total < off + len) → exec .recoveryPiece s = .next (pieceDone sParam s)) ∧
    (s.reg (aMbxDesc 0 0) = 0x43525853#32 → 1 ≤ len → len ≤ 65536 → off + len ≤ total →
      (s.rbit (aMbxDesc 0 3) 31 = false → exec .recoveryPiece s = .next (pieceDone sOk (setBoot { s.boot with image := img } s))) ∧
      (s.rbit (aMbxDesc 0 3) 31 = true → exec .recoveryPiece s = .next (
        if fwOk s (padTo total img) then pieceDone sOk (setBoot { s.boot with phase := 2, image := [] } (measure (padTo total img) 2 s))
        else pieceDone sAuth (setBoot { s.boot with image := [] } s))))) ∧
  (∀ (s : State) (r : ReadyIn), s.boot.rstLow = false → s.boot.phase = 5 → ∀ e, e = setBoot { s.boot with phase := 3 } s →
    exec (.mrpReady r) s = .next (settleSafe false r.hold (startGov ((e.setBit aDevStatus 31 true).put aDevStatus 28 2 (svcLevel e))))) ∧
  (∀ (s : State) (r : ReadyIn), s.boot.rstLow = false → s.boot.phase = 2 →
    ∀ e, e = setBoot { s.boot with phase := 3 } (fillRegs r s) →
    exec (.mrpReady r) s = .next (settleSafe true r.hold (startGov ((e.setBit aDevStatus 31 true).put aDevStatus 28 2 (svcLevel e)))))

/-- The safety monitor (R223, R254, R766 to R772, R784, R818): what it finds enters the safe state or marks the unit. -/
def Obligations.SafetyMonitorComplete : Prop :=
  (∀ (s : State) (clk : Nat), (clk < 34 ∨ clk = 255) → exec (.clockLoss clk) s = .next (clockLost clk s)) ∧
  (∀ s : State, clockLost 8 s = deviceFault 1 0x876 8 false (s.setBit aClkMon 8 true) ∧ clockLost 255 s = deviceFault 1 0x876 255 false s ∧
    clockLost 15 s = pcieReset (s.setBit aClkMon 15 true) ∧ clockLost 33 s = s.setBit aClkMonH 1 true) ∧
  (∀ (s : State) (rail mV : Nat) (high : Bool), mrpReady s = true →
    exec (.voltage rail high mV) s = .next (deviceFault 2 0x876 (rail % 256 + 256 * b2n high + 65536 * (mV % 65536)) false s)) ∧
  (∀ s : State, (s.boot.phase = 3 ∨ s.boot.phase = 5) → ∀ e, e = s.countSat aSafWdt 0 16 1 →
    exec .watchdogExpiry s = .next (deviceFault 4 0x876 (e.rf aSafWdt 0 16) false e)) ∧
  (∀ (s e : State), mrpReady s = true → s.safe.reqLow = false → e = { s with safe := { s.safe with reqLow := true } }.setBit aSafStat 29 true →
    exec (.safeReq true) s = .next (deviceFault 5 0x876 0 false e)) ∧
  (∀ s : State, exec (.safeReq false) s = .next ({ s with safe := { s.safe with reqLow := false } }.setBit aSafStat 29 false)) ∧
  (∀ (s : State) (u : Nat), arrayUnit u = true → s.rbit aSafStctl 31 = true → unitPresent s u = true → failedOf s u = false →
    unitIdle s u = true → selfTesting s (2 ^ unitPart u) = false →
    exec (.periodicSelftest u true) s = .next (unitFails u s) ∧ exec (.periodicSelftest u false) s = .next s) ∧
  (∀ (s e f : State) (i : Nat) (failed us bad : List Nat) (o : Outst), outstAt s i [0x81] = some o → us = testUnits s (o.call.b 16) →
    bad = us.filter (fun u => failed.contains u) →
    e = refreshFailed (forL (us.filter (fun u => !failed.contains u)) (fun u t => t.setBit (aSafFail (u / 32)) (u % 32) false)
      (scrubSram (o.call.b 16) s)) →
    f = finishO o sOk [bite (maskOf ((maskBits 8 (o.call.b 16)).filter (fun p => bad.all (fun u => decide (unitPart u ≠ p)))))]
      (forL bad (fun u t => unitFails u t) e) →
    exec (.selftestDone i failed) s = .next (f.setBit aSafStat 28 (f.host.outst.any (fun x => x.acc && decide (x.op = 0x81)))))
/-- Ends of bell and plan commands, and the run of a slip domain (R181 to R185, R192, R200, R201, R208, R215, R234, R235, R257,
R33 to R36, R168, R228, R229): each event, when its condition holds, does what the rules give. -/
def Obligations.DomainEventsComplete : Prop :=
  (∀ (s : State) (i : Nat) (o : Outst),
    (outstAt s i [0x16] = some o → o.b ≤ bellCount s o.a → exec (.bellWaitEnd i) s =
      .next (finishO o sOk (leBytes 4 (bellCount s o.a) ++ zeros 4 ++ leBytes 8 s.toll.now.toNat) s)) ∧
    (outstAt s i [0x16] = some o → bellCount s o.a < o.b → exec (.bellWaitTimeout i) s = .next (finishO o sTimeout [] s)) ∧
    (outstAt s i [0x20] = some o → exec (.planAdmitDone i) s =
      .next (finishO o sOk (badResult { dir := noIdx, item := noIdx }) (storeImage o.a (parseImage o.data) s))) ∧
    (outstAt s i [0x21] = some o → o.c = 0 → ∀ r, (residentsOf s (leNat o.data)).find? (fun x => decide (x.id = o.b) && x.loading) = some r →
      ∀ x : Resident, x = { r with loading := false } →
      exec (.contextLoadDone i 0) s = .next (finishO o sOk ([bite (slotIn x.slots 0), bite (slotIn x.slots 1), 0, 0] ++ leBytes 4 x.ctx.res0 ++
        leBytes 4 x.ctx.res1) (demoteHold (refreshGovs x.mask (showSlots x (setResidents
          (s.plan.resident.map (fun y => if y = r then x else y)) s))))))) ∧
  (∀ (s : State) (p : Nat), p < 8 → partPresent s p = true → exec (.idleStrikeApply p) s = .next (idleApply p s)) ∧
  (∀ (s : State) (d : Nat) (w : WaitSw) (t : BitVec 64), d < 8 → (domRt s d).pend = some w → w.atToll = some t → 0 ≤ (s.toll.now - t).toInt →
    w.fclass = (partRt s d).cls → (domRt s (domLow s d)).sw = none → plnState s d ≠ stHalted →
    exec (.tollStart d) s = .next (pendDue d { w with armed := true } s)) ∧
  (∀ (s : State) (d : Nat), d < 8 → domLow s d = d →
    (∀ w, (domRt s d).chg = some w → ∀ e, e = setCls (domMask s d) w.fclass s →
      (w.ctx = 0xFF → exec (.classChangeDone d) s = .next (setPln d stIdle 0xFF 0xFF (setDomRt d { domRt e d with chg := none } e))) ∧
      (w.ctx ≠ 0xFF → exec (.classChangeDone d) s = .next (setDomRt d { domRt e d with chg := none, pend := some { w with armed := false } } e))) ∧
    (∀ w, (domRt s d).chg = some w → exec (.classLock d) s = .next (haltOnFaults d (clockFault 5 d 0 s))) ∧
    (∀ w, switchOver s d = some w → exec (.switchEnd d) s = .next (switchEnd d w s)) ∧
    (∀ r, runOver s d = some r → exec (.runEnd d) s = .next (runEnd d r s)) ∧
    (inRun s d = true → slipping s d = true → edgeCauses s d = 0 → exec (.slipEnd d) s = .next (endSlip d false s)) ∧
    (inRun s d = true → limitHit s d = true → edgeCauses s d ≠ 0 → exec (.slipLimit d) s = .next (haltOnFaults d (clockFault 3 d 0 s))) ∧
    (∀ i w, (domRt s d).waits[i]? = some w → actsOn s d = true → timedOut s d w = true → reached s w.bell = false →
      exec (.waitTimeout d i) s = .next (onceAt d (15, w.bell, i) (bellFault 1 w.bell w.unit) s)) ∧
    (∀ q < 256, domLow s (queuePart q) = d → inRun s d = true → (dueRel s q).isSome = true → ∀ e, e = testReleases d s →
      exec (.release q) s = .next (if haltsNow e d then haltOnFaults d e else if actsOn e d then presentDue q (endSlip d false e) else e))) ∧
  (∀ (s : State) (q : Nat) (e : EntryData) (r : List (EntryData × Bool)), q < 256 → tabGet (fun _ => []) s.xing q = (e, false) :: r →
    (domRt s (domLow s (queuePart q))).chg = none →
    ∀ t, t = { s with xing := tabSet (fun _ => []) q r s.xing } →
    exec (.arrival q) s = .next (arrivalStrike q (queueRt t q).arrived e (enterQueue q e t)))

/-- Work of the array units in a score cycle (R76, R77, R80 to R83, R102 to R116, R124). -/
def Obligations.ArrayUnitEventsComplete : Prop :=
  (∀ (s : State) (u k : Nat) (bad : List Nat), isCu u = true → actsNow s (unitPart u) = true →
    (schedNow s u 0 0 k = true → (domRt s (domLow s (unitPart u))).done.contains (1, u, 0) = false →
      exec (.slotSwitch u k) s = .next (setCu u { cuRt s u with pend := some k } s)) ∧
    (unitPresent s u = true → exec (.dotStep u bad) s = .next (cuOnce u bad s))) ∧
  (∀ (s : State) (u ag n : Nat), isMem u = true → actsNow s (muPart u) = true →
    (∀ b e, muBlk s u = some b → e ∈ b.sched → e.sc = relSc s (muPart u) → e.elem = ag → e.index = n → exec (.agRun u ag n) s = .next (agStart u ag n s)) ∧
    (memPresent s u = true → exec (.agAccess u ag n) s = .next (muPerform u (some ag) n (muPlan u s)) ∧
      exec (.eccWriteBack u) s = .next (muWriteBack u (muPlan u s)))) ∧
  (∀ (s : State) (u : Nat), isMem u = true → actsNow s (muPart u) = false → memPresent s u = true →
    exec (.eccWriteBack u) s = .next (muWriteBack u (setMu u { muRt s u with acts := [] } s)))
/-- The fabric network and DMA (R138, R140, R149, R281, R283, R287, R291, R292). -/
def Obligations.NetworkAndDmaEventsComplete : Prop :=
  (∀ (s : State) (u : Nat), arrayUnit u = true → actsNow s (unitPart u) = true →
    (∀ k, schedNow s u 2 0 k = true → exec (.route u k) s = .next (doRoute u k s)) ∧
    (∀ b e, blkOf s u 2 = some b → e ∈ b.sched → 1 ≤ e.elem → e.elem ≤ 4 → e.sc = relSc s (unitPart u) →
      exec (.steer u e.elem e.len) s = .next (doSteer u e.elem e.len s)) ∧
    (∀ k, lateSends s (32 * u + k) = true →
      exec (.creditLate u k) s = .next (onceAt (domLow s (unitPart u)) (9, u, k) (creditLate (32 * u + k)) s))) ∧
  (∀ (s : State) (d ri occ : Nat), d < 8 → domLow s d = d →
    (∀ b, actsOn s d = true → dmaRec s d ri = some b → dmaDue s d b = some occ →
      exec (.dmaIssue d ri occ) s = .next (dmaWaited d (dmaStart d ri occ s))) ∧
    (∀ e x, e = pumpAll d s → findDma e d ri occ (dmaDone e) = some x → ∀ f, f = { e with dmas := e.dmas.erase x } →
      exec (.dmaComplete d ri occ) s = .next (if x.strike && (x.outb || !x.old) then sendStrike x.bell (0x800 + 8 * x.part + x.lbd) none f else f)) ∧
    (∀ x line, findDma s d ri occ (fun x => !x.outb && x.lines.contains line && !x.back.contains line) = some x → x.roll = true → dmaBehind x line s = false →
      ∀ i, i = line - x.off / 128 → i < x.words.length → (x.words.getD i ([], 0)).2 % 8 = 0 →
      exec (.hbmReadReturn d ri occ line 0) s = .next (putDma x { x with back := x.back ++ [line] }
        (lineTap (0x800 + 8 * x.part + x.lbd) x.part x.region line false false (x.words.getD i ([], 0)).1
          (countUnit (0x800 + 8 * x.part + x.lbd) 0x40 1 s)))))

/-- Links (R309 to R317, R331, R342): frames leave and are taken, ports train, measure and go down. -/
def Obligations.LinkEventsComplete : Prop :=
  ∀ (s : State) (n : Nat), n < 16 → portPresent s n = true →
    (∀ ri occ l d, d = domLow s (portPart s n) → portPart s n < 8 → actsOn s d = true → linkRec s d ri = some l → l.port = n → l.kind = 1 →
      occAt l.sc l.rep l.period (relSc s d) = some occ → exec (.tx n ri occ) s = .next (txWaited d (txStart d ri occ s))) ∧
    (stFrame ≤ lnkState s n → lnkState s n ≤ stUp → ∃ t f, exec (.frameSend n) s = .next t ∧ Emit.frame n f ∈ t.out ∧
      f.fcnt = (linkRt s n).fcnt ∧ f.epoch = (linkRt s n).epoch ∧ f.src = devId s + 1024 * n ∧ f.slots.length = 8) ∧
    (∀ f, stKey ≤ lnkState s n → lnkState s n ≤ stUp → f.corr = 0 → rejectOf (linkRt s n) (linkKey s n).isSome f = 0 →
      ∀ r e, r = { linkRt s n with rxLast := some (f.epoch, f.fcnt), rej := 0, noSync := 0, acc := (linkRt s n).acc + 1, rxUp := f.holdUp, rxDown := f.holdDown } →
      e = recvSlots n f (setLink n r s) →
      exec (.frameReceive n f) s = .next (if lnkState s n = stKey ∧ 16 ≤ (linkRt s n).acc + 1 then setLnkState n stMeasure 0 e else e)) ∧
    (∀ r, stTrain ≤ lnkState s n → lnkState s n ≤ stUp → 1 ≤ r → r ≤ 6 → exec (.linkDown n r) s = .next (setLnkState n stDownErr r s)) ∧
    (lnkState s n = stTrain → exec (.train n) s = .next (setLnkState n stFrame 0 s) ∧
      exec (.trainTimeout n) s = .next (setLnkState n stDownErr 1 s)) ∧
    (lnkState s n = stFrame → exec (.frameLock n) s = .next (setLnkState n stKey 0 s)) ∧
    (lnkState s n = stDownErr → s.rbit (aLnkCtl n) 31 = true → s.rbit (aLnkCtl n) 30 = true →
      exec (.autoRetrain n) s = .next (startTrain n s)) ∧
    (∀ m, lnkState s n = stMeasure →
      ((m.tag ≠ s.reg aPealTag ∨ m.dev % 1024 = devId s) → exec (.hello n m) s = .next (setLnkState n stDownErr 4 s)) ∧
      (m.tag = s.reg aPealTag → m.dev % 1024 ≠ devId s →
        ∀ e, e = s.setReg (aLnkPeer n) (BitVec.ofNat 32 (2 ^ 31 + m.peerPort % 16 * 2 ^ 16 + m.dev % 1024)) →
        exec (.hello n m) s = .next (tryUp n (setLink n { linkRt e n with hello := true } e))) ∧
      ((linkRt s n).rtts.length < 64 → exec (.latrsp n m) s = .next (tryUp n (setLink n { linkRt s n with
        rtts := (linkRt s n).rtts ++ [(m.arrive - m.t1).toInt - (m.t3 - m.t2).toInt] } s)))) ∧
    (∀ m, stMeasure ≤ lnkState s n → lnkState s n ≤ stUp → exec (.latreq n m) s =
      .next (queueCtl n 5 (leBytes 8 m.t1.toNat ++ leBytes 8 m.arrive.toNat ++ leBytes 8 m.depart.toNat ++ leBytes 2 m.seq) s))

/-- The Toll (R240, R241, R243, R245 to R250, R813): messages of the tree, the reference and its loss. -/
def Obligations.TollEventsComplete : Prop :=
  (∀ (s : State) (n : Nat) (m : TollMsg), n < 16 → tollPort s n = true →
    (tollSrc s = 2 → tollParent s = n → s.toll.parentInt = none → m.state = tlLocked → m.depth < 4 →
      ∀ x e, x = { s.toll with parentInt := some m.interval, parentDepth := m.depth, parentLocked := true, exch := some (m.seq, m.t, m.arrive, m.depart) } →
      e = (refreshDepth ((setToll x s).put aTolStat 0 10 m.root)).setBit aTolStat 23 false →
      exec (.sync n m) s = .next (sendToll n 2 m.seq 0 m.depart 0 (refRegained e))) ∧
    ((childPorts s).contains n = true → exec (.dreq n m) s = .next (sendToll n 3 m.seq 0 m.arrive m.t s) ∧
      ∀ q, q = tabGet (fun _ => 0) s.toll.seqTx n → exec (.syncSend n) s = .next (sendToll n 1 q (s.rf aTolCtl 24 4) 0 0
        (setToll { s.toll with seqTx := tabSet (fun _ => 0) n ((q + 1) % 2 ^ 16) s.toll.seqTx } s))) ∧
    (∀ t1 t2 t3, tollSrc s = 2 → tollParent s = n → s.toll.exch = some (m.seq, t1, t2, t3) →
      ∀ a b e : Int, a = (t2 - t1).toInt → b = (m.t - t3).toInt → e = (BitVec.ofNat 16 (s.rf (aTolAsym n) 0 16)).toInt →
      ∀ f, f = (setToll { s.toll with exch := none } s).setReg aTolPath (BitVec.ofInt 32 ((a + b) / 2)) →
      exec (.dresp n m) s = .next (
        if 128 < ((a + b) - 2 * (s.rf (aLnkWlat n) 0 16 : Int)).natAbs then f.countSat aTolStat 10 6 1
        else newOffset ((a - b - e) * 2 ^ 31) (decide (s.toll.parentDepth < 4) && s.toll.parentLocked) f))) ∧
  (∀ s : State, (tollSrc s = 2 → exec (.referenceLost 0) s = .next (refLost s)) ∧
    (tollSrc s = 1 → exec (.referenceLost 1) s = .next (refLost s)) ∧
    (tollState s = tlHoldover → exec .holdoverLimit s = .next (setTollState tlFree s)) ∧
    (tollSrc s = 1 → tollState s = tlLocked → 64000 < (ppsOffset s).natAbs → ∀ e, e = s.countSat aTolStat 16 6 1 →
      exec .ppsEdge s = .next (if s.toll.badPps = 0 then setToll { s.toll with badPps := 1 } e else refLost (setToll { s.toll with badPps := 0 } e))) ∧
    (tollSrc s = 1 → (tollState s ≠ tlLocked ∨ (ppsOffset s).natAbs ≤ 64000) → s.toll.refclk ≠ 2 → s.toll.setSec = none →
      exec .ppsEdge s = .next (newOffset (ppsOffset s * 2 ^ 32) true (setToll { s.toll with badPps := 0 } s))) ∧
    exec .tollRefclkLoss s = .next (lanesMove (refLost ((setToll { s.toll with refclk := 0, fallback := true } s).setBit aTolStat 25 true))) ∧
    (tollSrc s = 0 → exec .tollRefclkPresent s = .next (setTollState tlLocked (setToll { s.toll with refclk := 2, fallback := false } s))) ∧
    (s.toll.refclk = 0 → tollSrc s = 0 → tollState s = tlHoldover →
      exec .tollRefclkReturn s = .next (setTollState tlAcquire (setToll { s.toll with refclk := 1 } s))))
/-- The tap and packet path (R349, R352, R432, R433, R436, R442 to R445, R449 to R451, R457 to R459, R462 to R475): each event
moves what waits one stage on. -/
def Obligations.ObservationEventsComplete : Prop :=
  (∀ (s : State) (u : Nat) (x : TapItem) (r : List TapItem), u < 0x1000 →
    ((tapRt s u).evs = x :: r → tapFirst s u false x = true → exec (.tapRecord u false) s = .next (forward x (setTapRt u { tapRt s u with evs := r } s))) ∧
    ((tapRt s u).dats = x :: r → tapFirst s u true x = true → exec (.tapRecord u true) s = .next (forward x (setTapRt u { tapRt s u with dats := r } s)))) ∧
  (∀ (s : State) (k : Pkt) (r : List Pkt), s.obs.staged = k :: r →
    exec .packetWrite s = .next (clapStops (distribute k { s with obs := { s.obs with staged := r } }))) ∧
  (∀ (s : State) (d c : Nat) (r : Resident), d < 8 → c < 2 → runCtx s (domLow s d) = some r →
    (domClusters (domMask s (domLow s d))).contains c = true → (clRt s (domLow s d) c).next ≤ relSc s (domLow s d) →
    (clRt s (domLow s d) c).next < r.ctx.len → exec (.scoreClose d c) s = .next (closeOne (domLow s d) c r s)) ∧
  (∀ (s : State) (n : Nat), n < 24 →
    (chSink s n ≠ 0 → stagedFrames s (chSink s n) < stageCap (chSink s n) →
      exec (.frameForm n) s = .next (if rollStream s n then formRoll n s else formPlain n s)) ∧
    (s.rf (aSnkCfg n) 0 8 ≠ 0 → chanPresent s n = true → exec (.flushTimer n) s = .next (flushChannel n s)) ∧
    (∀ f r ok, (chRt s n).frames = f :: r → (chSink s n = 1 ∨ chSink s n = 2) →
      exec (.ringDeliver n ok) s = .next (ringStep false n ok f (fun t => setChRt n { chRt t n with frames := r } t) s))) ∧
  (∀ (s : State) (n : Nat) (b : List Byte) (r : List (List Byte)) (ok : Bool), n < 16 → (linkRt s n).ingest = b :: r →
    exec (.ringDeliver (n + 32) ok) s = .next (ringStep true n ok (b, false) (fun t => setLink n { linkRt t n with ingest := r } t) s)) ∧
  (∀ (s : State) (n : Nat) (f : List Byte × Bool) (r : List (List Byte × Bool)), (chRt s n).frames = f :: r →
    (s.rbit aSnkPar 31 = true → nextServed s 4 s.obs.lastPar = some n → ∀ e, e = setChRt n { chRt s n with frames := r } s →
      exec (.portFrame false) s = .next (countDevice 0xC8 0 1 (({ e with obs := { e.obs with lastPar := n } } : State).emit (.port false f.1)))) ∧
    (s.rbit aSnkSer 31 = true → s.fuse.variant = 0 → s.obs.rows < 16384 → nextServed s 5 s.obs.lastSer = some n →
      ∀ e, e = setChRt n { chRt s n with frames := r } s →
      exec (.portFrame true) s = .next (countDevice 0xC8 0 1
        (({ e with obs := { e.obs with lastSer := n, rows := e.obs.rows + 8 } } : State).emit (.port true f.1)))))

/-- The Clapper and the counters (R430 to R436, R442, R443, R445, R451). -/
def Obligations.ClapperAndCounterEventsComplete : Prop :=
  (∀ (s : State) (n : Nat) (l : Bool), n < 4 → s.clap.inputs.testBit n ≠ l →
    ∀ ins, ins = maskOf ((maskBits 4 s.clap.inputs).filter (fun i => decide (i ≠ n))) + (if l then 2 ^ n else 0) →
    (s.rbit aClpCtl 31 = true → (s.rf aClpExt (2 * n) 2).testBit (if l then 0 else 1) = true → exec (.clapIn n l) s =
      .next (setClap { s.clap with inputs := ins, waits := s.clap.waits ++ [{ src := 4, cmp := 12 + n, stamp := s.toll.now, inputs := ins }] } s)) ∧
    (s.rbit aClpCtl 31 = false → exec (.clapIn n l) s = .next (setClap { s.clap with inputs := ins } s))) ∧
  (∀ (s : State) (m : MatchRt), firstMatch s.clap.waits = some m →
    exec .clapperMatch s = .next (takeMatch m (setClap { s.clap with waits := s.clap.waits.erase m } s))) ∧
  (∀ s : State, exec .stopCountEnd s = .next (clapStops s)) ∧
  (∀ (s : State) (n : Nat), n < 4 → s.clap.pulse.contains n = true →
    exec (.pulseEnd n) s = .next ((setClap { s.clap with pulse := s.clap.pulse.erase n } s).emit (.pin "CLAP_OUT" n false))) ∧
  (∀ (s : State) (u d : Nat), u < 0x877 → unitOwner s u < 8 → unitPresent s u = true → d = domLow s (unitOwner s u) → actsOn s d = true →
    atBoundary s d = true → exec (.sample u) s = .next (sampleUnit d u (edgeWork d (endSlip d false s)))) ∧
  (∀ (s : State) (g : Nat), 1 ≤ g → g ≤ 3 → exec (.groupSample g) s = .next (sampleGroup g s)) ∧
  (∀ (s : State) (t u : Nat), t < 4 → s.clap.crossed.contains t = true → u = ctrUnitOf (thrCtr s t) → exec (.threshold t) s =
    .next (setClap { s.clap with
      crossed := s.clap.crossed.erase t,
      waits := s.clap.waits ++ [{ src := 3, cmp := 8 + t, unit := u, sc := if u < 0x1000 then unitSc s u else allOnes48,
                                  stamp := s.toll.now, inputs := s.clap.inputs }] } s)) ∧
  (∀ (s : State) (c : CtrId), c.group ≤ 3 → c.idx < groupSize c.group → c.unit < 0x1000 →
    (ctrRt s (aCntSel c.group c.unit c.idx)).wrap = true →
    (c.group = 0 → (onFclk s (aCntSel 0 c.unit c.idx) = false ∨ atBoundary s (domLow s (unitOwner s c.unit)) = false ∨
      unitSampled s c.unit = false) → exec (.overflow c) s = .next (unitPacket 1 c.unit s)) ∧
    (c.group ≠ 0 → exec (.overflow c) s = .next (groupPacket 1 c.group (c.idx / 8 * 8) s)))

/-- The loops of the manager and the windows they set (R263, R288, R366, R373, R741 to R748, R750, R751, R757). -/
def Obligations.LoopEventsComplete : Prop :=
  (∀ (s : State) (r : ThermIn), ∃ t, exec (.thermalLoop r) s = .next t ∧
    t.pwr.power = clamp255 ((s.pwr.power : Int) + ceilHalf (((min ((r.rails.map (fun x => x.1 * x.2)).foldl (· + ·) 0 / 1000000) 0xFFFF : Nat) : Int) -
      (s.rf aPwrLim 0 10 : Nat))) ∧
    (∀ p < 8, partPresent s p = true → tabGet (fun _ => 0) t.pwr.therm p = clamp255 (((tabGet (fun _ => 0) s.pwr.therm p : Nat) : Int) +
      4 * ((match r.tj.getD p none with | some b => b.toInt | none => 105) - (s.rf aPwrLim 24 8 : Nat))))) ∧
  (∀ (s : State) (rail v : Nat) (early settled : Bool) (d : Dec), rail < 3 → avsOn s = true → v = lpValue s 3 rail →
    d = decide3 s 3 rail (railMin s rail) (railMax s rail) { val := if early then v + 5 else if settled then v - 5 else v } →
    exec (.voltageLoop rail early settled) s = .next (if d.val = v then applyDec 3 rail d s else setRail rail d.val d s)) ∧
  (∀ (s : State) (rail : Nat), rail < 3 → avsOn s = true → exec (.regulatorTimeout rail) s = .next (deviceFault 7 0x876 rail false s)) ∧
  (∀ (s : State) (h : Nat), h < 8 → hsPresent s h = true → mrpReady s = true → ∃ t, exec (.governorLoop h) s = .next t ∧
    tabGet (fun _ => 0) t.obs.used h = 0 ∧ t.mem = s.mem ∧ t.fab = s.fab ∧
    t.rf (aGovStat h) 24 4 = (if (List.range 24).any (fun n => ringOn s n h && (s.obs.fullSeen.testBit n || s.rbit (aChStat n) 31)) then min 10 (govLoop s h + 1)
      else if 2 * tabGet (fun _ => 0) s.obs.used h < 1250 * govEff s h then max 2 (govLoop s h - 1) else govLoop s h)) ∧
  (∀ (s : State) (n code : Nat), n < 16 → portPresent s n = true → lnkState s n = stUp →
    exec (.linkEq n code) s = .next (applyDec 5 n (decide3 s 5 n 0 15 { val := min code 15 }) s)) ∧
  (∀ (s : State) (k t : Nat), k < 4 → hsPresent s (2 * k) = true → t ≤ 255 → s.pwr.stackBad = 0 → ∃ u, exec (.refreshRate k (some t)) s = .next u ∧
    u.rf (aMemRef k) 24 8 = t ∧ u.pwr.hot.testBit k = (decide (85 ≤ t) || (decide (80 ≤ t) && s.pwr.hot.testBit k)) ∧
    u.mem = s.mem ∧ u.fab = s.fab ∧ u.doms = s.doms) ∧
  (∀ (s : State) (d : Nat), d < 8 → partPresent s d = true → exec (.throttleWindow d) s = .next (openWindow (domLow s d) s)) ∧
  (∀ (s : State) (d : Nat), d < 8 → partPresent s d = true → exec (.fclkEdge d) s = .next (fclkStep (domLow s d) s))
/-- A step runs the command at the front of the queue on the state with the queue's rest. -/
def Obligations.StepRunsFrontCommand : Prop :=
  ∀ (c : Instr) (s : State), step { s with pending := c :: s.pending } = exec c s

/-- On an empty queue one TKCLK edge passes: the model's choice, log entry 2. Toll grows by INCR while no reference disciplines
it and no second is to be set (R236, R238), and nothing else changes. -/
def Obligations.EmptyQueueTicksToll : Prop :=
  ∀ s : State, s.pending = [] →
    step s = .next (tollTick s) ∧
    (tollSrc s = 0 → s.toll.setSec = none →
      step s = .next (setToll { s.toll with
        now := BitVec.ofNat 64 ((tollFine s + incrOf s) / 2 ^ 32), frac := BitVec.ofNat 32 (tollFine s + incrOf s) } s))

/-- The state after reset meets the invariant. -/
def Obligations.ResetMeetsInvariant : Prop := Inv State.reset

/-- Every step from a state that meets the invariant answers a state that meets it: registers in canonical form with every
reserved bit zero (R15), HBM and SRAM in canonical form, no more VFs than the device has (R584). -/
def Obligations.StepKeepsInvariant : Prop := ∀ s t : State, Inv s → step s = .next t → Inv t

/-- Every well-formed command answers a next state, in every state. -/
def Obligations.WellFormedCommandsComplete : Prop := ∀ (i : Instr) (s : State), wellFormed i = true → ∃ t, exec i s = .next t

/-- A command never refuses, and it faults only on an operand that names nothing of the device. -/
def Obligations.CommandsNeverRefuse : Prop :=
  ∀ (i : Instr) (s : State), (∃ t, exec i s = .next t) ∨ (wellFormed i = false ∧ ∃ w n, exec i s = .fault (.noSuchInstance w n))

/-- No command touches the queue, and the model's count of free values never falls; only COLD_RESET, POWER_LOSS and MRP_READY
change what the fuses say of the stacks, and none the variant, grade or stepping. -/
def Obligations.CommandsKeepQueueAndFuses : Prop :=
  ∀ (i : Instr) (s t : State), exec i s = .next t →
    t.pending = s.pending ∧ s.freeCtr ≤ t.freeCtr ∧ t.fuse.variant = s.fuse.variant ∧ t.fuse.grade = s.fuse.grade ∧
    t.fuse.stepping = s.fuse.stepping ∧
    ((∀ b, i ≠ .coldReset b) → (∀ r, i ≠ .mrpReady r) → i ≠ .powerLoss → t.fuse = s.fuse)

/-- What a reply leaves alone (R594, R600, R691): memory, the fabric, slip domains, plan stores, Toll, keys and trust, and every
register that is neither function-local nor an interrupt, error log or counter register. -/
def Obligations.RepliesChangeHostSideOnly : Prop :=
  ∀ (c : Call) (op st : Nat) (res : List Byte) (s t : State), c.fn ≤ 8 → t = finish c op st res s →
    t.mem = s.mem ∧ t.fab = s.fab ∧ t.doms = s.doms ∧ t.parts = s.parts ∧ t.plan = s.plan ∧ t.toll = s.toll ∧ t.keys = s.keys ∧
    t.trust = s.trust ∧ t.queues = s.queues ∧ t.links = s.links ∧ t.boot = s.boot ∧ t.safe = s.safe ∧ t.pwr = s.pwr ∧
    t.host.numVf = s.host.numVf ∧ t.host.outst = s.host.outst.eraseP (isCall c op) ∧
    (∀ k, k < 0x10000000 → (k < bDev + 0x200 ∨ bDev + 0x290 ≤ k) → (k < aDevErrl ∨ aErrCapC < k) → (k < bCnt ∨ bRol ≤ k) →
      t.reg k = s.reg k)

/-- A register write by the device takes the bits that fields define, reads back so, and leaves every other register (R15). -/
def Obligations.RegisterWritesReadBack : Prop :=
  ∀ (s : State) (k j : Nat) (v : Word), ((s.setReg k v).reg k = v &&& definedMask k) ∧ (j ≠ k → (s.setReg k v).reg j = s.reg j) ∧
    (Inv s → Inv (s.setReg k v)) ∧ (Inv s → s.reg k &&& ~~~ definedMask k = 0)

/-- What each field of a register takes from a write (R13, Table 0-5): RW and RWS the value written, RWL too unless its block is
locked (R14), RO and reserved bits nothing, W1C clears where 1 is written, W1S sets there. -/
def Obligations.FieldTypesTakeWrites : Prop :=
  ∀ (fs : List RField) (locked : Bool) (old v : Word) (f : RField) (i : Nat),
    f ∈ fs → f.lo ≤ i → i < f.lo + f.w → f.lo + f.w ≤ 32 → (∀ g ∈ fs, g ≠ f → g.lo + g.w ≤ i ∨ i < g.lo) → fs.Nodup →
    (f.ty = .rw ∨ f.ty = .rws → bit (writeFields fs locked old v) i = bit v i) ∧
    (f.ty = .rwl → bit (writeFields fs locked old v) i = (if locked then bit old i else bit v i)) ∧
    (f.ty = .ro → bit (writeFields fs locked old v) i = bit old i) ∧
    (f.ty = .w1c → bit (writeFields fs locked old v) i = (bit old i && !bit v i)) ∧
    (f.ty = .w1s → bit (writeFields fs locked old v) i = (bit old i || bit v i))

/-- FCLK edges (R8, R22): outside a slip fc and sc advance by one on each edge, in a slip fc alone, modulo 2^56; partitions of other
domains keep theirs. -/
def Obligations.FclkEdgesCount : Prop :=
  ∀ (s e : State) (d : Nat), d < 8 → partPresent s d = true → domLow s d = d → (domRt s d).chg = none → e = closeEdge d s →
    domLow e d = d → (domRt e d).chg = none → (domRt e d).resume = none →
    exec (.fclkEdge d) s = .next (haltOnFaults d (nextEdge d e)) ∧
    (∀ p ∈ maskBits 8 (domMask e d), (partRt (nextEdge d e) p).fc = (partRt e p).fc + 1 ∧
      (partRt (nextEdge d e) p).sc = (if slipped e d then (partRt e p).sc else (partRt e p).sc + 1)) ∧
    (∀ p, p ∉ maskBits 8 (domMask e d) → partRt (nextEdge d e) p = partRt e p)

/-- A descriptor that fails a test of Table 18-7, or whose opcode is undefined, ends with that test's status and has no other effect
(R599, R616 to R618). -/
def Obligations.FailedTestsHaveNoEffect : Prop :=
  ∀ (op e : Nat) (c : Call) (s : State), commonTests op c s = some e → runOpcode op c s = finish c op e [] s

/-- In the safe state every command outside Table 19-1 ends with E_FAULT and has no other effect (R623). -/
def Obligations.SafeStateServesTable19x1 : Prop :=
  ∀ (op : Nat) (c : Call) (s : State), inSafe s = true → (opInfo op).isSome = true →
    op ∉ [0x00, 0x01, 0x02, 0x40, 0x41, 0x80, 0x68] → runOpcode op c s = finish c op 0x20 [] s

/-- An offset that no register occupies, an absent instance and a function that is shown none read zero and ignore writes, and no
flag is set (R646, R650). -/
def Obligations.AbsentRegistersReadZero : Prop :=
  ∀ (f src o : Nat) (v : Word) (s : State), (regFields (keyOf f o) = [] ∨ regPresent s f o = false ∨
      (f ≠ 0 ∧ (partPresent s (f - 1) = false ∨ s.host.numVf < f))) →
    readReg f o s = (0, s) ∧ writeReg f src o v s = s

/-- Which writes are refused before any register is reached (R604, R658): under a reset that covers the instance with the state
flag; without expert control, or by a function that may not write it, with the permission flag. -/
def Obligations.RefusedRegisterWrites : Prop :=
  ∀ (f src o : Nat) (v : Word) (s : State), regFields (keyOf f o) ≠ [] → regPresent s f o = true → reaches s f o = true →
    (underReset s (keyOf f o) = true → writeReg f src o v s = errFlag 1 f src (offOf (keyOf f o)) s) ∧
    (underReset s (keyOf f o) = false → noExpert s f o = false → expertOf s f = false →
      writeReg f src o v s = errFlag 0 f src (offOf (keyOf f o)) s) ∧
    (underReset s (keyOf f o) = false → (noExpert s f o = true ∨ expertOf s f = true) → mayWrite s f o = false →
      writeReg f src o v s = errFlag 0 f src (offOf (keyOf f o)) s)

/-- HBM lines and SRAM words: a read after a write gives what was written, every other line or word keeps its contents, and the
memories keep their canonical form. -/
def Obligations.MemoriesReadBack : Prop :=
  (∀ (s : State) (a b : Nat) (l : List Byte), tabGet (fun _ => none) (setCell a l s).mem.cells a = some l ∧
    (b ≠ a → tabGet (fun _ => none) (setCell a l s).mem.cells b = tabGet (fun _ => none) s.mem.cells b) ∧
    (memWf s = true → memWf (setCell a l s) = true)) ∧
  (∀ (s : State) (u w x y : Nat) (l : List Byte), sramWord (putSram u w l s) u w = padTo 64 l ∧
    (sramKey x y ≠ sramKey u w → sramWord (putSram u w l s) x y = sramWord s x y) ∧
    (sramWf s = true → sramWf (putSram u w l s) = true))

/-- A read of TOL_NOWL latches TOL_NOWH, a read of CLK_FCL_p latches CLK_FCH_p, CLK_SCL_p and CLK_SCH_p, each from the same edge
(R253). -/
def Obligations.WideCounterReadsLatch : Prop :=
  (∀ s t : State, exec (.tolNowlRead 0) s = .next t →
    (readReg 0 aTolNowH t).1 = BitVec.ofNat 32 (s.toll.now.toNat / 2 ^ 32)) ∧
  (∀ (s t : State) (p : Nat), p < 8 → partPresent s p = true → exec (.clkFclRead 0 p) s = .next t →
    (readReg 0 (aClkFcL p + 4) t).1 = BitVec.ofNat 32 ((partRt s p).fc.toNat / 2 ^ 32) ∧
    (readReg 0 (aClkFcL p + 8) t).1 = BitVec.ofNat 32 (partRt s p).sc.toNat ∧
    (readReg 0 (aClkFcL p + 12) t).1 = BitVec.ofNat 32 ((partRt s p).sc.toNat / 2 ^ 32))

/-- PART_GEN_p increments by one at every holder change of p, and at no other partition (R526). -/
def Obligations.HolderChangesCount : Prop :=
  ∀ (s : State) (h : HolderRt), s.holder = some h → h.phase = 6 → inSafe s = false → h.bad = 0 →
    ∃ t, exec (.holderChangePhaseEnd 0) s = .next t ∧ t.holder = none ∧
      (∀ p < 8, p ∈ maskBits 8 h.mask → t.reg (aPartGen p) = s.reg (aPartGen p) + 1 ∧ t.rf (aPartStat p) 0 16 = h.tenant % 2 ^ 16) ∧
      (∀ p < 8, p ∉ maskBits 8 h.mask → t.reg (aPartGen p) = s.reg (aPartGen p))

/-- Observation has no path into the work: a command or event that configures it or carries it on leaves every array unit, SRAM
word, HBM line, queue, DMA record, link, stream, plan, slip domain, score count, Toll, key and trust record as it was (R37). -/
def Obligations.ObservingChangesNoWork : Prop :=
  ∀ (i : Instr) (s t : State), exec i s = .next t → observes i = true →
    t.fab = s.fab ∧ t.mem = s.mem ∧ t.queues = s.queues ∧ t.outq = s.outq ∧ t.dmas = s.dmas ∧ t.xing = s.xing ∧ t.links = s.links ∧
    t.streams = s.streams ∧ t.plan = s.plan ∧ t.doms = s.doms ∧ t.parts = s.parts ∧ t.toll = s.toll ∧ t.keys = s.keys ∧ t.trust = s.trust

/-- Key stores, the trust state, SRAM words and NumVFs change by named commands only: no other command or event, in any state,
reaches them (R113, R559, R560, R575, R584). -/
def Obligations.OnlyNamedCommandsReach : Prop :=
  ∀ (i : Instr) (s t : State), exec i s = .next t →
    (reachesKeys i = false → t.keys = s.keys) ∧ (reachesTrust i = false → t.trust = s.trust) ∧
    (reachesSram i = false → t.fab.sram = s.fab.sram) ∧ (reachesVfs i = false → t.host.numVf = s.host.numVf)

end
end

