-- ==== Sys2Proof/Laws/Commands.lean ====
section
/-! SUPPORT. What running a host command comes to, once its tests are known. -/

namespace Sys2Proof.Laws

open Sys2Proof Sys2Proof.Machine

/-- The row's opcode is LONG. -/
def isLong (op : Nat) : Bool := match opInfo op with | some o => o.long | none => false

theorem firstFail_none_iff (l : List (Bool × Nat)) : firstFail l = none ↔ ∀ x ∈ l, x.1 = true := by
  induction l with
  | nil => simp [firstFail]
  | cons a r ih =>
    obtain ⟨ok, st⟩ := a
    cases ok <;> simp [firstFail, ih]

/-- A command that fails a common test ends with that status. -/
theorem runCmd_refused {op caller body c s e} (h : commonTests op c s = some e) :
    runCmd op caller body c s = finish c op e [] s := by
  simp [runCmd, h]

/-- A short command whose own checks pass. -/
theorem runCmd_short {op caller body c s st res e} (h : Passes op caller c s) (hl : isLong op = false)
    (hb : body c s = .done st res e) : runCmd op caller body c s = finish c op st res (mark c op e) := by
  obtain ⟨h1, h2, h3⟩ := h
  rcases ho : opInfo op with _ | o <;> simp [isLong, ho] at hl <;> simp [runCmd, h1, ho, hl, h2, h3, hb]

theorem runCmd_ok {op caller body c s res e} (h : Passes op caller c s) (hl : isLong op = false)
    (hb : body c s = .done sOk res e) : runCmd op caller body c s = replied op c res e :=
  runCmd_short h hl hb

/-- A short command that one of its own checks stops has no effect beyond its reply. -/
theorem runCmd_short_fail {op caller body c s st res e} (h : Passes op caller c s) (hl : isLong op = false)
    (hb : body c s = .fail st res e) : runCmd op caller body c s = finish c op st res e := by
  obtain ⟨h1, h2, h3⟩ := h
  rcases ho : opInfo op with _ | o <;> simp [isLong, ho] at hl <;> simp [runCmd, h1, ho, hl, h2, h3, hb]

theorem runCmd_long_eq {op caller body c s} (h : PassesLong op caller c s) (hl : isLong op = true) :
    runCmd op caller body c s =
      match body c (accepted op c s) with
      | .fail st res s' => finish c op st res s'
      | .done st res s' => finish c op st res (mark c op s')
      | .long o s' => running op c o s' := by
  obtain ⟨h1, h2, h3⟩ := h
  simp only [accepted] at h2 h3
  rcases ho : opInfo op with _ | o <;> simp [isLong, ho] at hl
  simp [runCmd, h1, ho, hl, h2, h3, accepted, running] <;> rfl

/-- A LONG command that begins. -/
theorem runCmd_long {op caller body c s o e} (h : PassesLong op caller c s) (hl : isLong op = true)
    (hb : body c (accepted op c s) = .long o e) : runCmd op caller body c s = running op c o e := by
  rw [runCmd_long_eq h hl, hb]

/-- A LONG command that ends at once. -/
theorem runCmd_long_ok {op caller body c s res e} (h : PassesLong op caller c s) (hl : isLong op = true)
    (hb : body c (accepted op c s) = .done sOk res e) : runCmd op caller body c s = replied op c res e := by
  rw [runCmd_long_eq h hl, hb, replied]

end Sys2Proof.Laws
end

