-- ==== Sys2Proof/Laws/Tab.lean ====
section
/-! SUPPORT. Sparse tables: a read after a write, and that every table operation keeps the canonical form. -/

namespace Sys2Proof.Laws

open Sys2Proof Sys2Proof.Machine

variable {α : Type}

theorem tabGet_insert (d : Nat → α) (k : Nat) (v : α) (t : Tab α) (j : Nat) :
    tabGet d (tabInsert k v t) j = if j = k then v else tabGet d t j := by
  induction t with
  | nil => by_cases h : j = k <;> simp [tabInsert, tabGet, h]; intro h'; exact absurd h'.symm h
  | cons e r ih =>
    obtain ⟨i, w⟩ := e
    simp only [tabInsert]
    split
    · by_cases h : j = k
      · simp [tabGet, h]
      · simp [tabGet, h, Ne.symm h]
    · split
      · rename_i _ hk
        subst hk
        by_cases h : j = k
        · simp [tabGet, h]
        · simp [tabGet, h, Ne.symm h]
      · rename_i _ hk
        simp only [tabGet, ih]
        by_cases h : i = j
        · subst h; simp [Ne.symm hk]
        · simp [h]

theorem tabGet_erase (d : Nat → α) (k : Nat) (t : Tab α) (j : Nat) :
    tabGet d (tabErase k t) j = if j = k then d j else tabGet d t j := by
  induction t with
  | nil => simp [tabErase, tabGet]
  | cons e r ih =>
    obtain ⟨i, w⟩ := e
    unfold tabErase at ih ⊢
    rw [List.filter_cons]
    split
    · simp only [tabGet, ih]
      rename_i hk
      by_cases h : i = j
      · subst h; simp at hk; simp [hk]
      · simp [h]
    · rename_i hk
      simp at hk
      subst hk
      rw [ih]
      by_cases h : j = i
      · simp [h]
      · simp [tabGet, h, Ne.symm h]

/-- A read after a write. -/
theorem tabGet_set [DecidableEq α] (d : Nat → α) (k : Nat) (v : α) (t : Tab α) (j : Nat) :
    tabGet d (tabSet d k v t) j = if j = k then v else tabGet d t j := by
  unfold tabSet
  split
  · rename_i hv
    rw [tabGet_erase]
    by_cases h : j = k
    · simp [h, hv]
    · simp [h]
  · exact tabGet_insert d k v t j

@[simp] theorem tabGet_set_same [DecidableEq α] (d : Nat → α) (k : Nat) (v : α) (t : Tab α) :
    tabGet d (tabSet d k v t) k = v := by simp [tabGet_set]

theorem tabGet_set_ne [DecidableEq α] (d : Nat → α) {k j : Nat} (v : α) (t : Tab α) (h : j ≠ k) :
    tabGet d (tabSet d k v t) j = tabGet d t j := by simp [tabGet_set, h]

theorem tabGet_drop (d : Nat → α) (p : Nat → Bool) (t : Tab α) (j : Nat) :
    tabGet d (tabDrop p t) j = if p j then d j else tabGet d t j := by
  induction t with
  | nil => simp [tabDrop, tabGet]
  | cons e r ih =>
    obtain ⟨i, w⟩ := e
    unfold tabDrop at ih ⊢
    rw [List.filter_cons]
    split
    · simp only [tabGet, ih]
      rename_i hk
      by_cases h : i = j
      · subst h; simp at hk; simp [hk]
      · simp [h]
    · rename_i hk
      rw [ih]
      by_cases h : i = j
      · subst h; simp at hk; simp [hk]
      · simp [tabGet, h]

/-! ### The canonical form -/

theorem tabWfAbove_mono [DecidableEq α] (d : Nat → α) {b c : Nat} (h : c ≤ b) (t : Tab α) (hw : tabWfAbove d b t = true) :
    tabWfAbove d c t = true := by
  cases t with
  | nil => rfl
  | cons e r =>
    obtain ⟨i, w⟩ := e
    simp only [tabWfAbove, Bool.and_eq_true, decide_eq_true_eq] at hw ⊢
    exact ⟨⟨le_trans h hw.1.1, hw.1.2⟩, hw.2⟩

theorem tabWfAbove_filter [DecidableEq α] (d : Nat → α) (p : Nat × α → Bool) (t : Tab α) :
    ∀ b, tabWfAbove d b t = true → tabWfAbove d b (t.filter p) = true := by
  induction t with
  | nil => intro b h; exact h
  | cons e r ih =>
    obtain ⟨i, w⟩ := e
    intro b h
    simp only [tabWfAbove, Bool.and_eq_true, decide_eq_true_eq] at h
    rw [List.filter_cons]
    split
    · simp only [tabWfAbove, Bool.and_eq_true, decide_eq_true_eq]
      exact ⟨h.1, ih _ h.2⟩
    · exact tabWfAbove_mono d (Nat.le_succ_of_le h.1.1) _ (ih _ h.2)

theorem tabWfAbove_insert [DecidableEq α] (d : Nat → α) (k : Nat) (v : α) (hv : v ≠ d k) (t : Tab α) :
    ∀ b, b ≤ k → tabWfAbove d b t = true → tabWfAbove d b (tabInsert k v t) = true := by
  induction t with
  | nil => intro b hb _; simp [tabInsert, tabWfAbove, hb, hv]
  | cons e r ih =>
    obtain ⟨i, w⟩ := e
    intro b hb h
    simp only [tabWfAbove, Bool.and_eq_true, decide_eq_true_eq] at h
    simp only [tabInsert]
    split
    · rename_i hk
      simp only [tabWfAbove, Bool.and_eq_true, decide_eq_true_eq]
      exact ⟨⟨hb, hv⟩, ⟨hk, h.1.2⟩, h.2⟩
    · split
      · rename_i hk
        subst hk
        simp only [tabWfAbove, Bool.and_eq_true, decide_eq_true_eq]
        exact ⟨⟨hb, hv⟩, h.2⟩
      · simp only [tabWfAbove, Bool.and_eq_true, decide_eq_true_eq]
        exact ⟨h.1, ih _ (by omega) h.2⟩

/-- Every table operation keeps the canonical form. -/
theorem tabWf_filter [DecidableEq α] (d : Nat → α) (p : Nat × α → Bool) {t : Tab α} (h : tabWf d t = true) :
    tabWf d (t.filter p) = true := tabWfAbove_filter d p t 0 h

theorem tabWf_erase [DecidableEq α] (d : Nat → α) (k : Nat) {t : Tab α} (h : tabWf d t = true) :
    tabWf d (tabErase k t) = true := tabWf_filter d _ h

theorem tabWf_drop [DecidableEq α] (d : Nat → α) (p : Nat → Bool) {t : Tab α} (h : tabWf d t = true) :
    tabWf d (tabDrop p t) = true := tabWf_filter d _ h

theorem tabWf_set [DecidableEq α] (d : Nat → α) (k : Nat) (v : α) {t : Tab α} (h : tabWf d t = true) :
    tabWf d (tabSet d k v t) = true := by
  unfold tabSet
  split
  · exact tabWf_erase d k h
  · rename_i hv
    exact tabWfAbove_insert d k v hv t 0 (Nat.zero_le _) h

/-- Entries of a canonical table after a write are entries of it or the written one. -/
theorem mem_tabInsert (k : Nat) (v : α) (t : Tab α) {e : Nat × α} (h : e ∈ tabInsert k v t) : e = (k, v) ∨ e ∈ t := by
  induction t with
  | nil => simp [tabInsert] at h; exact .inl h
  | cons f r ih =>
    obtain ⟨i, w⟩ := f
    simp only [tabInsert] at h
    split at h
    · simpa using h
    · split at h
      · simp at h ⊢
        rcases h with h | h
        · exact .inl h
        · exact .inr (.inr h)
      · simp at h ⊢
        rcases h with h | h
        · exact .inr (.inl h)
        · rcases ih h with h | h
          · exact .inl h
          · exact .inr (.inr h)

theorem mem_tabSet [DecidableEq α] (d : Nat → α) (k : Nat) (v : α) (t : Tab α) {e : Nat × α} (h : e ∈ tabSet d k v t) :
    e = (k, v) ∨ e ∈ t := by
  unfold tabSet at h
  split at h
  · exact .inr (List.mem_of_mem_filter h)
  · exact mem_tabInsert k v t h

end Sys2Proof.Laws
end

