-- ==== Sys2Proof/Laws/State.lean ====
section
/-! SUPPORT. What each update of the state leaves and what it writes, one lemma a field, so that no proof unfolds a record
update. -/

namespace Sys2Proof.Laws

open Sys2Proof Sys2Proof.Machine

section

variable (s : State)

@[simp] theorem setReg_pending (a : Nat) (v : Word) : (s.setReg a v).pending = s.pending := rfl
@[simp] theorem setReg_fuse (a : Nat) (v : Word) : (s.setReg a v).fuse = s.fuse := rfl
@[simp] theorem setReg_out (a : Nat) (v : Word) : (s.setReg a v).out = s.out := rfl
@[simp] theorem setReg_host (a : Nat) (v : Word) : (s.setReg a v).host = s.host := rfl
@[simp] theorem setReg_parts (a : Nat) (v : Word) : (s.setReg a v).parts = s.parts := rfl
@[simp] theorem setReg_doms (a : Nat) (v : Word) : (s.setReg a v).doms = s.doms := rfl
@[simp] theorem setReg_queues (a : Nat) (v : Word) : (s.setReg a v).queues = s.queues := rfl
@[simp] theorem setReg_plan (a : Nat) (v : Word) : (s.setReg a v).plan = s.plan := rfl
@[simp] theorem setReg_toll (a : Nat) (v : Word) : (s.setReg a v).toll = s.toll := rfl
@[simp] theorem setReg_obs (a : Nat) (v : Word) : (s.setReg a v).obs = s.obs := rfl
@[simp] theorem setReg_safe (a : Nat) (v : Word) : (s.setReg a v).safe = s.safe := rfl
@[simp] theorem setReg_pwr (a : Nat) (v : Word) : (s.setReg a v).pwr = s.pwr := rfl
@[simp] theorem setReg_holder (a : Nat) (v : Word) : (s.setReg a v).holder = s.holder := rfl
@[simp] theorem setReg_keys (a : Nat) (v : Word) : (s.setReg a v).keys = s.keys := rfl
@[simp] theorem setReg_trust (a : Nat) (v : Word) : (s.setReg a v).trust = s.trust := rfl
@[simp] theorem setReg_mem (a : Nat) (v : Word) : (s.setReg a v).mem = s.mem := rfl
@[simp] theorem setReg_dmas (a : Nat) (v : Word) : (s.setReg a v).dmas = s.dmas := rfl
@[simp] theorem setReg_xing (a : Nat) (v : Word) : (s.setReg a v).xing = s.xing := rfl
@[simp] theorem setReg_outq (a : Nat) (v : Word) : (s.setReg a v).outq = s.outq := rfl
@[simp] theorem setReg_fab (a : Nat) (v : Word) : (s.setReg a v).fab = s.fab := rfl
@[simp] theorem setReg_ctrs (a : Nat) (v : Word) : (s.setReg a v).ctrs = s.ctrs := rfl
@[simp] theorem setReg_clap (a : Nat) (v : Word) : (s.setReg a v).clap = s.clap := rfl
@[simp] theorem setReg_links (a : Nat) (v : Word) : (s.setReg a v).links = s.links := rfl
@[simp] theorem setReg_streams (a : Nat) (v : Word) : (s.setReg a v).streams = s.streams := rfl
@[simp] theorem setReg_caps (a : Nat) (v : Word) : (s.setReg a v).caps = s.caps := rfl
@[simp] theorem setReg_boot (a : Nat) (v : Word) : (s.setReg a v).boot = s.boot := rfl
@[simp] theorem setReg_jtag (a : Nat) (v : Word) : (s.setReg a v).jtag = s.jtag := rfl
@[simp] theorem setReg_freeCtr (a : Nat) (v : Word) : (s.setReg a v).freeCtr = s.freeCtr := rfl

@[simp] theorem dropRegs_pending (p : Nat → Bool) : (s.dropRegs p).pending = s.pending := rfl
@[simp] theorem dropRegs_fuse (p : Nat → Bool) : (s.dropRegs p).fuse = s.fuse := rfl
@[simp] theorem dropRegs_out (p : Nat → Bool) : (s.dropRegs p).out = s.out := rfl
@[simp] theorem dropRegs_host (p : Nat → Bool) : (s.dropRegs p).host = s.host := rfl
@[simp] theorem dropRegs_parts (p : Nat → Bool) : (s.dropRegs p).parts = s.parts := rfl
@[simp] theorem dropRegs_doms (p : Nat → Bool) : (s.dropRegs p).doms = s.doms := rfl
@[simp] theorem dropRegs_queues (p : Nat → Bool) : (s.dropRegs p).queues = s.queues := rfl
@[simp] theorem dropRegs_plan (p : Nat → Bool) : (s.dropRegs p).plan = s.plan := rfl
@[simp] theorem dropRegs_toll (p : Nat → Bool) : (s.dropRegs p).toll = s.toll := rfl
@[simp] theorem dropRegs_obs (p : Nat → Bool) : (s.dropRegs p).obs = s.obs := rfl
@[simp] theorem dropRegs_safe (p : Nat → Bool) : (s.dropRegs p).safe = s.safe := rfl
@[simp] theorem dropRegs_pwr (p : Nat → Bool) : (s.dropRegs p).pwr = s.pwr := rfl
@[simp] theorem dropRegs_holder (p : Nat → Bool) : (s.dropRegs p).holder = s.holder := rfl
@[simp] theorem dropRegs_keys (p : Nat → Bool) : (s.dropRegs p).keys = s.keys := rfl
@[simp] theorem dropRegs_trust (p : Nat → Bool) : (s.dropRegs p).trust = s.trust := rfl
@[simp] theorem dropRegs_mem (p : Nat → Bool) : (s.dropRegs p).mem = s.mem := rfl
@[simp] theorem dropRegs_dmas (p : Nat → Bool) : (s.dropRegs p).dmas = s.dmas := rfl
@[simp] theorem dropRegs_xing (p : Nat → Bool) : (s.dropRegs p).xing = s.xing := rfl
@[simp] theorem dropRegs_outq (p : Nat → Bool) : (s.dropRegs p).outq = s.outq := rfl
@[simp] theorem dropRegs_fab (p : Nat → Bool) : (s.dropRegs p).fab = s.fab := rfl
@[simp] theorem dropRegs_ctrs (p : Nat → Bool) : (s.dropRegs p).ctrs = s.ctrs := rfl
@[simp] theorem dropRegs_clap (p : Nat → Bool) : (s.dropRegs p).clap = s.clap := rfl
@[simp] theorem dropRegs_links (p : Nat → Bool) : (s.dropRegs p).links = s.links := rfl
@[simp] theorem dropRegs_streams (p : Nat → Bool) : (s.dropRegs p).streams = s.streams := rfl
@[simp] theorem dropRegs_caps (p : Nat → Bool) : (s.dropRegs p).caps = s.caps := rfl
@[simp] theorem dropRegs_boot (p : Nat → Bool) : (s.dropRegs p).boot = s.boot := rfl
@[simp] theorem dropRegs_jtag (p : Nat → Bool) : (s.dropRegs p).jtag = s.jtag := rfl
@[simp] theorem dropRegs_freeCtr (p : Nat → Bool) : (s.dropRegs p).freeCtr = s.freeCtr := rfl

@[simp] theorem emit_pending (e : Emit) : (s.emit e).pending = s.pending := rfl
@[simp] theorem emit_fuse (e : Emit) : (s.emit e).fuse = s.fuse := rfl
@[simp] theorem emit_regs (e : Emit) : (s.emit e).regs = s.regs := rfl
@[simp] theorem emit_host (e : Emit) : (s.emit e).host = s.host := rfl
@[simp] theorem emit_parts (e : Emit) : (s.emit e).parts = s.parts := rfl
@[simp] theorem emit_doms (e : Emit) : (s.emit e).doms = s.doms := rfl
@[simp] theorem emit_queues (e : Emit) : (s.emit e).queues = s.queues := rfl
@[simp] theorem emit_plan (e : Emit) : (s.emit e).plan = s.plan := rfl
@[simp] theorem emit_toll (e : Emit) : (s.emit e).toll = s.toll := rfl
@[simp] theorem emit_obs (e : Emit) : (s.emit e).obs = s.obs := rfl
@[simp] theorem emit_safe (e : Emit) : (s.emit e).safe = s.safe := rfl
@[simp] theorem emit_pwr (e : Emit) : (s.emit e).pwr = s.pwr := rfl
@[simp] theorem emit_holder (e : Emit) : (s.emit e).holder = s.holder := rfl
@[simp] theorem emit_keys (e : Emit) : (s.emit e).keys = s.keys := rfl
@[simp] theorem emit_trust (e : Emit) : (s.emit e).trust = s.trust := rfl
@[simp] theorem emit_mem (e : Emit) : (s.emit e).mem = s.mem := rfl
@[simp] theorem emit_dmas (e : Emit) : (s.emit e).dmas = s.dmas := rfl
@[simp] theorem emit_xing (e : Emit) : (s.emit e).xing = s.xing := rfl
@[simp] theorem emit_outq (e : Emit) : (s.emit e).outq = s.outq := rfl
@[simp] theorem emit_fab (e : Emit) : (s.emit e).fab = s.fab := rfl
@[simp] theorem emit_ctrs (e : Emit) : (s.emit e).ctrs = s.ctrs := rfl
@[simp] theorem emit_clap (e : Emit) : (s.emit e).clap = s.clap := rfl
@[simp] theorem emit_links (e : Emit) : (s.emit e).links = s.links := rfl
@[simp] theorem emit_streams (e : Emit) : (s.emit e).streams = s.streams := rfl
@[simp] theorem emit_caps (e : Emit) : (s.emit e).caps = s.caps := rfl
@[simp] theorem emit_boot (e : Emit) : (s.emit e).boot = s.boot := rfl
@[simp] theorem emit_jtag (e : Emit) : (s.emit e).jtag = s.jtag := rfl
@[simp] theorem emit_freeCtr (e : Emit) : (s.emit e).freeCtr = s.freeCtr := rfl

@[simp] theorem bump_pending  : (s.bump).pending = s.pending := rfl
@[simp] theorem bump_fuse  : (s.bump).fuse = s.fuse := rfl
@[simp] theorem bump_regs  : (s.bump).regs = s.regs := rfl
@[simp] theorem bump_out  : (s.bump).out = s.out := rfl
@[simp] theorem bump_host  : (s.bump).host = s.host := rfl
@[simp] theorem bump_parts  : (s.bump).parts = s.parts := rfl
@[simp] theorem bump_doms  : (s.bump).doms = s.doms := rfl
@[simp] theorem bump_queues  : (s.bump).queues = s.queues := rfl
@[simp] theorem bump_plan  : (s.bump).plan = s.plan := rfl
@[simp] theorem bump_toll  : (s.bump).toll = s.toll := rfl
@[simp] theorem bump_obs  : (s.bump).obs = s.obs := rfl
@[simp] theorem bump_safe  : (s.bump).safe = s.safe := rfl
@[simp] theorem bump_pwr  : (s.bump).pwr = s.pwr := rfl
@[simp] theorem bump_holder  : (s.bump).holder = s.holder := rfl
@[simp] theorem bump_keys  : (s.bump).keys = s.keys := rfl
@[simp] theorem bump_trust  : (s.bump).trust = s.trust := rfl
@[simp] theorem bump_mem  : (s.bump).mem = s.mem := rfl
@[simp] theorem bump_dmas  : (s.bump).dmas = s.dmas := rfl
@[simp] theorem bump_xing  : (s.bump).xing = s.xing := rfl
@[simp] theorem bump_outq  : (s.bump).outq = s.outq := rfl
@[simp] theorem bump_fab  : (s.bump).fab = s.fab := rfl
@[simp] theorem bump_ctrs  : (s.bump).ctrs = s.ctrs := rfl
@[simp] theorem bump_clap  : (s.bump).clap = s.clap := rfl
@[simp] theorem bump_links  : (s.bump).links = s.links := rfl
@[simp] theorem bump_streams  : (s.bump).streams = s.streams := rfl
@[simp] theorem bump_caps  : (s.bump).caps = s.caps := rfl
@[simp] theorem bump_boot  : (s.bump).boot = s.boot := rfl
@[simp] theorem bump_jtag  : (s.bump).jtag = s.jtag := rfl

@[simp] theorem setFnRt_pending (f : Nat) (r : FnRt) : (setFnRt f r s).pending = s.pending := rfl
@[simp] theorem setFnRt_fuse (f : Nat) (r : FnRt) : (setFnRt f r s).fuse = s.fuse := rfl
@[simp] theorem setFnRt_regs (f : Nat) (r : FnRt) : (setFnRt f r s).regs = s.regs := rfl
@[simp] theorem setFnRt_out (f : Nat) (r : FnRt) : (setFnRt f r s).out = s.out := rfl
@[simp] theorem setFnRt_parts (f : Nat) (r : FnRt) : (setFnRt f r s).parts = s.parts := rfl
@[simp] theorem setFnRt_doms (f : Nat) (r : FnRt) : (setFnRt f r s).doms = s.doms := rfl
@[simp] theorem setFnRt_queues (f : Nat) (r : FnRt) : (setFnRt f r s).queues = s.queues := rfl
@[simp] theorem setFnRt_plan (f : Nat) (r : FnRt) : (setFnRt f r s).plan = s.plan := rfl
@[simp] theorem setFnRt_toll (f : Nat) (r : FnRt) : (setFnRt f r s).toll = s.toll := rfl
@[simp] theorem setFnRt_obs (f : Nat) (r : FnRt) : (setFnRt f r s).obs = s.obs := rfl
@[simp] theorem setFnRt_safe (f : Nat) (r : FnRt) : (setFnRt f r s).safe = s.safe := rfl
@[simp] theorem setFnRt_pwr (f : Nat) (r : FnRt) : (setFnRt f r s).pwr = s.pwr := rfl
@[simp] theorem setFnRt_holder (f : Nat) (r : FnRt) : (setFnRt f r s).holder = s.holder := rfl
@[simp] theorem setFnRt_keys (f : Nat) (r : FnRt) : (setFnRt f r s).keys = s.keys := rfl
@[simp] theorem setFnRt_trust (f : Nat) (r : FnRt) : (setFnRt f r s).trust = s.trust := rfl
@[simp] theorem setFnRt_mem (f : Nat) (r : FnRt) : (setFnRt f r s).mem = s.mem := rfl
@[simp] theorem setFnRt_dmas (f : Nat) (r : FnRt) : (setFnRt f r s).dmas = s.dmas := rfl
@[simp] theorem setFnRt_xing (f : Nat) (r : FnRt) : (setFnRt f r s).xing = s.xing := rfl
@[simp] theorem setFnRt_outq (f : Nat) (r : FnRt) : (setFnRt f r s).outq = s.outq := rfl
@[simp] theorem setFnRt_fab (f : Nat) (r : FnRt) : (setFnRt f r s).fab = s.fab := rfl
@[simp] theorem setFnRt_ctrs (f : Nat) (r : FnRt) : (setFnRt f r s).ctrs = s.ctrs := rfl
@[simp] theorem setFnRt_clap (f : Nat) (r : FnRt) : (setFnRt f r s).clap = s.clap := rfl
@[simp] theorem setFnRt_links (f : Nat) (r : FnRt) : (setFnRt f r s).links = s.links := rfl
@[simp] theorem setFnRt_streams (f : Nat) (r : FnRt) : (setFnRt f r s).streams = s.streams := rfl
@[simp] theorem setFnRt_caps (f : Nat) (r : FnRt) : (setFnRt f r s).caps = s.caps := rfl
@[simp] theorem setFnRt_boot (f : Nat) (r : FnRt) : (setFnRt f r s).boot = s.boot := rfl
@[simp] theorem setFnRt_jtag (f : Nat) (r : FnRt) : (setFnRt f r s).jtag = s.jtag := rfl
@[simp] theorem setFnRt_freeCtr (f : Nat) (r : FnRt) : (setFnRt f r s).freeCtr = s.freeCtr := rfl
@[simp] theorem setFnRt_host_outst (f : Nat) (r : FnRt) : (setFnRt f r s).host.outst = s.host.outst := rfl
@[simp] theorem setFnRt_host_numVf (f : Nat) (r : FnRt) : (setFnRt f r s).host.numVf = s.host.numVf := rfl
@[simp] theorem setFnRt_host_cfgReady (f : Nat) (r : FnRt) : (setFnRt f r s).host.cfgReady = s.host.cfgReady := rfl

@[simp] theorem setOutst_pending (l : List Outst) : (setOutst l s).pending = s.pending := rfl
@[simp] theorem setOutst_fuse (l : List Outst) : (setOutst l s).fuse = s.fuse := rfl
@[simp] theorem setOutst_regs (l : List Outst) : (setOutst l s).regs = s.regs := rfl
@[simp] theorem setOutst_out (l : List Outst) : (setOutst l s).out = s.out := rfl
@[simp] theorem setOutst_parts (l : List Outst) : (setOutst l s).parts = s.parts := rfl
@[simp] theorem setOutst_doms (l : List Outst) : (setOutst l s).doms = s.doms := rfl
@[simp] theorem setOutst_queues (l : List Outst) : (setOutst l s).queues = s.queues := rfl
@[simp] theorem setOutst_plan (l : List Outst) : (setOutst l s).plan = s.plan := rfl
@[simp] theorem setOutst_toll (l : List Outst) : (setOutst l s).toll = s.toll := rfl
@[simp] theorem setOutst_obs (l : List Outst) : (setOutst l s).obs = s.obs := rfl
@[simp] theorem setOutst_safe (l : List Outst) : (setOutst l s).safe = s.safe := rfl
@[simp] theorem setOutst_pwr (l : List Outst) : (setOutst l s).pwr = s.pwr := rfl
@[simp] theorem setOutst_holder (l : List Outst) : (setOutst l s).holder = s.holder := rfl
@[simp] theorem setOutst_keys (l : List Outst) : (setOutst l s).keys = s.keys := rfl
@[simp] theorem setOutst_trust (l : List Outst) : (setOutst l s).trust = s.trust := rfl
@[simp] theorem setOutst_mem (l : List Outst) : (setOutst l s).mem = s.mem := rfl
@[simp] theorem setOutst_dmas (l : List Outst) : (setOutst l s).dmas = s.dmas := rfl
@[simp] theorem setOutst_xing (l : List Outst) : (setOutst l s).xing = s.xing := rfl
@[simp] theorem setOutst_outq (l : List Outst) : (setOutst l s).outq = s.outq := rfl
@[simp] theorem setOutst_fab (l : List Outst) : (setOutst l s).fab = s.fab := rfl
@[simp] theorem setOutst_ctrs (l : List Outst) : (setOutst l s).ctrs = s.ctrs := rfl
@[simp] theorem setOutst_clap (l : List Outst) : (setOutst l s).clap = s.clap := rfl
@[simp] theorem setOutst_links (l : List Outst) : (setOutst l s).links = s.links := rfl
@[simp] theorem setOutst_streams (l : List Outst) : (setOutst l s).streams = s.streams := rfl
@[simp] theorem setOutst_caps (l : List Outst) : (setOutst l s).caps = s.caps := rfl
@[simp] theorem setOutst_boot (l : List Outst) : (setOutst l s).boot = s.boot := rfl
@[simp] theorem setOutst_jtag (l : List Outst) : (setOutst l s).jtag = s.jtag := rfl
@[simp] theorem setOutst_freeCtr (l : List Outst) : (setOutst l s).freeCtr = s.freeCtr := rfl
@[simp] theorem setOutst_host_fns (l : List Outst) : (setOutst l s).host.fns = s.host.fns := rfl
@[simp] theorem setOutst_host_numVf (l : List Outst) : (setOutst l s).host.numVf = s.host.numVf := rfl
@[simp] theorem setOutst_host_cfgReady (l : List Outst) : (setOutst l s).host.cfgReady = s.host.cfgReady := rfl

@[simp] theorem setPartRt_pending (p : Nat) (r : PartRt) : (setPartRt p r s).pending = s.pending := rfl
@[simp] theorem setPartRt_fuse (p : Nat) (r : PartRt) : (setPartRt p r s).fuse = s.fuse := rfl
@[simp] theorem setPartRt_regs (p : Nat) (r : PartRt) : (setPartRt p r s).regs = s.regs := rfl
@[simp] theorem setPartRt_out (p : Nat) (r : PartRt) : (setPartRt p r s).out = s.out := rfl
@[simp] theorem setPartRt_host (p : Nat) (r : PartRt) : (setPartRt p r s).host = s.host := rfl
@[simp] theorem setPartRt_doms (p : Nat) (r : PartRt) : (setPartRt p r s).doms = s.doms := rfl
@[simp] theorem setPartRt_queues (p : Nat) (r : PartRt) : (setPartRt p r s).queues = s.queues := rfl
@[simp] theorem setPartRt_plan (p : Nat) (r : PartRt) : (setPartRt p r s).plan = s.plan := rfl
@[simp] theorem setPartRt_toll (p : Nat) (r : PartRt) : (setPartRt p r s).toll = s.toll := rfl
@[simp] theorem setPartRt_obs (p : Nat) (r : PartRt) : (setPartRt p r s).obs = s.obs := rfl
@[simp] theorem setPartRt_safe (p : Nat) (r : PartRt) : (setPartRt p r s).safe = s.safe := rfl
@[simp] theorem setPartRt_pwr (p : Nat) (r : PartRt) : (setPartRt p r s).pwr = s.pwr := rfl
@[simp] theorem setPartRt_holder (p : Nat) (r : PartRt) : (setPartRt p r s).holder = s.holder := rfl
@[simp] theorem setPartRt_keys (p : Nat) (r : PartRt) : (setPartRt p r s).keys = s.keys := rfl
@[simp] theorem setPartRt_trust (p : Nat) (r : PartRt) : (setPartRt p r s).trust = s.trust := rfl
@[simp] theorem setPartRt_mem (p : Nat) (r : PartRt) : (setPartRt p r s).mem = s.mem := rfl
@[simp] theorem setPartRt_dmas (p : Nat) (r : PartRt) : (setPartRt p r s).dmas = s.dmas := rfl
@[simp] theorem setPartRt_xing (p : Nat) (r : PartRt) : (setPartRt p r s).xing = s.xing := rfl
@[simp] theorem setPartRt_outq (p : Nat) (r : PartRt) : (setPartRt p r s).outq = s.outq := rfl
@[simp] theorem setPartRt_fab (p : Nat) (r : PartRt) : (setPartRt p r s).fab = s.fab := rfl
@[simp] theorem setPartRt_ctrs (p : Nat) (r : PartRt) : (setPartRt p r s).ctrs = s.ctrs := rfl
@[simp] theorem setPartRt_clap (p : Nat) (r : PartRt) : (setPartRt p r s).clap = s.clap := rfl
@[simp] theorem setPartRt_links (p : Nat) (r : PartRt) : (setPartRt p r s).links = s.links := rfl
@[simp] theorem setPartRt_streams (p : Nat) (r : PartRt) : (setPartRt p r s).streams = s.streams := rfl
@[simp] theorem setPartRt_caps (p : Nat) (r : PartRt) : (setPartRt p r s).caps = s.caps := rfl
@[simp] theorem setPartRt_boot (p : Nat) (r : PartRt) : (setPartRt p r s).boot = s.boot := rfl
@[simp] theorem setPartRt_jtag (p : Nat) (r : PartRt) : (setPartRt p r s).jtag = s.jtag := rfl
@[simp] theorem setPartRt_freeCtr (p : Nat) (r : PartRt) : (setPartRt p r s).freeCtr = s.freeCtr := rfl

@[simp] theorem setDomRt_pending (d : Nat) (r : DomRt) : (setDomRt d r s).pending = s.pending := rfl
@[simp] theorem setDomRt_fuse (d : Nat) (r : DomRt) : (setDomRt d r s).fuse = s.fuse := rfl
@[simp] theorem setDomRt_regs (d : Nat) (r : DomRt) : (setDomRt d r s).regs = s.regs := rfl
@[simp] theorem setDomRt_out (d : Nat) (r : DomRt) : (setDomRt d r s).out = s.out := rfl
@[simp] theorem setDomRt_host (d : Nat) (r : DomRt) : (setDomRt d r s).host = s.host := rfl
@[simp] theorem setDomRt_parts (d : Nat) (r : DomRt) : (setDomRt d r s).parts = s.parts := rfl
@[simp] theorem setDomRt_queues (d : Nat) (r : DomRt) : (setDomRt d r s).queues = s.queues := rfl
@[simp] theorem setDomRt_plan (d : Nat) (r : DomRt) : (setDomRt d r s).plan = s.plan := rfl
@[simp] theorem setDomRt_toll (d : Nat) (r : DomRt) : (setDomRt d r s).toll = s.toll := rfl
@[simp] theorem setDomRt_obs (d : Nat) (r : DomRt) : (setDomRt d r s).obs = s.obs := rfl
@[simp] theorem setDomRt_safe (d : Nat) (r : DomRt) : (setDomRt d r s).safe = s.safe := rfl
@[simp] theorem setDomRt_pwr (d : Nat) (r : DomRt) : (setDomRt d r s).pwr = s.pwr := rfl
@[simp] theorem setDomRt_holder (d : Nat) (r : DomRt) : (setDomRt d r s).holder = s.holder := rfl
@[simp] theorem setDomRt_keys (d : Nat) (r : DomRt) : (setDomRt d r s).keys = s.keys := rfl
@[simp] theorem setDomRt_trust (d : Nat) (r : DomRt) : (setDomRt d r s).trust = s.trust := rfl
@[simp] theorem setDomRt_mem (d : Nat) (r : DomRt) : (setDomRt d r s).mem = s.mem := rfl
@[simp] theorem setDomRt_dmas (d : Nat) (r : DomRt) : (setDomRt d r s).dmas = s.dmas := rfl
@[simp] theorem setDomRt_xing (d : Nat) (r : DomRt) : (setDomRt d r s).xing = s.xing := rfl
@[simp] theorem setDomRt_outq (d : Nat) (r : DomRt) : (setDomRt d r s).outq = s.outq := rfl
@[simp] theorem setDomRt_fab (d : Nat) (r : DomRt) : (setDomRt d r s).fab = s.fab := rfl
@[simp] theorem setDomRt_ctrs (d : Nat) (r : DomRt) : (setDomRt d r s).ctrs = s.ctrs := rfl
@[simp] theorem setDomRt_clap (d : Nat) (r : DomRt) : (setDomRt d r s).clap = s.clap := rfl
@[simp] theorem setDomRt_links (d : Nat) (r : DomRt) : (setDomRt d r s).links = s.links := rfl
@[simp] theorem setDomRt_streams (d : Nat) (r : DomRt) : (setDomRt d r s).streams = s.streams := rfl
@[simp] theorem setDomRt_caps (d : Nat) (r : DomRt) : (setDomRt d r s).caps = s.caps := rfl
@[simp] theorem setDomRt_boot (d : Nat) (r : DomRt) : (setDomRt d r s).boot = s.boot := rfl
@[simp] theorem setDomRt_jtag (d : Nat) (r : DomRt) : (setDomRt d r s).jtag = s.jtag := rfl
@[simp] theorem setDomRt_freeCtr (d : Nat) (r : DomRt) : (setDomRt d r s).freeCtr = s.freeCtr := rfl

@[simp] theorem setQueueRt_pending (q : Nat) (r : QueueRt) : (setQueueRt q r s).pending = s.pending := rfl
@[simp] theorem setQueueRt_fuse (q : Nat) (r : QueueRt) : (setQueueRt q r s).fuse = s.fuse := rfl
@[simp] theorem setQueueRt_regs (q : Nat) (r : QueueRt) : (setQueueRt q r s).regs = s.regs := rfl
@[simp] theorem setQueueRt_out (q : Nat) (r : QueueRt) : (setQueueRt q r s).out = s.out := rfl
@[simp] theorem setQueueRt_host (q : Nat) (r : QueueRt) : (setQueueRt q r s).host = s.host := rfl
@[simp] theorem setQueueRt_parts (q : Nat) (r : QueueRt) : (setQueueRt q r s).parts = s.parts := rfl
@[simp] theorem setQueueRt_doms (q : Nat) (r : QueueRt) : (setQueueRt q r s).doms = s.doms := rfl
@[simp] theorem setQueueRt_plan (q : Nat) (r : QueueRt) : (setQueueRt q r s).plan = s.plan := rfl
@[simp] theorem setQueueRt_toll (q : Nat) (r : QueueRt) : (setQueueRt q r s).toll = s.toll := rfl
@[simp] theorem setQueueRt_obs (q : Nat) (r : QueueRt) : (setQueueRt q r s).obs = s.obs := rfl
@[simp] theorem setQueueRt_safe (q : Nat) (r : QueueRt) : (setQueueRt q r s).safe = s.safe := rfl
@[simp] theorem setQueueRt_pwr (q : Nat) (r : QueueRt) : (setQueueRt q r s).pwr = s.pwr := rfl
@[simp] theorem setQueueRt_holder (q : Nat) (r : QueueRt) : (setQueueRt q r s).holder = s.holder := rfl
@[simp] theorem setQueueRt_keys (q : Nat) (r : QueueRt) : (setQueueRt q r s).keys = s.keys := rfl
@[simp] theorem setQueueRt_trust (q : Nat) (r : QueueRt) : (setQueueRt q r s).trust = s.trust := rfl
@[simp] theorem setQueueRt_mem (q : Nat) (r : QueueRt) : (setQueueRt q r s).mem = s.mem := rfl
@[simp] theorem setQueueRt_dmas (q : Nat) (r : QueueRt) : (setQueueRt q r s).dmas = s.dmas := rfl
@[simp] theorem setQueueRt_xing (q : Nat) (r : QueueRt) : (setQueueRt q r s).xing = s.xing := rfl
@[simp] theorem setQueueRt_outq (q : Nat) (r : QueueRt) : (setQueueRt q r s).outq = s.outq := rfl
@[simp] theorem setQueueRt_fab (q : Nat) (r : QueueRt) : (setQueueRt q r s).fab = s.fab := rfl
@[simp] theorem setQueueRt_ctrs (q : Nat) (r : QueueRt) : (setQueueRt q r s).ctrs = s.ctrs := rfl
@[simp] theorem setQueueRt_clap (q : Nat) (r : QueueRt) : (setQueueRt q r s).clap = s.clap := rfl
@[simp] theorem setQueueRt_links (q : Nat) (r : QueueRt) : (setQueueRt q r s).links = s.links := rfl
@[simp] theorem setQueueRt_streams (q : Nat) (r : QueueRt) : (setQueueRt q r s).streams = s.streams := rfl
@[simp] theorem setQueueRt_caps (q : Nat) (r : QueueRt) : (setQueueRt q r s).caps = s.caps := rfl
@[simp] theorem setQueueRt_boot (q : Nat) (r : QueueRt) : (setQueueRt q r s).boot = s.boot := rfl
@[simp] theorem setQueueRt_jtag (q : Nat) (r : QueueRt) : (setQueueRt q r s).jtag = s.jtag := rfl
@[simp] theorem setQueueRt_freeCtr (q : Nat) (r : QueueRt) : (setQueueRt q r s).freeCtr = s.freeCtr := rfl

@[simp] theorem setChRt_pending (n : Nat) (r : ChRt) : (setChRt n r s).pending = s.pending := rfl
@[simp] theorem setChRt_fuse (n : Nat) (r : ChRt) : (setChRt n r s).fuse = s.fuse := rfl
@[simp] theorem setChRt_regs (n : Nat) (r : ChRt) : (setChRt n r s).regs = s.regs := rfl
@[simp] theorem setChRt_out (n : Nat) (r : ChRt) : (setChRt n r s).out = s.out := rfl
@[simp] theorem setChRt_host (n : Nat) (r : ChRt) : (setChRt n r s).host = s.host := rfl
@[simp] theorem setChRt_parts (n : Nat) (r : ChRt) : (setChRt n r s).parts = s.parts := rfl
@[simp] theorem setChRt_doms (n : Nat) (r : ChRt) : (setChRt n r s).doms = s.doms := rfl
@[simp] theorem setChRt_queues (n : Nat) (r : ChRt) : (setChRt n r s).queues = s.queues := rfl
@[simp] theorem setChRt_plan (n : Nat) (r : ChRt) : (setChRt n r s).plan = s.plan := rfl
@[simp] theorem setChRt_toll (n : Nat) (r : ChRt) : (setChRt n r s).toll = s.toll := rfl
@[simp] theorem setChRt_safe (n : Nat) (r : ChRt) : (setChRt n r s).safe = s.safe := rfl
@[simp] theorem setChRt_pwr (n : Nat) (r : ChRt) : (setChRt n r s).pwr = s.pwr := rfl
@[simp] theorem setChRt_holder (n : Nat) (r : ChRt) : (setChRt n r s).holder = s.holder := rfl
@[simp] theorem setChRt_keys (n : Nat) (r : ChRt) : (setChRt n r s).keys = s.keys := rfl
@[simp] theorem setChRt_trust (n : Nat) (r : ChRt) : (setChRt n r s).trust = s.trust := rfl
@[simp] theorem setChRt_mem (n : Nat) (r : ChRt) : (setChRt n r s).mem = s.mem := rfl
@[simp] theorem setChRt_dmas (n : Nat) (r : ChRt) : (setChRt n r s).dmas = s.dmas := rfl
@[simp] theorem setChRt_xing (n : Nat) (r : ChRt) : (setChRt n r s).xing = s.xing := rfl
@[simp] theorem setChRt_outq (n : Nat) (r : ChRt) : (setChRt n r s).outq = s.outq := rfl
@[simp] theorem setChRt_fab (n : Nat) (r : ChRt) : (setChRt n r s).fab = s.fab := rfl
@[simp] theorem setChRt_ctrs (n : Nat) (r : ChRt) : (setChRt n r s).ctrs = s.ctrs := rfl
@[simp] theorem setChRt_clap (n : Nat) (r : ChRt) : (setChRt n r s).clap = s.clap := rfl
@[simp] theorem setChRt_links (n : Nat) (r : ChRt) : (setChRt n r s).links = s.links := rfl
@[simp] theorem setChRt_streams (n : Nat) (r : ChRt) : (setChRt n r s).streams = s.streams := rfl
@[simp] theorem setChRt_caps (n : Nat) (r : ChRt) : (setChRt n r s).caps = s.caps := rfl
@[simp] theorem setChRt_boot (n : Nat) (r : ChRt) : (setChRt n r s).boot = s.boot := rfl
@[simp] theorem setChRt_jtag (n : Nat) (r : ChRt) : (setChRt n r s).jtag = s.jtag := rfl
@[simp] theorem setChRt_freeCtr (n : Nat) (r : ChRt) : (setChRt n r s).freeCtr = s.freeCtr := rfl
@[simp] theorem setChRt_obs_staged (n : Nat) (r : ChRt) : (setChRt n r s).obs.staged = s.obs.staged := rfl
@[simp] theorem setChRt_obs_taps (n : Nat) (r : ChRt) : (setChRt n r s).obs.taps = s.obs.taps := rfl
@[simp] theorem setChRt_obs_lastPar (n : Nat) (r : ChRt) : (setChRt n r s).obs.lastPar = s.obs.lastPar := rfl
@[simp] theorem setChRt_obs_lastSer (n : Nat) (r : ChRt) : (setChRt n r s).obs.lastSer = s.obs.lastSer := rfl
@[simp] theorem setChRt_obs_amcnt (n : Nat) (r : ChRt) : (setChRt n r s).obs.amcnt = s.obs.amcnt := rfl
@[simp] theorem setChRt_obs_rows (n : Nat) (r : ChRt) : (setChRt n r s).obs.rows = s.obs.rows := rfl
@[simp] theorem setChRt_obs_fullSeen (n : Nat) (r : ChRt) : (setChRt n r s).obs.fullSeen = s.obs.fullSeen := rfl
@[simp] theorem setChRt_obs_used (n : Nat) (r : ChRt) : (setChRt n r s).obs.used = s.obs.used := rfl

@[simp] theorem setTapRt_pending (u : Nat) (r : TapRt) : (setTapRt u r s).pending = s.pending := rfl
@[simp] theorem setTapRt_fuse (u : Nat) (r : TapRt) : (setTapRt u r s).fuse = s.fuse := rfl
@[simp] theorem setTapRt_regs (u : Nat) (r : TapRt) : (setTapRt u r s).regs = s.regs := rfl
@[simp] theorem setTapRt_out (u : Nat) (r : TapRt) : (setTapRt u r s).out = s.out := rfl
@[simp] theorem setTapRt_host (u : Nat) (r : TapRt) : (setTapRt u r s).host = s.host := rfl
@[simp] theorem setTapRt_parts (u : Nat) (r : TapRt) : (setTapRt u r s).parts = s.parts := rfl
@[simp] theorem setTapRt_doms (u : Nat) (r : TapRt) : (setTapRt u r s).doms = s.doms := rfl
@[simp] theorem setTapRt_queues (u : Nat) (r : TapRt) : (setTapRt u r s).queues = s.queues := rfl
@[simp] theorem setTapRt_plan (u : Nat) (r : TapRt) : (setTapRt u r s).plan = s.plan := rfl
@[simp] theorem setTapRt_toll (u : Nat) (r : TapRt) : (setTapRt u r s).toll = s.toll := rfl
@[simp] theorem setTapRt_safe (u : Nat) (r : TapRt) : (setTapRt u r s).safe = s.safe := rfl
@[simp] theorem setTapRt_pwr (u : Nat) (r : TapRt) : (setTapRt u r s).pwr = s.pwr := rfl
@[simp] theorem setTapRt_holder (u : Nat) (r : TapRt) : (setTapRt u r s).holder = s.holder := rfl
@[simp] theorem setTapRt_keys (u : Nat) (r : TapRt) : (setTapRt u r s).keys = s.keys := rfl
@[simp] theorem setTapRt_trust (u : Nat) (r : TapRt) : (setTapRt u r s).trust = s.trust := rfl
@[simp] theorem setTapRt_mem (u : Nat) (r : TapRt) : (setTapRt u r s).mem = s.mem := rfl
@[simp] theorem setTapRt_dmas (u : Nat) (r : TapRt) : (setTapRt u r s).dmas = s.dmas := rfl
@[simp] theorem setTapRt_xing (u : Nat) (r : TapRt) : (setTapRt u r s).xing = s.xing := rfl
@[simp] theorem setTapRt_outq (u : Nat) (r : TapRt) : (setTapRt u r s).outq = s.outq := rfl
@[simp] theorem setTapRt_fab (u : Nat) (r : TapRt) : (setTapRt u r s).fab = s.fab := rfl
@[simp] theorem setTapRt_ctrs (u : Nat) (r : TapRt) : (setTapRt u r s).ctrs = s.ctrs := rfl
@[simp] theorem setTapRt_clap (u : Nat) (r : TapRt) : (setTapRt u r s).clap = s.clap := rfl
@[simp] theorem setTapRt_links (u : Nat) (r : TapRt) : (setTapRt u r s).links = s.links := rfl
@[simp] theorem setTapRt_streams (u : Nat) (r : TapRt) : (setTapRt u r s).streams = s.streams := rfl
@[simp] theorem setTapRt_caps (u : Nat) (r : TapRt) : (setTapRt u r s).caps = s.caps := rfl
@[simp] theorem setTapRt_boot (u : Nat) (r : TapRt) : (setTapRt u r s).boot = s.boot := rfl
@[simp] theorem setTapRt_jtag (u : Nat) (r : TapRt) : (setTapRt u r s).jtag = s.jtag := rfl
@[simp] theorem setTapRt_freeCtr (u : Nat) (r : TapRt) : (setTapRt u r s).freeCtr = s.freeCtr := rfl
@[simp] theorem setTapRt_obs_staged (u : Nat) (r : TapRt) : (setTapRt u r s).obs.staged = s.obs.staged := rfl
@[simp] theorem setTapRt_obs_chans (u : Nat) (r : TapRt) : (setTapRt u r s).obs.chans = s.obs.chans := rfl
@[simp] theorem setTapRt_obs_lastPar (u : Nat) (r : TapRt) : (setTapRt u r s).obs.lastPar = s.obs.lastPar := rfl
@[simp] theorem setTapRt_obs_lastSer (u : Nat) (r : TapRt) : (setTapRt u r s).obs.lastSer = s.obs.lastSer := rfl
@[simp] theorem setTapRt_obs_amcnt (u : Nat) (r : TapRt) : (setTapRt u r s).obs.amcnt = s.obs.amcnt := rfl
@[simp] theorem setTapRt_obs_rows (u : Nat) (r : TapRt) : (setTapRt u r s).obs.rows = s.obs.rows := rfl
@[simp] theorem setTapRt_obs_fullSeen (u : Nat) (r : TapRt) : (setTapRt u r s).obs.fullSeen = s.obs.fullSeen := rfl
@[simp] theorem setTapRt_obs_used (u : Nat) (r : TapRt) : (setTapRt u r s).obs.used = s.obs.used := rfl

@[simp] theorem setToll_pending (r : TollRt) : (setToll r s).pending = s.pending := rfl
@[simp] theorem setToll_fuse (r : TollRt) : (setToll r s).fuse = s.fuse := rfl
@[simp] theorem setToll_regs (r : TollRt) : (setToll r s).regs = s.regs := rfl
@[simp] theorem setToll_out (r : TollRt) : (setToll r s).out = s.out := rfl
@[simp] theorem setToll_host (r : TollRt) : (setToll r s).host = s.host := rfl
@[simp] theorem setToll_parts (r : TollRt) : (setToll r s).parts = s.parts := rfl
@[simp] theorem setToll_doms (r : TollRt) : (setToll r s).doms = s.doms := rfl
@[simp] theorem setToll_queues (r : TollRt) : (setToll r s).queues = s.queues := rfl
@[simp] theorem setToll_plan (r : TollRt) : (setToll r s).plan = s.plan := rfl
@[simp] theorem setToll_obs (r : TollRt) : (setToll r s).obs = s.obs := rfl
@[simp] theorem setToll_safe (r : TollRt) : (setToll r s).safe = s.safe := rfl
@[simp] theorem setToll_pwr (r : TollRt) : (setToll r s).pwr = s.pwr := rfl
@[simp] theorem setToll_holder (r : TollRt) : (setToll r s).holder = s.holder := rfl
@[simp] theorem setToll_keys (r : TollRt) : (setToll r s).keys = s.keys := rfl
@[simp] theorem setToll_trust (r : TollRt) : (setToll r s).trust = s.trust := rfl
@[simp] theorem setToll_mem (r : TollRt) : (setToll r s).mem = s.mem := rfl
@[simp] theorem setToll_dmas (r : TollRt) : (setToll r s).dmas = s.dmas := rfl
@[simp] theorem setToll_xing (r : TollRt) : (setToll r s).xing = s.xing := rfl
@[simp] theorem setToll_outq (r : TollRt) : (setToll r s).outq = s.outq := rfl
@[simp] theorem setToll_fab (r : TollRt) : (setToll r s).fab = s.fab := rfl
@[simp] theorem setToll_ctrs (r : TollRt) : (setToll r s).ctrs = s.ctrs := rfl
@[simp] theorem setToll_clap (r : TollRt) : (setToll r s).clap = s.clap := rfl
@[simp] theorem setToll_links (r : TollRt) : (setToll r s).links = s.links := rfl
@[simp] theorem setToll_streams (r : TollRt) : (setToll r s).streams = s.streams := rfl
@[simp] theorem setToll_caps (r : TollRt) : (setToll r s).caps = s.caps := rfl
@[simp] theorem setToll_boot (r : TollRt) : (setToll r s).boot = s.boot := rfl
@[simp] theorem setToll_jtag (r : TollRt) : (setToll r s).jtag = s.jtag := rfl
@[simp] theorem setToll_freeCtr (r : TollRt) : (setToll r s).freeCtr = s.freeCtr := rfl

@[simp] theorem setCtr_pending (a : Nat) (r : CtrRt) : (setCtr a r s).pending = s.pending := rfl
@[simp] theorem setCtr_fuse (a : Nat) (r : CtrRt) : (setCtr a r s).fuse = s.fuse := rfl
@[simp] theorem setCtr_regs (a : Nat) (r : CtrRt) : (setCtr a r s).regs = s.regs := rfl
@[simp] theorem setCtr_out (a : Nat) (r : CtrRt) : (setCtr a r s).out = s.out := rfl
@[simp] theorem setCtr_host (a : Nat) (r : CtrRt) : (setCtr a r s).host = s.host := rfl
@[simp] theorem setCtr_parts (a : Nat) (r : CtrRt) : (setCtr a r s).parts = s.parts := rfl
@[simp] theorem setCtr_doms (a : Nat) (r : CtrRt) : (setCtr a r s).doms = s.doms := rfl
@[simp] theorem setCtr_queues (a : Nat) (r : CtrRt) : (setCtr a r s).queues = s.queues := rfl
@[simp] theorem setCtr_plan (a : Nat) (r : CtrRt) : (setCtr a r s).plan = s.plan := rfl
@[simp] theorem setCtr_toll (a : Nat) (r : CtrRt) : (setCtr a r s).toll = s.toll := rfl
@[simp] theorem setCtr_obs (a : Nat) (r : CtrRt) : (setCtr a r s).obs = s.obs := rfl
@[simp] theorem setCtr_safe (a : Nat) (r : CtrRt) : (setCtr a r s).safe = s.safe := rfl
@[simp] theorem setCtr_pwr (a : Nat) (r : CtrRt) : (setCtr a r s).pwr = s.pwr := rfl
@[simp] theorem setCtr_holder (a : Nat) (r : CtrRt) : (setCtr a r s).holder = s.holder := rfl
@[simp] theorem setCtr_keys (a : Nat) (r : CtrRt) : (setCtr a r s).keys = s.keys := rfl
@[simp] theorem setCtr_trust (a : Nat) (r : CtrRt) : (setCtr a r s).trust = s.trust := rfl
@[simp] theorem setCtr_mem (a : Nat) (r : CtrRt) : (setCtr a r s).mem = s.mem := rfl
@[simp] theorem setCtr_dmas (a : Nat) (r : CtrRt) : (setCtr a r s).dmas = s.dmas := rfl
@[simp] theorem setCtr_xing (a : Nat) (r : CtrRt) : (setCtr a r s).xing = s.xing := rfl
@[simp] theorem setCtr_outq (a : Nat) (r : CtrRt) : (setCtr a r s).outq = s.outq := rfl
@[simp] theorem setCtr_fab (a : Nat) (r : CtrRt) : (setCtr a r s).fab = s.fab := rfl
@[simp] theorem setCtr_clap (a : Nat) (r : CtrRt) : (setCtr a r s).clap = s.clap := rfl
@[simp] theorem setCtr_links (a : Nat) (r : CtrRt) : (setCtr a r s).links = s.links := rfl
@[simp] theorem setCtr_streams (a : Nat) (r : CtrRt) : (setCtr a r s).streams = s.streams := rfl
@[simp] theorem setCtr_caps (a : Nat) (r : CtrRt) : (setCtr a r s).caps = s.caps := rfl
@[simp] theorem setCtr_boot (a : Nat) (r : CtrRt) : (setCtr a r s).boot = s.boot := rfl
@[simp] theorem setCtr_jtag (a : Nat) (r : CtrRt) : (setCtr a r s).jtag = s.jtag := rfl
@[simp] theorem setCtr_freeCtr (a : Nat) (r : CtrRt) : (setCtr a r s).freeCtr = s.freeCtr := rfl

@[simp] theorem setClap_pending (r : ClapRt) : (setClap r s).pending = s.pending := rfl
@[simp] theorem setClap_fuse (r : ClapRt) : (setClap r s).fuse = s.fuse := rfl
@[simp] theorem setClap_regs (r : ClapRt) : (setClap r s).regs = s.regs := rfl
@[simp] theorem setClap_out (r : ClapRt) : (setClap r s).out = s.out := rfl
@[simp] theorem setClap_host (r : ClapRt) : (setClap r s).host = s.host := rfl
@[simp] theorem setClap_parts (r : ClapRt) : (setClap r s).parts = s.parts := rfl
@[simp] theorem setClap_doms (r : ClapRt) : (setClap r s).doms = s.doms := rfl
@[simp] theorem setClap_queues (r : ClapRt) : (setClap r s).queues = s.queues := rfl
@[simp] theorem setClap_plan (r : ClapRt) : (setClap r s).plan = s.plan := rfl
@[simp] theorem setClap_toll (r : ClapRt) : (setClap r s).toll = s.toll := rfl
@[simp] theorem setClap_obs (r : ClapRt) : (setClap r s).obs = s.obs := rfl
@[simp] theorem setClap_safe (r : ClapRt) : (setClap r s).safe = s.safe := rfl
@[simp] theorem setClap_pwr (r : ClapRt) : (setClap r s).pwr = s.pwr := rfl
@[simp] theorem setClap_holder (r : ClapRt) : (setClap r s).holder = s.holder := rfl
@[simp] theorem setClap_keys (r : ClapRt) : (setClap r s).keys = s.keys := rfl
@[simp] theorem setClap_trust (r : ClapRt) : (setClap r s).trust = s.trust := rfl
@[simp] theorem setClap_mem (r : ClapRt) : (setClap r s).mem = s.mem := rfl
@[simp] theorem setClap_dmas (r : ClapRt) : (setClap r s).dmas = s.dmas := rfl
@[simp] theorem setClap_xing (r : ClapRt) : (setClap r s).xing = s.xing := rfl
@[simp] theorem setClap_outq (r : ClapRt) : (setClap r s).outq = s.outq := rfl
@[simp] theorem setClap_fab (r : ClapRt) : (setClap r s).fab = s.fab := rfl
@[simp] theorem setClap_ctrs (r : ClapRt) : (setClap r s).ctrs = s.ctrs := rfl
@[simp] theorem setClap_links (r : ClapRt) : (setClap r s).links = s.links := rfl
@[simp] theorem setClap_streams (r : ClapRt) : (setClap r s).streams = s.streams := rfl
@[simp] theorem setClap_caps (r : ClapRt) : (setClap r s).caps = s.caps := rfl
@[simp] theorem setClap_boot (r : ClapRt) : (setClap r s).boot = s.boot := rfl
@[simp] theorem setClap_jtag (r : ClapRt) : (setClap r s).jtag = s.jtag := rfl
@[simp] theorem setClap_freeCtr (r : ClapRt) : (setClap r s).freeCtr = s.freeCtr := rfl

@[simp] theorem setLink_pending (n : Nat) (r : LinkRt) : (setLink n r s).pending = s.pending := rfl
@[simp] theorem setLink_fuse (n : Nat) (r : LinkRt) : (setLink n r s).fuse = s.fuse := rfl
@[simp] theorem setLink_regs (n : Nat) (r : LinkRt) : (setLink n r s).regs = s.regs := rfl
@[simp] theorem setLink_out (n : Nat) (r : LinkRt) : (setLink n r s).out = s.out := rfl
@[simp] theorem setLink_host (n : Nat) (r : LinkRt) : (setLink n r s).host = s.host := rfl
@[simp] theorem setLink_parts (n : Nat) (r : LinkRt) : (setLink n r s).parts = s.parts := rfl
@[simp] theorem setLink_doms (n : Nat) (r : LinkRt) : (setLink n r s).doms = s.doms := rfl
@[simp] theorem setLink_queues (n : Nat) (r : LinkRt) : (setLink n r s).queues = s.queues := rfl
@[simp] theorem setLink_plan (n : Nat) (r : LinkRt) : (setLink n r s).plan = s.plan := rfl
@[simp] theorem setLink_toll (n : Nat) (r : LinkRt) : (setLink n r s).toll = s.toll := rfl
@[simp] theorem setLink_obs (n : Nat) (r : LinkRt) : (setLink n r s).obs = s.obs := rfl
@[simp] theorem setLink_safe (n : Nat) (r : LinkRt) : (setLink n r s).safe = s.safe := rfl
@[simp] theorem setLink_pwr (n : Nat) (r : LinkRt) : (setLink n r s).pwr = s.pwr := rfl
@[simp] theorem setLink_holder (n : Nat) (r : LinkRt) : (setLink n r s).holder = s.holder := rfl
@[simp] theorem setLink_keys (n : Nat) (r : LinkRt) : (setLink n r s).keys = s.keys := rfl
@[simp] theorem setLink_trust (n : Nat) (r : LinkRt) : (setLink n r s).trust = s.trust := rfl
@[simp] theorem setLink_mem (n : Nat) (r : LinkRt) : (setLink n r s).mem = s.mem := rfl
@[simp] theorem setLink_dmas (n : Nat) (r : LinkRt) : (setLink n r s).dmas = s.dmas := rfl
@[simp] theorem setLink_xing (n : Nat) (r : LinkRt) : (setLink n r s).xing = s.xing := rfl
@[simp] theorem setLink_outq (n : Nat) (r : LinkRt) : (setLink n r s).outq = s.outq := rfl
@[simp] theorem setLink_fab (n : Nat) (r : LinkRt) : (setLink n r s).fab = s.fab := rfl
@[simp] theorem setLink_ctrs (n : Nat) (r : LinkRt) : (setLink n r s).ctrs = s.ctrs := rfl
@[simp] theorem setLink_clap (n : Nat) (r : LinkRt) : (setLink n r s).clap = s.clap := rfl
@[simp] theorem setLink_streams (n : Nat) (r : LinkRt) : (setLink n r s).streams = s.streams := rfl
@[simp] theorem setLink_caps (n : Nat) (r : LinkRt) : (setLink n r s).caps = s.caps := rfl
@[simp] theorem setLink_boot (n : Nat) (r : LinkRt) : (setLink n r s).boot = s.boot := rfl
@[simp] theorem setLink_jtag (n : Nat) (r : LinkRt) : (setLink n r s).jtag = s.jtag := rfl
@[simp] theorem setLink_freeCtr (n : Nat) (r : LinkRt) : (setLink n r s).freeCtr = s.freeCtr := rfl

@[simp] theorem setPwr_pending (r : PwrRt) : (setPwr r s).pending = s.pending := rfl
@[simp] theorem setPwr_fuse (r : PwrRt) : (setPwr r s).fuse = s.fuse := rfl
@[simp] theorem setPwr_regs (r : PwrRt) : (setPwr r s).regs = s.regs := rfl
@[simp] theorem setPwr_out (r : PwrRt) : (setPwr r s).out = s.out := rfl
@[simp] theorem setPwr_host (r : PwrRt) : (setPwr r s).host = s.host := rfl
@[simp] theorem setPwr_parts (r : PwrRt) : (setPwr r s).parts = s.parts := rfl
@[simp] theorem setPwr_doms (r : PwrRt) : (setPwr r s).doms = s.doms := rfl
@[simp] theorem setPwr_queues (r : PwrRt) : (setPwr r s).queues = s.queues := rfl
@[simp] theorem setPwr_plan (r : PwrRt) : (setPwr r s).plan = s.plan := rfl
@[simp] theorem setPwr_toll (r : PwrRt) : (setPwr r s).toll = s.toll := rfl
@[simp] theorem setPwr_obs (r : PwrRt) : (setPwr r s).obs = s.obs := rfl
@[simp] theorem setPwr_safe (r : PwrRt) : (setPwr r s).safe = s.safe := rfl
@[simp] theorem setPwr_holder (r : PwrRt) : (setPwr r s).holder = s.holder := rfl
@[simp] theorem setPwr_keys (r : PwrRt) : (setPwr r s).keys = s.keys := rfl
@[simp] theorem setPwr_trust (r : PwrRt) : (setPwr r s).trust = s.trust := rfl
@[simp] theorem setPwr_mem (r : PwrRt) : (setPwr r s).mem = s.mem := rfl
@[simp] theorem setPwr_dmas (r : PwrRt) : (setPwr r s).dmas = s.dmas := rfl
@[simp] theorem setPwr_xing (r : PwrRt) : (setPwr r s).xing = s.xing := rfl
@[simp] theorem setPwr_outq (r : PwrRt) : (setPwr r s).outq = s.outq := rfl
@[simp] theorem setPwr_fab (r : PwrRt) : (setPwr r s).fab = s.fab := rfl
@[simp] theorem setPwr_ctrs (r : PwrRt) : (setPwr r s).ctrs = s.ctrs := rfl
@[simp] theorem setPwr_clap (r : PwrRt) : (setPwr r s).clap = s.clap := rfl
@[simp] theorem setPwr_links (r : PwrRt) : (setPwr r s).links = s.links := rfl
@[simp] theorem setPwr_streams (r : PwrRt) : (setPwr r s).streams = s.streams := rfl
@[simp] theorem setPwr_caps (r : PwrRt) : (setPwr r s).caps = s.caps := rfl
@[simp] theorem setPwr_boot (r : PwrRt) : (setPwr r s).boot = s.boot := rfl
@[simp] theorem setPwr_jtag (r : PwrRt) : (setPwr r s).jtag = s.jtag := rfl
@[simp] theorem setPwr_freeCtr (r : PwrRt) : (setPwr r s).freeCtr = s.freeCtr := rfl

@[simp] theorem setKeys_pending (i : Nat) (k : KeySlots) : (setKeys i k s).pending = s.pending := rfl
@[simp] theorem setKeys_fuse (i : Nat) (k : KeySlots) : (setKeys i k s).fuse = s.fuse := rfl
@[simp] theorem setKeys_regs (i : Nat) (k : KeySlots) : (setKeys i k s).regs = s.regs := rfl
@[simp] theorem setKeys_out (i : Nat) (k : KeySlots) : (setKeys i k s).out = s.out := rfl
@[simp] theorem setKeys_host (i : Nat) (k : KeySlots) : (setKeys i k s).host = s.host := rfl
@[simp] theorem setKeys_parts (i : Nat) (k : KeySlots) : (setKeys i k s).parts = s.parts := rfl
@[simp] theorem setKeys_doms (i : Nat) (k : KeySlots) : (setKeys i k s).doms = s.doms := rfl
@[simp] theorem setKeys_queues (i : Nat) (k : KeySlots) : (setKeys i k s).queues = s.queues := rfl
@[simp] theorem setKeys_plan (i : Nat) (k : KeySlots) : (setKeys i k s).plan = s.plan := rfl
@[simp] theorem setKeys_toll (i : Nat) (k : KeySlots) : (setKeys i k s).toll = s.toll := rfl
@[simp] theorem setKeys_obs (i : Nat) (k : KeySlots) : (setKeys i k s).obs = s.obs := rfl
@[simp] theorem setKeys_safe (i : Nat) (k : KeySlots) : (setKeys i k s).safe = s.safe := rfl
@[simp] theorem setKeys_pwr (i : Nat) (k : KeySlots) : (setKeys i k s).pwr = s.pwr := rfl
@[simp] theorem setKeys_holder (i : Nat) (k : KeySlots) : (setKeys i k s).holder = s.holder := rfl
@[simp] theorem setKeys_trust (i : Nat) (k : KeySlots) : (setKeys i k s).trust = s.trust := rfl
@[simp] theorem setKeys_mem (i : Nat) (k : KeySlots) : (setKeys i k s).mem = s.mem := rfl
@[simp] theorem setKeys_dmas (i : Nat) (k : KeySlots) : (setKeys i k s).dmas = s.dmas := rfl
@[simp] theorem setKeys_xing (i : Nat) (k : KeySlots) : (setKeys i k s).xing = s.xing := rfl
@[simp] theorem setKeys_outq (i : Nat) (k : KeySlots) : (setKeys i k s).outq = s.outq := rfl
@[simp] theorem setKeys_fab (i : Nat) (k : KeySlots) : (setKeys i k s).fab = s.fab := rfl
@[simp] theorem setKeys_ctrs (i : Nat) (k : KeySlots) : (setKeys i k s).ctrs = s.ctrs := rfl
@[simp] theorem setKeys_clap (i : Nat) (k : KeySlots) : (setKeys i k s).clap = s.clap := rfl
@[simp] theorem setKeys_links (i : Nat) (k : KeySlots) : (setKeys i k s).links = s.links := rfl
@[simp] theorem setKeys_streams (i : Nat) (k : KeySlots) : (setKeys i k s).streams = s.streams := rfl
@[simp] theorem setKeys_caps (i : Nat) (k : KeySlots) : (setKeys i k s).caps = s.caps := rfl
@[simp] theorem setKeys_boot (i : Nat) (k : KeySlots) : (setKeys i k s).boot = s.boot := rfl
@[simp] theorem setKeys_jtag (i : Nat) (k : KeySlots) : (setKeys i k s).jtag = s.jtag := rfl
@[simp] theorem setKeys_freeCtr (i : Nat) (k : KeySlots) : (setKeys i k s).freeCtr = s.freeCtr := rfl

@[simp] theorem setTrust_pending (t : TrustRt) : (setTrust t s).pending = s.pending := rfl
@[simp] theorem setTrust_fuse (t : TrustRt) : (setTrust t s).fuse = s.fuse := rfl
@[simp] theorem setTrust_regs (t : TrustRt) : (setTrust t s).regs = s.regs := rfl
@[simp] theorem setTrust_out (t : TrustRt) : (setTrust t s).out = s.out := rfl
@[simp] theorem setTrust_host (t : TrustRt) : (setTrust t s).host = s.host := rfl
@[simp] theorem setTrust_parts (t : TrustRt) : (setTrust t s).parts = s.parts := rfl
@[simp] theorem setTrust_doms (t : TrustRt) : (setTrust t s).doms = s.doms := rfl
@[simp] theorem setTrust_queues (t : TrustRt) : (setTrust t s).queues = s.queues := rfl
@[simp] theorem setTrust_plan (t : TrustRt) : (setTrust t s).plan = s.plan := rfl
@[simp] theorem setTrust_toll (t : TrustRt) : (setTrust t s).toll = s.toll := rfl
@[simp] theorem setTrust_obs (t : TrustRt) : (setTrust t s).obs = s.obs := rfl
@[simp] theorem setTrust_safe (t : TrustRt) : (setTrust t s).safe = s.safe := rfl
@[simp] theorem setTrust_pwr (t : TrustRt) : (setTrust t s).pwr = s.pwr := rfl
@[simp] theorem setTrust_holder (t : TrustRt) : (setTrust t s).holder = s.holder := rfl
@[simp] theorem setTrust_keys (t : TrustRt) : (setTrust t s).keys = s.keys := rfl
@[simp] theorem setTrust_mem (t : TrustRt) : (setTrust t s).mem = s.mem := rfl
@[simp] theorem setTrust_dmas (t : TrustRt) : (setTrust t s).dmas = s.dmas := rfl
@[simp] theorem setTrust_xing (t : TrustRt) : (setTrust t s).xing = s.xing := rfl
@[simp] theorem setTrust_outq (t : TrustRt) : (setTrust t s).outq = s.outq := rfl
@[simp] theorem setTrust_fab (t : TrustRt) : (setTrust t s).fab = s.fab := rfl
@[simp] theorem setTrust_ctrs (t : TrustRt) : (setTrust t s).ctrs = s.ctrs := rfl
@[simp] theorem setTrust_clap (t : TrustRt) : (setTrust t s).clap = s.clap := rfl
@[simp] theorem setTrust_links (t : TrustRt) : (setTrust t s).links = s.links := rfl
@[simp] theorem setTrust_streams (t : TrustRt) : (setTrust t s).streams = s.streams := rfl
@[simp] theorem setTrust_caps (t : TrustRt) : (setTrust t s).caps = s.caps := rfl
@[simp] theorem setTrust_boot (t : TrustRt) : (setTrust t s).boot = s.boot := rfl
@[simp] theorem setTrust_jtag (t : TrustRt) : (setTrust t s).jtag = s.jtag := rfl
@[simp] theorem setTrust_freeCtr (t : TrustRt) : (setTrust t s).freeCtr = s.freeCtr := rfl

@[simp] theorem setHolder_pending (h : HolderRt) : (setHolder h s).pending = s.pending := rfl
@[simp] theorem setHolder_fuse (h : HolderRt) : (setHolder h s).fuse = s.fuse := rfl
@[simp] theorem setHolder_regs (h : HolderRt) : (setHolder h s).regs = s.regs := rfl
@[simp] theorem setHolder_out (h : HolderRt) : (setHolder h s).out = s.out := rfl
@[simp] theorem setHolder_host (h : HolderRt) : (setHolder h s).host = s.host := rfl
@[simp] theorem setHolder_parts (h : HolderRt) : (setHolder h s).parts = s.parts := rfl
@[simp] theorem setHolder_doms (h : HolderRt) : (setHolder h s).doms = s.doms := rfl
@[simp] theorem setHolder_queues (h : HolderRt) : (setHolder h s).queues = s.queues := rfl
@[simp] theorem setHolder_plan (h : HolderRt) : (setHolder h s).plan = s.plan := rfl
@[simp] theorem setHolder_toll (h : HolderRt) : (setHolder h s).toll = s.toll := rfl
@[simp] theorem setHolder_obs (h : HolderRt) : (setHolder h s).obs = s.obs := rfl
@[simp] theorem setHolder_safe (h : HolderRt) : (setHolder h s).safe = s.safe := rfl
@[simp] theorem setHolder_pwr (h : HolderRt) : (setHolder h s).pwr = s.pwr := rfl
@[simp] theorem setHolder_keys (h : HolderRt) : (setHolder h s).keys = s.keys := rfl
@[simp] theorem setHolder_trust (h : HolderRt) : (setHolder h s).trust = s.trust := rfl
@[simp] theorem setHolder_mem (h : HolderRt) : (setHolder h s).mem = s.mem := rfl
@[simp] theorem setHolder_dmas (h : HolderRt) : (setHolder h s).dmas = s.dmas := rfl
@[simp] theorem setHolder_xing (h : HolderRt) : (setHolder h s).xing = s.xing := rfl
@[simp] theorem setHolder_outq (h : HolderRt) : (setHolder h s).outq = s.outq := rfl
@[simp] theorem setHolder_fab (h : HolderRt) : (setHolder h s).fab = s.fab := rfl
@[simp] theorem setHolder_ctrs (h : HolderRt) : (setHolder h s).ctrs = s.ctrs := rfl
@[simp] theorem setHolder_clap (h : HolderRt) : (setHolder h s).clap = s.clap := rfl
@[simp] theorem setHolder_links (h : HolderRt) : (setHolder h s).links = s.links := rfl
@[simp] theorem setHolder_streams (h : HolderRt) : (setHolder h s).streams = s.streams := rfl
@[simp] theorem setHolder_caps (h : HolderRt) : (setHolder h s).caps = s.caps := rfl
@[simp] theorem setHolder_boot (h : HolderRt) : (setHolder h s).boot = s.boot := rfl
@[simp] theorem setHolder_jtag (h : HolderRt) : (setHolder h s).jtag = s.jtag := rfl
@[simp] theorem setHolder_freeCtr (h : HolderRt) : (setHolder h s).freeCtr = s.freeCtr := rfl

@[simp] theorem setBoot_pending (b : BootRt) : (setBoot b s).pending = s.pending := rfl
@[simp] theorem setBoot_fuse (b : BootRt) : (setBoot b s).fuse = s.fuse := rfl
@[simp] theorem setBoot_regs (b : BootRt) : (setBoot b s).regs = s.regs := rfl
@[simp] theorem setBoot_out (b : BootRt) : (setBoot b s).out = s.out := rfl
@[simp] theorem setBoot_host (b : BootRt) : (setBoot b s).host = s.host := rfl
@[simp] theorem setBoot_parts (b : BootRt) : (setBoot b s).parts = s.parts := rfl
@[simp] theorem setBoot_doms (b : BootRt) : (setBoot b s).doms = s.doms := rfl
@[simp] theorem setBoot_queues (b : BootRt) : (setBoot b s).queues = s.queues := rfl
@[simp] theorem setBoot_plan (b : BootRt) : (setBoot b s).plan = s.plan := rfl
@[simp] theorem setBoot_toll (b : BootRt) : (setBoot b s).toll = s.toll := rfl
@[simp] theorem setBoot_obs (b : BootRt) : (setBoot b s).obs = s.obs := rfl
@[simp] theorem setBoot_safe (b : BootRt) : (setBoot b s).safe = s.safe := rfl
@[simp] theorem setBoot_pwr (b : BootRt) : (setBoot b s).pwr = s.pwr := rfl
@[simp] theorem setBoot_holder (b : BootRt) : (setBoot b s).holder = s.holder := rfl
@[simp] theorem setBoot_keys (b : BootRt) : (setBoot b s).keys = s.keys := rfl
@[simp] theorem setBoot_trust (b : BootRt) : (setBoot b s).trust = s.trust := rfl
@[simp] theorem setBoot_mem (b : BootRt) : (setBoot b s).mem = s.mem := rfl
@[simp] theorem setBoot_dmas (b : BootRt) : (setBoot b s).dmas = s.dmas := rfl
@[simp] theorem setBoot_xing (b : BootRt) : (setBoot b s).xing = s.xing := rfl
@[simp] theorem setBoot_outq (b : BootRt) : (setBoot b s).outq = s.outq := rfl
@[simp] theorem setBoot_fab (b : BootRt) : (setBoot b s).fab = s.fab := rfl
@[simp] theorem setBoot_ctrs (b : BootRt) : (setBoot b s).ctrs = s.ctrs := rfl
@[simp] theorem setBoot_clap (b : BootRt) : (setBoot b s).clap = s.clap := rfl
@[simp] theorem setBoot_links (b : BootRt) : (setBoot b s).links = s.links := rfl
@[simp] theorem setBoot_streams (b : BootRt) : (setBoot b s).streams = s.streams := rfl
@[simp] theorem setBoot_caps (b : BootRt) : (setBoot b s).caps = s.caps := rfl
@[simp] theorem setBoot_jtag (b : BootRt) : (setBoot b s).jtag = s.jtag := rfl
@[simp] theorem setBoot_freeCtr (b : BootRt) : (setBoot b s).freeCtr = s.freeCtr := rfl

@[simp] theorem setResidents_pending (l : List Resident) : (setResidents l s).pending = s.pending := rfl
@[simp] theorem setResidents_fuse (l : List Resident) : (setResidents l s).fuse = s.fuse := rfl
@[simp] theorem setResidents_regs (l : List Resident) : (setResidents l s).regs = s.regs := rfl
@[simp] theorem setResidents_out (l : List Resident) : (setResidents l s).out = s.out := rfl
@[simp] theorem setResidents_host (l : List Resident) : (setResidents l s).host = s.host := rfl
@[simp] theorem setResidents_parts (l : List Resident) : (setResidents l s).parts = s.parts := rfl
@[simp] theorem setResidents_doms (l : List Resident) : (setResidents l s).doms = s.doms := rfl
@[simp] theorem setResidents_queues (l : List Resident) : (setResidents l s).queues = s.queues := rfl
@[simp] theorem setResidents_toll (l : List Resident) : (setResidents l s).toll = s.toll := rfl
@[simp] theorem setResidents_obs (l : List Resident) : (setResidents l s).obs = s.obs := rfl
@[simp] theorem setResidents_safe (l : List Resident) : (setResidents l s).safe = s.safe := rfl
@[simp] theorem setResidents_pwr (l : List Resident) : (setResidents l s).pwr = s.pwr := rfl
@[simp] theorem setResidents_holder (l : List Resident) : (setResidents l s).holder = s.holder := rfl
@[simp] theorem setResidents_keys (l : List Resident) : (setResidents l s).keys = s.keys := rfl
@[simp] theorem setResidents_trust (l : List Resident) : (setResidents l s).trust = s.trust := rfl
@[simp] theorem setResidents_mem (l : List Resident) : (setResidents l s).mem = s.mem := rfl
@[simp] theorem setResidents_dmas (l : List Resident) : (setResidents l s).dmas = s.dmas := rfl
@[simp] theorem setResidents_xing (l : List Resident) : (setResidents l s).xing = s.xing := rfl
@[simp] theorem setResidents_outq (l : List Resident) : (setResidents l s).outq = s.outq := rfl
@[simp] theorem setResidents_fab (l : List Resident) : (setResidents l s).fab = s.fab := rfl
@[simp] theorem setResidents_ctrs (l : List Resident) : (setResidents l s).ctrs = s.ctrs := rfl
@[simp] theorem setResidents_clap (l : List Resident) : (setResidents l s).clap = s.clap := rfl
@[simp] theorem setResidents_links (l : List Resident) : (setResidents l s).links = s.links := rfl
@[simp] theorem setResidents_streams (l : List Resident) : (setResidents l s).streams = s.streams := rfl
@[simp] theorem setResidents_caps (l : List Resident) : (setResidents l s).caps = s.caps := rfl
@[simp] theorem setResidents_boot (l : List Resident) : (setResidents l s).boot = s.boot := rfl
@[simp] theorem setResidents_jtag (l : List Resident) : (setResidents l s).jtag = s.jtag := rfl
@[simp] theorem setResidents_freeCtr (l : List Resident) : (setResidents l s).freeCtr = s.freeCtr := rfl
@[simp] theorem setResidents_plan_store (l : List Resident) : (setResidents l s).plan.store = s.plan.store := rfl

@[simp] theorem setCell_pending (a : Nat) (b : List Byte) : (setCell a b s).pending = s.pending := rfl
@[simp] theorem setCell_fuse (a : Nat) (b : List Byte) : (setCell a b s).fuse = s.fuse := rfl
@[simp] theorem setCell_regs (a : Nat) (b : List Byte) : (setCell a b s).regs = s.regs := rfl
@[simp] theorem setCell_out (a : Nat) (b : List Byte) : (setCell a b s).out = s.out := rfl
@[simp] theorem setCell_host (a : Nat) (b : List Byte) : (setCell a b s).host = s.host := rfl
@[simp] theorem setCell_parts (a : Nat) (b : List Byte) : (setCell a b s).parts = s.parts := rfl
@[simp] theorem setCell_doms (a : Nat) (b : List Byte) : (setCell a b s).doms = s.doms := rfl
@[simp] theorem setCell_queues (a : Nat) (b : List Byte) : (setCell a b s).queues = s.queues := rfl
@[simp] theorem setCell_plan (a : Nat) (b : List Byte) : (setCell a b s).plan = s.plan := rfl
@[simp] theorem setCell_toll (a : Nat) (b : List Byte) : (setCell a b s).toll = s.toll := rfl
@[simp] theorem setCell_obs (a : Nat) (b : List Byte) : (setCell a b s).obs = s.obs := rfl
@[simp] theorem setCell_safe (a : Nat) (b : List Byte) : (setCell a b s).safe = s.safe := rfl
@[simp] theorem setCell_pwr (a : Nat) (b : List Byte) : (setCell a b s).pwr = s.pwr := rfl
@[simp] theorem setCell_holder (a : Nat) (b : List Byte) : (setCell a b s).holder = s.holder := rfl
@[simp] theorem setCell_keys (a : Nat) (b : List Byte) : (setCell a b s).keys = s.keys := rfl
@[simp] theorem setCell_trust (a : Nat) (b : List Byte) : (setCell a b s).trust = s.trust := rfl
@[simp] theorem setCell_dmas (a : Nat) (b : List Byte) : (setCell a b s).dmas = s.dmas := rfl
@[simp] theorem setCell_xing (a : Nat) (b : List Byte) : (setCell a b s).xing = s.xing := rfl
@[simp] theorem setCell_outq (a : Nat) (b : List Byte) : (setCell a b s).outq = s.outq := rfl
@[simp] theorem setCell_fab (a : Nat) (b : List Byte) : (setCell a b s).fab = s.fab := rfl
@[simp] theorem setCell_ctrs (a : Nat) (b : List Byte) : (setCell a b s).ctrs = s.ctrs := rfl
@[simp] theorem setCell_clap (a : Nat) (b : List Byte) : (setCell a b s).clap = s.clap := rfl
@[simp] theorem setCell_links (a : Nat) (b : List Byte) : (setCell a b s).links = s.links := rfl
@[simp] theorem setCell_streams (a : Nat) (b : List Byte) : (setCell a b s).streams = s.streams := rfl
@[simp] theorem setCell_caps (a : Nat) (b : List Byte) : (setCell a b s).caps = s.caps := rfl
@[simp] theorem setCell_boot (a : Nat) (b : List Byte) : (setCell a b s).boot = s.boot := rfl
@[simp] theorem setCell_jtag (a : Nat) (b : List Byte) : (setCell a b s).jtag = s.jtag := rfl
@[simp] theorem setCell_freeCtr (a : Nat) (b : List Byte) : (setCell a b s).freeCtr = s.freeCtr := rfl
@[simp] theorem setCell_mem_gen (a : Nat) (b : List Byte) : (setCell a b s).mem.gen = s.mem.gen := rfl
@[simp] theorem setCell_mem_rekey (a : Nat) (b : List Byte) : (setCell a b s).mem.rekey = s.mem.rekey := rfl
@[simp] theorem setCell_mem_hot (a : Nat) (b : List Byte) : (setCell a b s).mem.hot = s.mem.hot := rfl

@[simp] theorem setRekey_pending (h : Nat) (k : Option RekeyRt) : (setRekey h k s).pending = s.pending := rfl
@[simp] theorem setRekey_fuse (h : Nat) (k : Option RekeyRt) : (setRekey h k s).fuse = s.fuse := rfl
@[simp] theorem setRekey_regs (h : Nat) (k : Option RekeyRt) : (setRekey h k s).regs = s.regs := rfl
@[simp] theorem setRekey_out (h : Nat) (k : Option RekeyRt) : (setRekey h k s).out = s.out := rfl
@[simp] theorem setRekey_host (h : Nat) (k : Option RekeyRt) : (setRekey h k s).host = s.host := rfl
@[simp] theorem setRekey_parts (h : Nat) (k : Option RekeyRt) : (setRekey h k s).parts = s.parts := rfl
@[simp] theorem setRekey_doms (h : Nat) (k : Option RekeyRt) : (setRekey h k s).doms = s.doms := rfl
@[simp] theorem setRekey_queues (h : Nat) (k : Option RekeyRt) : (setRekey h k s).queues = s.queues := rfl
@[simp] theorem setRekey_plan (h : Nat) (k : Option RekeyRt) : (setRekey h k s).plan = s.plan := rfl
@[simp] theorem setRekey_toll (h : Nat) (k : Option RekeyRt) : (setRekey h k s).toll = s.toll := rfl
@[simp] theorem setRekey_obs (h : Nat) (k : Option RekeyRt) : (setRekey h k s).obs = s.obs := rfl
@[simp] theorem setRekey_safe (h : Nat) (k : Option RekeyRt) : (setRekey h k s).safe = s.safe := rfl
@[simp] theorem setRekey_pwr (h : Nat) (k : Option RekeyRt) : (setRekey h k s).pwr = s.pwr := rfl
@[simp] theorem setRekey_holder (h : Nat) (k : Option RekeyRt) : (setRekey h k s).holder = s.holder := rfl
@[simp] theorem setRekey_keys (h : Nat) (k : Option RekeyRt) : (setRekey h k s).keys = s.keys := rfl
@[simp] theorem setRekey_trust (h : Nat) (k : Option RekeyRt) : (setRekey h k s).trust = s.trust := rfl
@[simp] theorem setRekey_dmas (h : Nat) (k : Option RekeyRt) : (setRekey h k s).dmas = s.dmas := rfl
@[simp] theorem setRekey_xing (h : Nat) (k : Option RekeyRt) : (setRekey h k s).xing = s.xing := rfl
@[simp] theorem setRekey_outq (h : Nat) (k : Option RekeyRt) : (setRekey h k s).outq = s.outq := rfl
@[simp] theorem setRekey_fab (h : Nat) (k : Option RekeyRt) : (setRekey h k s).fab = s.fab := rfl
@[simp] theorem setRekey_ctrs (h : Nat) (k : Option RekeyRt) : (setRekey h k s).ctrs = s.ctrs := rfl
@[simp] theorem setRekey_clap (h : Nat) (k : Option RekeyRt) : (setRekey h k s).clap = s.clap := rfl
@[simp] theorem setRekey_links (h : Nat) (k : Option RekeyRt) : (setRekey h k s).links = s.links := rfl
@[simp] theorem setRekey_streams (h : Nat) (k : Option RekeyRt) : (setRekey h k s).streams = s.streams := rfl
@[simp] theorem setRekey_caps (h : Nat) (k : Option RekeyRt) : (setRekey h k s).caps = s.caps := rfl
@[simp] theorem setRekey_boot (h : Nat) (k : Option RekeyRt) : (setRekey h k s).boot = s.boot := rfl
@[simp] theorem setRekey_jtag (h : Nat) (k : Option RekeyRt) : (setRekey h k s).jtag = s.jtag := rfl
@[simp] theorem setRekey_freeCtr (h : Nat) (k : Option RekeyRt) : (setRekey h k s).freeCtr = s.freeCtr := rfl
@[simp] theorem setRekey_mem_gen (h : Nat) (k : Option RekeyRt) : (setRekey h k s).mem.gen = s.mem.gen := rfl
@[simp] theorem setRekey_mem_cells (h : Nat) (k : Option RekeyRt) : (setRekey h k s).mem.cells = s.mem.cells := rfl
@[simp] theorem setRekey_mem_hot (h : Nat) (k : Option RekeyRt) : (setRekey h k s).mem.hot = s.mem.hot := rfl

@[simp] theorem setNet_pending (n : NetRt) : (setNet n s).pending = s.pending := rfl
@[simp] theorem setNet_fuse (n : NetRt) : (setNet n s).fuse = s.fuse := rfl
@[simp] theorem setNet_regs (n : NetRt) : (setNet n s).regs = s.regs := rfl
@[simp] theorem setNet_out (n : NetRt) : (setNet n s).out = s.out := rfl
@[simp] theorem setNet_host (n : NetRt) : (setNet n s).host = s.host := rfl
@[simp] theorem setNet_parts (n : NetRt) : (setNet n s).parts = s.parts := rfl
@[simp] theorem setNet_doms (n : NetRt) : (setNet n s).doms = s.doms := rfl
@[simp] theorem setNet_queues (n : NetRt) : (setNet n s).queues = s.queues := rfl
@[simp] theorem setNet_plan (n : NetRt) : (setNet n s).plan = s.plan := rfl
@[simp] theorem setNet_toll (n : NetRt) : (setNet n s).toll = s.toll := rfl
@[simp] theorem setNet_obs (n : NetRt) : (setNet n s).obs = s.obs := rfl
@[simp] theorem setNet_safe (n : NetRt) : (setNet n s).safe = s.safe := rfl
@[simp] theorem setNet_pwr (n : NetRt) : (setNet n s).pwr = s.pwr := rfl
@[simp] theorem setNet_holder (n : NetRt) : (setNet n s).holder = s.holder := rfl
@[simp] theorem setNet_keys (n : NetRt) : (setNet n s).keys = s.keys := rfl
@[simp] theorem setNet_trust (n : NetRt) : (setNet n s).trust = s.trust := rfl
@[simp] theorem setNet_mem (n : NetRt) : (setNet n s).mem = s.mem := rfl
@[simp] theorem setNet_dmas (n : NetRt) : (setNet n s).dmas = s.dmas := rfl
@[simp] theorem setNet_xing (n : NetRt) : (setNet n s).xing = s.xing := rfl
@[simp] theorem setNet_outq (n : NetRt) : (setNet n s).outq = s.outq := rfl
@[simp] theorem setNet_ctrs (n : NetRt) : (setNet n s).ctrs = s.ctrs := rfl
@[simp] theorem setNet_clap (n : NetRt) : (setNet n s).clap = s.clap := rfl
@[simp] theorem setNet_links (n : NetRt) : (setNet n s).links = s.links := rfl
@[simp] theorem setNet_streams (n : NetRt) : (setNet n s).streams = s.streams := rfl
@[simp] theorem setNet_caps (n : NetRt) : (setNet n s).caps = s.caps := rfl
@[simp] theorem setNet_boot (n : NetRt) : (setNet n s).boot = s.boot := rfl
@[simp] theorem setNet_jtag (n : NetRt) : (setNet n s).jtag = s.jtag := rfl
@[simp] theorem setNet_freeCtr (n : NetRt) : (setNet n s).freeCtr = s.freeCtr := rfl
@[simp] theorem setNet_fab_cus (n : NetRt) : (setNet n s).fab.cus = s.fab.cus := rfl
@[simp] theorem setNet_fab_mus (n : NetRt) : (setNet n s).fab.mus = s.fab.mus := rfl
@[simp] theorem setNet_fab_sram (n : NetRt) : (setNet n s).fab.sram = s.fab.sram := rfl
@[simp] theorem setNet_fab_serr (n : NetRt) : (setNet n s).fab.serr = s.fab.serr := rfl

@[simp] theorem setCu_pending (u : Nat) (r : CuRt) : (setCu u r s).pending = s.pending := rfl
@[simp] theorem setCu_fuse (u : Nat) (r : CuRt) : (setCu u r s).fuse = s.fuse := rfl
@[simp] theorem setCu_regs (u : Nat) (r : CuRt) : (setCu u r s).regs = s.regs := rfl
@[simp] theorem setCu_out (u : Nat) (r : CuRt) : (setCu u r s).out = s.out := rfl
@[simp] theorem setCu_host (u : Nat) (r : CuRt) : (setCu u r s).host = s.host := rfl
@[simp] theorem setCu_parts (u : Nat) (r : CuRt) : (setCu u r s).parts = s.parts := rfl
@[simp] theorem setCu_doms (u : Nat) (r : CuRt) : (setCu u r s).doms = s.doms := rfl
@[simp] theorem setCu_queues (u : Nat) (r : CuRt) : (setCu u r s).queues = s.queues := rfl
@[simp] theorem setCu_plan (u : Nat) (r : CuRt) : (setCu u r s).plan = s.plan := rfl
@[simp] theorem setCu_toll (u : Nat) (r : CuRt) : (setCu u r s).toll = s.toll := rfl
@[simp] theorem setCu_obs (u : Nat) (r : CuRt) : (setCu u r s).obs = s.obs := rfl
@[simp] theorem setCu_safe (u : Nat) (r : CuRt) : (setCu u r s).safe = s.safe := rfl
@[simp] theorem setCu_pwr (u : Nat) (r : CuRt) : (setCu u r s).pwr = s.pwr := rfl
@[simp] theorem setCu_holder (u : Nat) (r : CuRt) : (setCu u r s).holder = s.holder := rfl
@[simp] theorem setCu_keys (u : Nat) (r : CuRt) : (setCu u r s).keys = s.keys := rfl
@[simp] theorem setCu_trust (u : Nat) (r : CuRt) : (setCu u r s).trust = s.trust := rfl
@[simp] theorem setCu_mem (u : Nat) (r : CuRt) : (setCu u r s).mem = s.mem := rfl
@[simp] theorem setCu_dmas (u : Nat) (r : CuRt) : (setCu u r s).dmas = s.dmas := rfl
@[simp] theorem setCu_xing (u : Nat) (r : CuRt) : (setCu u r s).xing = s.xing := rfl
@[simp] theorem setCu_outq (u : Nat) (r : CuRt) : (setCu u r s).outq = s.outq := rfl
@[simp] theorem setCu_ctrs (u : Nat) (r : CuRt) : (setCu u r s).ctrs = s.ctrs := rfl
@[simp] theorem setCu_clap (u : Nat) (r : CuRt) : (setCu u r s).clap = s.clap := rfl
@[simp] theorem setCu_links (u : Nat) (r : CuRt) : (setCu u r s).links = s.links := rfl
@[simp] theorem setCu_streams (u : Nat) (r : CuRt) : (setCu u r s).streams = s.streams := rfl
@[simp] theorem setCu_caps (u : Nat) (r : CuRt) : (setCu u r s).caps = s.caps := rfl
@[simp] theorem setCu_boot (u : Nat) (r : CuRt) : (setCu u r s).boot = s.boot := rfl
@[simp] theorem setCu_jtag (u : Nat) (r : CuRt) : (setCu u r s).jtag = s.jtag := rfl
@[simp] theorem setCu_freeCtr (u : Nat) (r : CuRt) : (setCu u r s).freeCtr = s.freeCtr := rfl
@[simp] theorem setCu_fab_net (u : Nat) (r : CuRt) : (setCu u r s).fab.net = s.fab.net := rfl
@[simp] theorem setCu_fab_mus (u : Nat) (r : CuRt) : (setCu u r s).fab.mus = s.fab.mus := rfl
@[simp] theorem setCu_fab_sram (u : Nat) (r : CuRt) : (setCu u r s).fab.sram = s.fab.sram := rfl
@[simp] theorem setCu_fab_serr (u : Nat) (r : CuRt) : (setCu u r s).fab.serr = s.fab.serr := rfl

@[simp] theorem setMu_pending (u : Nat) (r : MuRt) : (setMu u r s).pending = s.pending := rfl
@[simp] theorem setMu_fuse (u : Nat) (r : MuRt) : (setMu u r s).fuse = s.fuse := rfl
@[simp] theorem setMu_regs (u : Nat) (r : MuRt) : (setMu u r s).regs = s.regs := rfl
@[simp] theorem setMu_out (u : Nat) (r : MuRt) : (setMu u r s).out = s.out := rfl
@[simp] theorem setMu_host (u : Nat) (r : MuRt) : (setMu u r s).host = s.host := rfl
@[simp] theorem setMu_parts (u : Nat) (r : MuRt) : (setMu u r s).parts = s.parts := rfl
@[simp] theorem setMu_doms (u : Nat) (r : MuRt) : (setMu u r s).doms = s.doms := rfl
@[simp] theorem setMu_queues (u : Nat) (r : MuRt) : (setMu u r s).queues = s.queues := rfl
@[simp] theorem setMu_plan (u : Nat) (r : MuRt) : (setMu u r s).plan = s.plan := rfl
@[simp] theorem setMu_toll (u : Nat) (r : MuRt) : (setMu u r s).toll = s.toll := rfl
@[simp] theorem setMu_obs (u : Nat) (r : MuRt) : (setMu u r s).obs = s.obs := rfl
@[simp] theorem setMu_safe (u : Nat) (r : MuRt) : (setMu u r s).safe = s.safe := rfl
@[simp] theorem setMu_pwr (u : Nat) (r : MuRt) : (setMu u r s).pwr = s.pwr := rfl
@[simp] theorem setMu_holder (u : Nat) (r : MuRt) : (setMu u r s).holder = s.holder := rfl
@[simp] theorem setMu_keys (u : Nat) (r : MuRt) : (setMu u r s).keys = s.keys := rfl
@[simp] theorem setMu_trust (u : Nat) (r : MuRt) : (setMu u r s).trust = s.trust := rfl
@[simp] theorem setMu_mem (u : Nat) (r : MuRt) : (setMu u r s).mem = s.mem := rfl
@[simp] theorem setMu_dmas (u : Nat) (r : MuRt) : (setMu u r s).dmas = s.dmas := rfl
@[simp] theorem setMu_xing (u : Nat) (r : MuRt) : (setMu u r s).xing = s.xing := rfl
@[simp] theorem setMu_outq (u : Nat) (r : MuRt) : (setMu u r s).outq = s.outq := rfl
@[simp] theorem setMu_ctrs (u : Nat) (r : MuRt) : (setMu u r s).ctrs = s.ctrs := rfl
@[simp] theorem setMu_clap (u : Nat) (r : MuRt) : (setMu u r s).clap = s.clap := rfl
@[simp] theorem setMu_links (u : Nat) (r : MuRt) : (setMu u r s).links = s.links := rfl
@[simp] theorem setMu_streams (u : Nat) (r : MuRt) : (setMu u r s).streams = s.streams := rfl
@[simp] theorem setMu_caps (u : Nat) (r : MuRt) : (setMu u r s).caps = s.caps := rfl
@[simp] theorem setMu_boot (u : Nat) (r : MuRt) : (setMu u r s).boot = s.boot := rfl
@[simp] theorem setMu_jtag (u : Nat) (r : MuRt) : (setMu u r s).jtag = s.jtag := rfl
@[simp] theorem setMu_freeCtr (u : Nat) (r : MuRt) : (setMu u r s).freeCtr = s.freeCtr := rfl
@[simp] theorem setMu_fab_net (u : Nat) (r : MuRt) : (setMu u r s).fab.net = s.fab.net := rfl
@[simp] theorem setMu_fab_cus (u : Nat) (r : MuRt) : (setMu u r s).fab.cus = s.fab.cus := rfl
@[simp] theorem setMu_fab_sram (u : Nat) (r : MuRt) : (setMu u r s).fab.sram = s.fab.sram := rfl
@[simp] theorem setMu_fab_serr (u : Nat) (r : MuRt) : (setMu u r s).fab.serr = s.fab.serr := rfl

@[simp] theorem putSram_pending (u w : Nat) (b : List Byte) : (putSram u w b s).pending = s.pending := rfl
@[simp] theorem putSram_fuse (u w : Nat) (b : List Byte) : (putSram u w b s).fuse = s.fuse := rfl
@[simp] theorem putSram_regs (u w : Nat) (b : List Byte) : (putSram u w b s).regs = s.regs := rfl
@[simp] theorem putSram_out (u w : Nat) (b : List Byte) : (putSram u w b s).out = s.out := rfl
@[simp] theorem putSram_host (u w : Nat) (b : List Byte) : (putSram u w b s).host = s.host := rfl
@[simp] theorem putSram_parts (u w : Nat) (b : List Byte) : (putSram u w b s).parts = s.parts := rfl
@[simp] theorem putSram_doms (u w : Nat) (b : List Byte) : (putSram u w b s).doms = s.doms := rfl
@[simp] theorem putSram_queues (u w : Nat) (b : List Byte) : (putSram u w b s).queues = s.queues := rfl
@[simp] theorem putSram_plan (u w : Nat) (b : List Byte) : (putSram u w b s).plan = s.plan := rfl
@[simp] theorem putSram_toll (u w : Nat) (b : List Byte) : (putSram u w b s).toll = s.toll := rfl
@[simp] theorem putSram_obs (u w : Nat) (b : List Byte) : (putSram u w b s).obs = s.obs := rfl
@[simp] theorem putSram_safe (u w : Nat) (b : List Byte) : (putSram u w b s).safe = s.safe := rfl
@[simp] theorem putSram_pwr (u w : Nat) (b : List Byte) : (putSram u w b s).pwr = s.pwr := rfl
@[simp] theorem putSram_holder (u w : Nat) (b : List Byte) : (putSram u w b s).holder = s.holder := rfl
@[simp] theorem putSram_keys (u w : Nat) (b : List Byte) : (putSram u w b s).keys = s.keys := rfl
@[simp] theorem putSram_trust (u w : Nat) (b : List Byte) : (putSram u w b s).trust = s.trust := rfl
@[simp] theorem putSram_mem (u w : Nat) (b : List Byte) : (putSram u w b s).mem = s.mem := rfl
@[simp] theorem putSram_dmas (u w : Nat) (b : List Byte) : (putSram u w b s).dmas = s.dmas := rfl
@[simp] theorem putSram_xing (u w : Nat) (b : List Byte) : (putSram u w b s).xing = s.xing := rfl
@[simp] theorem putSram_outq (u w : Nat) (b : List Byte) : (putSram u w b s).outq = s.outq := rfl
@[simp] theorem putSram_ctrs (u w : Nat) (b : List Byte) : (putSram u w b s).ctrs = s.ctrs := rfl
@[simp] theorem putSram_clap (u w : Nat) (b : List Byte) : (putSram u w b s).clap = s.clap := rfl
@[simp] theorem putSram_links (u w : Nat) (b : List Byte) : (putSram u w b s).links = s.links := rfl
@[simp] theorem putSram_streams (u w : Nat) (b : List Byte) : (putSram u w b s).streams = s.streams := rfl
@[simp] theorem putSram_caps (u w : Nat) (b : List Byte) : (putSram u w b s).caps = s.caps := rfl
@[simp] theorem putSram_boot (u w : Nat) (b : List Byte) : (putSram u w b s).boot = s.boot := rfl
@[simp] theorem putSram_jtag (u w : Nat) (b : List Byte) : (putSram u w b s).jtag = s.jtag := rfl
@[simp] theorem putSram_freeCtr (u w : Nat) (b : List Byte) : (putSram u w b s).freeCtr = s.freeCtr := rfl
@[simp] theorem putSram_fab_net (u w : Nat) (b : List Byte) : (putSram u w b s).fab.net = s.fab.net := rfl
@[simp] theorem putSram_fab_cus (u w : Nat) (b : List Byte) : (putSram u w b s).fab.cus = s.fab.cus := rfl
@[simp] theorem putSram_fab_mus (u w : Nat) (b : List Byte) : (putSram u w b s).fab.mus = s.fab.mus := rfl
@[simp] theorem putSram_fab_serr (u w : Nat) (b : List Byte) : (putSram u w b s).fab.serr = s.fab.serr := rfl

@[simp] theorem putSerr_pending (u w e : Nat) : (putSerr u w e s).pending = s.pending := rfl
@[simp] theorem putSerr_fuse (u w e : Nat) : (putSerr u w e s).fuse = s.fuse := rfl
@[simp] theorem putSerr_regs (u w e : Nat) : (putSerr u w e s).regs = s.regs := rfl
@[simp] theorem putSerr_out (u w e : Nat) : (putSerr u w e s).out = s.out := rfl
@[simp] theorem putSerr_host (u w e : Nat) : (putSerr u w e s).host = s.host := rfl
@[simp] theorem putSerr_parts (u w e : Nat) : (putSerr u w e s).parts = s.parts := rfl
@[simp] theorem putSerr_doms (u w e : Nat) : (putSerr u w e s).doms = s.doms := rfl
@[simp] theorem putSerr_queues (u w e : Nat) : (putSerr u w e s).queues = s.queues := rfl
@[simp] theorem putSerr_plan (u w e : Nat) : (putSerr u w e s).plan = s.plan := rfl
@[simp] theorem putSerr_toll (u w e : Nat) : (putSerr u w e s).toll = s.toll := rfl
@[simp] theorem putSerr_obs (u w e : Nat) : (putSerr u w e s).obs = s.obs := rfl
@[simp] theorem putSerr_safe (u w e : Nat) : (putSerr u w e s).safe = s.safe := rfl
@[simp] theorem putSerr_pwr (u w e : Nat) : (putSerr u w e s).pwr = s.pwr := rfl
@[simp] theorem putSerr_holder (u w e : Nat) : (putSerr u w e s).holder = s.holder := rfl
@[simp] theorem putSerr_keys (u w e : Nat) : (putSerr u w e s).keys = s.keys := rfl
@[simp] theorem putSerr_trust (u w e : Nat) : (putSerr u w e s).trust = s.trust := rfl
@[simp] theorem putSerr_mem (u w e : Nat) : (putSerr u w e s).mem = s.mem := rfl
@[simp] theorem putSerr_dmas (u w e : Nat) : (putSerr u w e s).dmas = s.dmas := rfl
@[simp] theorem putSerr_xing (u w e : Nat) : (putSerr u w e s).xing = s.xing := rfl
@[simp] theorem putSerr_outq (u w e : Nat) : (putSerr u w e s).outq = s.outq := rfl
@[simp] theorem putSerr_ctrs (u w e : Nat) : (putSerr u w e s).ctrs = s.ctrs := rfl
@[simp] theorem putSerr_clap (u w e : Nat) : (putSerr u w e s).clap = s.clap := rfl
@[simp] theorem putSerr_links (u w e : Nat) : (putSerr u w e s).links = s.links := rfl
@[simp] theorem putSerr_streams (u w e : Nat) : (putSerr u w e s).streams = s.streams := rfl
@[simp] theorem putSerr_caps (u w e : Nat) : (putSerr u w e s).caps = s.caps := rfl
@[simp] theorem putSerr_boot (u w e : Nat) : (putSerr u w e s).boot = s.boot := rfl
@[simp] theorem putSerr_jtag (u w e : Nat) : (putSerr u w e s).jtag = s.jtag := rfl
@[simp] theorem putSerr_freeCtr (u w e : Nat) : (putSerr u w e s).freeCtr = s.freeCtr := rfl
@[simp] theorem putSerr_fab_net (u w e : Nat) : (putSerr u w e s).fab.net = s.fab.net := rfl
@[simp] theorem putSerr_fab_cus (u w e : Nat) : (putSerr u w e s).fab.cus = s.fab.cus := rfl
@[simp] theorem putSerr_fab_mus (u w e : Nat) : (putSerr u w e s).fab.mus = s.fab.mus := rfl
@[simp] theorem putSerr_fab_sram (u w e : Nat) : (putSerr u w e s).fab.sram = s.fab.sram := rfl

@[simp] theorem putDma_pending (x y : DmaRt) : (putDma x y s).pending = s.pending := rfl
@[simp] theorem putDma_fuse (x y : DmaRt) : (putDma x y s).fuse = s.fuse := rfl
@[simp] theorem putDma_regs (x y : DmaRt) : (putDma x y s).regs = s.regs := rfl
@[simp] theorem putDma_out (x y : DmaRt) : (putDma x y s).out = s.out := rfl
@[simp] theorem putDma_host (x y : DmaRt) : (putDma x y s).host = s.host := rfl
@[simp] theorem putDma_parts (x y : DmaRt) : (putDma x y s).parts = s.parts := rfl
@[simp] theorem putDma_doms (x y : DmaRt) : (putDma x y s).doms = s.doms := rfl
@[simp] theorem putDma_queues (x y : DmaRt) : (putDma x y s).queues = s.queues := rfl
@[simp] theorem putDma_plan (x y : DmaRt) : (putDma x y s).plan = s.plan := rfl
@[simp] theorem putDma_toll (x y : DmaRt) : (putDma x y s).toll = s.toll := rfl
@[simp] theorem putDma_obs (x y : DmaRt) : (putDma x y s).obs = s.obs := rfl
@[simp] theorem putDma_safe (x y : DmaRt) : (putDma x y s).safe = s.safe := rfl
@[simp] theorem putDma_pwr (x y : DmaRt) : (putDma x y s).pwr = s.pwr := rfl
@[simp] theorem putDma_holder (x y : DmaRt) : (putDma x y s).holder = s.holder := rfl
@[simp] theorem putDma_keys (x y : DmaRt) : (putDma x y s).keys = s.keys := rfl
@[simp] theorem putDma_trust (x y : DmaRt) : (putDma x y s).trust = s.trust := rfl
@[simp] theorem putDma_mem (x y : DmaRt) : (putDma x y s).mem = s.mem := rfl
@[simp] theorem putDma_xing (x y : DmaRt) : (putDma x y s).xing = s.xing := rfl
@[simp] theorem putDma_outq (x y : DmaRt) : (putDma x y s).outq = s.outq := rfl
@[simp] theorem putDma_fab (x y : DmaRt) : (putDma x y s).fab = s.fab := rfl
@[simp] theorem putDma_ctrs (x y : DmaRt) : (putDma x y s).ctrs = s.ctrs := rfl
@[simp] theorem putDma_clap (x y : DmaRt) : (putDma x y s).clap = s.clap := rfl
@[simp] theorem putDma_links (x y : DmaRt) : (putDma x y s).links = s.links := rfl
@[simp] theorem putDma_streams (x y : DmaRt) : (putDma x y s).streams = s.streams := rfl
@[simp] theorem putDma_caps (x y : DmaRt) : (putDma x y s).caps = s.caps := rfl
@[simp] theorem putDma_boot (x y : DmaRt) : (putDma x y s).boot = s.boot := rfl
@[simp] theorem putDma_jtag (x y : DmaRt) : (putDma x y s).jtag = s.jtag := rfl
@[simp] theorem putDma_freeCtr (x y : DmaRt) : (putDma x y s).freeCtr = s.freeCtr := rfl

/-! ### What each writes -/

theorem fnRt_setFnRt (f : Nat) (r : FnRt) (j : Nat) : fnRt (setFnRt f r s) j = if j = f then r else fnRt s j := tabGet_set _ _ _ _ _
@[simp] theorem fnRt_setFnRt_same (f : Nat) (r : FnRt) : fnRt (setFnRt f r s) f = r := by simp [fnRt_setFnRt]
theorem partRt_setPartRt (p : Nat) (r : PartRt) (j : Nat) : partRt (setPartRt p r s) j = if j = p then r else partRt s j := tabGet_set _ _ _ _ _
@[simp] theorem partRt_setPartRt_same (p : Nat) (r : PartRt) : partRt (setPartRt p r s) p = r := by simp [partRt_setPartRt]
theorem domRt_setDomRt (d : Nat) (r : DomRt) (j : Nat) : domRt (setDomRt d r s) j = if j = d then r else domRt s j := tabGet_set _ _ _ _ _
@[simp] theorem domRt_setDomRt_same (d : Nat) (r : DomRt) : domRt (setDomRt d r s) d = r := by simp [domRt_setDomRt]
theorem queueRt_setQueueRt (q : Nat) (r : QueueRt) (j : Nat) : queueRt (setQueueRt q r s) j = if j = q then r else queueRt s j := tabGet_set _ _ _ _ _
@[simp] theorem queueRt_setQueueRt_same (q : Nat) (r : QueueRt) : queueRt (setQueueRt q r s) q = r := by simp [queueRt_setQueueRt]
theorem chRt_setChRt (n : Nat) (r : ChRt) (j : Nat) : chRt (setChRt n r s) j = if j = n then r else chRt s j := tabGet_set _ _ _ _ _
@[simp] theorem chRt_setChRt_same (n : Nat) (r : ChRt) : chRt (setChRt n r s) n = r := by simp [chRt_setChRt]
theorem linkRt_setLink (n : Nat) (r : LinkRt) (j : Nat) : linkRt (setLink n r s) j = if j = n then r else linkRt s j := tabGet_set _ _ _ _ _
@[simp] theorem linkRt_setLink_same (n : Nat) (r : LinkRt) : linkRt (setLink n r s) n = r := by simp [linkRt_setLink]
theorem ctrRt_setCtr (a : Nat) (r : CtrRt) (j : Nat) : ctrRt (setCtr a r s) j = if j = a then r else ctrRt s j := tabGet_set _ _ _ _ _
@[simp] theorem ctrRt_setCtr_same (a : Nat) (r : CtrRt) : ctrRt (setCtr a r s) a = r := by simp [ctrRt_setCtr]
theorem keySlots_setKeys (i : Nat) (k : KeySlots) (j : Nat) : keySlots (setKeys i k s) j = if j = i then k else keySlots s j := tabGet_set _ _ _ _ _
@[simp] theorem keySlots_setKeys_same (i : Nat) (k : KeySlots) : keySlots (setKeys i k s) i = k := by simp [keySlots_setKeys]
theorem tapRt_setTapRt (u : Nat) (r : TapRt) (j : Nat) : tapRt (setTapRt u r s) j = if j = u then r else tapRt s j := tabGet_set _ _ _ _ _
@[simp] theorem tapRt_setTapRt_same (u : Nat) (r : TapRt) : tapRt (setTapRt u r s) u = r := by simp [tapRt_setTapRt]

theorem setReg_reg (a b : Nat) (v : Word) : (s.setReg a v).reg b = if b = a then v &&& definedMask a else s.reg b :=
  tabGet_set _ _ _ _ _
@[simp] theorem setReg_reg_same (a : Nat) (v : Word) : (s.setReg a v).reg a = v &&& definedMask a := by simp [setReg_reg]
theorem setReg_reg_ne {a b : Nat} (v : Word) (h : b ≠ a) : (s.setReg a v).reg b = s.reg b := by simp [setReg_reg, h]
@[simp] theorem emit_out (e : Emit) : (s.emit e).out = s.out ++ [e] := rfl
@[simp] theorem bump_freeCtr : s.bump.freeCtr = s.freeCtr + 1 := rfl
@[simp] theorem setToll_toll (r : TollRt) : (setToll r s).toll = r := rfl
@[simp] theorem setTrust_trust (t : TrustRt) : (setTrust t s).trust = t := rfl
@[simp] theorem setClap_clap (r : ClapRt) : (setClap r s).clap = r := rfl
@[simp] theorem setPwr_pwr (r : PwrRt) : (setPwr r s).pwr = r := rfl
@[simp] theorem setHolder_holder (h : HolderRt) : (setHolder h s).holder = some h := rfl
@[simp] theorem setBoot_boot (b : BootRt) : (setBoot b s).boot = b := rfl
@[simp] theorem setOutst_outst (l : List Outst) : (setOutst l s).host.outst = l := rfl
@[simp] theorem setResidents_resident (l : List Resident) : (setResidents l s).plan.resident = l := rfl

/-! ### Registers and the list reads see through updates of other fields -/

@[simp] theorem setReg_fnRt (a : Nat) (v : Word) (at0 : Nat) : fnRt (s.setReg a v) at0 = fnRt s at0 := rfl
@[simp] theorem setReg_partRt (a : Nat) (v : Word) (at0 : Nat) : partRt (s.setReg a v) at0 = partRt s at0 := rfl
@[simp] theorem setReg_domRt (a : Nat) (v : Word) (at0 : Nat) : domRt (s.setReg a v) at0 = domRt s at0 := rfl
@[simp] theorem setReg_queueRt (a : Nat) (v : Word) (at0 : Nat) : queueRt (s.setReg a v) at0 = queueRt s at0 := rfl
@[simp] theorem dropRegs_fnRt (p : Nat → Bool) (at0 : Nat) : fnRt (s.dropRegs p) at0 = fnRt s at0 := rfl
@[simp] theorem dropRegs_partRt (p : Nat → Bool) (at0 : Nat) : partRt (s.dropRegs p) at0 = partRt s at0 := rfl
@[simp] theorem dropRegs_domRt (p : Nat → Bool) (at0 : Nat) : domRt (s.dropRegs p) at0 = domRt s at0 := rfl
@[simp] theorem dropRegs_queueRt (p : Nat → Bool) (at0 : Nat) : queueRt (s.dropRegs p) at0 = queueRt s at0 := rfl
@[simp] theorem emit_reg (e : Emit) (at0 : Nat) : (s.emit e).reg at0 = s.reg at0 := rfl
@[simp] theorem emit_fnRt (e : Emit) (at0 : Nat) : fnRt (s.emit e) at0 = fnRt s at0 := rfl
@[simp] theorem emit_partRt (e : Emit) (at0 : Nat) : partRt (s.emit e) at0 = partRt s at0 := rfl
@[simp] theorem emit_domRt (e : Emit) (at0 : Nat) : domRt (s.emit e) at0 = domRt s at0 := rfl
@[simp] theorem emit_queueRt (e : Emit) (at0 : Nat) : queueRt (s.emit e) at0 = queueRt s at0 := rfl
@[simp] theorem bump_reg  (at0 : Nat) : (s.bump).reg at0 = s.reg at0 := rfl
@[simp] theorem bump_fnRt  (at0 : Nat) : fnRt (s.bump) at0 = fnRt s at0 := rfl
@[simp] theorem bump_partRt  (at0 : Nat) : partRt (s.bump) at0 = partRt s at0 := rfl
@[simp] theorem bump_domRt  (at0 : Nat) : domRt (s.bump) at0 = domRt s at0 := rfl
@[simp] theorem bump_queueRt  (at0 : Nat) : queueRt (s.bump) at0 = queueRt s at0 := rfl
@[simp] theorem setFnRt_reg (f : Nat) (r : FnRt) (at0 : Nat) : (setFnRt f r s).reg at0 = s.reg at0 := rfl
@[simp] theorem setFnRt_partRt (f : Nat) (r : FnRt) (at0 : Nat) : partRt (setFnRt f r s) at0 = partRt s at0 := rfl
@[simp] theorem setFnRt_domRt (f : Nat) (r : FnRt) (at0 : Nat) : domRt (setFnRt f r s) at0 = domRt s at0 := rfl
@[simp] theorem setFnRt_queueRt (f : Nat) (r : FnRt) (at0 : Nat) : queueRt (setFnRt f r s) at0 = queueRt s at0 := rfl
@[simp] theorem setOutst_reg (l : List Outst) (at0 : Nat) : (setOutst l s).reg at0 = s.reg at0 := rfl
@[simp] theorem setOutst_fnRt (l : List Outst) (at0 : Nat) : fnRt (setOutst l s) at0 = fnRt s at0 := rfl
@[simp] theorem setOutst_partRt (l : List Outst) (at0 : Nat) : partRt (setOutst l s) at0 = partRt s at0 := rfl
@[simp] theorem setOutst_domRt (l : List Outst) (at0 : Nat) : domRt (setOutst l s) at0 = domRt s at0 := rfl
@[simp] theorem setOutst_queueRt (l : List Outst) (at0 : Nat) : queueRt (setOutst l s) at0 = queueRt s at0 := rfl
@[simp] theorem setPartRt_reg (p : Nat) (r : PartRt) (at0 : Nat) : (setPartRt p r s).reg at0 = s.reg at0 := rfl
@[simp] theorem setPartRt_fnRt (p : Nat) (r : PartRt) (at0 : Nat) : fnRt (setPartRt p r s) at0 = fnRt s at0 := rfl
@[simp] theorem setPartRt_domRt (p : Nat) (r : PartRt) (at0 : Nat) : domRt (setPartRt p r s) at0 = domRt s at0 := rfl
@[simp] theorem setPartRt_queueRt (p : Nat) (r : PartRt) (at0 : Nat) : queueRt (setPartRt p r s) at0 = queueRt s at0 := rfl
@[simp] theorem setDomRt_reg (d : Nat) (r : DomRt) (at0 : Nat) : (setDomRt d r s).reg at0 = s.reg at0 := rfl
@[simp] theorem setDomRt_fnRt (d : Nat) (r : DomRt) (at0 : Nat) : fnRt (setDomRt d r s) at0 = fnRt s at0 := rfl
@[simp] theorem setDomRt_partRt (d : Nat) (r : DomRt) (at0 : Nat) : partRt (setDomRt d r s) at0 = partRt s at0 := rfl
@[simp] theorem setDomRt_queueRt (d : Nat) (r : DomRt) (at0 : Nat) : queueRt (setDomRt d r s) at0 = queueRt s at0 := rfl
@[simp] theorem setQueueRt_reg (q : Nat) (r : QueueRt) (at0 : Nat) : (setQueueRt q r s).reg at0 = s.reg at0 := rfl
@[simp] theorem setQueueRt_fnRt (q : Nat) (r : QueueRt) (at0 : Nat) : fnRt (setQueueRt q r s) at0 = fnRt s at0 := rfl
@[simp] theorem setQueueRt_partRt (q : Nat) (r : QueueRt) (at0 : Nat) : partRt (setQueueRt q r s) at0 = partRt s at0 := rfl
@[simp] theorem setQueueRt_domRt (q : Nat) (r : QueueRt) (at0 : Nat) : domRt (setQueueRt q r s) at0 = domRt s at0 := rfl
@[simp] theorem setChRt_reg (n : Nat) (r : ChRt) (at0 : Nat) : (setChRt n r s).reg at0 = s.reg at0 := rfl
@[simp] theorem setChRt_fnRt (n : Nat) (r : ChRt) (at0 : Nat) : fnRt (setChRt n r s) at0 = fnRt s at0 := rfl
@[simp] theorem setChRt_partRt (n : Nat) (r : ChRt) (at0 : Nat) : partRt (setChRt n r s) at0 = partRt s at0 := rfl
@[simp] theorem setChRt_domRt (n : Nat) (r : ChRt) (at0 : Nat) : domRt (setChRt n r s) at0 = domRt s at0 := rfl
@[simp] theorem setChRt_queueRt (n : Nat) (r : ChRt) (at0 : Nat) : queueRt (setChRt n r s) at0 = queueRt s at0 := rfl
@[simp] theorem setTapRt_reg (u : Nat) (r : TapRt) (at0 : Nat) : (setTapRt u r s).reg at0 = s.reg at0 := rfl
@[simp] theorem setTapRt_fnRt (u : Nat) (r : TapRt) (at0 : Nat) : fnRt (setTapRt u r s) at0 = fnRt s at0 := rfl
@[simp] theorem setTapRt_partRt (u : Nat) (r : TapRt) (at0 : Nat) : partRt (setTapRt u r s) at0 = partRt s at0 := rfl
@[simp] theorem setTapRt_domRt (u : Nat) (r : TapRt) (at0 : Nat) : domRt (setTapRt u r s) at0 = domRt s at0 := rfl
@[simp] theorem setTapRt_queueRt (u : Nat) (r : TapRt) (at0 : Nat) : queueRt (setTapRt u r s) at0 = queueRt s at0 := rfl
@[simp] theorem setToll_reg (r : TollRt) (at0 : Nat) : (setToll r s).reg at0 = s.reg at0 := rfl
@[simp] theorem setToll_fnRt (r : TollRt) (at0 : Nat) : fnRt (setToll r s) at0 = fnRt s at0 := rfl
@[simp] theorem setToll_partRt (r : TollRt) (at0 : Nat) : partRt (setToll r s) at0 = partRt s at0 := rfl
@[simp] theorem setToll_domRt (r : TollRt) (at0 : Nat) : domRt (setToll r s) at0 = domRt s at0 := rfl
@[simp] theorem setToll_queueRt (r : TollRt) (at0 : Nat) : queueRt (setToll r s) at0 = queueRt s at0 := rfl
@[simp] theorem setCtr_reg (a : Nat) (r : CtrRt) (at0 : Nat) : (setCtr a r s).reg at0 = s.reg at0 := rfl
@[simp] theorem setCtr_fnRt (a : Nat) (r : CtrRt) (at0 : Nat) : fnRt (setCtr a r s) at0 = fnRt s at0 := rfl
@[simp] theorem setCtr_partRt (a : Nat) (r : CtrRt) (at0 : Nat) : partRt (setCtr a r s) at0 = partRt s at0 := rfl
@[simp] theorem setCtr_domRt (a : Nat) (r : CtrRt) (at0 : Nat) : domRt (setCtr a r s) at0 = domRt s at0 := rfl
@[simp] theorem setCtr_queueRt (a : Nat) (r : CtrRt) (at0 : Nat) : queueRt (setCtr a r s) at0 = queueRt s at0 := rfl
@[simp] theorem setClap_reg (r : ClapRt) (at0 : Nat) : (setClap r s).reg at0 = s.reg at0 := rfl
@[simp] theorem setClap_fnRt (r : ClapRt) (at0 : Nat) : fnRt (setClap r s) at0 = fnRt s at0 := rfl
@[simp] theorem setClap_partRt (r : ClapRt) (at0 : Nat) : partRt (setClap r s) at0 = partRt s at0 := rfl
@[simp] theorem setClap_domRt (r : ClapRt) (at0 : Nat) : domRt (setClap r s) at0 = domRt s at0 := rfl
@[simp] theorem setClap_queueRt (r : ClapRt) (at0 : Nat) : queueRt (setClap r s) at0 = queueRt s at0 := rfl
@[simp] theorem setLink_reg (n : Nat) (r : LinkRt) (at0 : Nat) : (setLink n r s).reg at0 = s.reg at0 := rfl
@[simp] theorem setLink_fnRt (n : Nat) (r : LinkRt) (at0 : Nat) : fnRt (setLink n r s) at0 = fnRt s at0 := rfl
@[simp] theorem setLink_partRt (n : Nat) (r : LinkRt) (at0 : Nat) : partRt (setLink n r s) at0 = partRt s at0 := rfl
@[simp] theorem setLink_domRt (n : Nat) (r : LinkRt) (at0 : Nat) : domRt (setLink n r s) at0 = domRt s at0 := rfl
@[simp] theorem setLink_queueRt (n : Nat) (r : LinkRt) (at0 : Nat) : queueRt (setLink n r s) at0 = queueRt s at0 := rfl
@[simp] theorem setPwr_reg (r : PwrRt) (at0 : Nat) : (setPwr r s).reg at0 = s.reg at0 := rfl
@[simp] theorem setPwr_fnRt (r : PwrRt) (at0 : Nat) : fnRt (setPwr r s) at0 = fnRt s at0 := rfl
@[simp] theorem setPwr_partRt (r : PwrRt) (at0 : Nat) : partRt (setPwr r s) at0 = partRt s at0 := rfl
@[simp] theorem setPwr_domRt (r : PwrRt) (at0 : Nat) : domRt (setPwr r s) at0 = domRt s at0 := rfl
@[simp] theorem setPwr_queueRt (r : PwrRt) (at0 : Nat) : queueRt (setPwr r s) at0 = queueRt s at0 := rfl
@[simp] theorem setKeys_reg (i : Nat) (k : KeySlots) (at0 : Nat) : (setKeys i k s).reg at0 = s.reg at0 := rfl
@[simp] theorem setKeys_fnRt (i : Nat) (k : KeySlots) (at0 : Nat) : fnRt (setKeys i k s) at0 = fnRt s at0 := rfl
@[simp] theorem setKeys_partRt (i : Nat) (k : KeySlots) (at0 : Nat) : partRt (setKeys i k s) at0 = partRt s at0 := rfl
@[simp] theorem setKeys_domRt (i : Nat) (k : KeySlots) (at0 : Nat) : domRt (setKeys i k s) at0 = domRt s at0 := rfl
@[simp] theorem setKeys_queueRt (i : Nat) (k : KeySlots) (at0 : Nat) : queueRt (setKeys i k s) at0 = queueRt s at0 := rfl
@[simp] theorem setTrust_reg (t : TrustRt) (at0 : Nat) : (setTrust t s).reg at0 = s.reg at0 := rfl
@[simp] theorem setTrust_fnRt (t : TrustRt) (at0 : Nat) : fnRt (setTrust t s) at0 = fnRt s at0 := rfl
@[simp] theorem setTrust_partRt (t : TrustRt) (at0 : Nat) : partRt (setTrust t s) at0 = partRt s at0 := rfl
@[simp] theorem setTrust_domRt (t : TrustRt) (at0 : Nat) : domRt (setTrust t s) at0 = domRt s at0 := rfl
@[simp] theorem setTrust_queueRt (t : TrustRt) (at0 : Nat) : queueRt (setTrust t s) at0 = queueRt s at0 := rfl
@[simp] theorem setHolder_reg (h : HolderRt) (at0 : Nat) : (setHolder h s).reg at0 = s.reg at0 := rfl
@[simp] theorem setHolder_fnRt (h : HolderRt) (at0 : Nat) : fnRt (setHolder h s) at0 = fnRt s at0 := rfl
@[simp] theorem setHolder_partRt (h : HolderRt) (at0 : Nat) : partRt (setHolder h s) at0 = partRt s at0 := rfl
@[simp] theorem setHolder_domRt (h : HolderRt) (at0 : Nat) : domRt (setHolder h s) at0 = domRt s at0 := rfl
@[simp] theorem setHolder_queueRt (h : HolderRt) (at0 : Nat) : queueRt (setHolder h s) at0 = queueRt s at0 := rfl
@[simp] theorem setBoot_reg (b : BootRt) (at0 : Nat) : (setBoot b s).reg at0 = s.reg at0 := rfl
@[simp] theorem setBoot_fnRt (b : BootRt) (at0 : Nat) : fnRt (setBoot b s) at0 = fnRt s at0 := rfl
@[simp] theorem setBoot_partRt (b : BootRt) (at0 : Nat) : partRt (setBoot b s) at0 = partRt s at0 := rfl
@[simp] theorem setBoot_domRt (b : BootRt) (at0 : Nat) : domRt (setBoot b s) at0 = domRt s at0 := rfl
@[simp] theorem setBoot_queueRt (b : BootRt) (at0 : Nat) : queueRt (setBoot b s) at0 = queueRt s at0 := rfl
@[simp] theorem setResidents_reg (l : List Resident) (at0 : Nat) : (setResidents l s).reg at0 = s.reg at0 := rfl
@[simp] theorem setResidents_fnRt (l : List Resident) (at0 : Nat) : fnRt (setResidents l s) at0 = fnRt s at0 := rfl
@[simp] theorem setResidents_partRt (l : List Resident) (at0 : Nat) : partRt (setResidents l s) at0 = partRt s at0 := rfl
@[simp] theorem setResidents_domRt (l : List Resident) (at0 : Nat) : domRt (setResidents l s) at0 = domRt s at0 := rfl
@[simp] theorem setResidents_queueRt (l : List Resident) (at0 : Nat) : queueRt (setResidents l s) at0 = queueRt s at0 := rfl
@[simp] theorem setCell_reg (a : Nat) (b : List Byte) (at0 : Nat) : (setCell a b s).reg at0 = s.reg at0 := rfl
@[simp] theorem setCell_fnRt (a : Nat) (b : List Byte) (at0 : Nat) : fnRt (setCell a b s) at0 = fnRt s at0 := rfl
@[simp] theorem setCell_partRt (a : Nat) (b : List Byte) (at0 : Nat) : partRt (setCell a b s) at0 = partRt s at0 := rfl
@[simp] theorem setCell_domRt (a : Nat) (b : List Byte) (at0 : Nat) : domRt (setCell a b s) at0 = domRt s at0 := rfl
@[simp] theorem setCell_queueRt (a : Nat) (b : List Byte) (at0 : Nat) : queueRt (setCell a b s) at0 = queueRt s at0 := rfl
@[simp] theorem setRekey_reg (h : Nat) (k : Option RekeyRt) (at0 : Nat) : (setRekey h k s).reg at0 = s.reg at0 := rfl
@[simp] theorem setRekey_fnRt (h : Nat) (k : Option RekeyRt) (at0 : Nat) : fnRt (setRekey h k s) at0 = fnRt s at0 := rfl
@[simp] theorem setRekey_partRt (h : Nat) (k : Option RekeyRt) (at0 : Nat) : partRt (setRekey h k s) at0 = partRt s at0 := rfl
@[simp] theorem setRekey_domRt (h : Nat) (k : Option RekeyRt) (at0 : Nat) : domRt (setRekey h k s) at0 = domRt s at0 := rfl
@[simp] theorem setRekey_queueRt (h : Nat) (k : Option RekeyRt) (at0 : Nat) : queueRt (setRekey h k s) at0 = queueRt s at0 := rfl
@[simp] theorem setNet_reg (n : NetRt) (at0 : Nat) : (setNet n s).reg at0 = s.reg at0 := rfl
@[simp] theorem setNet_fnRt (n : NetRt) (at0 : Nat) : fnRt (setNet n s) at0 = fnRt s at0 := rfl
@[simp] theorem setNet_partRt (n : NetRt) (at0 : Nat) : partRt (setNet n s) at0 = partRt s at0 := rfl
@[simp] theorem setNet_domRt (n : NetRt) (at0 : Nat) : domRt (setNet n s) at0 = domRt s at0 := rfl
@[simp] theorem setNet_queueRt (n : NetRt) (at0 : Nat) : queueRt (setNet n s) at0 = queueRt s at0 := rfl
@[simp] theorem setCu_reg (u : Nat) (r : CuRt) (at0 : Nat) : (setCu u r s).reg at0 = s.reg at0 := rfl
@[simp] theorem setCu_fnRt (u : Nat) (r : CuRt) (at0 : Nat) : fnRt (setCu u r s) at0 = fnRt s at0 := rfl
@[simp] theorem setCu_partRt (u : Nat) (r : CuRt) (at0 : Nat) : partRt (setCu u r s) at0 = partRt s at0 := rfl
@[simp] theorem setCu_domRt (u : Nat) (r : CuRt) (at0 : Nat) : domRt (setCu u r s) at0 = domRt s at0 := rfl
@[simp] theorem setCu_queueRt (u : Nat) (r : CuRt) (at0 : Nat) : queueRt (setCu u r s) at0 = queueRt s at0 := rfl
@[simp] theorem setMu_reg (u : Nat) (r : MuRt) (at0 : Nat) : (setMu u r s).reg at0 = s.reg at0 := rfl
@[simp] theorem setMu_fnRt (u : Nat) (r : MuRt) (at0 : Nat) : fnRt (setMu u r s) at0 = fnRt s at0 := rfl
@[simp] theorem setMu_partRt (u : Nat) (r : MuRt) (at0 : Nat) : partRt (setMu u r s) at0 = partRt s at0 := rfl
@[simp] theorem setMu_domRt (u : Nat) (r : MuRt) (at0 : Nat) : domRt (setMu u r s) at0 = domRt s at0 := rfl
@[simp] theorem setMu_queueRt (u : Nat) (r : MuRt) (at0 : Nat) : queueRt (setMu u r s) at0 = queueRt s at0 := rfl
@[simp] theorem putSram_reg (u w : Nat) (b : List Byte) (at0 : Nat) : (putSram u w b s).reg at0 = s.reg at0 := rfl
@[simp] theorem putSram_fnRt (u w : Nat) (b : List Byte) (at0 : Nat) : fnRt (putSram u w b s) at0 = fnRt s at0 := rfl
@[simp] theorem putSram_partRt (u w : Nat) (b : List Byte) (at0 : Nat) : partRt (putSram u w b s) at0 = partRt s at0 := rfl
@[simp] theorem putSram_domRt (u w : Nat) (b : List Byte) (at0 : Nat) : domRt (putSram u w b s) at0 = domRt s at0 := rfl
@[simp] theorem putSram_queueRt (u w : Nat) (b : List Byte) (at0 : Nat) : queueRt (putSram u w b s) at0 = queueRt s at0 := rfl
@[simp] theorem putSerr_reg (u w e : Nat) (at0 : Nat) : (putSerr u w e s).reg at0 = s.reg at0 := rfl
@[simp] theorem putSerr_fnRt (u w e : Nat) (at0 : Nat) : fnRt (putSerr u w e s) at0 = fnRt s at0 := rfl
@[simp] theorem putSerr_partRt (u w e : Nat) (at0 : Nat) : partRt (putSerr u w e s) at0 = partRt s at0 := rfl
@[simp] theorem putSerr_domRt (u w e : Nat) (at0 : Nat) : domRt (putSerr u w e s) at0 = domRt s at0 := rfl
@[simp] theorem putSerr_queueRt (u w e : Nat) (at0 : Nat) : queueRt (putSerr u w e s) at0 = queueRt s at0 := rfl
@[simp] theorem putDma_reg (x y : DmaRt) (at0 : Nat) : (putDma x y s).reg at0 = s.reg at0 := rfl
@[simp] theorem putDma_fnRt (x y : DmaRt) (at0 : Nat) : fnRt (putDma x y s) at0 = fnRt s at0 := rfl
@[simp] theorem putDma_partRt (x y : DmaRt) (at0 : Nat) : partRt (putDma x y s) at0 = partRt s at0 := rfl
@[simp] theorem putDma_domRt (x y : DmaRt) (at0 : Nat) : domRt (putDma x y s) at0 = domRt s at0 := rfl
@[simp] theorem putDma_queueRt (x y : DmaRt) (at0 : Nat) : queueRt (putDma x y s) at0 = queueRt s at0 := rfl

end

end Sys2Proof.Laws
end

