-- ==== Sys2Proof/Laws/Memory.lean ====
section
/-! SUPPORT. The register table and the two addressed memories keep their canonical form under every operation that writes
them. -/

namespace Sys2Proof.Laws

open Sys2Proof Sys2Proof.Machine

/-! ### Registers -/

theorem regsWf_setReg {s : State} {a v} (h : regsWf s = true) : regsWf (s.setReg a v) = true := by
  simp only [regsWf, Bool.and_eq_true, List.all_eq_true] at h ⊢
  refine ⟨by simpa only [State.setReg] using tabWf_set _ _ _ h.1, ?_⟩
  intro e he
  rcases mem_tabSet _ _ _ _ he with rfl | he
  · simp only [decide_eq_true_eq]; ext i; simp
  · exact h.2 e he

theorem regsWf_put {s : State} {a lo w v} (h : regsWf s = true) : regsWf (s.put a lo w v) = true := regsWf_setReg h
theorem regsWf_setBit {s : State} {a i v} (h : regsWf s = true) : regsWf (s.setBit a i v) = true := regsWf_put h

theorem regsWf_dropRegs {s : State} {p} (h : regsWf s = true) : regsWf (s.dropRegs p) = true := by
  simp only [regsWf, Bool.and_eq_true, List.all_eq_true] at h ⊢
  exact ⟨tabWf_drop _ p h.1, fun x hx => h.2 x (List.mem_filter.1 hx).1⟩

/-! ### Folds -/

theorem foldl_keeps {α β : Type} {P : α → Prop} {f : α → β → α} {l : List β} {i : α} (hf : ∀ a, P a → ∀ b, P (f a b)) (hi : P i) :
    P (l.foldl f i) := by
  induction l generalizing i with
  | nil => exact hi
  | cons x l ih => exact ih (hf _ hi x)
theorem forN_keeps {α : Type} {P : α → Prop} {f : Nat → α → α} {n : Nat} {i : α} (hf : ∀ b a, P a → P (f b a)) (hi : P i) :
    P (forN n f i) := foldl_keeps (fun a h b => hf b a h) hi
theorem forL_keeps {α β : Type} {P : α → Prop} {f : β → α → α} {l : List β} {i : α} (hf : ∀ b a, P a → P (f b a)) (hi : P i) :
    P (forL l f i) := foldl_keeps (fun a h b => hf b a h) hi

/-! ### SRAM -/

theorem sramWf_putSram {s : State} {u w b} (h : sramWf s = true) : sramWf (putSram u w b s) = true := tabWf_set _ _ _ h
theorem sramWf_scrubSram {s : State} {m} (h : sramWf s = true) : sramWf (scrubSram m s) = true := by
  simpa only [sramWf, scrubSram] using tabWf_drop _ _ h

theorem tabWf_set_word {t : Tab (List Byte)} {k : Nat} {b : List Byte} (h : tabWf (fun _ => []) t = true) :
    tabWf (fun _ => ([] : List Byte)) (tabSet (fun _ => zeros 64) k (padTo 64 b) t) = true := by
  unfold tabSet; split
  · exact tabWf_erase _ _ h
  · have hne : padTo 64 b ≠ [] := by
      intro e
      have := congrArg List.length e
      simp only [padTo, List.length_take, List.length_append, List.length_replicate, List.length_nil] at this
      omega
    have := tabWf_set (fun _ => ([] : List Byte)) k (padTo 64 b) h
    rwa [tabSet, if_neg hne] at this

theorem tabWf_words (l : List Nat) (x : Tab (List Byte) × List Byte) (h : tabWf (fun _ => []) x.1 = true) :
    tabWf (fun _ => ([] : List Byte)) (l.foldl (fun (a : Tab (List Byte) × List Byte) k =>
      (tabSet (fun _ => zeros 64) k (padTo 64 (a.2.take 64)) a.1, a.2.drop 64)) x).1 = true := by
  induction l generalizing x with
  | nil => exact h
  | cons k l ih => rw [List.foldl_cons]; exact ih _ (tabWf_set_word h)

theorem sramWf_loadSram {s : State} {p b} (h : sramWf s = true) : sramWf (loadSram p b s) = true := by
  have e : ∀ (l : List Nat) q, tabWf (fun _ => ([] : List Byte)) (l.foldl (fun (a : Tab (List Byte) × List Byte) k =>
    (tabSet (fun _ => zeros 64) k (padTo 64 (a.2.take 64)) a.1, a.2.drop 64)) (tabDrop q s.fab.sram, b)).1 = true :=
    fun l q => tabWf_words l _ (tabWf_drop _ q h)
  simp only [sramWf, loadSram, e]

/-! ### HBM -/

theorem memWf_setCell {s : State} {a b} (h : memWf s = true) : memWf (setCell a b s) = true := by
  have := tabWf_set (fun _ => none) a (some b) h
  simpa only [memWf, setCell] using this

theorem memWf_putTag {s : State} {h r l w f ct v} (k : memWf s = true) : memWf (putTag h r l w f ct v s) = true := memWf_setCell k

theorem memWf_writeLine {s : State} {h r l off b} (k : memWf s = true) : memWf (writeLine h r l off b s).2 = true := by
  simp only [writeLine, apply_ite Prod.snd]
  split
  · split
    · exact memWf_putTag k
    · split
      · exact k
      · exact memWf_putTag (memWf_setCell k)
  · exact memWf_setCell k

/-! Reports leave memory alone. -/

@[simp] theorem msixSend_mem (f v : Nat) (s : State) : (msixSend f v s).mem = s.mem := by
  unfold msixSend; dsimp only; split_ifs <;> rfl
theorem setBit_mem (a i : Nat) (v : Bool) (s : State) : (s.setBit a i v).mem = s.mem := rfl
@[simp] theorem raise_mem (f v : Nat) (s : State) : (raise f v s).mem = s.mem := by
  unfold raise; dsimp only; split_ifs <;> simp [setBit_mem]
@[simp] theorem raisePart_mem (a b c p : Nat) (s : State) : (raisePart a b c p s).mem = s.mem := by
  unfold raisePart; split_ifs <;> simp
@[simp] theorem memError_mem (h code src r l : Nat) (s : State) : (memError h code src r l s).mem = s.mem := by
  have key (t : State) (e : t.mem = s.mem) : (if partPresent t h then raisePart 7 5 32 h t else raise 0 7 t).mem = s.mem := by
    split <;> simp [e]
  have pre (v : Word) (sc : Nat) : (if s.rbit (aMemErrA h) 31 then s.setBit (aMemErrA h) 30 true
      else ((s.setReg (aMemErrA h) (v ||| 0x80000000#32)).setReg (aMemErrB h) (BitVec.ofNat 32 l)).setReg (aMemErrC h) (BitVec.ofNat 32 sc)).mem =
      s.mem := by
    split <;> rfl
  exact key _ (pre _ _)

theorem memWf_of_mem {s t : State} (e : t.mem = s.mem) (h : memWf s = true) : memWf t = true := by rwa [memWf, e]

theorem memWf_zeroRegion {s : State} {h r} (k : memWf s = true) : memWf (zeroRegion h r s) = true := by
  unfold zeroRegion
  refine forN_keeps (P := fun s => memWf s = true) ?_ k
  intro l t ht; dsimp only; split_ifs
  · exact memWf_putTag (memWf_setCell ht)
  · exact memWf_setCell ht

theorem memWf_rekeyLine {s : State} {h r l n ue} (k : memWf s = true) : memWf (rekeyLine h r l n ue s).2 = true := by
  unfold rekeyLine; dsimp only
  split_ifs
  · exact memWf_putTag (memWf_setCell (memWf_of_mem (memError_mem ..) k))
  · exact memWf_putTag (memWf_setCell (memWf_of_mem (memError_mem ..) k))
  · exact memWf_putTag (memWf_setCell k)
  · exact memWf_setCell (memWf_of_mem (memError_mem ..) k)
  · exact memWf_setCell k

theorem memWf_rekeyLines {s : State} {h r n u} (k : memWf s = true) : memWf (rekeyLines h r n u s).2.2 = true := by
  unfold rekeyLines
  refine foldl_keeps (P := fun (x : Nat × Nat × State) => memWf x.2.2 = true) ?_ k
  intro x hx l; dsimp only; split_ifs
  · exact memWf_rekeyLine hx
  · exact hx

theorem memWf_readBytes {s : State} {src h r off len} (k : memWf s = true) : memWf (readBytes src h r off len s).2.2 = true := by
  unfold readBytes; dsimp only
  refine foldl_keeps (P := fun (x : Nat × List Byte × State) => memWf x.2.2 = true) ?_ k
  intro x hx l; dsimp only; split_ifs
  · exact hx
  · exact memWf_of_mem (memError_mem ..) hx

end Sys2Proof.Laws
end

