-- ==== Sys2Proof/Laws/Inv.lean ====
section
/-! SUPPORT. The invariant under each operation that writes what it speaks of, and under every update that leaves that alone. -/

namespace Sys2Proof.Laws

open Sys2Proof Sys2Proof.Machine

/-- An update that leaves registers, HBM, SRAM and NumVFs alone keeps the invariant. -/
theorem inv_of_same {s t : State} (h : Inv s) (e1 : t.regs = s.regs) (e2 : t.mem.cells = s.mem.cells) (e3 : t.fab.sram = s.fab.sram)
    (e4 : t.host.numVf = s.host.numVf) : Inv t :=
  ⟨by simpa only [regsWf, e1] using h.regs, by simpa only [memWf, e2] using h.mem, by simpa only [sramWf, e3] using h.sram,
   by rw [e4]; exact h.vfs⟩

theorem inv_setReg {s : State} {a v} (h : Inv s) : Inv (s.setReg a v) := ⟨regsWf_setReg h.regs, h.mem, h.sram, h.vfs⟩
theorem inv_put {s : State} {a lo w v} (h : Inv s) : Inv (s.put a lo w v) := inv_setReg h
theorem inv_setBit {s : State} {a i v} (h : Inv s) : Inv (s.setBit a i v) := inv_put h
theorem inv_dropRegs {s : State} {p} (h : Inv s) : Inv (s.dropRegs p) := ⟨regsWf_dropRegs h.regs, h.mem, h.sram, h.vfs⟩
theorem inv_emit {s : State} {e} (h : Inv s) : Inv (s.emit e) := inv_of_same h rfl rfl rfl rfl
theorem inv_bump {s : State} (h : Inv s) : Inv s.bump := inv_of_same h rfl rfl rfl rfl
theorem inv_setCell {s : State} {a b} (h : Inv s) : Inv (setCell a b s) := ⟨h.regs, memWf_setCell h.mem, h.sram, h.vfs⟩
theorem inv_putSram {s : State} {u w b} (h : Inv s) : Inv (putSram u w b s) := ⟨h.regs, h.mem, sramWf_putSram h.sram, h.vfs⟩
theorem inv_scrubSram {s : State} {m} (h : Inv s) : Inv (scrubSram m s) :=
  ⟨by simpa only [scrubSram, regsWf] using h.regs, by simpa only [scrubSram, memWf] using h.mem, sramWf_scrubSram h.sram,
   by simpa only [scrubSram] using h.vfs⟩
theorem inv_loadSram {s : State} {p b} (h : Inv s) : Inv (loadSram p b s) :=
  ⟨by simpa only [loadSram, regsWf] using h.regs, by simpa only [loadSram, memWf] using h.mem, sramWf_loadSram h.sram,
   by simpa only [loadSram] using h.vfs⟩
theorem inv_numVf {s : State} {n : Nat} (h : Inv s) (hn : n ≤ 8) : Inv { s with host := { s.host with numVf := n } } :=
  ⟨h.regs, h.mem, h.sram, hn⟩

end Sys2Proof.Laws
end

