-- ==== Sys2Proof/Laws/PerInstr.lean ====
section
/-! SUPPORT. Per-command law: every function that a well-formed command names is PF0 or one of the eight VFs (R584). -/

namespace Sys2Proof.Laws

open Sys2Proof

/-- A well-formed operand names no function beyond VF8. -/
theorem operand_func_le {o : Operand} {f : Nat} (h : o.ok = true) (hf : o.func = some f) : f ≤ 8 := by
  cases o <;> simp [Operand.func] at hf <;> subst hf <;> simp [Operand.ok] at h <;> omega

/-- A well-formed command names no function beyond VF8. -/
def Operand.Statement (i : Instr) : Prop := wellFormed i = true → ∀ o ∈ operands i, ∀ f, o.func = some f → f ≤ 8

theorem operand_statement (i : Instr) : Operand.Statement i :=
  fun h o ho _ hf => operand_func_le (by simp only [wellFormed, List.all_eq_true] at h; exact h o ho) hf

theorem Operand.nop (x) : Operand.Statement (.nop x) := operand_statement _
theorem Operand.queryCaps (x) : Operand.Statement (.queryCaps x) := operand_statement _
theorem Operand.errlogRead (x) : Operand.Statement (.errlogRead x) := operand_statement _
theorem Operand.fwSvnCommit (x) : Operand.Statement (.fwSvnCommit x) := operand_statement _
theorem Operand.partQuery (x) : Operand.Statement (.partQuery x) := operand_statement _
theorem Operand.partAssign (x) : Operand.Statement (.partAssign x) := operand_statement _
theorem Operand.partSwitchGo (x) : Operand.Statement (.partSwitchGo x) := operand_statement _
theorem Operand.holderChangePhaseEnd (x) : Operand.Statement (.holderChangePhaseEnd x) := operand_statement _
theorem Operand.zfill : Operand.Statement (.zfill) := operand_statement _
theorem Operand.partReset (x) : Operand.Statement (.partReset x) := operand_statement _
theorem Operand.partCtlReset (x y) : Operand.Statement (.partCtlReset x y) := operand_statement _
theorem Operand.partitionResetEnd (x y) : Operand.Statement (.partitionResetEnd x y) := operand_statement _
theorem Operand.partExpert (x) : Operand.Statement (.partExpert x) := operand_statement _
theorem Operand.bellSet (x) : Operand.Statement (.bellSet x) := operand_statement _
theorem Operand.bellStrike (x) : Operand.Statement (.bellStrike x) := operand_statement _
theorem Operand.belStrk (x) : Operand.Statement (.belStrk x) := operand_statement _
theorem Operand.bellWait (x) : Operand.Statement (.bellWait x) := operand_statement _
theorem Operand.bellWaitEnd (x) : Operand.Statement (.bellWaitEnd x) := operand_statement _
theorem Operand.bellWaitTimeout (x) : Operand.Statement (.bellWaitTimeout x) := operand_statement _
theorem Operand.idleStrikeApply (x) : Operand.Statement (.idleStrikeApply x) := operand_statement _
theorem Operand.planAdmit (x) : Operand.Statement (.planAdmit x) := operand_statement _
theorem Operand.planAdmitDone (x) : Operand.Statement (.planAdmitDone x) := operand_statement _
theorem Operand.planLoad (x) : Operand.Statement (.planLoad x) := operand_statement _
theorem Operand.contextLoadDone (x y) : Operand.Statement (.contextLoadDone x y) := operand_statement _
theorem Operand.planStart (x) : Operand.Statement (.planStart x) := operand_statement _
theorem Operand.tollStart (x) : Operand.Statement (.tollStart x) := operand_statement _
theorem Operand.planSwitch (x) : Operand.Statement (.planSwitch x) := operand_statement _
theorem Operand.plnSwitchGo (x y) : Operand.Statement (.plnSwitchGo x y) := operand_statement _
theorem Operand.planEvict (x) : Operand.Statement (.planEvict x) := operand_statement _
theorem Operand.planStop (x) : Operand.Statement (.planStop x) := operand_statement _
theorem Operand.planClear (x) : Operand.Statement (.planClear x) := operand_statement _
theorem Operand.classChangeDone (x) : Operand.Statement (.classChangeDone x) := operand_statement _
theorem Operand.classLock (x) : Operand.Statement (.classLock x) := operand_statement _
theorem Operand.switchEnd (x) : Operand.Statement (.switchEnd x) := operand_statement _
theorem Operand.runEnd (x) : Operand.Statement (.runEnd x) := operand_statement _
theorem Operand.rgnSet (x) : Operand.Statement (.rgnSet x) := operand_statement _
theorem Operand.rgnClear (x) : Operand.Statement (.rgnClear x) := operand_statement _
theorem Operand.rgnZfill (x) : Operand.Statement (.rgnZfill x) := operand_statement _
theorem Operand.memRgna (x y z) : Operand.Statement (.memRgna x y z) := operand_statement _
theorem Operand.sweepEnd (x y) : Operand.Statement (.sweepEnd x y) := operand_statement _
theorem Operand.rekeyRegion (x) : Operand.Statement (.rekeyRegion x) := operand_statement _
theorem Operand.memRkctlGo (x y) : Operand.Statement (.memRkctlGo x y) := operand_statement _
theorem Operand.rekeyEnd (x y) : Operand.Statement (.rekeyEnd x y) := operand_statement _
theorem Operand.memRead (x) : Operand.Statement (.memRead x) := operand_statement _
theorem Operand.memWrite (x) : Operand.Statement (.memWrite x) := operand_statement _
theorem Operand.rollGrant (x) : Operand.Statement (.rollGrant x) := operand_statement _
theorem Operand.rollJob (x) : Operand.Statement (.rollJob x) := operand_statement _
theorem Operand.jctlGo (x y) : Operand.Statement (.jctlGo x y) := operand_statement _
theorem Operand.rollJobDone (x) : Operand.Statement (.rollJobDone x) := operand_statement _
theorem Operand.dpPush (x) : Operand.Statement (.dpPush x) := operand_statement _
theorem Operand.pushWordEnter (x) : Operand.Statement (.pushWordEnter x) := operand_statement _
theorem Operand.pushTimeout (x) : Operand.Statement (.pushTimeout x) := operand_statement _
theorem Operand.attest (x) : Operand.Statement (.attest x) := operand_statement _
theorem Operand.certGet (x) : Operand.Statement (.certGet x) := operand_statement _
theorem Operand.keySession (x) : Operand.Statement (.keySession x) := operand_statement _
theorem Operand.sessionExpiry (x) : Operand.Statement (.sessionExpiry x) := operand_statement _
theorem Operand.keyInstall (x) : Operand.Statement (.keyInstall x) := operand_statement _
theorem Operand.keyCommit (x) : Operand.Statement (.keyCommit x) := operand_statement _
theorem Operand.keyDiscard (x) : Operand.Statement (.keyDiscard x) := operand_statement _
theorem Operand.keyDelete (x) : Operand.Statement (.keyDelete x) := operand_statement _
theorem Operand.setEnrol (x) : Operand.Statement (.setEnrol x) := operand_statement _
theorem Operand.setLeave (x) : Operand.Statement (.setLeave x) := operand_statement _
theorem Operand.weightUnwrap (x) : Operand.Statement (.weightUnwrap x) := operand_statement _
theorem Operand.toolkeyEnrol (x) : Operand.Statement (.toolkeyEnrol x) := operand_statement _
theorem Operand.toolkeyRevoke (x) : Operand.Statement (.toolkeyRevoke x) := operand_statement _
theorem Operand.dbgkeyEnrol (x) : Operand.Statement (.dbgkeyEnrol x) := operand_statement _
theorem Operand.dbgkeyRevoke (x) : Operand.Statement (.dbgkeyRevoke x) := operand_statement _
theorem Operand.dbgNonce (x) : Operand.Statement (.dbgNonce x) := operand_statement _
theorem Operand.nonceExpiry : Operand.Statement (.nonceExpiry) := operand_statement _
theorem Operand.dbgAdmit (x) : Operand.Statement (.dbgAdmit x) := operand_statement _
theorem Operand.dbgEnd (x) : Operand.Statement (.dbgEnd x) := operand_statement _
theorem Operand.tokenExpiry : Operand.Statement (.tokenExpiry) := operand_statement _
theorem Operand.chConfig (x) : Operand.Statement (.chConfig x) := operand_statement _
theorem Operand.chWindow (x) : Operand.Statement (.chWindow x) := operand_statement _
theorem Operand.chEnable (x) : Operand.Statement (.chEnable x) := operand_statement _
theorem Operand.channelEn (x y) : Operand.Statement (.channelEn x y) := operand_statement _
theorem Operand.ringSet (x) : Operand.Statement (.ringSet x) := operand_statement _
theorem Operand.sinkPort (x) : Operand.Statement (.sinkPort x) := operand_statement _
theorem Operand.snkParEn (x) : Operand.Statement (.snkParEn x) := operand_statement _
theorem Operand.snkSerEn (x) : Operand.Statement (.snkSerEn x) := operand_statement _
theorem Operand.govSet (x) : Operand.Statement (.govSet x) := operand_statement _
theorem Operand.clapLoad (x) : Operand.Statement (.clapLoad x) := operand_statement _
theorem Operand.clpArm (x) : Operand.Statement (.clpArm x) := operand_statement _
theorem Operand.clpLevelRelease (x) : Operand.Statement (.clpLevelRelease x) := operand_statement _
theorem Operand.cntSet (x) : Operand.Statement (.cntSet x) := operand_statement _
theorem Operand.evselWrite (x y) : Operand.Statement (.evselWrite x y) := operand_statement _
theorem Operand.valhLoad (x y) : Operand.Statement (.valhLoad x y) := operand_statement _
theorem Operand.cntSnap (x) : Operand.Statement (.cntSnap x) := operand_statement _
theorem Operand.cntSnapGo (x) : Operand.Statement (.cntSnapGo x) := operand_statement _
theorem Operand.cntFrzRelease (x) : Operand.Statement (.cntFrzRelease x) := operand_statement _
theorem Operand.linkCtl (x) : Operand.Statement (.linkCtl x) := operand_statement _
theorem Operand.retrain (x y) : Operand.Statement (.retrain x y) := operand_statement _
theorem Operand.linkAssign (x) : Operand.Statement (.linkAssign x) := operand_statement _
theorem Operand.linkQuery (x) : Operand.Statement (.linkQuery x) := operand_statement _
theorem Operand.linkCapture (x) : Operand.Statement (.linkCapture x) := operand_statement _
theorem Operand.linkImpair (x) : Operand.Statement (.linkImpair x) := operand_statement _
theorem Operand.pealSet (x) : Operand.Statement (.pealSet x) := operand_statement _
theorem Operand.pealRoute (x) : Operand.Statement (.pealRoute x) := operand_statement _
theorem Operand.tollSet (x) : Operand.Statement (.tollSet x) := operand_statement _
theorem Operand.tolCtlSrc (x) : Operand.Statement (.tolCtlSrc x) := operand_statement _
theorem Operand.tolSetsec (x) : Operand.Statement (.tolSetsec x) := operand_statement _
theorem Operand.tollQuery (x) : Operand.Statement (.tollQuery x) := operand_statement _
theorem Operand.tolNowlRead (x) : Operand.Statement (.tolNowlRead x) := operand_statement _
theorem Operand.clkFclRead (x y) : Operand.Statement (.clkFclRead x y) := operand_statement _
theorem Operand.pwrPin (x) : Operand.Statement (.pwrPin x) := operand_statement _
theorem Operand.pwrHint (x) : Operand.Statement (.pwrHint x) := operand_statement _
theorem Operand.pwrQuery (x) : Operand.Statement (.pwrQuery x) := operand_statement _
theorem Operand.faultRead (x) : Operand.Statement (.faultRead x) := operand_statement _
theorem Operand.safRselGo (x) : Operand.Statement (.safRselGo x) := operand_statement _
theorem Operand.selftest (x) : Operand.Statement (.selftest x) := operand_statement _
theorem Operand.drain (x) : Operand.Statement (.drain x) := operand_statement _
theorem Operand.migrate (x) : Operand.Statement (.migrate x) := operand_statement _
theorem Operand.migrateRecv (x) : Operand.Statement (.migrateRecv x) := operand_statement _
theorem Operand.migrationMessage (x y) : Operand.Statement (.migrationMessage x y) := operand_statement _
theorem Operand.migrateTimeout (x) : Operand.Statement (.migrateTimeout x) := operand_statement _
theorem Operand.stall (x) : Operand.Statement (.stall x) := operand_statement _
theorem Operand.offerTimeout (x) : Operand.Statement (.offerTimeout x) := operand_statement _
theorem Operand.restore (x) : Operand.Statement (.restore x) := operand_statement _
theorem Operand.regRead (x) : Operand.Statement (.regRead x) := operand_statement _
theorem Operand.regWrite (x) : Operand.Statement (.regWrite x) := operand_statement _
theorem Operand.registerWrite (x) : Operand.Statement (.registerWrite x) := operand_statement _
theorem Operand.injectionArm (x y) : Operand.Statement (.injectionArm x y) := operand_statement _
theorem Operand.doorbell (x y) : Operand.Statement (.doorbell x y) := operand_statement _
theorem Operand.cqHeadWrite (x y) : Operand.Statement (.cqHeadWrite x y) := operand_statement _
theorem Operand.rqEn (x y) : Operand.Statement (.rqEn x y) := operand_statement _
theorem Operand.descriptorFetch (x y z u v w) : Operand.Statement (.descriptorFetch x y z u v w) := operand_statement _
theorem Operand.mbxGo (x) : Operand.Statement (.mbxGo x) := operand_statement _
theorem Operand.rngRd (x y z) : Operand.Statement (.rngRd x y z) := operand_statement _
theorem Operand.flush (x y) : Operand.Statement (.flush x y) := operand_statement _
theorem Operand.devLock (x) : Operand.Statement (.devLock x) := operand_statement _
theorem Operand.imrWrite (x y z) : Operand.Statement (.imrWrite x y z) := operand_statement _
theorem Operand.b2wCtl (x y) : Operand.Statement (.b2wCtl x y) := operand_statement _
theorem Operand.bar2Access (x y z u v w) : Operand.Statement (.bar2Access x y z u v w) := operand_statement _
theorem Operand.bar2ReadTimeout (x y) : Operand.Statement (.bar2ReadTimeout x y) := operand_statement _
theorem Operand.safEnter (x) : Operand.Statement (.safEnter x) := operand_statement _
theorem Operand.coldReset (x) : Operand.Statement (.coldReset x) := operand_statement _
theorem Operand.mrpReady (x) : Operand.Statement (.mrpReady x) := operand_statement _
theorem Operand.powerLoss : Operand.Statement (.powerLoss) := operand_statement _
theorem Operand.warmReset : Operand.Statement (.warmReset) := operand_statement _
theorem Operand.conventionalReset (x) : Operand.Statement (.conventionalReset x) := operand_statement _
theorem Operand.functionReset (x) : Operand.Statement (.functionReset x) := operand_statement _
theorem Operand.pf0Flr : Operand.Statement (.pf0Flr) := operand_statement _
theorem Operand.busMasterEnable (x y) : Operand.Statement (.busMasterEnable x y) := operand_statement _
theorem Operand.recoveryPiece : Operand.Statement (.recoveryPiece) := operand_statement _
theorem Operand.safeReq (x) : Operand.Statement (.safeReq x) := operand_statement _
theorem Operand.clockLoss (x) : Operand.Statement (.clockLoss x) := operand_statement _
theorem Operand.voltage (x y z) : Operand.Statement (.voltage x y z) := operand_statement _
theorem Operand.watchdogExpiry : Operand.Statement (.watchdogExpiry) := operand_statement _
theorem Operand.watchdogWarmReset : Operand.Statement (.watchdogWarmReset) := operand_statement _
theorem Operand.thermalLoop (x) : Operand.Statement (.thermalLoop x) := operand_statement _
theorem Operand.voltageLoop (x y z) : Operand.Statement (.voltageLoop x y z) := operand_statement _
theorem Operand.governorLoop (x) : Operand.Statement (.governorLoop x) := operand_statement _
theorem Operand.linkEq (x y) : Operand.Statement (.linkEq x y) := operand_statement _
theorem Operand.refreshRate (x y) : Operand.Statement (.refreshRate x y) := operand_statement _
theorem Operand.throttleWindow (x) : Operand.Statement (.throttleWindow x) := operand_statement _
theorem Operand.periodicSelftest (x y) : Operand.Statement (.periodicSelftest x y) := operand_statement _
theorem Operand.arrival (x) : Operand.Statement (.arrival x) := operand_statement _
theorem Operand.release (x) : Operand.Statement (.release x) := operand_statement _
theorem Operand.slipEnd (x) : Operand.Statement (.slipEnd x) := operand_statement _
theorem Operand.slipLimit (x) : Operand.Statement (.slipLimit x) := operand_statement _
theorem Operand.waitTimeout (x y) : Operand.Statement (.waitTimeout x y) := operand_statement _
theorem Operand.slotSwitch (x y) : Operand.Statement (.slotSwitch x y) := operand_statement _
theorem Operand.dotStep (x y) : Operand.Statement (.dotStep x y) := operand_statement _
theorem Operand.agRun (x y z) : Operand.Statement (.agRun x y z) := operand_statement _
theorem Operand.agAccess (x y z) : Operand.Statement (.agAccess x y z) := operand_statement _
theorem Operand.eccWriteBack (x) : Operand.Statement (.eccWriteBack x) := operand_statement _
theorem Operand.route (x y) : Operand.Statement (.route x y) := operand_statement _
theorem Operand.steer (x y z) : Operand.Statement (.steer x y z) := operand_statement _
theorem Operand.creditLate (x y) : Operand.Statement (.creditLate x y) := operand_statement _
theorem Operand.dmaIssue (x y z) : Operand.Statement (.dmaIssue x y z) := operand_statement _
theorem Operand.dmaComplete (x y z) : Operand.Statement (.dmaComplete x y z) := operand_statement _
theorem Operand.hbmReadReturn (x y z u v) : Operand.Statement (.hbmReadReturn x y z u v) := operand_statement _
theorem Operand.rollBlock (x y) : Operand.Statement (.rollBlock x y) := operand_statement _
theorem Operand.tx (x y z) : Operand.Statement (.tx x y z) := operand_statement _
theorem Operand.frameSend (x) : Operand.Statement (.frameSend x) := operand_statement _
theorem Operand.frameReceive (x y) : Operand.Statement (.frameReceive x y) := operand_statement _
theorem Operand.linkDown (x y) : Operand.Statement (.linkDown x y) := operand_statement _
theorem Operand.train (x) : Operand.Statement (.train x) := operand_statement _
theorem Operand.trainTimeout (x) : Operand.Statement (.trainTimeout x) := operand_statement _
theorem Operand.autoRetrain (x) : Operand.Statement (.autoRetrain x) := operand_statement _
theorem Operand.hello (x y) : Operand.Statement (.hello x y) := operand_statement _
theorem Operand.latrsp (x y) : Operand.Statement (.latrsp x y) := operand_statement _
theorem Operand.sync (x y) : Operand.Statement (.sync x y) := operand_statement _
theorem Operand.dreq (x y) : Operand.Statement (.dreq x y) := operand_statement _
theorem Operand.dresp (x y) : Operand.Statement (.dresp x y) := operand_statement _
theorem Operand.syncSend (x) : Operand.Statement (.syncSend x) := operand_statement _
theorem Operand.referenceLost (x) : Operand.Statement (.referenceLost x) := operand_statement _
theorem Operand.holdoverLimit : Operand.Statement (.holdoverLimit) := operand_statement _
theorem Operand.ppsEdge : Operand.Statement (.ppsEdge) := operand_statement _
theorem Operand.tollRefclkLoss : Operand.Statement (.tollRefclkLoss) := operand_statement _
theorem Operand.tollRefclkPresent : Operand.Statement (.tollRefclkPresent) := operand_statement _
theorem Operand.clapIn (x y) : Operand.Statement (.clapIn x y) := operand_statement _
theorem Operand.tapRecord (x y) : Operand.Statement (.tapRecord x y) := operand_statement _
theorem Operand.packetWrite : Operand.Statement (.packetWrite) := operand_statement _
theorem Operand.scoreClose (x y) : Operand.Statement (.scoreClose x y) := operand_statement _
theorem Operand.clapperMatch : Operand.Statement (.clapperMatch) := operand_statement _
theorem Operand.stopCountEnd : Operand.Statement (.stopCountEnd) := operand_statement _
theorem Operand.pulseEnd (x) : Operand.Statement (.pulseEnd x) := operand_statement _
theorem Operand.sample (x) : Operand.Statement (.sample x) := operand_statement _
theorem Operand.groupSample (x) : Operand.Statement (.groupSample x) := operand_statement _
theorem Operand.threshold (x) : Operand.Statement (.threshold x) := operand_statement _
theorem Operand.overflow (x) : Operand.Statement (.overflow x) := operand_statement _
theorem Operand.frameForm (x) : Operand.Statement (.frameForm x) := operand_statement _
theorem Operand.flushTimer (x) : Operand.Statement (.flushTimer x) := operand_statement _
theorem Operand.ringDeliver (x y) : Operand.Statement (.ringDeliver x y) := operand_statement _
theorem Operand.portFrame (x) : Operand.Statement (.portFrame x) := operand_statement _
theorem Operand.fclkEdge (x) : Operand.Statement (.fclkEdge x) := operand_statement _
theorem Operand.latreq (x y) : Operand.Statement (.latreq x y) := operand_statement _
theorem Operand.frameLock (x) : Operand.Statement (.frameLock x) := operand_statement _
theorem Operand.tollRefclkReturn : Operand.Statement (.tollRefclkReturn) := operand_statement _
theorem Operand.sysRstRelease : Operand.Statement (.sysRstRelease) := operand_statement _
theorem Operand.perstRelease : Operand.Statement (.perstRelease) := operand_statement _
theorem Operand.pcieLinkTrained (x y) : Operand.Statement (.pcieLinkTrained x y) := operand_statement _
theorem Operand.msixUnmask (x y) : Operand.Statement (.msixUnmask x y) := operand_statement _
theorem Operand.numvfsWrite (x) : Operand.Statement (.numvfsWrite x) := operand_statement _
theorem Operand.jtagInstructionLoad (x) : Operand.Statement (.jtagInstructionLoad x) := operand_statement _
theorem Operand.regulatorTimeout (x) : Operand.Statement (.regulatorTimeout x) := operand_statement _
theorem Operand.drainDone (x) : Operand.Statement (.drainDone x) := operand_statement _
theorem Operand.restoreDone (x) : Operand.Statement (.restoreDone x) := operand_statement _
theorem Operand.selftestDone (x y) : Operand.Statement (.selftestDone x y) := operand_statement _
theorem Operand.recordUpdateDone (x y) : Operand.Statement (.recordUpdateDone x y) := operand_statement _
theorem Operand.weightUnwrapDone (x) : Operand.Statement (.weightUnwrapDone x) := operand_statement _

end Sys2Proof.Laws
end

