-- ==== Sys2Proof/Laws/Regs.lean ====
section
/-! SUPPORT. Fields of registers: what a field reads after a write of the same field, of another field, of another register. -/

namespace Sys2Proof.Laws

open Sys2Proof Sys2Proof.Machine

/-- Bit `j` of a field is bit `lo + j` of the register. -/
theorem testBit_fld (r : Word) (lo w j : Nat) : (fld r lo w).testBit j = (decide (j < w) && r.getLsbD (lo + j)) := by
  simp only [fld, Nat.testBit_mod_two_pow, Nat.testBit_div_two_pow, BitVec.getLsbD]
  rw [Nat.add_comm j lo]

theorem getLsbD_fmask (lo w i : Nat) : (fmask lo w).getLsbD i = (decide (i < 32) && decide (lo ≤ i) && decide (i < lo + w)) := by
  simp only [fmask, BitVec.getLsbD_ofNat, Nat.testBit_mul_two_pow, Nat.testBit_two_pow_sub_one]
  by_cases h1 : i < 32 <;> by_cases h2 : lo ≤ i <;> simp [h1, h2]
  omega

theorem getLsbD_putFld (r : Word) (lo w v i : Nat) : (putFld r lo w v).getLsbD i =
    (decide (i < 32) && if lo ≤ i ∧ i < lo + w then v.testBit (i - lo) else r.getLsbD i) := by
  simp only [putFld, BitVec.getLsbD_or, BitVec.getLsbD_and, BitVec.getLsbD_not, getLsbD_fmask, BitVec.getLsbD_ofNat,
    Nat.testBit_mul_two_pow, Nat.testBit_mod_two_pow]
  by_cases h1 : i < 32 <;> by_cases h2 : lo ≤ i <;> by_cases h3 : i < lo + w <;> simp [h1, h2, h3]
  · intro h; omega
  · intro h; omega

theorem fld_putFld_same (r : Word) {lo w : Nat} (v : Nat) (h : lo + w ≤ 32) : fld (putFld r lo w v) lo w = v % 2 ^ w := by
  apply Nat.eq_of_testBit_eq; intro j
  rw [testBit_fld, getLsbD_putFld, Nat.testBit_mod_two_pow]
  by_cases hj : j < w
  · simp [hj, show lo + j < 32 by omega, show lo + j - lo = j by omega]
  · simp [hj]

theorem fld_putFld_apart (r : Word) {lo w lo' w' : Nat} (v : Nat) (h : lo' + w' ≤ lo ∨ lo + w ≤ lo') :
    fld (putFld r lo w v) lo' w' = fld r lo' w' := by
  apply Nat.eq_of_testBit_eq; intro j
  rw [testBit_fld, testBit_fld, getLsbD_putFld]
  by_cases hj : j < w'
  · have : ¬ (lo ≤ lo' + j ∧ lo' + j < lo + w) := by omega
    rw [if_neg this]
    by_cases h32 : lo' + j < 32
    · simp [hj, h32]
    · simp [hj, h32]; rw [BitVec.getLsbD_of_ge]; omega
  · simp [hj]

/-- A mask that holds a whole field does not touch it. -/
theorem fld_and_mask (r m : Word) {lo w : Nat} (h : fmask lo w &&& m = fmask lo w) : fld (r &&& m) lo w = fld r lo w := by
  apply Nat.eq_of_testBit_eq; intro j
  rw [testBit_fld, testBit_fld, BitVec.getLsbD_and]
  by_cases hj : j < w
  · by_cases h32 : lo + j < 32
    · have e := congrArg (fun x => x.getLsbD (lo + j)) h
      simp only [BitVec.getLsbD_and, getLsbD_fmask] at e
      simp only [h32, decide_true, Bool.true_and, show lo ≤ lo + j by omega, show lo + j < lo + w by omega] at e
      rw [e, Bool.and_true]
    · have : r.getLsbD (lo + j) = false := by rw [BitVec.getLsbD_of_ge]; omega
      simp [this]
  · simp [hj]

theorem bit_eq_fld (r : Word) (i : Nat) : bit r i = decide (fld r i 1 = 1) := by
  have h := testBit_fld r i 1 0
  simp only [Nat.add_zero, show (0 : Nat) < 1 by omega, decide_true, Bool.true_and] at h
  have hb : fld r i 1 < 2 := Nat.mod_lt _ (by decide)
  rw [bit, ← h]
  rcases (show fld r i 1 = 0 ∨ fld r i 1 = 1 by omega) with e | e <;> simp [e]

section

variable (s : State)

/-- A field reads what was last put into it. -/
theorem rf_put_same {a lo w : Nat} (v : Nat) (h : lo + w ≤ 32) (hm : fmask lo w &&& definedMask a = fmask lo w) :
    (s.put a lo w v).rf a lo w = v % 2 ^ w := by
  rw [State.rf, State.put, setReg_reg_same, fld_and_mask _ _ hm, fld_putFld_same _ _ h]

/-- A put leaves every other field of its register. -/
theorem rf_put_apart {a lo w lo' w' : Nat} (v : Nat) (h : lo' + w' ≤ lo ∨ lo + w ≤ lo')
    (hm : fmask lo' w' &&& definedMask a = fmask lo' w') : (s.put a lo w v).rf a lo' w' = s.rf a lo' w' := by
  rw [State.rf, State.put, setReg_reg_same, fld_and_mask _ _ hm, fld_putFld_apart _ _ h, State.rf]

theorem reg_put_ne {a b : Nat} (lo w v : Nat) (h : b ≠ a) : (s.put a lo w v).reg b = s.reg b := setReg_reg_ne s _ h
theorem rf_put_ne {a b : Nat} (lo w v lo' w' : Nat) (h : b ≠ a) : (s.put a lo w v).rf b lo' w' = s.rf b lo' w' := by
  rw [State.rf, reg_put_ne s _ _ _ h, State.rf]
theorem rbit_put_ne {a b : Nat} (lo w v i : Nat) (h : b ≠ a) : (s.put a lo w v).rbit b i = s.rbit b i := by
  rw [State.rbit, reg_put_ne s _ _ _ h, State.rbit]
theorem reg_setBit_ne {a b : Nat} (i : Nat) (v : Bool) (h : b ≠ a) : (s.setBit a i v).reg b = s.reg b := reg_put_ne s _ _ _ h
theorem rf_setBit_ne {a b : Nat} (i : Nat) (v : Bool) (lo w : Nat) (h : b ≠ a) : (s.setBit a i v).rf b lo w = s.rf b lo w :=
  rf_put_ne s _ _ _ _ _ h
theorem rbit_setBit_ne {a b : Nat} (i : Nat) (v : Bool) (j : Nat) (h : b ≠ a) : (s.setBit a i v).rbit b j = s.rbit b j :=
  rbit_put_ne s _ _ _ _ h

theorem rbit_eq_rf (a i : Nat) : s.rbit a i = decide (s.rf a i 1 = 1) := bit_eq_fld _ _

/-- A bit reads what was last put into it. -/
theorem rbit_setBit_same {a i : Nat} (v : Bool) (h : i < 32) (hm : fmask i 1 &&& definedMask a = fmask i 1) :
    (s.setBit a i v).rbit a i = v := by
  rw [rbit_eq_rf, State.setBit, rf_put_same s _ (by omega) hm]
  cases v <;> simp [b2n]
theorem rbit_setBit_apart {a i j : Nat} (v : Bool) (h : j ≠ i) (hm : fmask j 1 &&& definedMask a = fmask j 1) :
    (s.setBit a i v).rbit a j = s.rbit a j := by
  rw [rbit_eq_rf, State.setBit, rf_put_apart s _ (by omega) hm, ← rbit_eq_rf]
theorem rbit_put_apart {a lo w j : Nat} (v : Nat) (h : j < lo ∨ lo + w ≤ j) (hm : fmask j 1 &&& definedMask a = fmask j 1) :
    (s.put a lo w v).rbit a j = s.rbit a j := by
  rw [rbit_eq_rf, rf_put_apart s _ (by omega) hm, ← rbit_eq_rf]
theorem rf_setBit_apart {a i lo w : Nat} (v : Bool) (h : i < lo ∨ lo + w ≤ i) (hm : fmask lo w &&& definedMask a = fmask lo w) :
    (s.setBit a i v).rf a lo w = s.rf a lo w := rf_put_apart s _ (by omega) hm

end

end Sys2Proof.Laws
end

