-- ==== Sys2Proof/Laws/Rows.lean ====
section
/-! SUPPORT. Which writer each register row reaches: a BAR0 write that the permissions let through ends in it. -/

namespace Sys2Proof.Laws

open Sys2Proof Sys2Proof.Machine

theorem writeReg_takes {f src o v s} (h : WriteTakes f o s) :
    writeReg f src o v s = writeBlock { fn := f, src := src, key := keyOf f o } v s := by
  obtain ⟨_, h1, h2, h3, h4, h5, h6⟩ := h
  have : (!noExpert s f o && !expertOf s f) = false := by rcases h5 with h | h <;> simp [h]
  simp [writeReg, h1, h2, h3, h4, this, h6]

theorem rowWrite_takes {o s} {w : Wr} (h : WriteTakes w.fn o s) :
    rowWrite o w s = .next (writeBlock { fn := w.fn, src := 0, key := keyOf w.fn o } w.val s) := by
  rw [rowWrite, writeReg_takes h, if_neg (by have := h.1; omega)]

/-- A register that is not function-local has one key for every function. -/
theorem keyOf_shared {f o} (h : isLocal o = false) : keyOf f o = o := by simp [keyOf, h]

theorem writeBlock_at {w v s} (n : Nat) : blockOf (offOf w.key) = n → writeBlock w v s = match n with
    | 0 => writeDev w v s | 1 => writeCmd w v s | 2 => writeMbx w v s | 3 => writeFab w v s | 4 => writeBel w v s
    | 5 => writeTol w v s | 6 => writeMem w v s | 7 => writeLnk w v s | 8 => writeObs w v s | 9 => writeClpBlock w v s
    | 10 => writeCnt w v s | 11 => writeRol w v s | 12 => writeSnk w v s | 13 => writePwr w v s | _ => writeSaf w v s := by
  rintro rfl; rfl

theorem write_partSwitch {w : RegW} {v s} (hk : w.key = aPartSwitch) : writeBlock w v s = writePartSwitch w v s := by
  have e1 : blockOf (offOf w.key) = 0 := by rw [hk]; clear hk; decide
  have e2 : offOf w.key - bDev = 0x10100 := by rw [hk]; clear hk e1; decide
  rw [writeBlock_at _ e1]
  simp only [writeDev, e2]
  simp

theorem write_partCtl {w : RegW} {v s} {p : Nat} (hp : p < 8) (hk : w.key = aPartCtl p) : writeBlock w v s = writePartCtl p w v s := by
  have e1 : blockOf (offOf w.key) = 0 := by rw [hk]; clear hk; interval_cases p <;> decide
  have e2 : offOf w.key - bDev = 0x10000 + 0x20 * p := by rw [hk]; clear hk e1; interval_cases p <;> decide
  rw [writeBlock_at _ e1]
  simp only [writeDev, e2]
  clear e1 e2 hk; interval_cases p <;> simp

theorem write_belStrk {w : RegW} {v s} (hk : w.key = aBelStrk) : writeBlock w v s = writeStrk w v s := by
  have e1 : blockOf (offOf w.key) = 4 := by rw [hk]; clear hk; decide
  have e2 : offOf w.key - bBel = 0x2000 := by rw [hk]; clear hk e1; decide
  rw [writeBlock_at _ e1]
  simp only [writeBel, e2]
  simp

theorem write_plnSwitch {w : RegW} {v s} {p : Nat} (hp : p < 8) (hk : w.key = aPlnSwitch p) : writeBlock w v s = writePlnSwitch p w v s := by
  have e1 : blockOf (offOf w.key) = 3 := by rw [hk]; clear hk; interval_cases p <;> decide
  have e2 : offOf w.key - bFab = 0x38000 + 0x20 * p + 12 := by rw [hk]; clear hk e1; interval_cases p <;> decide
  rw [writeBlock_at _ e1]
  simp only [writeFab, e2]
  clear e1 e2 hk; interval_cases p <;> simp

theorem write_rgnA {w : RegW} {v s} {h : Nat} (hh : h < 8) {r : Nat} (hr : r < 16) (hk : w.key = aRgnA h r) : writeBlock w v s = writeRgnA h r w v s := by
  have e1 : blockOf (offOf w.key) = 6 := by rw [hk]; clear hk; interval_cases h <;> interval_cases r <;> decide
  have e2 : offOf w.key - bMem = 0x200 * h + 0x10 * r := by rw [hk]; clear hk e1; interval_cases h <;> interval_cases r <;> decide
  rw [writeBlock_at _ e1]
  simp only [writeMem, e2]
  clear e1 e2 hk; interval_cases h <;> interval_cases r <;> simp

theorem write_rkCtl {w : RegW} {v s} {h : Nat} (hh : h < 8) (hk : w.key = aRkCtl h) : writeBlock w v s = writeRkCtl h w v s := by
  have e1 : blockOf (offOf w.key) = 6 := by rw [hk]; clear hk; interval_cases h <;> decide
  have e2 : offOf w.key - bMem = 0x10000 + 0x20 * h := by rw [hk]; clear hk e1; interval_cases h <;> decide
  rw [writeBlock_at _ e1]
  simp only [writeMem, e2]
  clear e1 e2 hk; interval_cases h <;> simp

theorem writeBlock_rol {w : RegW} {v s} (e1 : blockOf (offOf w.key) = 11) : writeBlock w v s = writeRol w v s := by simp only [writeBlock, e1]

theorem writeRol_jctl {w : RegW} {v s} {x r : Nat} (h : offOf w.key - bRol = x) (h1 : x % 0x1000 = 0x10) (h2 : x / 0x1000 = r) : writeRol w v s = writeJctl r w v s := by
  subst h2
  unfold writeRol
  rw [h]
  show (match x % 0x1000 with | 0x00 => _ | 0x10 => _ | 0x20 => _ | _ => _) = _
  rw [h1]; rfl

theorem write_jctl {w : RegW} {v s} {r : Nat} (hr : r < 4) (hk : w.key = aRol r 0x10) : writeBlock w v s = writeJctl r w v s := by
  have e1 : blockOf (offOf w.key) = 11 := by rw [hk]; clear hk; interval_cases r <;> decide
  rw [writeBlock_rol e1]
  interval_cases r
  · exact writeRol_jctl (x := 0x10) (by rw [hk]; decide) (by decide) (by decide)
  · exact writeRol_jctl (x := 0x1010) (by rw [hk]; decide) (by decide) (by decide)
  · exact writeRol_jctl (x := 0x2010) (by rw [hk]; decide) (by decide) (by decide)
  · exact writeRol_jctl (x := 0x3010) (by rw [hk]; decide) (by decide) (by decide)

theorem write_chCtl {w : RegW} {v s} {n : Nat} (hn : n < 24) (hk : w.key = aChCtl n) : writeBlock w v s = if chanWriter s w.fn n then writeChCtl n w v s else writeHeldCtl n w v s := by
  have e1 : blockOf (offOf w.key) = 8 := by rw [hk]; clear hk; interval_cases n <;> decide
  have e2 : offOf w.key - bObs = 0x100 * n := by rw [hk]; clear hk e1; interval_cases n <;> decide
  rw [writeBlock_at _ e1]
  simp only [writeObs, e2]
  clear e1 e2 hk; interval_cases n <;> simp

theorem write_snkPar {w : RegW} {v s} (hk : w.key = aSnkPar) : writeBlock w v s = writePar w v s := by
  have e1 : blockOf (offOf w.key) = 12 := by rw [hk]; clear hk; decide
  have e2 : offOf w.key - bSnk = 0x20000 := by rw [hk]; clear hk e1; decide
  rw [writeBlock_at _ e1]
  simp only [writeSnk, e2]
  simp

theorem write_snkSer {w : RegW} {v s} (hk : w.key = aSnkSer) : writeBlock w v s = writeSer v s := by
  have e1 : blockOf (offOf w.key) = 12 := by rw [hk]; clear hk; decide
  have e2 : offOf w.key - bSnk = 0x20010 := by rw [hk]; clear hk e1; decide
  rw [writeBlock_at _ e1]
  simp only [writeSnk, e2]
  simp

theorem write_snkCfg {w : RegW} {v s} {n : Nat} (hn : n < 24) (hk : w.key = aSnkCfg n) : writeBlock w v s = writeSnkCfg n w v s := by
  have e1 : blockOf (offOf w.key) = 12 := by rw [hk]; clear hk; interval_cases n <;> decide
  have e2 : offOf w.key - bSnk = 0x40 * n + 0x24 := by rw [hk]; clear hk e1; interval_cases n <;> decide
  rw [writeBlock_at _ e1]
  simp only [writeSnk, e2]
  clear e1 e2 hk; interval_cases n <;> simp [writeRng]

theorem write_rngRd {w : RegW} {v s} {n : Nat} (hn : n < 24) (hk : w.key = aRng false n 0x18) : writeBlock w v s = writeRngRd false n w v s := by
  have e1 : blockOf (offOf w.key) = 12 := by rw [hk]; clear hk; interval_cases n <;> decide
  have e2 : offOf w.key - bSnk = 0x40 * n + 0x18 := by rw [hk]; clear hk e1; interval_cases n <;> decide
  rw [writeBlock_at _ e1]
  simp only [writeSnk, e2]
  clear e1 e2 hk; interval_cases n <;> simp [writeRng]

theorem write_ingRd {w : RegW} {v s} {n : Nat} (hn : n < 16) (hk : w.key = aRng true n 0x18) : writeBlock w v s = writeRngRd true n w v s := by
  have e1 : blockOf (offOf w.key) = 12 := by rw [hk]; clear hk; interval_cases n <;> decide
  have e2 : offOf w.key - bSnk = 0x10000 + 0x40 * n + 0x18 := by rw [hk]; clear hk e1; interval_cases n <;> decide
  rw [writeBlock_at _ e1]
  simp only [writeSnk, e2]
  clear e1 e2 hk; interval_cases n <;> simp [writeRng]

theorem write_clpCtl {w : RegW} {v s} (hk : w.key = aClpCtl) : writeBlock w v s = writeClpCtl v s := by
  have e1 : blockOf (offOf w.key) = 9 := by rw [hk]; clear hk; decide
  have e2 : offOf w.key - bClp = 0 := by rw [hk]; clear hk e1; decide
  rw [writeBlock_at _ e1]
  simp only [writeClpBlock, e2]
  simp

theorem write_clpOut {w : RegW} {v s} (hk : w.key = aClpOut) : writeBlock w v s = writeClp w v s := by
  have e1 : blockOf (offOf w.key) = 9 := by rw [hk]; clear hk; decide
  have e2 : offOf w.key - bClp = 0x0C := by rw [hk]; clear hk e1; decide
  rw [writeBlock_at _ e1]
  simp only [writeClpBlock, e2]
  simp

theorem write_cntSnap {w : RegW} {v s} (hk : w.key = aCntSnap) : writeBlock w v s = writeCntSnap v s := by
  have e1 : blockOf (offOf w.key) = 10 := by rw [hk]; clear hk; decide
  have e2 : offOf w.key - bCnt = 0x52000 := by rw [hk]; clear hk e1; decide
  rw [writeBlock_at _ e1]
  simp only [writeCnt, e2]
  simp

theorem write_cntFrz {w : RegW} {v s} (hk : w.key = aCntFrz) : writeBlock w v s = writeGeneric w v s := by
  have e1 : blockOf (offOf w.key) = 10 := by rw [hk]; clear hk; decide
  have e2 : offOf w.key - bCnt = 0x53000 := by rw [hk]; clear hk e1; decide
  rw [writeBlock_at _ e1]
  simp only [writeCnt, e2]
  simp

theorem write_lnkCtl {w : RegW} {v s} {n : Nat} (hn : n < 16) (hk : w.key = aLnkCtl n) : writeBlock w v s = writeLnkCtl n w v s := by
  have e1 : blockOf (offOf w.key) = 7 := by rw [hk]; clear hk; interval_cases n <;> decide
  have e2 : offOf w.key - bLnk = 0x40000 * n := by rw [hk]; clear hk e1; interval_cases n <;> decide
  rw [writeBlock_at _ e1]
  simp only [writeLnk, e2]
  clear e1 e2 hk; interval_cases n <;> simp

theorem write_tolCtl {w : RegW} {v s} (hk : w.key = aTolCtl) : writeBlock w v s = writeTolCtl w v s := by
  have e1 : blockOf (offOf w.key) = 5 := by rw [hk]; clear hk; decide
  have e2 : offOf w.key - bTol = 0 := by rw [hk]; clear hk e1; decide
  rw [writeBlock_at _ e1]
  simp only [writeTol, e2]
  simp

theorem write_tolSetsec {w : RegW} {v s} (hk : w.key = aTolSetsec) : writeBlock w v s = writeSetsec w v s := by
  have e1 : blockOf (offOf w.key) = 5 := by rw [hk]; clear hk; decide
  have e2 : offOf w.key - bTol = 0x1C := by rw [hk]; clear hk e1; decide
  rw [writeBlock_at _ e1]
  simp only [writeTol, e2]
  simp

theorem write_safRsel {w : RegW} {v s} (hk : w.key = aSafRsel) : writeBlock w v s = writeSafRsel w v s := by
  have e1 : blockOf (offOf w.key) = 14 := by rw [hk]; clear hk; decide
  have e2 : offOf w.key - bSaf = 0x40 := by rw [hk]; clear hk e1; decide
  rw [writeBlock_at _ e1]
  simp only [writeSaf, e2]
  simp

theorem write_safEnter {w : RegW} {v s} (hk : w.key = aSafEnter) : writeBlock w v s = writeSafEnter w v s := by
  have e1 : blockOf (offOf w.key) = 14 := by rw [hk]; clear hk; decide
  have e2 : offOf w.key - bSaf = 0x0C := by rw [hk]; clear hk e1; decide
  rw [writeBlock_at _ e1]
  simp only [writeSaf, e2]
  simp

theorem write_devLock {w : RegW} {v s} (hk : w.key = aDevLock) : writeBlock w v s = writeGeneric w v s := by
  have e1 : blockOf (offOf w.key) = 0 := by rw [hk]; clear hk; decide
  have e2 : offOf w.key - bDev = 0x24 := by rw [hk]; clear hk e1; decide
  rw [writeBlock_at _ e1]
  simp only [writeDev, e2]
  simp

theorem write_imrL {w : RegW} {v s} {f : Nat} (hf : f < 9) (hk : w.key = aImrL f) : writeBlock w v s = writeImr f false v s := by
  have e1 : blockOf (offOf w.key) = 0 := by rw [hk]; clear hk; interval_cases f <;> decide
  have e2 : offOf w.key - bDev = 0x208 + 0x10 * f := by rw [hk]; clear hk e1; interval_cases f <;> decide
  rw [writeBlock_at _ e1]
  simp only [writeDev, e2]
  clear e1 e2 hk; interval_cases f <;> simp

theorem write_imrH {w : RegW} {v s} (hk : w.key = aImrH 0) : writeBlock w v s = writeImr 0 true v s := by
  have e1 : blockOf (offOf w.key) = 0 := by rw [hk]; clear hk; decide
  have e2 : offOf w.key - bDev = 0x20C := by rw [hk]; clear hk e1; decide
  rw [writeBlock_at _ e1]
  simp only [writeDev, e2]
  simp

theorem write_cuResinj {w : RegW} {v s} (hk : w.key = aCuResinj) : writeBlock w v s = writeResinj w v s := by
  have e1 : blockOf (offOf w.key) = 3 := by rw [hk]; clear hk; decide
  have e2 : offOf w.key - bFab = 0x30100 := by rw [hk]; clear hk e1; decide
  rw [writeBlock_at _ e1]
  simp only [writeFab, e2]
  simp

theorem write_sramEinj {w : RegW} {v s} (hk : w.key = aSramEinj) : writeBlock w v s = writeEinj w v s := by
  have e1 : blockOf (offOf w.key) = 3 := by rw [hk]; clear hk; decide
  have e2 : offOf w.key - bFab = 0x33000 := by rw [hk]; clear hk e1; decide
  rw [writeBlock_at _ e1]
  simp only [writeFab, e2]
  simp

theorem write_netCinj {w : RegW} {v s} (hk : w.key = aNetCinj) : writeBlock w v s = writeCinj w v s := by
  have e1 : blockOf (offOf w.key) = 3 := by rw [hk]; clear hk; decide
  have e2 : offOf w.key - bFab = 0x34100 := by rw [hk]; clear hk e1; decide
  rw [writeBlock_at _ e1]
  simp only [writeFab, e2]
  simp

end Sys2Proof.Laws
end

