-- ==== Sys2Proof/Tests/Slice0.lean ====
section
/-! SUPPORT. The states and commands that the tests share, and the smoke of WellFormed. -/

namespace Sys2Proof.Tests
set_option Elab.async false
open Sys2Proof Sys2Proof.Machine

/-- Booted and in service; every partition FREE. -/
def up : State := State.reset.setBit aDevStatus 31 true
/-- Partition p held by tenant t. -/
def holdP (p t : Nat) (s : State) : State := setPartState p 1 (s.put (aPartStat p) 0 16 t)
/-- The VFs of all partitions enabled. -/
def vfs (s : State) : State := { s with host := { s.host with numVf := 8 } }
/-- Partition 0 held by tenant 7, all VFs enabled. -/
def home : State := vfs (holdP 0 7 up)
/-- A descriptor of function f, PART p, PARAM bytes from byte 16. -/
def cmd (f p : Nat) (l : List Nat) : Call := { fn := f, part := BitVec.ofNat 8 p, param := padTo 48 (l.map bite) }
/-- The same after ACCEPTED. -/
def acc (op : Nat) (c : Call) (s : State) : State := accepted op c s

/-- Region r of half-stack h: kind k, LEN 1, from BASE b, unprotected. -/
def rgn (h r k b : Nat) (s : State) : State :=
  (s.setReg (aRgnA h r) (BitVec.ofNat 32 (2 ^ 31 + k * 2 ^ 27 + b))).setReg (aRgnB h r) 1
/-- A command that runs. -/
def runs (op : Nat) (c : Call) (o : Outst) (s : State) : State := setOutst [{ o with op := op, call := c, acc := true }] s

/-! ### How a witness meets the tests of a command -/

theorem passes_of {op : Nat} {w : Call → State → Bool} {c : Call} {s : State}
    (h : (decide (commonTests op c s = none) && cfgAllows op s && w c s) = true) : Passes op w c s := by
  simp only [Bool.and_eq_true, decide_eq_true_eq] at h
  exact ⟨h.1.1, h.1.2, h.2⟩
theorem passesLong_of {op : Nat} {w : Call → State → Bool} {c : Call} {s : State}
    (h : (decide (commonTests op c s = none) && cfgAllows op (accepted op c s) && w c (accepted op c s)) = true) :
    PassesLong op w c s := by
  simp only [Bool.and_eq_true, decide_eq_true_eq] at h
  exact ⟨h.1.1, h.1.2, h.2⟩


/-- A result whose code is 0, with what else is asked of it. -/
theorem code0 {α β : Type} {P : α → β → Prop} {x : Nat × α × β} (h : x.1 = 0) (hp : P x.2.1 x.2.2) : ∃ a b, x = (0, a, b) ∧ P a b := by
  obtain ⟨n, a, b⟩ := x
  cases h
  exact ⟨a, b, rfl, hp⟩

/-- The tests of a register write, decided. -/
theorem takes_of {f o : Nat} {s : State} (h : (decide (f ≤ 8) && decide (regFields (keyOf f o) ≠ []) && regPresent s f o && reaches s f o &&
    !underReset s (keyOf f o) && (noExpert s f o || expertOf s f) && mayWrite s f o) = true) : WriteTakes f o s := by
  simp only [Bool.and_eq_true, decide_eq_true_eq, Bool.not_eq_true', Bool.or_eq_true] at h
  exact ⟨h.1.1.1.1.1.1, h.1.1.1.1.1.2, h.1.1.1.1.2, h.1.1.1.2, h.1.1.2, h.1.2, h.2⟩
/-- PF0 and VF1 have expert control. -/
def expert : State := (home.setBit aCmdExpert 31 true).setBit (aPartCtl 0) 29 true

/-- A buffer of a ring command that reads. -/
theorem input_ok {c : Call} {s : State} {addr len : Nat} {b : List Byte} (h : (decide (addr % 64 = 0) && !c.bufErr &&
    (match c.via with | .ring _ => true | .mailbox => false) && decide (padTo len c.buf = b)) = true) : c.input s addr len = .ok b := by
  cases hv : c.via <;> simp_all [Call.input]

/-! ### The smoke of WellFormed: one ill-formed command for each check -/

theorem test_wf_good : wellFormed (.nop {}) = true ∧ wellFormed (.slotSwitch 0 5) = true ∧ wellFormed (.agRun 2 0 0) = true ∧
    wellFormed (.bar2Access 3 4096 true 4 [1, 2, 3, 4] [true, true, true, true]) = true := by decide +kernel
theorem test_wf_call_function : wellFormed (.nop { fn := 9 }) = false := by decide +kernel
theorem test_wf_call_pair : wellFormed (.nop { fn := 3, via := .ring 2 }) = false := by decide +kernel
theorem test_wf_writer : wellFormed (.belStrk { fn := 9 }) = false := by decide +kernel
theorem test_wf_offset : wellFormed (.registerWrite { fn := 1, off := bar0Size 1 }) = false := by decide +kernel
theorem test_wf_access_function : wellFormed (.registerWrite { fn := 9 }) = false := by decide +kernel
theorem test_wf_function : wellFormed (.tolNowlRead 9) = false := by decide +kernel
theorem test_wf_domain : wellFormed (.tollStart 8) = false := by decide +kernel
theorem test_wf_pf0_reset : wellFormed (.functionReset 0) = false := by decide +kernel
theorem test_wf_counter_group : wellFormed (.overflow { group := 4 }) = false := by decide +kernel
theorem test_wf_counter_index : wellFormed (.overflow { group := 0, idx := groupSize 0 }) = false := by decide +kernel
theorem test_wf_counter_unit : wellFormed (.evselWrite {} { group := 0, unit := 0x877 }) = false := by decide +kernel
/-- Row 24 of a cluster does not exist (Table 0-2). -/
theorem test_wf_array_unit : wellFormed (.periodicSelftest 0x300 false) = false := by decide +kernel
/-- Unit 0x002, row 0, column 2, is an MU (R7). -/
theorem test_wf_cu : wellFormed (.slotSwitch 2 0) = false := by decide +kernel
theorem test_wf_memory : wellFormed (.agRun 0 0 0) = false := by decide +kernel
theorem test_wf_slice : wellFormed (.agRun 0x1008 0 0) = false := by decide +kernel
theorem test_wf_clock : wellFormed (.clockLoss 34) = false := by decide +kernel
theorem test_wf_group : wellFormed (.groupSample 0) = false := by decide +kernel
theorem test_wf_ring : wellFormed (.ringDeliver 24 true) = false := by decide +kernel
theorem test_wf_vector : wellFormed (.msixUnmask 0 (some (vecCount 0))) = false := by decide +kernel
theorem test_wf_bar2_block : wellFormed (.bar2Access 3 4094 false 4 [] []) = false := by decide +kernel

end Sys2Proof.Tests
end

