-- ==== Sys2Proof/Tests/Examples.lean ====
section
/-! SUPPORT. The worked examples of the spec, as one-step tests: every expected value is the example's own. -/

namespace Sys2Proof.Tests
set_option Elab.async false
open Sys2Proof Sys2Proof.Machine

def hexBytes (l : List Nat) : List Byte := l.map bite

/-! ### Example 0-2: a unit of cluster 1 -/

theorem test_unit_4a9_is_mu_of_p5 : isMu 0x4A9 = true ∧ unitPart 0x4A9 = 5 ∧ unitCluster 0x4A9 = 1 := by decide +kernel

/-! ### Example 2-2: a dot step -/

/-- An operation slot with MXFP4 on both sides. -/
def slotMx4 : Nat := 2 ^ 28 + 2 ^ 32
/-- 62 × 2^(−2 + 3 − 3) = 15.5, and 0.25 + 15.5 = 15.75 (0x417C_0000). -/
theorem test_dot_step : enc32 (laneDot slotMx4 0x0A73 0x0652 0x82 0x7C) = 0x41780000 ∧
    accF32 0x3E800000 (laneDot slotMx4 0x0A73 0x0652 0x82 0x7C) = 0x417C0000 := by decide +kernel

/-! ### Example 3-1: banks and rows of a gather -/

theorem test_gather_places : (List.map (fun w => (muBank 0x002 w, muRow 0x002 w)) [266, 267, 2254, 2255]) =
    [(10, 16), (11, 16), (2, 140), (3, 140)] := by decide +kernel

/-! ### Example 5-1: a schedule entry -/

theorem test_schedule_entry : schedOf (hexBytes [0xE9, 3, 0, 0, 0, 0, 1, 0, 0, 1, 0, 0, 0, 0, 0, 0]) =
    { sc := 1001, elem := 1, index := 0, len := 256 } := by decide +kernel

/-! ### Example 7-1: calibration on one hop -/

/-- A child of port 3, UP with a measured path of 3,120 tt, that stamped t2 of a SYNC sent at t1 and asked at t3. -/
def child : State :=
  let s := ((up.put (aLnkStat 3) 28 4 stUp).setReg (aLnkWlat 3) 0x0C300C30).put aTolCtl 18 2 2 |>.put aTolCtl 20 4 3
  { s with toll := { s.toll with exch := some (7, 6400000000, 6400005120, 6400064000) } }
/-- After the DRESP with t4: offset 2,000 tt, in 2^-32 tt. -/
def child' : State := match execDresp 3 { typ := 3, seq := 7, t := 6400065120 } child with | .next s => s | _ => child
theorem test_calibration : child'.toll.offsets = [8589934592000] := by decide +kernel

/-! ### Example 8-1: a protected line of partition P5 -/

/-- Region 3 of half-stack 5: protected, BASE 1,024 units, LEN 18 units. -/
def s81 : State := (up.setReg (aRgnA 5 3) (BitVec.ofNat 32 (2 ^ 31 + 2 ^ 30 + 2 * 2 ^ 16 + 1024))).setReg (aRgnB 5 3) 18
theorem test_line_place : rgnUsable s81 5 3 = 16 * 2 ^ 20 ∧ linePc 9321 = 9 ∧ lineK 9321 = 582 ∧ lineM s81 5 3 9321 = 524942 ∧
    tagM s81 5 3 9321 = 524944 ∧ lineDla s81 5 3 9321 = 0x288028E9 := by decide +kernel
/-- Column line 6, bank group 0, bank 1, row 4,101, stack ID 0; the tag in bank 2. -/
theorem test_dram_place : dramPlace 524942 = (6, 0, 1, 4101, 0) ∧ dramPlace 524944 = (0, 0, 2, 4101, 0) := by decide +kernel
theorem test_counter_block : counterBlock 66 0x288028E9 2 3 =
    hexBytes [0x42, 0, 0, 0, 0, 0, 0xE9, 0x28, 0x80, 0x28, 0, 2, 0, 0, 0, 3] := by decide +kernel

/-! ### Example 9-1: latency figures -/

/-- Port 2 after 64 round trips of 6,240 tt. -/
def s91 : State := measureDone 2 (setLink 2 { linkRt up 2 with rtts := List.replicate 64 6240 } up)
theorem test_wlat : s91.reg (aLnkWlat 2) = 0x0C300C30 := by decide +kernel
theorem test_lat : s91.reg (aLnkLat 2 1) = BitVec.ofNat 32 (273 * 2 ^ 16 + 151) ∧ s91.reg (aLnkLat 2 4) = BitVec.ofNat 32 (110 * 2 ^ 16 + 60) := by
  decide +kernel

/-! ### Example 11-1: digest preamble and first record -/

theorem test_preamble : preamble 0x5A17C0DE { index := 1, chk := 10 } 1 7 =
    hexBytes [0xDE, 0xC0, 0x17, 0x5A, 0, 0, 0, 0, 1, 1, 0x0A, 7, 0, 0, 0, 0] := by decide +kernel
theorem test_digest_record : digestRec { sc := 7200, unit := 0x400, cls := 1, arg := 3 } =
    hexBytes [0x20, 0x1C, 0, 0, 0, 0, 0, 4, 1, 0, 3, 0] := by decide +kernel

/-! ### Example 12-1: trace packets -/

/-- Device 0x006, in service, LOCKED to root 0x001. -/
def s121 : State := ((up.put aPealId 0 10 6).put aTolStat 30 2 2).put aTolStat 0 10 1 |>.put aTolCtl 18 2 2
theorem test_align : alignBytes s121 12 0x31006 =
    hexBytes [0, 0, 0, 0, 0, 0, 0x5A, 6, 0x10, 3, 0, 0, 6, 0x30, 1, 0x78] := by decide +kernel
theorem test_toll_packet : tollBytes s121 false 10000001580 =
    hexBytes [3, 2, 1, 0, 0x2C, 0xEA, 0x0B, 0x54, 2, 0, 0, 0] := by decide +kernel
theorem test_flam_packet : flamBytes 5 2 0 0xFF 0x811 0xFFFF 0xFFFF 12000 12000 37 0x41 =
    hexBytes [0x0C, 5, 2, 0xFF, 0x11, 8, 0xFF, 0xFF, 0xFF, 0xFF, 0xE0, 0x2E, 0, 0, 0, 0, 0xE0, 0x2E, 0, 0, 0, 0, 0x25, 0, 0, 0, 0x41, 0] := by
  decide +kernel
theorem test_slip_packet : slipBytes 5 2 false 0x4C7700 0x4C7A20 55 =
    hexBytes [0x0B, 5, 2, 0, 0, 0x77, 0x4C, 0, 0, 0, 0, 0x20, 0x7A, 0x4C, 0, 0, 0, 0, 0x37, 0, 0, 0, 0, 0] := by decide +kernel

/-! ### Example 14-1: the head of a frame -/

theorem test_frame_head : (frameBytes 0 false true 10 9999 (zeros 244)).take 8 =
    hexBytes [0xA5, 0x5C, 0x40, 0x0A, 0xF4, 0x0F, 0x27, 0] := by decide +kernel

/-! ### Example 15-1: a Roll block -/

def rollBody : List Byte := hexBytes [0x8F, 1, 0x7F, 0x86, 0x60, 0x80, 0x60, 0xA0, 0xDF, 0x84, 0xAB, 0x29]
def rollHead : List Byte := hexBytes [0x52, 0xB1, 1, 0, 0x3C, 0, 0, 0, 0x0C, 0, 0, 0, 0, 0, 0, 0xD2]
def rollOrig : List Byte :=
  let a := hexBytes [0x80, 0x3F, 0x80, 0x3F, 0x80, 0x3F, 0x80, 0x3F] ++ zeros 24 ++ hexBytes [0, 0xC1, 0x40, 0xBF]
  a ++ a.take 24
theorem test_roll_header : rollHdr rlMax rollHead = some { flags := 0, olen := 60, clen := 12, seq := 0 } := by decide +kernel
theorem test_roll_body : (match decodeBody { olen := 60, clen := 12 } rollBody with | .ok b => decide (b = rollOrig) | .error _ => false) = true := by decide +kernel
/-- With d = 37 in the COPY: the extra bits 1100 of d − 33 = 3 become 0010 of 4. -/
theorem test_roll_distance : (match decodeBody { olen := 60, clen := 12 } (rollBody.take 10 ++ hexBytes [0x2B, 0x2A]) with
    | .ok _ => 0 | .error e => e) = rlDistance := by decide +kernel

/-! ### Published checks of the codes that the spec names -/

def digits : List Byte := hexBytes [0x31, 0x32, 0x33, 0x34, 0x35, 0x36, 0x37, 0x38, 0x39]
theorem test_crc32c : crc32c digits = 0xE3069283 := by decide +kernel
theorem test_crc64 : crc64 0 digits = 0x6C40DF5F0B497347 := by decide +kernel

/-! ### Example 21-1: a refused write and its capture -/

/-- P1 held by tenant 5, P2 by tenant 7 with expert control; Toll reads 0x2_3C34_6000. -/
def s211 : State :=
  let s := (vfs (holdP 1 5 (holdP 2 7 up))).setBit (aPartCtl 2) 29 true
  { s with toll := { s.toll with now := 0x23C346000 } }
/-- VF3 writes BEL_CNT_40 through window 4. -/
def s211' : State := match execRegisterWrite { fn := 3, off := 0x0400280, val := 5 } s211 with | .next s => s | _ => s211
theorem test_refused_write : s211'.reg aDevErrl = 1 ∧ s211'.reg aErrCapA = 0x80300000 ∧ s211'.reg aErrCapB = 0x00800280 ∧
    s211'.reg aErrCapC = 0x08F0D180 ∧ s211'.reg (aBelCnt 40) = s211.reg (aBelCnt 40) := by decide +kernel

/-! ### Example 23-1: the first two periods of a throttled partition -/

/-- Only P5 has a sensor above the target; HI of the pin 96, HI of the hint 32. -/
def s231 : State :=
  let s := (up.put aPwrLim 24 8 95).put aPwrLim 0 10 800
  let s := (s.setReg (aPwr 4 5 1) (BitVec.ofNat 32 (96 * 2 ^ 16))).setReg (aPwr 4 5 2) (BitVec.ofNat 32 (32 * 2 ^ 16))
  s.setReg (aPwr 4 5 3) (BitVec.ofNat 32 (2 ^ 31 + 2 ^ 30))
def tj5 (t : Nat) : ThermIn := { tj := (List.range 9).map (fun i => some (bite (if i = 5 then t else 50))) }
def heat (l : List Nat) : State := l.foldl (fun s t => match execThermalLoop (tj5 t) s with | .next s => s | _ => s) s231
theorem test_throttle_two : lpValue (heat [96, 99]) 4 5 = 20 := by decide +kernel
theorem test_throttle_five : lpValue (heat [96, 99, 103, 104]) 4 5 = 88 ∧ lpValue (heat [96, 99, 103, 104, 106]) 4 5 = 160 := by decide +kernel

end Sys2Proof.Tests
end

