-- ==== Sys2Proof/Tests/Witness01.lean ====
section
/-! SUPPORT. States and operands that meet the hypotheses of the statements on device, partition, bell and plan commands. -/

namespace Sys2Proof.Tests
set_option Elab.async false
open Sys2Proof Sys2Proof.Machine

/-! DeviceCommandsComplete -/
def cCaps : Call := cmd 0 0xFF [0, 0, 0, 0, 0, 0, 0, 0, 64, 1]
def cCert : Call := cmd 1 0xFF (List.replicate 32 0 ++ [64, 0, 0, 0, 0, 0, 0, 0, 0, 16])
def svn : State := { home with trust := { home.trust with fwSvn := 64, fwOtp := 63 } }
theorem witness_nop : Passes 0x00 callA (cmd 8 0xFF []) home := passes_of (by decide +kernel)
theorem witness_queryCaps : Passes 0x01 callA cCaps home ∧ mrpReady home = true ∧ cCaps.outOk (cCaps.le 16 8) (cCaps.le 24 4) = none :=
  ⟨passes_of (by decide +kernel), by decide +kernel, by decide +kernel⟩
theorem witness_errlogRead : Passes 0x02 callP (cmd 0 0xFF [1]) home := passes_of (by decide +kernel)
theorem witness_certGet : Passes 0x41 callA cCert home ∧ cCert.outOk (cCert.le 48 8) (cCert.le 56 4) = none :=
  ⟨passes_of (by decide +kernel), by decide +kernel⟩
theorem witness_fwSvnCommit : PassesLong 0x03 callP (cmd 0 0xFF []) svn ∧ (acc 0x03 (cmd 0 0xFF []) svn).trust.fwOtp < 64 ∧
    (acc 0x03 (cmd 0 0xFF []) svn).trust.fwSvn ≤ 64 ∧
    (acc 0x03 (cmd 0 0xFF []) svn).trust.fwOtp < (acc 0x03 (cmd 0 0xFF []) svn).trust.fwSvn :=
  ⟨passesLong_of (by decide +kernel), by decide +kernel, by decide +kernel, by decide +kernel⟩

/-! PartitionCommandsComplete -/
def cAssign : Call := cmd 0 0xFF [6, 1, 9, 0]
theorem witness_partQuery : Passes 0x10 callA (cmd 8 7 []) home := passes_of (by decide +kernel)
theorem witness_partAssign : PassesLong 0x11 callP cAssign home ∧ cAssign.b 16 ≠ 0 ∧ cAssign.le 18 2 ≠ 0xFFFF ∧
    (acc 0x11 cAssign home).holder = none ∧
    (∀ q ∈ maskBits 8 (cAssign.b 16), partPresent (acc 0x11 cAssign home) q = true ∧ partState (acc 0x11 cAssign home) q ≤ 1) ∧
    oneRun (cAssign.b 16) (cAssign.le 18 2) (acc 0x11 cAssign home) = true :=
  ⟨passesLong_of (by decide +kernel), by decide +kernel, by decide +kernel, by decide +kernel, by decide +kernel, by decide +kernel⟩
theorem witness_partReset : PassesLong 0x12 callP (cmd 0 7 [1]) home ∧ partState (acc 0x12 (cmd 0 7 [1]) home) 7 ≠ 2 ∧
    partState (acc 0x12 (cmd 0 7 [1]) home) 7 ≠ 3 := ⟨passesLong_of (by decide +kernel), by decide +kernel, by decide +kernel⟩
theorem witness_partExpert : Passes 0x13 callP (cmd 0 0 [1]) home ∧ partState home 0 ≠ 2 := ⟨passes_of (by decide +kernel), by decide +kernel⟩

/-! BellCommandsComplete: bells 0 and 31 of partition 0, every field selected, none selected -/
def cBell : Call := cmd 1 0 [31, 15, 1, 0, 5, 0, 0, 0, 9, 0, 0, 0, 0, 0, 8, 0]
theorem witness_bellSet : bellPart (cBell.b 16) = cBell.part.toNat ∧ Passes 0x14 callT cBell home ∧
    (cBell.bit 17 2 = true → cBell.le 28 4 ≤ 2 ^ 19) ∧ (cBell.b 17 % 8 = 0 ∨ bellIdle home (cBell.b 16) = true) :=
  ⟨by decide +kernel, passes_of (by decide +kernel), by decide +kernel, by decide +kernel⟩
theorem witness_bellStrike : bellPart ((cmd 1 0 [0]).b 16) = 0 ∧ Passes 0x15 callT (cmd 1 0 [0]) home := ⟨by decide +kernel, passes_of (by decide +kernel)⟩
def cBellWait : Call := cmd 1 0 [31, 0, 0, 0, 2, 0, 0, 0, 0x80, 0x96, 0x98, 0]
theorem witness_bellWait : bellPart (cBellWait.b 16) = cBellWait.part.toNat ∧ PassesLong 0x16 callT cBellWait home ∧
    1 ≤ cBellWait.le 24 4 ∧ cBellWait.le 24 4 ≤ 10 ^ 7 ∧
    ((acc 0x16 cBellWait home).host.outst.filter (fun o => decide (o.op = 0x16) && decide (o.call.fn = cBellWait.fn))).length ≤ 8 :=
  ⟨by decide +kernel, passesLong_of (by decide +kernel), by decide +kernel, by decide +kernel, by decide +kernel⟩

/-! PlanStoreCommandsComplete -/
def cAdmit : Call := cmd 1 0 [1, 0, 0, 0, 0, 0, 0, 0, 64, 0, 0, 0, 0, 0, 0, 0, 4]
def sAdmit : State := rgn 0 1 0 0 home
theorem witness_planAdmit : PassesLong 0x20 callT cAdmit sAdmit ∧ 1 ≤ cAdmit.b 16 ∧ cAdmit.b 16 < 15 ∧ cAdmit.le 24 8 % 64 = 0 ∧
    rgnValid (acc 0x20 cAdmit sAdmit) 0 1 = true ∧ rgnBusy (acc 0x20 cAdmit sAdmit) 0 1 = false ∧
    cAdmit.le 24 8 + cAdmit.le 32 8 ≤ rgnUsable (acc 0x20 cAdmit sAdmit) 0 1 ∧
    (∃ img t, readBytes 1 0 1 (cAdmit.le 24 8) (cAdmit.le 32 8) (acc 0x20 cAdmit sAdmit) = (0, img, t) ∧
      ∀ o ∈ t.host.outst, ¬ (o.acc = true ∧ o.op = 0x20 ∧ o.b = 1)) :=
  ⟨passesLong_of (by decide +kernel), by decide +kernel, by decide +kernel, by decide +kernel, by decide +kernel, by decide +kernel, by decide +kernel,
    code0 (by decide +kernel) (by decide +kernel)⟩
def ctx1 : Ctx := { fmask := 15, len := 9, res0 := 1, res1 := 1 }
def res1 : Resident := { id := 3, mask := 1, tenant := 7, ctx := ctx1, slots := [0, 4] }
def loaded : State := setResidents [res1] home
theorem witness_planEvict : Passes 0x24 callT (cmd 1 0 [3]) loaded ∧ findResident loaded 0 3 = some res1 ∧ inUse loaded res1 = false ∧
    (domRt loaded 0).resume = none := ⟨passes_of (by decide +kernel), by decide +kernel, by decide +kernel, by decide +kernel⟩
def sLoad : State := { home with plan := { home.plan with store := [(0, some { partMask := 1, ctxs := [ctx1] })] } }
def cLoad : Call := cmd 1 0 [0, 3]
theorem witness_planLoad : PassesLong 0x21 callT cLoad sLoad ∧ (∃ im x l, imageOf (acc 0x21 cLoad sLoad) 0 = some im ∧
    im.ctxs[cLoad.b 16]? = some x ∧ cLoad.b 17 ≠ 0xFF ∧ (∀ r ∈ residentsOf (acc 0x21 cLoad sLoad) 0, r.id ≠ cLoad.b 17) ∧
    x.dmas.filterMap (dmaLoad (acc 0x21 cLoad sLoad)) = [] ∧ x.dmas.any (dmaBusy (acc 0x21 cLoad sLoad)) = false ∧
    migrates (acc 0x21 cLoad sLoad) 0 = false ∧ selfTesting (acc 0x21 cLoad sLoad) im.partMask = false ∧
    failedUnit (acc 0x21 cLoad sLoad) x = false ∧ pickSlots (acc 0x21 cLoad sLoad) x = .ok l ∧
    loadWaits (acc 0x21 cLoad sLoad) im.partMask = none ∧ (domRt (acc 0x21 cLoad sLoad) 0).resume = none) :=
  ⟨passesLong_of (by decide +kernel), { partMask := 1, ctxs := [ctx1] }, ctx1, [0, 4], by decide +kernel, by decide +kernel, by decide +kernel,
    by decide +kernel, by decide +kernel, by decide +kernel, by decide +kernel, by decide +kernel, by decide +kernel, rfl, by decide +kernel,
    by decide +kernel⟩

/-! PlanRunCommandsComplete -/
def cStart : Call := cmd 1 0 [3, 4]
theorem witness_planStart : PassesLong 0x22 callT cStart loaded ∧ findResident (acc 0x22 cStart loaded) 0 3 = some res1 ∧
    ((∀ q ∈ maskBits 8 res1.mask, startPending (acc 0x22 cStart loaded) q = false ∧ plnState (acc 0x22 cStart loaded) q = stIdle) ∧
    migrates (acc 0x22 cStart loaded) 0 = false ∧ selfTesting (acc 0x22 cStart loaded) res1.mask = false ∧ extest (acc 0x22 cStart loaded) = false ∧
    isInvalid (acc 0x22 cStart loaded) res1 = false ∧ failedUnit (acc 0x22 cStart loaded) res1.ctx = false ∧ 1 ≤ cStart.b 17 ∧ cStart.b 17 ≤ 4 ∧
    res1.ctx.fmask.testBit (cStart.b 17 - 1) = true ∧ (domRt (acc 0x22 cStart loaded) 0).resume = none ∧ cStart.bit 18 0 = false ∧
    portsUp (acc 0x22 cStart loaded) res1.ctx = true ∧
    (needsJobKey res1.ctx = true → (holderKeys (acc 0x22 cStart loaded) 0).job.isSome = true) ∧
    pinBars (acc 0x22 cStart loaded) 0 (cStart.b 17) = false) :=
  ⟨passesLong_of (by decide +kernel), by decide +kernel, by decide +kernel⟩
/-- Context 3 runs in the domain of partition 0. -/
def running0 : State := (setPln 0 stRun 3 0xFF loaded).put (aPlnStat 0) 24 8 3
theorem witness_planSwitch : PassesLong 0x23 callT cStart running0 ∧ (domLow (acc 0x23 cStart running0) 0 = 0 ∧
    plnState (acc 0x23 cStart running0) 0 = stRun ∧ (domRt (acc 0x23 cStart running0) 0).pend = none ∧ extest (acc 0x23 cStart running0) = false ∧
    switchTarget (acc 0x23 cStart running0) 0 3 = some res1 ∧ isInvalid (acc 0x23 cStart running0) res1 = false ∧ cStart.b 17 ≤ 4 ∧
    (cStart.b 17 ≠ 0 → res1.ctx.fmask.testBit (cStart.b 17 - 1) = true ∧ pinBars (acc 0x23 cStart running0) 0 (cStart.b 17) = false)) :=
  ⟨passesLong_of (by decide +kernel), by decide +kernel⟩
theorem witness_planStop : PassesLong 0x25 callT (cmd 1 0 []) running0 ∧ (domLow (acc 0x25 (cmd 1 0 []) running0) 0 = 0 ∧
    plnState (acc 0x25 (cmd 1 0 []) running0) 0 ≠ stIdle ∧ plnState (acc 0x25 (cmd 1 0 []) running0) 0 ≠ stHalted) :=
  ⟨passesLong_of (by decide +kernel), by decide +kernel⟩
theorem witness_planClear : Passes 0x26 callT (cmd 1 0 []) (setPln 0 stHalted 3 0xFF loaded) ∧ (domLow (setPln 0 stHalted 3 0xFF loaded) 0 = 0 ∧
    plnState (setPln 0 stHalted 3 0xFF loaded) 0 = stHalted) := ⟨passes_of (by decide +kernel), by decide +kernel⟩

end Sys2Proof.Tests
end

