-- ==== Sys2Proof/Tests/Witness02.lean ====
section
/-! SUPPORT. States and operands that meet the hypotheses of the statements on regions, memory, pushes and Roll engines. -/

namespace Sys2Proof.Tests
set_option Elab.async false
open Sys2Proof Sys2Proof.Machine

/-- Partition 0 holds a memory key of version 5. -/
def keyed : State := { home with keys := [(0, { mem := [(0, 5, [])] })] }

/-! RegionCommandsComplete: region 1 created by its tenant, region 15 by the operator -/
def cSet : Call := cmd 1 0xFF [0, 1, 3, 0, 0, 0, 9, 0, 5]
abbrev aSet : State := acc 0x30 cSet keyed
theorem witness_rgnSet : PassesLong 0x30 (callMem true true) cSet keyed ∧ (hsPresent aSet 0 = true ∧ rgnValid aSet 0 1 = false ∧
    rgnFixed aSet 0 1 = false ∧ rgnBusy aSet 0 1 = false ∧
    rgnRules aSet 0 1 (cSet.bit 18 0) (cSet.b 19) (cSet.le 20 2) (cSet.le 22 2) = true ∧
    (rgnOperator aSet 0 1 = true ∨ verLive aSet 0 1 (cSet.b 24) = true)) := ⟨passesLong_of (by decide +kernel), by decide +kernel⟩
def cSet15 : Call := cmd 0 0xFF [0, 15, 0, 2, 0, 0, 9, 0, 5]
abbrev aSet15 : State := acc 0x30 cSet15 keyed
theorem witness_rgnSet15 : PassesLong 0x30 (callMem true true) cSet15 keyed ∧ (hsPresent aSet15 0 = true ∧ rgnValid aSet15 0 15 = false ∧
    rgnFixed aSet15 0 15 = false ∧ rgnBusy aSet15 0 15 = false ∧
    rgnRules aSet15 0 15 (cSet15.bit 18 0) (cSet15.b 19) (cSet15.le 20 2) (cSet15.le 22 2) = true ∧ rgnOperator aSet15 0 15 = true) :=
  ⟨passesLong_of (by decide +kernel), by decide +kernel⟩
/-- Region 14 of half-stack 0, of 1 MiB, under key version 0. -/
def withRgn : State := rgn 0 14 0 0 keyed
theorem witness_rgnClear : Passes 0x31 (callMem true true) (cmd 1 0xFF [0, 14]) withRgn ∧ (hsPresent withRgn 0 = true ∧
    rgnFixed withRgn 0 14 = false ∧ rgnBusy withRgn 0 14 = false) := ⟨passes_of (by decide +kernel), by decide +kernel⟩
abbrev aZf : State := acc 0x32 (cmd 1 0xFF [0, 14]) withRgn
theorem witness_rgnZfill : PassesLong 0x32 (callMem false false) (cmd 1 0xFF [0, 14]) withRgn ∧ (hsPresent aZf 0 = true ∧
    rgnValid aZf 0 14 = true ∧ rgnBusy aZf 0 14 = false ∧ rekeying aZf 0 14 = false) := ⟨passesLong_of (by decide +kernel), by decide +kernel⟩
def cRekey : Call := cmd 1 0xFF [0, 14, 5, 0]
abbrev aRekey : State := acc 0x33 cRekey withRgn
theorem witness_rekeyRegion : PassesLong 0x33 (callMem false false) cRekey withRgn ∧ (hsPresent aRekey 0 = true ∧ rgnValid aRekey 0 14 = true ∧
    verLive aRekey 0 14 (cRekey.b 18) = true ∧ aRekey.rbit (aRkCtl 0) 30 = false ∧ rgnBusy aRekey 0 14 = false ∧
    cRekey.bit 19 0 = aRekey.rbit (aRkCtl 0) 29) := ⟨passesLong_of (by decide +kernel), by decide +kernel⟩

/-! SweepsComplete -/
def sweeping : State := withRgn.setBit (aRgnA 0 14) 26 true
theorem witness_sweepEnd : inSafe sweeping = false ∧ rgnBusy sweeping 0 14 = true := by decide +kernel
def rekeys : State := let s := withRgn.setBit (aRkCtl 7) 30 true; { s with mem := { s.mem with rekey := [(7, some { region := 15, ver := 255 })] } }
theorem witness_rekeyEnd : inSafe rekeys = false ∧ tabGet (fun _ => none) rekeys.mem.rekey 7 = some { region := 15, ver := 255 } ∧
    rekeys.rbit (aRkCtl 7) 30 = true := by decide +kernel

/-! MemoryAccessCommandsComplete: the last 64 bytes of the region -/
def cMem (op : Nat) : Call := { cmd 1 0xFF [0, 14, 0, 0, 0, 0, 0, 0, 0xC0, 0xFF, 0x0F, 0, 0, 0, 0, 0, 64] with buf := [op] }
abbrev aRead : State := acc 0x34 (cMem 1) withRgn
abbrev aWrite : State := acc 0x35 (cMem 2) withRgn
theorem witness_memRead : PassesLong 0x34 (callMem false true) (cMem 1) withRgn ∧ (hsPresent aRead 0 = true ∧ rgnValid aRead 0 14 = true ∧
    rgnBusy aRead 0 14 = false ∧ (cMem 1).le 24 8 % 64 = 0 ∧ (cMem 1).le 32 4 % 64 = 0 ∧ 64 ≤ (cMem 1).le 32 4 ∧ (cMem 1).le 32 4 ≤ 2 ^ 24 ∧
    (cMem 1).le 24 8 + (cMem 1).le 32 4 = rgnUsable aRead 0 14 ∧ (cMem 1).outOk ((cMem 1).le 40 8) ((cMem 1).le 32 4) = none ∧
    (cMem 1).bufErr = false ∧ (readFrom 1 0 14 ((cMem 1).le 24 8) ((cMem 1).le 32 4) aRead).1.1 = 0 ∧
    (readFrom 1 0 14 ((cMem 1).le 24 8) ((cMem 1).le 32 4) aRead).1.2.1 = 0) := ⟨passesLong_of (by decide +kernel), by decide +kernel⟩
theorem witness_memWrite : PassesLong 0x35 (callMem false true) (cMem 2) withRgn ∧ (hsPresent aWrite 0 = true ∧ rgnValid aWrite 0 14 = true ∧
    rgnBusy aWrite 0 14 = false ∧ (cMem 2).le 24 8 + (cMem 2).le 32 4 ≤ rgnUsable aWrite 0 14) ∧
    (cMem 2).input aWrite ((cMem 2).le 40 8) ((cMem 2).le 32 4) = .ok (padTo 64 [2]) ∧
    ((writeFrom 1 0 14 ((cMem 2).le 24 8) (padTo 64 [2]) aWrite).1.1 = 0 ∧ (writeFrom 1 0 14 ((cMem 2).le 24 8) (padTo 64 [2]) aWrite).1.2.1 = 0) :=
  ⟨passesLong_of (by decide +kernel), by decide +kernel, rfl, by decide +kernel⟩

/-! PushesComplete -/
def pushing : State := (setPln 0 stRun 3 0xFF home).put (aPlnStat 0) 24 8 3
def cPush : Call := { cmd 1 0 [0, 0, 0, 0, 0, 0, 0, 0, 0, 0, 0, 0, 0, 0, 0, 0, 64, 0, 0, 0, 0x80, 0x96, 0x98, 0] with buf := [1] }
abbrev aPush : State := acc 0x38 cPush pushing
theorem witness_dpPush : PassesLong 0x38 callT cPush pushing ∧ (plnState aPush 0 = stRun ∧ 1 ≤ cPush.le 32 4 ∧ cPush.le 32 4 ≤ 2 ^ 20 ∧
    (if cPush.bit 16 0 then 32 ≤ cPush.le 32 4 else cPush.le 32 4 % 64 = 0) ∧ 1 ≤ cPush.le 36 4 ∧ cPush.le 36 4 ≤ 10 ^ 7) ∧
    pushWords cPush aPush = .ok (padTo 64 [1]) ∧ padTo 64 [(1 : Byte)] ≠ [] :=
  ⟨passesLong_of (by decide +kernel), by decide +kernel, rfl, by decide +kernel⟩
def inPush : State := runs 0x38 cPush { a := 24, data := padTo 64 [1] } pushing
theorem witness_pushWordEnter : ∃ o, outstAt inPush 0 [0x38] = some o ∧ (∀ x ∈ inPush.host.outst.take 0, ¬ (x.acc = true ∧ x.op = 0x38 ∧ x.a = o.a)) ∧
    (queueRt inPush o.a).entries.length < queueDepth o.a :=
  ⟨{ op := 0x38, call := cPush, acc := true, a := 24, data := padTo 64 [1] }, by decide +kernel⟩

/-! RollEnginesComplete -/
theorem witness_rollGrant : Passes 0x36 callP (cmd 0 0xFF [3, 1, 8]) home ∧ (enginePresent home 3 = true ∧ rolIdle home 3 = true) :=
  ⟨passes_of (by decide +kernel), by decide +kernel⟩
/-- Engine 0 granted to the operator for jobs. -/
def granted : State := rgn 0 15 2 0 ((home.put (aRol 0 0) 30 2 1).put (aRol 0 0) 24 4 8)
def cJob : Call := cmd 0 0xFF [0, 0, 15, 15, 15, 0, 0, 0, 0, 0, 0, 0, 64, 0, 0, 0, 64, 0, 0, 0, 64, 0, 0, 0]
abbrev aJob : State := acc 0x37 cJob granted
def theJob : JobCfg := { src := 15, dst := 15, err := 15, dstOff := 4096, len := 64, max := 64 }
theorem witness_rollJob : PassesLong 0x37 callG cJob granted ∧ (enginePresent aJob 0 = true ∧
    theJob = { enc := cJob.bit 17 0, salvage := cJob.bit 17 1, src := cJob.b 18, dst := cJob.b 19, err := cJob.b 20,
                hs := if rolGrant aJob 0 < 8 then rolGrant aJob 0 else cJob.b 21, srcOff := 64 * cJob.le 24 4, dstOff := 64 * cJob.le 28 4,
                len := cJob.le 32 4, max := cJob.le 36 4, errExp := cJob.b 22, errOff := 64 * cJob.le 40 4 } ∧ cJob.b 21 < 8 ∧
    jobOk aJob 0 theJob = true ∧ rollResident aJob 0 = false ∧ rolBusy aJob 0 = false ∧ jobWaits aJob theJob = false) :=
  ⟨passesLong_of (by decide +kernel), by decide +kernel⟩
theorem witness_rollJobDone : jobBusy (granted.setBit (aRol 0 0x10) 30 true) 0 = true ∧ inSafe (granted.setBit (aRol 0 0x10) 30 true) = false := by
  decide +kernel
def streaming : State := setChRt 8 { chRt home 8 with bytePos := 1, buf := [0] } (((home.setBit (aChCtl 8) 31 true).put (aChCtl 8) 26 3 1).setBit (aSnkCfg 8) 31 true)
theorem witness_rollBlock : enginePresent streaming 0 = true ∧ rollOccs streaming 0 = [] ∧ rolStream streaming 0 = some 8 := by decide +kernel

end Sys2Proof.Tests
end

