-- ==== Sys2Proof/Tests/Witness03.lean ====
section
/-! SUPPORT. States and operands that meet the hypotheses of the statements on reports, keys, the trust record, debug tokens
and weight packages. -/

namespace Sys2Proof.Tests
set_option Elab.async false
open Sys2Proof Sys2Proof.Machine

/-! ReportsAndSessionsComplete -/
def cReport : Call := cmd 1 0xFF (List.replicate 41 0 ++ [0x10])
theorem witness_attest : 4096 ≤ cReport.le 56 4 ∧ cReport.outOk (cReport.le 48 8) (cReport.le 56 4) = none ∧ PassesLong 0x40 callA cReport home :=
  ⟨by decide +kernel, by decide +kernel, passesLong_of (by decide +kernel)⟩
def cSession : Call := { cReport with part := 0 }
theorem witness_keySession : 4096 ≤ cSession.le 56 4 ∧ cSession.outOk (cSession.le 48 8) (cSession.le 56 4) = none ∧
    PassesLong 0x42 callKHeld cSession home ∧ holderIdx cSession = 0 :=
  ⟨by decide +kernel, by decide +kernel, passesLong_of (by decide +kernel), by decide +kernel⟩

/-! KeyCommandsComplete: one key of type 1, version 254 -/
def keyBuf : List Byte :=
  [0x53, 0x58, 0x4B, 0x4D, 1, 0, 0, 0, 0, 1] ++ zeros 118 ++ [1, 254] ++ zeros 46
def cInstall : Call := { cmd 1 0 [0, 0, 0, 0, 0, 0, 0, 0, 176] with buf := keyBuf }
def sess : SessRt := { sid := 1, tenant := 7 }
def inSession : State := setSession 0 (some sess) home
abbrev aInst : State := acc 0x43 cInstall inSession
theorem witness_keyInstall : PassesLong 0x43 callK cInstall inSession ∧ cInstall.input aInst (cInstall.le 16 8) (cInstall.le 24 4) = .ok keyBuf ∧
    (cInstall.le 24 4 = 128 + 48 * byteAt keyBuf 9 ∧ byteAt keyBuf 9 = 1 ∧ byteAt keyBuf 8 = cInstall.part.toNat ∧
    keyBuf.take 4 = [0x53, 0x58, 0x4B, 0x4D] ∧ (keyBuf.drop 10).take 6 = zeros 6 ∧ (keyBuf.drop 113).take 15 = zeros 15 ∧
    entryOk ((keyBuf.drop 128).take 48) = true ∧ sessMatch aInst 0 (leAt keyBuf 4 4) = some sess ∧
    typeBad (closeSession 0 aInst) 0 (byteAt ((keyBuf.drop 128).take 48) 0) = none) :=
  ⟨passesLong_of (by decide +kernel), input_ok (by decide +kernel), by decide +kernel⟩
def staged : State := setKeys 0 { keySlots home 0 with staged := [(1, 254, [1]), (2, 0, [2])], mem := [(0, 1, []), (1, 2, []), (2, 3, [])] } home
theorem witness_keyCommit : Passes 0x44 callKCommit (cmd 1 0 []) staged ∧ (¬ (0 < 8 ∧ partState staged 0 = 2) ∧ (keySlots staged 0).staged ≠ [] ∧
    (∀ x ∈ (keySlots staged 0).staged, x.1 = 1 → memLive (keySlots staged 0) x.2.1 = false) ∧
    (keySlots staged 0).mem.length + (((keySlots staged 0).staged.filter (fun x => decide (x.1 = 1))).map (fun x => x.2.1)).eraseDups.length = 4) :=
  ⟨passes_of (by decide +kernel), by decide +kernel⟩
theorem witness_keyDiscard : Passes 0x45 callK (cmd 0 0xFF []) home ∧ holderIdx (cmd 0 0xFF []) = 8 :=
  ⟨passes_of (by decide +kernel), by decide +kernel⟩
theorem witness_keyDelete : Passes 0x46 callV (cmd 1 0 [3]) staged ∧ (memLive (keySlots staged 0) 3 = true ∧ verUsed staged 0 3 = false) :=
  ⟨passes_of (by decide +kernel), by decide +kernel⟩

/-! TrustRecordCommandsComplete -/
def setBuf : List Byte :=
  [1, 0, 0, 0] ++ (List.replicate 16 9) ++ [1, 0, 0, 0, 63] ++ zeros 111 ++ [5] ++ zeros 247
def cSetEnrol : Call := { cmd 0 0xFF [0, 0, 0, 0, 0, 0, 0, 0, 128, 1] with buf := setBuf }
def opSession : State := setSession 8 (some { sid := 1 }) home
abbrev aEnrol : State := acc 0x47 cSetEnrol opSession
theorem witness_setEnrol : PassesLong 0x47 callP cSetEnrol opSession ∧ cSetEnrol.input aEnrol (cSetEnrol.le 16 8) (cSetEnrol.le 24 4) = .ok setBuf ∧
    (recBusy aEnrol = false ∧ recLeft aEnrol.trust ≠ 0 ∧ aEnrol.trust.flashOk = true ∧ cSetEnrol.le 24 4 = 384 ∧
    (setBuf.drop 25).take 7 = zeros 7 ∧ (setBuf.drop 129).take 7 = zeros 7 ∧ (setBuf.drop 281).take 7 = zeros 7 ∧
    byteAt ((setBuf.drop 136).take 48) 0 = 5 ∧ entryOk ((setBuf.drop 136).take 48) = true ∧
    sessMatch aEnrol 8 (leAt setBuf 0 4) = some { sid := 1 } ∧ byteAt setBuf 24 = 63 ∧
    (∀ y ∈ (closeSession 8 aEnrol).trust.entries.sets, y.id ≠ (setBuf.drop 4).take 16) ∧ (closeSession 8 aEnrol).trust.entries.sets.length < 8 ∧
    recBusy (closeSession 8 aEnrol) = false ∧ recLeft (closeSession 8 aEnrol).trust ≠ 0 ∧ (closeSession 8 aEnrol).trust.flashOk = true) :=
  ⟨passesLong_of (by decide +kernel), input_ok (by decide +kernel), by decide +kernel⟩
/-- An active record with one set and all but one of its key slots of each kind taken. -/
def enrolled : State := { home with trust := { home.trust with entries := {
  sets := [{ id := List.replicate 16 9 }], tools := List.replicate 15 [7], dbgs := List.replicate 3 [8] } } }
def cLeave : Call := cmd 0 0xFF (List.replicate 16 9)
theorem witness_setLeave : PassesLong 0x48 callP cLeave enrolled ∧ (recBusy (acc 0x48 cLeave enrolled) = false ∧
    recLeft (acc 0x48 cLeave enrolled).trust ≠ 0 ∧ (acc 0x48 cLeave enrolled).trust.flashOk = true) ∧
    (∃ y ∈ (acc 0x48 cLeave enrolled).trust.entries.sets, y.id = cLeave.bytes 16 16) :=
  ⟨passesLong_of (by decide +kernel), by decide +kernel, ⟨{ id := List.replicate 16 9 }, by decide +kernel⟩⟩
def cKey : Call := cmd 0 0xFF [0, 0, 0, 0, 0, 0, 0, 0, 97]
theorem witness_toolkeyEnrol : PassesLong 0x4A callP cKey enrolled ∧ cKey.input (acc 0x4A cKey enrolled) (cKey.le 16 8) (cKey.le 24 4) = .ok (zeros 97) ∧
    (cKey.le 24 4 = 97 ∧ zeros 97 ∉ (acc 0x4A cKey enrolled).trust.entries.tools ∧ (acc 0x4A cKey enrolled).trust.entries.tools.length < 16) :=
  ⟨passesLong_of (by decide +kernel), input_ok (by decide +kernel), by decide +kernel⟩
theorem witness_dbgkeyEnrol : PassesLong 0x4C callP cKey enrolled ∧ cKey.input (acc 0x4C cKey enrolled) (cKey.le 16 8) (cKey.le 24 4) = .ok (zeros 97) ∧
    (zeros 97 ∉ (acc 0x4C cKey enrolled).trust.entries.dbgs ∧ (acc 0x4C cKey enrolled).trust.entries.dbgs.length < 4) :=
  ⟨passesLong_of (by decide +kernel), input_ok (by decide +kernel), by decide +kernel⟩
theorem witness_toolkeyRevoke : PassesLong 0x4B callP (cmd 0 0xFF []) enrolled := passesLong_of (by decide +kernel)
theorem witness_dbgkeyRevoke : PassesLong 0x4D callP (cmd 0 0xFF []) enrolled := passesLong_of (by decide +kernel)
theorem witness_recordUpdateDone : outstAt (runs 0x47 cSetEnrol { c := 63 } home) 0 [0x47, 0x48, 0x4A, 0x4B, 0x4C, 0x4D] =
    some { op := 0x47, call := cSetEnrol, acc := true, c := 63 } := by decide +kernel

/-! DebugTokensComplete -/
theorem witness_dbgNonce : Passes 0x86 callP (cmd 0 0xFF []) home ∧ (cmd 0 0xFF []).outOk ((cmd 0 0xFF []).le 24 8) 32 = none :=
  ⟨passes_of (by decide +kernel), by decide +kernel⟩
def tokBuf : List Byte := [0x53, 0x58, 0x44, 0x54, 1, 0, 3, 0] ++ zeros 80 ++ [0x80, 0x51, 1, 0] ++ zeros 148
def cAdm : Call := { cmd 0 0xFF [0, 0, 0, 0, 0, 0, 0, 0, 240] with buf := tokBuf }
theorem witness_dbgAdmit : PassesLong 0x87 callP cAdm home ∧ cAdm.input (acc 0x87 cAdm home) (cAdm.le 16 8) (cAdm.le 24 4) = .ok tokBuf ∧
    (cAdm.le 24 4 = 240 ∧ tokBuf.take 6 = [0x53, 0x58, 0x44, 0x54, 1, 0] ∧ leAt tokBuf 6 2 = 3 ∧ leAt tokBuf 88 4 = 86400 ∧
    (tokBuf.drop 140).take 4 = zeros 4) := ⟨passesLong_of (by decide +kernel), input_ok (by decide +kernel), by decide +kernel⟩
def token : State := { home with trust := { home.trust with token := some (1, 3, 1) } }
theorem witness_dbgEnd : Passes 0x88 callP (cmd 0 0xFF []) token ∧ token.trust.token ≠ none := ⟨passes_of (by decide +kernel), by decide +kernel⟩

/-! WeightPackagesComplete: regions 1 and 14 -/
def cUnwrap : Call := cmd 1 0 [1, 14]
def sUnwrap : State := rgn 0 14 0 5 (rgn 0 1 0 0 home)
abbrev aUnwrap : State := acc 0x49 cUnwrap sUnwrap
theorem witness_weightUnwrap : PassesLong 0x49 callV cUnwrap sUnwrap ∧ (1 ≤ cUnwrap.b 16 ∧ cUnwrap.b 17 ≤ 14 ∧ cUnwrap.b 16 ≠ cUnwrap.b 17 ∧
    rgnValid aUnwrap 0 1 = true ∧ rgnValid aUnwrap 0 14 = true ∧ cUnwrap.le 32 8 % 128 = 0 ∧ cUnwrap.le 24 8 + 128 ≤ rgnUsable aUnwrap 0 1 ∧
    rgnBusy aUnwrap 0 1 = false ∧ rgnBusy aUnwrap 0 14 = false ∧ (readFrom 1 0 1 (cUnwrap.le 24 8) 128 aUnwrap).1.1 = 0 ∧
    (readFrom 1 0 1 (cUnwrap.le 24 8) 128 aUnwrap).1.2.1 = 0) := ⟨passesLong_of (by decide +kernel), by decide +kernel⟩
def oUnwrap : Outst := { op := 0x49, call := cUnwrap, acc := true, data := zeros 32 ++ zeros 40 ++ [1] ++ zeros 87 }
theorem witness_weightUnwrapDone : outstAt (setOutst [oUnwrap] sUnwrap) 0 [0x49] = some oUnwrap ∧ 1 ≤ leAt (oUnwrap.data.drop 32) 40 8 ∧
    leAt (oUnwrap.data.drop 32) 40 8 ≤ 2 ^ 20 := by decide +kernel

end Sys2Proof.Tests
end

