-- ==== Sys2Proof/Tests/Witness04.lean ====
section
/-! SUPPORT. States and operands that meet the hypotheses of the statements on channels, sinks, Clapper, counters, links, peal,
Toll, power loops and faults. -/

namespace Sys2Proof.Tests
set_option Elab.async false
open Sys2Proof Sys2Proof.Machine

/-! ChannelCommandsComplete: channel 8 by its tenant, channel 23 -/
def cConf : Call := cmd 1 0xFF [8, 1, 1, 24, 0, 0, 0, 0, 0xFF, 3, 0, 0, 0, 0, 0xFF, 0x0F, 0xFF, 0x0F, 0, 0]
def chTrace : State := setKeys 0 { keySlots home 0 with trace := some (0, []) } home
theorem witness_chConfig : Passes 0x50 (fun c s => callC (c.b 16) c s) cConf chTrace ∧ (chanPresent chTrace 8 = true ∧
    (cConf.b 17 / 2 % 4 = 0 ∧ cConf.b 20 = 0) ∧ sinkRefused chTrace 8 (cConf.b 18) (chTrace.rbit (aChCtl 8) 29) = none ∧ 12 ≤ cConf.b 19 ∧ cConf.b 19 = 24 ∧
    cConf.b 20 ≤ 16 ∧ cConf.le 24 4 < 2 ^ 10 ∧ (∀ i, i < 2 → cConf.le (28 + 4 * i) 4 / 2 ^ 28 = 0 ∧ cConf.le (28 + 4 * i) 4 / 2 ^ 12 % 16 = 0) ∧
    ¬ (chTrace.fuse.variant = 2 ∧ (cConf.le 24 4).testBit 4 = true) ∧ chOn chTrace 8 = false ∧
    ¬ ((cConf.le 24 4).testBit 4 = true ∧ dataBarred chTrace 8 = true)) ∧
    (∀ e, e = (((((chTrace.put (aChCtl 8) 26 3 (cConf.b 18)).put (aChCtl 8) 21 5 (cConf.b 19)).setReg (aChCls 8) (BitVec.ofNat 32 (cConf.le 24 4))).setReg
      (aChUr 8 0) (BitVec.ofNat 32 (cConf.le 28 4))).setReg (aChUr 8 1) (BitVec.ofNat 32 (cConf.le 32 4))) → holdBar e 8 = none) :=
  ⟨passes_of (by decide +kernel), by decide +kernel, by rintro e rfl; decide +kernel⟩
def cWin : Call := cmd 0 0xFF [23, 3, 3, 0, 0xFF, 0x0F]
theorem witness_chWindow : Passes 0x51 (fun c s => callC (c.b 16) c s) cWin home ∧ (chanPresent home 23 = true ∧ cWin.b 17 < 4 ∧ cWin.b 18 < 4 ∧
    cWin.le 20 2 < 2 ^ 12 ∧ ¬ (home.fuse.variant = 2 ∧ cWin.b 18 ≠ 0)) := ⟨passes_of (by decide +kernel), by decide +kernel⟩
/-- Channel 8 with a sink, stopped; the same enabled; and one that goes through engine 0. -/
def sinked : State := home.put (aChCtl 8) 26 3 1
def chRuns : State := sinked.setBit (aChCtl 8) 31 true
def rolled : State := ((sinked.setBit (aSnkCfg 8) 31 true).put (aRol 0 0) 30 2 0).put (aRol 0 0) 24 4 0
theorem witness_chEnable_on : Passes 0x52 (fun c s => callC (c.b 16) c s) (cmd 1 0xFF [8, 1]) rolled ∧ (chanPresent rolled 8 = true ∧
    (cmd 1 0xFF [8, 1]).bit 17 0 = true ∧ chOn rolled 8 = false ∧ chSink rolled 8 ≠ 0 ∧ engineTaken rolled 8 = false ∧
    rollOn rolled 8 = true ∧ rollAllowed rolled 8 (chEngine rolled 8) = true) := ⟨passes_of (by decide +kernel), by decide +kernel⟩
theorem witness_chEnable_off : Passes 0x52 (fun c s => callC (c.b 16) c s) (cmd 1 0xFF [8]) chRuns ∧ ((cmd 1 0xFF [8]).bit 17 0 = false ∧
    (cmd 1 0xFF [8]).bit 17 1 = false ∧ chOn chRuns 8 = true) := ⟨passes_of (by decide +kernel), by decide +kernel⟩
theorem witness_chEnable_flush : Passes 0x52 (fun c s => callC (c.b 16) c s) (cmd 1 0xFF [8, 3]) chRuns ∧ ((cmd 1 0xFF [8, 3]).bit 17 0 = true ∧
    chOn chRuns 8 = true ∧ (cmd 1 0xFF [8, 3]).bit 17 1 = true) := ⟨passes_of (by decide +kernel), by decide +kernel⟩

/-! SinkCommandsComplete: the ring of channel 8 in the tenant's region 3, the ingest ring of port 15 in a host buffer -/
def ringHome : State := rgn 0 3 1 0 sinked
def cRing : Call := cmd 1 0xFF [8, 1, 15, 7, 3, 0, 3, 255, 0, 0, 0, 0, 0, 0, 0, 0, 0, 16]
theorem witness_ringSet : Passes 0x53 (fun c s => if c.bit 16 7 then decide (c.fn = 0) else callC (c.b 16 % 32) c s) cRing ringHome ∧
    (cRing.bit 16 7 = false ∧ chanPresent ringHome 8 = true ∧ ringBusy ringHome false 8 = false ∧ cRing.b 18 < 16 ∧ cRing.b 19 < 8 ∧ cRing.b 20 < 16 ∧
    cRing.b 22 < 4 ∧ (cRing.bit 17 2 = false ∧ cRing.bit 17 3 = false) ∧ cRing.bit 21 0 = false ∧ 16 ≤ cRing.le 32 4 ∧ cRing.le 32 4 ≤ 2 ^ 24 ∧
    cRing.le 40 8 % 8 = 0 ∧ ringHbm ringHome false 8 (BitVec.ofNat 32 (2 ^ 31 + 15 * 2 ^ 27 + 7 * 2 ^ 23 + 3 * 2 ^ 19)) = true ∧
    ringFits ringHome false 8 (BitVec.ofNat 32 (2 ^ 31 + 15 * 2 ^ 27 + 7 * 2 ^ 23 + 3 * 2 ^ 19)) (cRing.le 24 8) (cRing.le 32 4) = true ∧
    ringHost ringHome false 8 (BitVec.ofNat 32 (2 ^ 31 + 15 * 2 ^ 27 + 7 * 2 ^ 23 + 3 * 2 ^ 19)) = false) := ⟨passes_of (by decide +kernel), by decide +kernel⟩
def cIngest : Call := cmd 0 0xFF [0x8F, 12, 0, 0, 0, 0, 0, 0, 0, 0x10, 0, 0, 0, 0, 0, 0, 16]
theorem witness_ringSet_ingest : Passes 0x53 (fun c s => if c.bit 16 7 then decide (c.fn = 0) else callC (c.b 16 % 32) c s) cIngest home ∧
    (cIngest.bit 16 7 = true ∧ portPresent home (cIngest.b 16 % 32) = true ∧ ringBusy home true 15 = false ∧ cIngest.bit 21 0 = false ∧
    16 ≤ cIngest.le 32 4 ∧ cIngest.le 40 8 % 8 = 0 ∧ ringHbm home true 15 (BitVec.ofNat 32 (2 ^ 18 + 2 ^ 17)) = false ∧
    ringHost home true 15 (BitVec.ofNat 32 (2 ^ 18 + 2 ^ 17)) = true ∧ cIngest.le 24 8 % 4096 = 0) := ⟨passes_of (by decide +kernel), by decide +kernel⟩
theorem witness_sinkPort_rem : Passes 0x54 callP (cmd 0 0xFF [3, 1, 15]) home ∧ portPresent home ((cmd 0 0xFF [3, 1, 15]).b 18) = true :=
  ⟨passes_of (by decide +kernel), by decide +kernel⟩
theorem witness_sinkPort_par : Passes 0x54 callP (cmd 0 0xFF [4, 1, 3]) home ∧ ((cmd 0 0xFF [4, 1, 3]).b 18 = 3 ∧ home.rbit aSnkPar 31 = false) :=
  ⟨passes_of (by decide +kernel), by decide +kernel⟩
theorem witness_sinkPort_ser : Passes 0x54 callP (cmd 0 0xFF [5, 1, 15]) home ∧ (home.fuse.variant = 0 ∧ (cmd 0 0xFF [5, 1, 15]).b 18 = 15) :=
  ⟨passes_of (by decide +kernel), by decide +kernel⟩
def cGov : Call := cmd 0 0xFF [7, 2, 10, 15]
def govS : State := (((home.put (aGov 7) 20 4 2).put (aGov 7) 24 4 10).put (aGov 7) 16 4 15)
theorem witness_govSet : Passes 0x55 callA cGov home ∧ (hsPresent home 7 = true ∧ cGov.b 17 = 2 ∧ cGov.b 18 = 10 ∧ cGov.b 19 = 15 ∧
    (govDec (govS.put (aGovStat 7) 0 8 (peakNow govS 7)) 7).conf = none) := ⟨passes_of (by decide +kernel), by decide +kernel⟩

/-! ClapperAndCounterCommandsComplete -/
def clapImg : List Byte := padTo 1040 (zeros 12 ++ [0, 0, 0, 4])
def cClap : Call := { cmd 0 0xFF [0, 0, 0, 0, 0, 0, 0, 0, 0x10, 4, 0, 0, 1] with buf := clapImg }
theorem witness_clapLoad : Passes 0x56 callP cClap home ∧ cClap.le 24 4 = 1040 ∧ cClap.input home (cClap.le 16 8) 1040 = .ok clapImg ∧
    (∀ o ∈ ((List.range 260).map (fun i => 4 * i)).filter (fun o => decide (o ≠ 0) && decide (o ≠ 4) && decide (regFields (bClp + o) ≠ [])),
      clpReserved o (imgWord clapImg o) = false) ∧
    ¬ (∃ i < 8, (imgWord clapImg (0x300 + 8 * i)).getLsbD 1 = true ∧ fld (imgWord clapImg (0x300 + 8 * i)) 16 16 ≠ 0) :=
  ⟨passes_of (by decide +kernel), by decide +kernel, input_ok (by decide +kernel), by decide +kernel, by decide +kernel⟩
def cCnt : Call := cmd 1 0xFF [0, 3, 0, 0, 0x10, 7, 7]
theorem witness_cntSet : Passes 0x57 callA cCnt home ∧ (cCnt.b 16 = 0 ∧ cCnt.b 17 < groupSize 0 ∧ ctrWriter home 1 (aCntSel 0 0 3) = true ∧
    unitPresent home 0 = true ∧ codeOk 0 0 (cCnt.b 20) = true ∧ cCnt.b 22 = 7) := ⟨passes_of (by decide +kernel), by decide +kernel⟩
def cSnap : Call := cmd 0 0xFF [0, 7, 0, 0, 0, 0, 0, 0, 0, 0, 0, 0, 0, 0, 0, 0, 64]
theorem witness_cntSnap_device : Passes 0x58 callA cSnap home ∧ (cSnap.le 16 2 < 2 ^ 11 ∧ cSnap.le 24 8 = 0 ∧
    maskOf ((maskBits 8 (cSnap.le 16 2)).filter (partPresent home)) = 0) := ⟨passes_of (by decide +kernel), by decide +kernel⟩
theorem witness_cntSnap_part : Passes 0x58 callA (cmd 1 0xFF [1]) home ∧ ((cmd 1 0xFF [1]).le 16 2 = 2 ^ (1 - 1) ∧
    maskOf ((maskBits 8 ((cmd 1 0xFF [1]).le 16 2)).filter (partPresent home)) ≠ 0) := ⟨passes_of (by decide +kernel), by decide +kernel⟩

/-! LinkCommandsComplete -/
theorem witness_linkCtl : Passes 0x60 callP (cmd 0 0xFF [15, 7, 0xFF]) home ∧ portPresent home 15 = true := ⟨passes_of (by decide +kernel), by decide +kernel⟩
theorem witness_linkAssign : Passes 0x61 callP (cmd 0 0xFF [15, 1, 0]) home ∧ (partPresent home 0 = true ∧ ownFixed home 15 0 = false) :=
  ⟨passes_of (by decide +kernel), by decide +kernel⟩
theorem witness_linkQuery : Passes 0x62 callPortA (cmd 1 0xFF [0, 4]) home ∧ portPresent home 0 = true := ⟨passes_of (by decide +kernel), by decide +kernel⟩
def cCap : Call := cmd 1 0xFF [1, 7, 2, 7, 0xFF, 0xFF, 0xFF, 0x7F]
theorem witness_linkCapture : Passes 0x63 callPortH cCap home ∧ (capModeOk home (cCap.b 18) = true ∧ cCap.b 19 < 8 ∧ cCap.le 20 4 < 2 ^ 31) :=
  ⟨passes_of (by decide +kernel), by decide +kernel⟩
def cImp : Call := cmd 1 0xFF ([0, 28, 4, 0, 0, 0, 0, 0] ++ [0, 0, 0, 0x50, 0, 0, 0, 0])
theorem witness_linkImpair : Passes 0x64 callPortH cImp home ∧ (cImp.b 18 = 4 ∧ cImp.b 17 + cImp.b 18 = 32 ∧
    (∀ i < cImp.b 18, cImp.le (24 + 8 * i) 4 / 2 ^ 28 < 6) ∧ portRuns home 0 = false) := ⟨passes_of (by decide +kernel), by decide +kernel⟩

/-! PealAndTollCommandsComplete -/
theorem witness_pealSet : Passes 0x65 callP (cmd 0 0xFF [7, 0, 0xFF, 3, 1, 2, 3, 4, 1, 255]) home ∧ portsDown home = true :=
  ⟨passes_of (by decide +kernel), by decide +kernel⟩
def cRoute : Call := { cmd 0 0xFF [0xFF, 3, 1, 0] with buf := [0x1F] }
theorem witness_pealRoute : Passes 0x66 callP cRoute home ∧ (1 ≤ cRoute.le 18 2 ∧ cRoute.le 16 2 + cRoute.le 18 2 = 1024) ∧
    cRoute.input home (cRoute.le 24 8) (cRoute.le 18 2) = .ok [0x1F] ∧
    (∀ i < cRoute.le 18 2, (byteAt [(0x1F : Byte)] i).testBit 4 = true → portPresent home (byteAt [(0x1F : Byte)] i % 16) = true) :=
  ⟨passes_of (by decide +kernel), by decide +kernel, input_ok (by decide +kernel), by decide +kernel⟩
theorem witness_tollSet_ctl : Passes 0x67 callP (cmd 0 0xFF [1, 2, 15, 10, 3, 0, 0xFF, 0xFF]) home := passes_of (by decide +kernel)
theorem witness_tollSet_hold : Passes 0x67 callP (cmd 0 0xFF [4, 0, 0, 0, 0, 0, 0, 0, 0, 0, 0, 0, 0x10, 0x0E]) home ∧
    (cmd 0 0xFF [4, 0, 0, 0, 0, 0, 0, 0, 0, 0, 0, 0, 0x10, 0x0E]).le 28 2 = 3600 := ⟨passes_of (by decide +kernel), by decide +kernel⟩
theorem witness_tollSet_sec : Passes 0x67 callP (cmd 0 0xFF [8]) home ∧ tollSrc home ≠ 2 := ⟨passes_of (by decide +kernel), by decide +kernel⟩
def cAsym : Call := cmd 0 0xFF ([16] ++ List.replicate 19 0 ++ [15, 0, 0xFF, 0xFF])
theorem witness_tollSet_asym : Passes 0x67 callP cAsym home ∧ (cAsym.b 16 = 16 ∧ portPresent home (cAsym.b 36) = true) :=
  ⟨passes_of (by decide +kernel), by decide +kernel⟩
theorem witness_tollQuery : Passes 0x68 callA (cmd 8 0xFF []) home := passes_of (by decide +kernel)

/-! PowerAndFaultCommandsComplete: an instance of the governed loops 5 and 7 -/
def cPin : Call := cmd 0 0xFF [5, 15, 1, 0, 0, 0, 0, 0, 15]
def pinned : State := (home.setReg (aPwr 5 15 1) (BitVec.ofNat 32 (15 * 2 ^ 16))).setBit (aPwr 5 15 3) 31 true
theorem witness_pwrPin : Passes 0x70 callP cPin home ∧ (cPin.b 16 = 5 ∧ cPin.b 17 < lpCount 5 ∧ lpPresent home 5 15 = true ∧
    boundsOk 5 (cPin.le 20 4) (cPin.le 24 4) = true ∧ ¬ (cPin.bit 18 0 = true ∧ cPin.bit 18 1 = true) ∧ pinYields pinned 5 15 = none) :=
  ⟨passes_of (by decide +kernel), by decide +kernel⟩
def cHint : Call := cmd 1 0 [7, 0, 1, 0, 1, 0, 0, 0, 4]
def hinted : State := (home.setReg (aPwr 7 0 2) (BitVec.ofNat 32 (4 * 2 ^ 16 + 1))).setBit (aPwr 7 0 3) 30 true
theorem witness_pwrHint : Passes 0x71 callT cHint home ∧ (lpTakesHints 7 = true ∧ boundsOk 7 (cHint.le 20 4) (cHint.le 24 4) = true ∧
    hintYields hinted 7 0 = none) := ⟨passes_of (by decide +kernel), by decide +kernel⟩
theorem witness_pwrQuery : Passes 0x72 callA (cmd 8 0xFF [4, 7]) home ∧ (lpPart home 4 7 = some 7 ∧ lpPresent home 4 7 = true) :=
  ⟨passes_of (by decide +kernel), by decide +kernel⟩
def cFault : Call := cmd 8 0xFF [7, 0, 0, 0, 0, 0, 0, 0, 0, 0, 0, 0, 0, 0, 0, 0, 64]
theorem witness_faultRead : Passes 0x80 callA cFault home ∧ (cFault.fn = cFault.b 16 + 1 ∧ partPresent home (cFault.b 16) = true ∧
    cFault.outOk (cFault.le 24 8) (cFault.le 32 4) = none) := ⟨passes_of (by decide +kernel), by decide +kernel⟩
theorem witness_faultRead_device : Passes 0x80 callA (cmd 0 0xFF [0xFF]) home := passes_of (by decide +kernel)
def cSelf : Call := cmd 0 0xFF [0xFF]
theorem witness_selftest : PassesLong 0x81 callP cSelf home ∧ (∀ p ∈ maskBits 8 (cSelf.b 16),
    partPresent (acc 0x81 cSelf home) p = true ∧ plnState (acc 0x81 cSelf home) p = stIdle) := ⟨passesLong_of (by decide +kernel), by decide +kernel⟩

end Sys2Proof.Tests
end

