-- ==== Sys2Proof/Tests/Witness05.lean ====
section
/-! SUPPORT. States and operands that meet the hypotheses of the statements on drain images, migration, restore and register
accesses. -/

namespace Sys2Proof.Tests
set_option Elab.async false
open Sys2Proof Sys2Proof.Machine

/-- Partition 0 with region 2 for drain images, of 400 MiB. -/
def drainS : State := (rgn 0 2 4 0 home).setReg (aRgnB 0 2) 400
/-- The same with port 0 UP to device 5, owned by partition 0, and a job key. -/
def migS : State :=
  setKeys 0 { keySlots home 0 with job := some (zeros 32) } (((drainS.put (aLnkStat 0) 28 4 stUp).put (aLnkPeer 0) 0 10 5).setReg (aLnkOwn 0) 0x80000000)

/-! DrainAndMigrationComplete -/
def cDrain : Call := cmd 1 0 [2, 1]
abbrev aDrain : State := acc 0x82 cDrain drainS
theorem witness_drain : PassesLong 0x82 callT cDrain drainS ∧ (domLow aDrain 0 = 0 ∧ drainRegion aDrain 0 (cDrain.b 16) (cDrain.le 24 8) = true ∧
    drainBusy aDrain cDrain 0x82 0 = false ∧ (∀ q ∈ maskBits 8 (domMask aDrain 0), startPending aDrain q = false) ∧
    cDrain.le 24 8 + imgLen (chunkCount aDrain (domMask aDrain 0) (cDrain.bit 17 0)) ≤ rgnUsable aDrain 0 (cDrain.b 16)) :=
  ⟨passesLong_of (by decide +kernel), by decide +kernel⟩
def cMig : Call := cmd 1 0 [2, 0, 5, 0]
abbrev aMig (op : Nat) : State := acc op cMig migS
theorem witness_migrate : PassesLong 0x83 callT cMig migS ∧ (portPresent (aMig 0x83) (cMig.b 17) = true ∧ domLow (aMig 0x83) 0 = 0 ∧
    drainRegion (aMig 0x83) 0 (cMig.b 16) (cMig.le 24 8) = true ∧ drainBusy (aMig 0x83) cMig 0x83 0 = false ∧
    (∀ o ∈ (aMig 0x83).host.outst, o.acc = true → (o.op = 0x83 ∨ o.op = 0x84) → o.call.b 17 = cMig.b 17 → isCall cMig 0x83 o = true)) :=
  ⟨passesLong_of (by decide +kernel), by decide +kernel⟩
theorem witness_migrateRecv : PassesLong 0x84 callT cMig migS ∧ (portPresent (aMig 0x84) (cMig.b 17) = true ∧ domLow (aMig 0x84) 0 = 0 ∧
    drainRegion (aMig 0x84) 0 (cMig.b 16) (cMig.le 24 8) = true ∧ drainBusy (aMig 0x84) cMig 0x84 0 = false ∧
    (∀ o ∈ (aMig 0x84).host.outst, o.acc = true → (o.op = 0x83 ∨ o.op = 0x84) → o.call.b 17 = cMig.b 17 → isCall cMig 0x84 o = true) ∧
    (holderKeys (aMig 0x84) 0).job = some (zeros 32) ∧ migPort (aMig 0x84) 0 (cMig.b 17) (cMig.le 18 2) = true) :=
  ⟨passesLong_of (by decide +kernel), by decide +kernel⟩
def cRest : Call := cmd 1 0 [2]
abbrev aRest : State := acc 0x85 cRest drainS
theorem witness_restore : PassesLong 0x85 callT cRest drainS ∧ (domLow aRest 0 = 0 ∧ drainRegion aRest 0 (cRest.b 16) (cRest.le 24 8) = true ∧
    drainBusy aRest cRest 0x85 0 = false ∧ plnState aRest 0 = stIdle) := ⟨passesLong_of (by decide +kernel), by decide +kernel⟩
def capA : DrainCap := { id := 9, mask := 1 }
def oDrain : Outst := { op := 0x82, call := cDrain, acc := true, b := 1, data := leBytes 8 9 }
def capS : State := { setOutst [oDrain] drainS with caps := [capA] }
theorem witness_drainDone : outstAt capS 0 [0x82] = some oDrain ∧ oDrain.b = 1 ∧
    capS.caps.find? (fun d => decide (d.id = leNat oDrain.data)) = some capA ∧ rgnValid capS 0 2 = true ∧ rgnKind capS 0 2 = 4 ∧
    oDrain.call.le 24 8 + imgLen (chunkCount capS capA.mask (oDrain.call.bit 17 0)) ≤ rgnUsable capS 0 2 := by decide +kernel
def oMig (op c : Nat) : Outst := { op := op, call := cMig, acc := true, c := c, data := zeros 160 }
theorem witness_migrateTimeout : outstAt (setOutst [oMig 0x83 1] migS) 0 [0x83] = some (oMig 0x83 1) ∧ (oMig 0x83 1).c = 1 := by decide +kernel
theorem witness_stall : outstAt (setOutst [oMig 0x84 1] migS) 0 [0x84] = some (oMig 0x84 1) ∧ (oMig 0x84 1).c = 1 := by decide +kernel
theorem witness_offerTimeout : outstAt (setOutst [oMig 0x84 0] migS) 0 [0x84] = some (oMig 0x84 0) ∧ (oMig 0x84 0).c = 0 := by decide +kernel
def oRest : Outst := { op := 0x85, call := cRest, acc := true, data := zeros 128 }
theorem witness_restoreDone : outstAt (setOutst [oRest] drainS) 0 [0x85] = some oRest ∧ plnState (setOutst [oRest] drainS) oRest.a = stIdle ∧
    (domRt (setOutst [oRest] drainS) oRest.a).pend = none ∧ (byteAt (oRest.data.take 128) 6).testBit 0 = false := by decide +kernel
/-- A migration message of a type, from device 5 to device 0. -/
def msg (ty : Nat) : MigMsg := { hdr := [0x53, 0x58, 0x4D, 0x47, bite ty, 0, 5, 0, 0, 0, 0, 0] ++ zeros 116 }
theorem witness_migrationMessage : ∀ x ∈ [(0x83, 1, 4), (0x83, 1, 5), (0x84, 0, 1), (0x84, 1, 2), (0x84, 1, 3)],
    let s := setOutst [oMig x.1 x.2.1] migS
    migOn s 0 = some (oMig x.1 x.2.1) ∧ migUp s 0 ((oMig x.1 x.2.1).call.le 18 2) = true ∧ inSafe s = false ∧
    (msg x.2.2).hdr.take 4 = [0x53, 0x58, 0x4D, 0x47] ∧ leAt (msg x.2.2).hdr 6 2 = (oMig x.1 x.2.1).call.le 18 2 ∧
    leAt (msg x.2.2).hdr 8 2 = s.rf aPealId 0 10 ∧ ((msg x.2.2).hdr.drop 12).take 8 = ((oMig x.1 x.2.1).data.drop 56).take 8 ∧
    byteAt (msg x.2.2).hdr 4 = x.2.2 ∧ (oMig x.1 x.2.1).c = x.2.1 := by decide +kernel

/-! RegisterAccessesComplete: the last register of PF0's BAR0 range that a command may name, and MBX_OUT -/
def cRd : Call := cmd 0 0xFF [0, 0, 0, 0, 4]
theorem witness_regRead : regArgs cRd 4 = true ∧ Passes 0xF0 callA cRd expert := ⟨by decide +kernel, passes_of (by decide +kernel)⟩
def cWrt : Call := cmd 0 0xFF ([0x08, 0x02, 0, 0, 1, 0, 0, 0] ++ [1])
theorem witness_regWrite : regArgs cWrt 8 = true ∧ Passes 0xF1 callA cWrt expert ∧ (regWrites cWrt (cWrt.b 20) 0 expert).2.1 = none :=
  ⟨by decide +kernel, passes_of (by decide +kernel), by decide +kernel⟩
theorem witness_registerWrite : ∀ f ∈ [0, 8], f ≤ 8 ∧ bar0Size f - 8 < bar0Size f ∧ fnEnabled home f = true ∧ (bar0Size f - 8) % 8 = 0 := by decide +kernel
theorem witness_tolNowlRead : fnEnabled home 8 = true ∧ partPresent home (8 - 1) = true := by decide +kernel
theorem witness_clkFclRead : partPresent home 7 = true ∧ (7 = 8 - 1) := by decide +kernel

end Sys2Proof.Tests
end

