-- ==== Sys2Proof/Tests/Witness06.lean ====
section
/-! SUPPORT. States and operands that meet the hypotheses of the statements on register rows. -/

namespace Sys2Proof.Tests
set_option Elab.async false
open Sys2Proof Sys2Proof.Machine

/-! EngineRegisterRowsComplete -/
def switchV : Word := 0x80060009#32
def switchE : State := ((expert.put aPartSwitch 30 1 (fld switchV 30 1)).put aPartSwitch 16 8 (fld switchV 16 8)).put aPartSwitch 0 16 (fld switchV 0 16)
theorem witness_partSwitchGo : WriteTakes 0 aPartSwitch expert ∧ (bit switchV 31 = true ∧ fld switchV 0 16 ≠ 0xFFFF ∧
    expert.rbit aPartSwitch 29 = false ∧ assignBad (fld switchV 16 8) (fld switchV 0 16) switchE = none) := ⟨takes_of (by decide +kernel), by decide +kernel⟩
theorem witness_partCtlReset : WriteTakes 0 (aPartCtl 7) expert ∧ (expert.rbit (aPartCtl 7) 31 = false ∧ partState expert 7 ≠ 2 ∧ partState expert 7 ≠ 3) :=
  ⟨takes_of (by decide +kernel), by decide +kernel⟩
theorem witness_belStrk : WriteTakes 1 aBelStrk expert ∧ (partPresent expert (bellPart (fld 31#32 0 8)) = true ∧ bellWriter expert 1 (fld 31#32 0 8) = true) :=
  ⟨takes_of (by decide +kernel), by decide +kernel⟩
def swV : Word := 0x80030000#32
def resA : Resident := { id := 3, mask := 1, tenant := 7, slots := [0] }
def swS : State := setResidents [resA] ((setPln 0 stRun 2 0xFF expert).put (aPlnStat 0) 24 8 2)
theorem witness_plnSwitchGo : WriteTakes 1 (aPlnSwitch 0) swS ∧ (bit swV 31 = true ∧ expertFor swS 1 0 = true ∧ domLow swS 0 = 0 ∧
    plnState (swS.put (aPlnSwitch 0) 16 8 (fld swV 16 8)) 0 = stRun ∧ (domRt (swS.put (aPlnSwitch 0) 16 8 (fld swV 16 8)) 0).pend = none ∧
    extest (swS.put (aPlnSwitch 0) 16 8 (fld swV 16 8)) = false ∧
    switchTarget (swS.put (aPlnSwitch 0) 16 8 (fld swV 16 8)) 0 (fld swV 16 8) = some resA ∧
    isInvalid (swS.put (aPlnSwitch 0) 16 8 (fld swV 16 8)) resA = false) := ⟨takes_of (by decide +kernel), by decide +kernel⟩
theorem witness_memRgna_off : WriteTakes 1 (aRgnA 0 14) expert ∧ (rgnBusy expert 0 14 = false ∧ rgnFixed expert 0 14 = false ∧ bit (3#32) 31 = false ∧ bit (3#32) 25 = false) :=
  ⟨takes_of (by decide +kernel), by decide +kernel⟩
def rgnS : State := expert.setReg (aRgnB 0 14) 9
theorem witness_memRgna_on : WriteTakes 1 (aRgnA 0 14) rgnS ∧ (rgnBusy rgnS 0 14 = false ∧ rgnFixed rgnS 0 14 = false ∧ bit (0xC2000000#32) 31 = true ∧
    rgnRules rgnS 0 14 (bit (0xC2000000#32) 30) (fld (0xC2000000#32) 27 3) (fld (0xC2000000#32) 0 14) (rgnLen rgnS 0 14) = true ∧
    bit (0xC2000000#32) 25 = true ∧ rekeying rgnS 0 14 = false) := ⟨takes_of (by decide +kernel), by decide +kernel⟩
def rkS : State := rgn 0 14 0 0 { expert with keys := [(0, { mem := [(0, 5, [])] })] }
def rkV : Word := 0x8005000E#32
def rkE : State := (rkS.put (aRkCtl 0) 16 8 (fld rkV 16 8)).put (aRkCtl 0) 0 4 (fld rkV 0 4)
theorem witness_memRkctlGo : WriteTakes 1 (aRkCtl 0) rkS ∧ (1 ≤ fld rkV 0 4 ∧ fld rkV 0 4 = 14 ∧ bit rkV 31 = true ∧ rkE.rbit (aRkCtl 0) 30 = false ∧
    rgnBusy rkE 0 (fld rkV 0 4) = false ∧ rgnValid rkE 0 (fld rkV 0 4) = true ∧ verLive rkE 0 (fld rkV 0 4) (fld rkV 16 8) = true ∧ bit rkV 29 = false) :=
  ⟨takes_of (by decide +kernel), by decide +kernel⟩
def jobS : State := (((((rgn 0 15 2 0 ((expert.put (aRol 3 0) 30 2 1).put (aRol 3 0) 24 4 8)).setReg (aRol 3 0x18) 64).setReg (aRol 3 0x20) 64).setReg
  (aRol 3 0x1C) 64))
def jobV : Word := 0x8FFF0000#32
def jobE : State := jobS.setReg (aRol 3 0x10) ((jobV &&& 0x3FFF0380#32) ||| (jobS.reg (aRol 3 0x10) &&& 0x0000FC00#32))
theorem witness_jctlGo : WriteTakes 0 (aRol 3 0x10) jobS ∧ (bit jobV 31 = true ∧ bit jobV 11 = false ∧ jobBusy jobS 3 = false ∧ rollResident jobE 3 = false ∧
    rolBusy jobE 3 = false ∧ jobOk jobE 3 (jobCfg jobE 3) = true ∧ jobWaits jobE (jobCfg jobE 3) = false) := ⟨takes_of (by decide +kernel), by decide +kernel⟩

/-! ObservationRegisterRowsComplete -/
def chS : State := expert.put (aChCtl 8) 26 3 1
def chV (en : Bool) : Word := BitVec.ofNat 32 (b2n en * 2 ^ 31 + 1 * 2 ^ 26 + 24 * 2 ^ 21 + 2 * 2 ^ 16)
def chE : State := (chS.put (aChCtl 8) 21 5 (fld (chV true) 21 5)).setBit (aChCtl 8) 30 (bit (chV true) 30)
theorem witness_channelEn_on : WriteTakes 1 (aChCtl 8) chS ∧ (chanWriter chS 1 8 = true ∧ fld (chV true) 16 5 = chS.rf (aChCtl 8) 16 5 ∧
    fld (chV true) 26 3 = chS.rf (aChCtl 8) 26 3 ∧ bit (chV true) 29 = chS.rbit (aChCtl 8) 29 ∧ fld (chV true) 21 5 = 24 ∧ bit (chV true) 30 = false ∧
    bit (chV true) 31 = true ∧ chOn chS 8 = false ∧ chSink chE 8 ≠ 0 ∧ engineTaken chE 8 = false) := ⟨takes_of (by decide +kernel), by decide +kernel⟩
def chOnS : State := chS.setBit (aChCtl 8) 31 true
theorem witness_channelEn_off : WriteTakes 1 (aChCtl 8) chOnS ∧ (chanWriter chOnS 1 8 = true ∧ fld (chV false) 16 5 = chOnS.rf (aChCtl 8) 16 5 ∧
    fld (chV false) 26 3 = chOnS.rf (aChCtl 8) 26 3 ∧ bit (chV false) 29 = chOnS.rbit (aChCtl 8) 29 ∧ bit (chV false) 30 = false ∧
    bit (chV false) 31 = false ∧ chOn chOnS 8 = true) := ⟨takes_of (by decide +kernel), by decide +kernel⟩
theorem witness_snkParEn : WriteTakes 0 aSnkPar expert ∧ expert.rbit aSnkPar 31 = false := ⟨takes_of (by decide +kernel), by decide +kernel⟩
theorem witness_snkSerEn : WriteTakes 0 aSnkSer expert ∧ expert.fuse.variant = 0 := ⟨takes_of (by decide +kernel), by decide +kernel⟩
theorem witness_flush : WriteTakes 1 (aSnkCfg 8) expert ∧ (bit (0x1FF#32) 31 = expert.rbit (aSnkCfg 8) 31 ∧ fld (0x1FF#32) 28 2 = expert.rf (aSnkCfg 8) 28 2 ∧
    bit (0x1FF#32) 8 = true) := ⟨takes_of (by decide +kernel), by decide +kernel⟩
def rngS : State := expert.setReg (aRng true 15 0x14) 16
theorem witness_rngRd : WriteTakes 0 (aRng true 15 0x18) rngS ∧ (rngS.reg (aRng true 15 0x14) - 0#32).toNat = ringLen rngS true 15 :=
  ⟨takes_of (by decide +kernel), by decide +kernel⟩
theorem witness_rngRd_channel : WriteTakes 1 (aRng false 8 0x18) home := takes_of (by decide +kernel)
theorem witness_clpArm : WriteTakes 0 aClpCtl expert := takes_of (by decide +kernel)
theorem witness_clpLevel : WriteTakes 0 aClpOut expert ∧ (expert.rbit aClpCtl 31 = false ∧ 4 ≤ fld (0x0400000F#32) 24 8) :=
  ⟨takes_of (by decide +kernel), by decide +kernel⟩
def armed : State := expert.setBit aClpCtl 31 true
def levV : Word := (writeClpLevel 15 armed).reg aClpOut
theorem witness_clpLevel_armed : WriteTakes 0 aClpOut armed ∧ (armed.rbit aClpCtl 31 = true ∧
    putFld levV 0 4 ((writeClpLevel (fld levV 0 4) armed).rf aClpOut 0 4) &&& definedMask aClpOut = (writeClpLevel (fld levV 0 4) armed).reg aClpOut) :=
  ⟨takes_of (by decide +kernel), by decide +kernel⟩
theorem witness_evselWrite : ctrOk { group := 0, unit := 0, idx := 3 } = true ∧ WriteTakes 1 (aCntSel 0 0 3) expert ∧
    codeOk (ctrGroup (aCntSel 0 0 3)) (ctrUnit (aCntSel 0 0 3)) (fld (0x16#32) 0 8) = true := ⟨by decide +kernel, takes_of (by decide +kernel), by decide +kernel⟩
theorem witness_valhLoad : ctrOk { group := 3, idx := 31 } = true ∧ WriteTakes 0 (aCntSel 3 0 31 + 8) expert := ⟨by decide +kernel, takes_of (by decide +kernel)⟩
theorem witness_cntSnapGo : WriteTakes 0 aCntSnap expert ∧ bit (0x800007FF#32) 31 = true := ⟨takes_of (by decide +kernel), by decide +kernel⟩
theorem witness_cntFrzRelease : WriteTakes 0 aCntFrz expert := takes_of (by decide +kernel)

/-! ControlRegisterRowsComplete -/
theorem witness_retrain : WriteTakes 0 (aLnkCtl 15) expert := takes_of (by decide +kernel)
theorem witness_tolCtlSrc : WriteTakes 0 aTolCtl expert ∧ (fld (0x0AF80000#32) 18 2 ≠ 3 ∧ fld (0x0AF80000#32) 24 4 = 10) :=
  ⟨takes_of (by decide +kernel), by decide +kernel⟩
theorem witness_tolSetsec : WriteTakes 0 aTolSetsec expert ∧ tollSrc expert ≠ 2 := ⟨takes_of (by decide +kernel), by decide +kernel⟩
theorem witness_safRselGo : WriteTakes 0 aSafRsel expert ∧ (bit (0x8000FF0F#32) 31 = true ∧ fld (0x8000FF0F#32) 8 8 = 0xFF) :=
  ⟨takes_of (by decide +kernel), by decide +kernel⟩
theorem witness_safEnter : WriteTakes 0 aSafEnter expert ∧ bit (0x80000000#32) 31 = true := ⟨takes_of (by decide +kernel), by decide +kernel⟩
theorem witness_devLock : WriteTakes 0 aDevLock expert := takes_of (by decide +kernel)
theorem witness_imrWrite : WriteTakes 1 (aImrL 1) expert ∧ WriteTakes 0 (aImrH 0) expert := ⟨takes_of (by decide +kernel), takes_of (by decide +kernel)⟩
def pairS : State := (home.put (aRqCtl 1 1) 16 4 12).put (aRqCtl 1 1) 12 4 13
theorem witness_doorbell : WriteTakes 1 (bCmd + 0x1000 * 1 + 0x18) pairS ∧ fld (4095#32) 0 12 < 2 ^ pairS.rf (aRqCtl 1 1) 16 4 :=
  ⟨takes_of (by decide +kernel), by decide +kernel⟩
theorem witness_cqHeadWrite : WriteTakes 1 (bCmd + 0x1000 * 1 + 0x20) (pairS.put (aCqTail 1 1) 0 13 5) ∧ (∀ n x y, n = 2 ^ (pairS.put (aCqTail 1 1) 0 13 5).rf (aRqCtl 1 1) 12 4 →
    x = (pairS.put (aCqTail 1 1) 0 13 5).rf (aCqHead 1 1) 0 13 → y = (pairS.put (aCqTail 1 1) 0 13 5).rf (aCqTail 1 1) 0 13 →
    fld (5#32) 0 13 < n ∧ (fld (5#32) 0 13 + n - x) % n ≤ (y + n - x) % n) :=
  ⟨takes_of (by decide +kernel), by rintro n x y rfl rfl rfl; decide +kernel⟩
theorem witness_rqEn : WriteTakes 1 (bCmd + 0x1000 * 1) home ∧ (home.rbit (aRqStat 1 1) 31 = false ∧ bit (0x800CD000#32) 31 = true ∧ fld (0x800CD000#32) 16 4 = 12 ∧
    fld (0x800CD000#32) 12 4 = 13 ∧ partState home (1 - 1) = 1) := ⟨takes_of (by decide +kernel), by decide +kernel⟩
def b2wS : State := rgn 0 14 1 0 home
theorem witness_b2wCtl : WriteTakes 1 (bCmd + 0x9000 + 0x10 * 15) b2wS ∧ (b2wS.rbit (aB2wCtl 1 15) 31 = false ∧ bit (0x8000000E#32) 31 = true ∧
    b2wReach b2wS 1 (fld (0x8000000E#32) 4 3) (fld (0x8000000E#32) 0 4) = true) := ⟨takes_of (by decide +kernel), by decide +kernel⟩
theorem witness_injectionArm : WriteTakes 0 aCuResinj expert ∧ WriteTakes 0 aSramEinj expert ∧ WriteTakes 0 aNetCinj expert ∧
    (held expert (unitPart (fld (0x40000008#32) 0 12)) = false ∧ fld (0x40000008#32) 29 2 = 2 ∧
    held expert (if fld (0x10007000#32) 28 2 = 1 then fld (0x10007000#32) 12 3 else unitPart (fld (0x10007000#32) 0 12)) = false ∧
    fld (0x10007000#32) 28 2 = 1 ∧ held expert (unitPart (fld (8#32) 0 12)) = false) :=
  ⟨takes_of (by decide +kernel), takes_of (by decide +kernel), takes_of (by decide +kernel), by decide +kernel⟩

end Sys2Proof.Tests
end

