-- ==== Sys2Proof/Tests/Witness07.lean ====
section
/-! SUPPORT. States and operands that meet the hypotheses of the statements on rings, the mailbox, BAR2, PCIe functions, holder
changes, boot, resets and the safety monitor. -/

namespace Sys2Proof.Tests
set_option Elab.async false
open Sys2Proof Sys2Proof.Machine

/-! CommandSourcesComplete: pair 1 of VF8 -/
def vf8 : State := vfs (holdP 7 9 up)
def ringS : State :=
  let s := ((((vf8.setBit (aRqCtl 8 1) 31 true).put (aRqCtl 8 1) 16 4 4).put (aRqCtl 8 1) 12 4 5).setReg (aCqTail 8 1) 0x80000000#32).put (aSqTail 8 1) 0 12 1
  setFnRt 8 { fnRt s 8 with bme := true } s
theorem witness_descriptorFetch : pairTakes ringS 8 1 = true ∧ (∀ c ∈ (fnRt ringS 8).fenced, c.via ≠ .ring 1) ∧ offered ringS 8 1 ≠ 0 ∧
    outCount ringS 8 1 = 0 ∧ (callOf 8 (.ring 1) (padTo 64 []) [] false).flags.getLsbD 0 = false := by decide +kernel
def ringBusyS : State := setOutst [{ op := 0x16, call := { fn := 8, via := .ring 1 }, acc := true }] ringS
theorem witness_descriptorFetch_fence : pairTakes ringBusyS 8 1 = true ∧ offered ringBusyS 8 1 ≠ 0 ∧
    (callOf 8 (.ring 1) (padTo 64 [0, 1]) [] false).flags.getLsbD 0 = true ∧
    outCount (ringBusyS.put (aSqHead 8 1) 0 12 ((ringBusyS.rf (aSqHead 8 1) 0 12 + 1) % 2 ^ ringBusyS.rf (aRqCtl 8 1) 16 4)) 8 1 ≠ 0 := by decide +kernel
def fenced : State := setFnRt 8 { fnRt ringS 8 with fenced := [{ fn := 8, via := .ring 1 }] } ringS
theorem witness_descriptorFetch_fenced : pairTakes fenced 8 1 = true ∧ (fnRt fenced 8).fenced = [{ fn := 8, via := .ring 1 }] ∧
    outCount fenced 8 1 = 0 := by decide +kernel
def mbx : State := expert
theorem witness_mbxGo : WriteTakes 1 bMbx mbx ∧ (bit (0x80000000#32) 31 = true ∧ mbx.boot.phase ≠ 4 ∧ expertOf mbx 1 = true ∧
    mbx.rbit (aMbxStat 1) 31 = false) := ⟨takes_of (by decide +kernel), by decide +kernel⟩

/-! ApertureAccessesComplete: window 15 of VF1 over region 14, at its first and last 4 bytes -/
def apS : State := (rgn 0 14 1 0 expert).setReg (aB2wCtl 1 15) 0xC000000E#32
theorem witness_bar2Read : ∀ a ∈ [15 * 2 ^ 28, 15 * 2 ^ 28 + 2 ^ 20 - 4], b2wShape a 4 = true ∧ (b2wTest apS 1 a 4 false).res = 3 ∧
    (b2wTest apS 1 a 4 true).res = 3 ∧ fnEnabled apS 1 = true := by decide +kernel
theorem witness_bar2Refused : b2wShape (15 * 2 ^ 28 + 2 ^ 20) 4 = true ∧ (b2wTest apS 1 (15 * 2 ^ 28 + 2 ^ 20) 4 false).res ≠ 3 ∧
    (b2wTest apS 1 (15 * 2 ^ 28 + 2 ^ 20) 4 true).res ≠ 3 ∧ expertOf apS 1 = true := by decide +kernel
theorem witness_bar2ReadTimeout : b2wShape (15 * 2 ^ 28) 1 = true ∧ (b2wTest apS 1 (15 * 2 ^ 28) 1 false).res = 3 := by decide +kernel

/-! PcieFunctionsComplete -/
theorem witness_busMasterEnable : fnEnabled home 8 = true ∧ (fnRt home 8).flr = false := by decide +kernel
theorem witness_msixUnmask : fnEnabled home 0 = true ∧ vecCount 0 - 1 < vecCount 0 := by decide +kernel
def flrE : State := setFnRt 1 { fnRt home 1 with flr := true } home
theorem witness_functionReset_held : partPresent home 0 = true ∧ (fnRt home 1).flr = false ∧ partState flrE 0 ≠ 2 ∧ partState flrE 0 ≠ 3 ∧ held home 0 = true := by
  decide +kernel
theorem witness_functionReset_free : partPresent home 7 = true ∧ (fnRt home 8).flr = false ∧ held home 7 = false := by decide +kernel
theorem witness_partitionResetEnd : partState (setPartState 0 3 home) 0 = 3 ∧ (partState flrE 0 ≠ 3 ∧ partState flrE 0 ≠ 2 ∧ (fnRt flrE 1).flr = true) := by
  decide +kernel
theorem witness_perstRelease : 2 ≤ home.boot.phase := by decide +kernel

/-! HolderChangePhasesComplete -/
def hold (ph : Nat) : HolderRt := { mask := 0xC0, tenant := 9, zfill := true, phase := ph }
def changing (ph : Nat) : State := { home with holder := some (hold ph) }
theorem witness_holderChangePhaseEnd : ∀ ph ∈ [0, 1, 2, 3, 5, 6], (changing ph).holder = some (hold ph) ∧ (hold ph).phase = ph ∧
    inSafe (changing ph) = false := by decide +kernel

/-! BootAndResetsComplete -/
theorem witness_coldReset : ({ testEn := true : BootIn }).testEn = true ∧ ({} : BootIn).testEn = false ∧ ({} : BootIn).rstLow = false := by decide +kernel
def heldLow : State := setBoot { up.boot with phase := 1 } up
theorem witness_sysRstRelease : heldLow.boot.phase = 1 ∧ heldLow.boot.found.testEn = false := by decide +kernel
def service : State := setBoot { up.boot with phase := 3 } up
theorem witness_warmReset : service.boot.phase = 3 := by decide +kernel
def barked : State := (service.setBit aSafStat 31 true).setBit aSafCause 13 true
theorem witness_watchdogWarmReset : barked.boot.phase = 3 ∧ inSafe barked = true ∧ barked.rbit aSafCause 13 = true := by decide +kernel
/-- Host recovery waits with a piece of 4 bytes, the last one or not. -/
def recov (final : Bool) : State :=
  ((((setBoot { up.boot with phase := 4 } up).setBit (aMbxStat 0) 31 true).setReg (aMbxDesc 0 0) 0x43525853#32).setReg (aMbxDesc 0 2) 4).setReg (aMbxDesc 0 3)
    (BitVec.ofNat 32 (b2n final * 2 ^ 31 + 4))
theorem witness_recoveryPiece : ∀ b, (recov b).boot.phase = 4 ∧ (recov b).rbit (aMbxStat 0) 31 = true ∧ (recov b).reg (aMbxDesc 0 0) = 0x43525853#32 ∧
    ((recov b).reg (aMbxDesc 0 2)).toNat = 4 ∧ ((recov b).reg (aMbxDesc 0 1)).toNat + 4 ≤ (recov b).rf (aMbxDesc 0 3) 0 31 ∧
    (recov b).rbit (aMbxDesc 0 3) 31 = b := by decide +kernel
theorem witness_recoveryPiece_bad : ((recov true).setReg (aMbxDesc 0 2) 65537).boot.phase = 4 ∧
    65536 < (((recov true).setReg (aMbxDesc 0 2) 65537).reg (aMbxDesc 0 2)).toNat := by decide +kernel
theorem witness_mrpReady_warm : (setBoot { up.boot with phase := 5 } up).boot.rstLow = false ∧ (setBoot { up.boot with phase := 5 } up).boot.phase = 5 := by
  decide +kernel
theorem witness_mrpReady_cold : State.reset.boot.rstLow = false ∧ State.reset.boot.phase = 2 := by decide +kernel

/-! SafetyMonitorComplete -/
theorem witness_voltage : mrpReady up = true := by decide +kernel
theorem witness_watchdogExpiry : service.boot.phase = 3 ∨ service.boot.phase = 5 := by decide +kernel
theorem witness_safeReq : mrpReady up = true ∧ up.safe.reqLow = false := by decide +kernel
theorem witness_periodicSelftest : arrayUnit 0 = true ∧ up.rbit aSafStctl 31 = true ∧ unitPresent up 0 = true ∧ failedOf up 0 = false ∧ unitIdle up 0 = true ∧
    selfTesting up (2 ^ unitPart 0) = false := by decide +kernel
theorem witness_selftestDone : outstAt (runs 0x81 (cmd 0 0xFF [0xFF]) {} up) 0 [0x81] =
    some { op := 0x81, call := cmd 0 0xFF [0xFF], acc := true } := by decide +kernel

end Sys2Proof.Tests
end

