-- ==== Sys2Proof/Tests/Witness08.lean ====
section
/-! SUPPORT. States and operands that meet the hypotheses of the statements on the run of a slip domain, the array units, the
network, DMA, links and the Toll. -/

namespace Sys2Proof.Tests
set_option Elab.async false
open Sys2Proof Sys2Proof.Machine

/-- Context `c` runs in the domain of partition 0, at relative score cycle `n`. -/
def runAt (c : Ctx) (n : Nat) : State :=
  let s := setPln 0 stRun 3 0xFF (setResidents [{ id := 3, mask := 1, tenant := 7, ctx := c, slots := [0] }] home)
  setPartRt 0 { partRt s 0 with sc := BitVec.ofNat 56 n, fc := BitVec.ofNat 56 n } s
/-- What one unit block schedules at score cycle 4. -/
def ctxOf (u k el ix n : Nat) : Ctx := { fmask := 1, len := 9, units := [{ unit := u, kind := k, sched := [{ sc := 4, elem := el, index := ix, len := n }] }] }

/-! DomainEventsComplete -/
def cWait : Call := cmd 1 0 [31]
def oWait (b : Nat) : Outst := { op := 0x16, call := cWait, acc := true, a := 31, b := b }
theorem witness_bellWaitEnd : outstAt (setOutst [oWait 0] home) 0 [0x16] = some (oWait 0) ∧ (oWait 0).b ≤ bellCount (setOutst [oWait 0] home) (oWait 0).a := by
  decide +kernel
theorem witness_bellWaitTimeout : outstAt (setOutst [oWait 1] home) 0 [0x16] = some (oWait 1) ∧ bellCount (setOutst [oWait 1] home) (oWait 1).a < (oWait 1).b := by
  decide +kernel
def oAdm : Outst := { op := 0x20, call := cWait, acc := true, b := 1 }
theorem witness_planAdmitDone : outstAt (setOutst [oAdm] home) 0 [0x20] = some oAdm := by decide +kernel
def oLoad : Outst := { op := 0x21, call := cWait, acc := true, b := 3, data := leBytes 1 0 }
def resL : Resident := { id := 3, mask := 1, slots := [0], loading := true }
def loadS : State := setResidents [resL] (setOutst [oLoad] home)
theorem witness_contextLoadDone : outstAt loadS 0 [0x21] = some oLoad ∧ oLoad.c = 0 ∧
    (residentsOf loadS (leNat oLoad.data)).find? (fun x => decide (x.id = oLoad.b) && x.loading) = some resL := by decide +kernel
def wToll : WaitSw := { ctx := 3, mask := 1, fclass := 1, atToll := some 0 }
def tollS : State := setDomRt 0 { domRt home 0 with pend := some wToll } home
theorem witness_tollStart : partPresent home 7 = true ∧ (domRt tollS 0).pend = some wToll ∧ wToll.atToll = some 0 ∧ 0 ≤ (tollS.toll.now - 0).toInt ∧
    wToll.fclass = (partRt tollS 0).cls ∧ (domRt tollS (domLow tollS 0)).sw = none ∧ plnState tollS 0 ≠ stHalted := by decide +kernel
def chgS (ctx : Nat) : State := setDomRt 0 { domRt home 0 with chg := some { ctx := ctx, mask := 1, fclass := 2 } } home
theorem witness_classChangeDone : ∀ x ∈ [3, 0xFF], (domRt (chgS x) 0).chg = some { ctx := x, mask := 1, fclass := 2 } ∧ domLow (chgS x) 0 = 0 := by decide +kernel
def swS0 : State := setDomRt 0 { domRt home 0 with sw := some { left := 0, ctx := 3, mask := 1 } } home
theorem witness_switchEnd : switchOver swS0 0 = some { left := 0, ctx := 3, mask := 1 } := by decide +kernel
def plain : Ctx := { fmask := 1, len := 9 }
theorem witness_runEnd : (runOver (runAt plain 9) 0).isSome = true ∧ domLow (runAt plain 9) 0 = 0 := by decide +kernel
def slipS : State := setDomRt 0 { domRt (runAt plain 4) 0 with slip := some { len := 2 } } (runAt plain 4)
theorem witness_slipEnd : inRun slipS 0 = true ∧ slipping slipS 0 = true ∧ edgeCauses slipS 0 = 0 := by decide +kernel
def limS : State := setDomRt 0 { domRt (runAt plain 4) 0 with slip := some { len := 2 ^ 19 }, carry := true } (runAt plain 4)
theorem witness_slipLimit : inRun limS 0 = true ∧ limitHit limS 0 = true ∧ edgeCauses limS 0 ≠ 0 := by decide +kernel
def wPl : WaitRt := { bell := 31, unit := 0x800 }
def toS : State :=
  let s := setPartRt 0 { partRt (runAt { plain with len := 2 ^ 18 } 0) 0 with sc := 131072 } (runAt { plain with len := 2 ^ 18 } 0)
  setDomRt 0 { domRt s 0 with waits := [wPl] } (s.setReg (aBelTgt 31) 1)
theorem witness_waitTimeout : (domRt toS 0).waits[0]? = some wPl ∧ actsOn toS 0 = true ∧ timedOut toS 0 wPl = true ∧ reached toS wPl.bell = false := by decide +kernel
def relCtx : Ctx := { plain with rels := [{ sc := 4, queue := 0 }] }
theorem witness_release : domLow (runAt relCtx 4) (queuePart 0) = 0 ∧ inRun (runAt relCtx 4) 0 = true ∧ (dueRel (runAt relCtx 4) 0).isSome = true := by decide +kernel
def xingS : State := { home with xing := [(255, [(.lost, false)])] }
theorem witness_arrival : tabGet (fun _ => []) xingS.xing 255 = (.lost, false) :: [] ∧
    (domRt xingS (domLow xingS (queuePart 255))).chg = none := by decide +kernel

/-! ArrayUnitEventsComplete: CU 0, MU 2, and slice 0 -/
theorem witness_slotSwitch : isCu 0 = true ∧ actsNow (runAt (ctxOf 0 0 0 5 0) 4) (unitPart 0) = true ∧ schedNow (runAt (ctxOf 0 0 0 5 0) 4) 0 0 0 5 = true ∧
    (domRt (runAt (ctxOf 0 0 0 5 0) 4) (domLow (runAt (ctxOf 0 0 0 5 0) 4) (unitPart 0))).done.contains (1, 0, 0) = false := by decide +kernel
theorem witness_dotStep : unitPresent (runAt plain 4) 0 = true ∧ actsNow (runAt plain 4) (unitPart 0) = true := by decide +kernel
theorem witness_agRun : isMem 2 = true ∧ actsNow (runAt (ctxOf 2 1 1 7 0) 4) (muPart 2) = true ∧
    (∃ b, muBlk (runAt (ctxOf 2 1 1 7 0) 4) 2 = some b ∧ ∃ e ∈ b.sched, e.sc = relSc (runAt (ctxOf 2 1 1 7 0) 4) (muPart 2) ∧ e.elem = 1 ∧ e.index = 7) :=
  ⟨by decide +kernel, by decide +kernel, { unit := 2, kind := 1, sched := [{ sc := 4, elem := 1, index := 7, len := 0 }] }, by decide +kernel,
    { sc := 4, elem := 1, index := 7, len := 0 }, by decide +kernel⟩
theorem witness_agAccess : isMem 0x1000 = true ∧ actsNow (runAt plain 4) (muPart 0x1000) = true ∧ memPresent (runAt plain 4) 0x1000 = true := by decide +kernel
theorem witness_eccWriteBack : isMem 0x1007 = true ∧ actsNow home (muPart 0x1007) = false ∧ memPresent home 0x1007 = true := by decide +kernel

/-! NetworkAndDmaEventsComplete -/
theorem witness_route : arrayUnit 0 = true ∧ actsNow (runAt (ctxOf 0 2 0 5 0) 4) (unitPart 0) = true ∧ schedNow (runAt (ctxOf 0 2 0 5 0) 4) 0 2 0 5 = true := by
  decide +kernel
theorem witness_steer : ∃ b, blkOf (runAt (ctxOf 0 2 4 0 3) 4) 0 2 = some b ∧ ∃ e ∈ b.sched, 1 ≤ e.elem ∧ e.elem = 4 ∧ e.sc = relSc (runAt (ctxOf 0 2 4 0 3) 4) 0 :=
  ⟨{ unit := 0, kind := 2, sched := [{ sc := 4, elem := 4, index := 0, len := 3 }] }, by decide +kernel, { sc := 4, elem := 4, index := 0, len := 3 }, by decide +kernel⟩
def lateS : State := setSrc 3 { srcRt (runAt plain 4) 3 with sends := [(0, 1)] } (runAt plain 4)
theorem witness_creditLate : actsNow lateS 0 = true ∧ lateSends lateS (32 * 0 + 3) = true := by decide +kernel
/-- A DMA record: 128 bytes of region 1 at score cycle 4. -/
def dmaB : List Byte := [4, 0, 0, 0, 0, 0, 0, 1] ++ zeros 8 ++ [128] ++ zeros 15
def dmaCtx : Ctx := { plain with dmas := [dmaB] }
theorem witness_dmaIssue : actsOn (runAt dmaCtx 4) 0 = true ∧ dmaRec (runAt dmaCtx 4) 0 0 = some dmaB ∧ dmaDue (runAt dmaCtx 4) 0 dmaB = some 0 := by decide +kernel
def dmaX : DmaRt := { outb := true }
def dmaS : State := { runAt dmaCtx 5 with dmas := [dmaX] }
theorem witness_dmaComplete : findDma (pumpAll 0 dmaS) 0 0 0 (dmaDone (pumpAll 0 dmaS)) = some dmaX := by decide +kernel
def rollX : DmaRt := { roll := true, lines := [0], words := [([], 0)] }
theorem witness_hbmReadReturn : findDma { home with dmas := [rollX] } 0 0 0 (fun x => !x.outb && x.lines.contains 0 && !x.back.contains 0) = some rollX ∧
    rollX.roll = true ∧ dmaBehind rollX 0 { home with dmas := [rollX] } = false ∧ 0 - rollX.off / 128 < rollX.words.length ∧ (rollX.words.getD (0 - rollX.off / 128) ([], 0)).2 % 8 = 0 := by decide +kernel

/-! LinkEventsComplete: port 0, of partition 0, and port 15 -/
def txCtx : Ctx := { plain with links := [{ sc := 4, port := 0, kind := 1 }] }
theorem witness_tx : portPresent (runAt txCtx 4) 0 = true ∧ portPart (runAt txCtx 4) 0 < 8 ∧ domLow (runAt txCtx 4) (portPart (runAt txCtx 4) 0) = 0 ∧
    actsOn (runAt txCtx 4) 0 = true ∧ linkRec (runAt txCtx 4) 0 0 = some { sc := 4, port := 0, kind := 1 } ∧ occAt 4 0 0 (relSc (runAt txCtx 4) 0) = some 0 := by
  decide +kernel
/-- Port 15 in a state. -/
def port (st : Nat) : State := home.put (aLnkStat 15) 28 4 st
theorem witness_frameSend : ∀ st ∈ [stFrame, stKey, stMeasure, stUp], portPresent (port st) 15 = true ∧ stFrame ≤ lnkState (port st) 15 ∧ lnkState (port st) 15 ≤ stUp := by
  decide +kernel
/-- Port 15, of a FREE partition, under the operator's link key. -/
def keyedPort (st : Nat) : State := setKeys 8 { keySlots (port st) 8 with link := some [1] } (port st)
theorem witness_frameReceive : stKey ≤ lnkState (keyedPort stKey) 15 ∧ lnkState (keyedPort stKey) 15 ≤ stUp ∧ ({} : Frame).corr = 0 ∧
    rejectOf (linkRt (keyedPort stKey) 15) (linkKey (keyedPort stKey) 15).isSome {} = 0 := by decide +kernel
theorem witness_linkDown : stTrain ≤ lnkState (port stUp) 15 ∧ lnkState (port stUp) 15 ≤ stUp ∧ lnkState (port stTrain) 15 = stTrain ∧ lnkState (port stFrame) 15 = stFrame := by
  decide +kernel
def downS : State := ((port stDownErr).setBit (aLnkCtl 15) 31 true).setBit (aLnkCtl 15) 30 true
theorem witness_autoRetrain : lnkState downS 15 = stDownErr ∧ downS.rbit (aLnkCtl 15) 31 = true ∧ downS.rbit (aLnkCtl 15) 30 = true := by decide +kernel
theorem witness_hello : lnkState (port stMeasure) 15 = stMeasure ∧ ({ dev := 5 } : CtrlMsg).tag = (port stMeasure).reg aPealTag ∧
    ({ dev := 5 } : CtrlMsg).dev % 1024 ≠ devId (port stMeasure) ∧ ({ tag := 1 } : CtrlMsg).tag ≠ (port stMeasure).reg aPealTag ∧
    (linkRt (port stMeasure) 15).rtts.length < 64 := by decide +kernel

/-! TollEventsComplete: port 15 leads to the parent, or to a child -/
def childS : State := (((port stUp).put aTolCtl 18 2 2).put aTolCtl 20 4 15)
theorem witness_sync : tollPort childS 15 = true ∧ tollSrc childS = 2 ∧ tollParent childS = 15 ∧ childS.toll.parentInt = none ∧
    ({ state := tlLocked, depth := 3 } : TollMsg).state = tlLocked ∧ ({ state := tlLocked, depth := 3 } : TollMsg).depth < 4 := by decide +kernel
theorem witness_dreq : tollPort ((port stUp).put aTolCtl 0 16 0x8000) 15 = true ∧ (childPorts ((port stUp).put aTolCtl 0 16 0x8000)).contains 15 = true := by decide +kernel
def exchS : State := setToll { childS.toll with exch := some (7, 1, 2, 3) } childS
theorem witness_dresp : tollPort exchS 15 = true ∧ tollSrc exchS = 2 ∧ tollParent exchS = 15 ∧ exchS.toll.exch = some (({ seq := 7 } : TollMsg).seq, 1, 2, 3) := by
  decide +kernel
theorem witness_referenceLost : tollSrc childS = 2 ∧ tollSrc (home.put aTolCtl 18 2 1) = 1 := by decide +kernel
theorem witness_holdoverLimit : tollState (home.put aTolStat 30 2 3) = tlHoldover := by decide +kernel
def ppsS : State := setToll { home.toll with now := 100000 } ((home.put aTolCtl 18 2 1).put aTolStat 30 2 2)
theorem witness_ppsEdge_far : tollSrc ppsS = 1 ∧ tollState ppsS = tlLocked ∧ 64000 < (ppsOffset ppsS).natAbs := by decide +kernel
def ppsN : State := setToll { ppsS.toll with now := 64000 } ppsS
theorem witness_ppsEdge_near : tollSrc ppsN = 1 ∧ (ppsOffset ppsN).natAbs = 64000 ∧ ppsN.toll.refclk ≠ 2 ∧ ppsN.toll.setSec = none := by decide +kernel
theorem witness_tollRefclkPresent : tollSrc home = 0 := by decide +kernel
theorem witness_tollRefclkReturn : (home.put aTolStat 30 2 3).toll.refclk = 0 ∧ tollSrc (home.put aTolStat 30 2 3) = 0 ∧ tollState (home.put aTolStat 30 2 3) = tlHoldover := by
  decide +kernel

end Sys2Proof.Tests
end

