-- ==== Sys2Proof/Tests/Witness09.lean ====
section
/-! SUPPORT. States and operands that meet the hypotheses of the statements on observation, the Clapper, counters, the manager's
loops, and of those on the whole machine. -/

namespace Sys2Proof.Tests
set_option Elab.async false
open Sys2Proof Sys2Proof.Machine

/-! ObservationEventsComplete -/
theorem witness_tapRecord : (tapRt (setTapRt 0xFFF { evs := [{}], dats := [{}] } home) 0xFFF).evs = {} :: [] ∧
    (tapRt (setTapRt 0xFFF { evs := [{}], dats := [{}] } home) 0xFFF).dats = {} :: [] ∧
    (∀ b, tapFirst (setTapRt 0xFFF { evs := [{}], dats := [{}] } home) 0xFFF b {} = true) := by decide +kernel
/-- A tap of an array unit whose event, of an earlier edge, goes before its data record. -/
def tapS : State := setTapRt 5 { evs := [{ pkts := [{ bytes := List.replicate 32 0 }] }] }
  { home with toll := { home.toll with now := 4 } }
theorem witness_tapRecord_array : (tapRt tapS 5).evs = { pkts := [{ bytes := List.replicate 32 0 }] } :: [] ∧
    tapFirst tapS 5 false { pkts := [{ bytes := List.replicate 32 0 }] } = true ∧
    tapFirst { tapS with toll := { tapS.toll with now := 0 } } 5 false { pkts := [{ bytes := List.replicate 32 0 }] } = false := by decide +kernel
theorem witness_packetWrite : ({ home with obs := { home.obs with staged := [{}] } } : State).obs.staged = {} :: [] := by decide +kernel
def scoreS : State := runAt plain 4
theorem witness_scoreClose : (∃ r, runCtx scoreS (domLow scoreS 0) = some r ∧ (clRt scoreS (domLow scoreS 0) 0).next < r.ctx.len) ∧
    (domClusters (domMask scoreS (domLow scoreS 0))).contains 0 = true ∧ (clRt scoreS (domLow scoreS 0) 0).next ≤ relSc scoreS (domLow scoreS 0) :=
  ⟨⟨{ id := 3, mask := 1, tenant := 7, ctx := plain, slots := [0] }, by decide +kernel⟩, by decide +kernel⟩
/-- Channel 23 with a sink and one staged frame. -/
def framed (sink : Nat) : State := setChRt 23 { chRt home 23 with frames := [([1], false)] } (home.put (aChCtl 23) 26 3 sink)
theorem witness_frameForm : chSink (framed 1) 23 ≠ 0 ∧ stagedFrames (framed 1) (chSink (framed 1) 23) < stageCap (chSink (framed 1) 23) := by decide +kernel
theorem witness_flushTimer : (home.put (aSnkCfg 23) 0 8 1).rf (aSnkCfg 23) 0 8 ≠ 0 ∧ chanPresent home 23 = true := by decide +kernel
theorem witness_ringDeliver : ∀ k ∈ [1, 2], (chRt (framed k) 23).frames = ([1], false) :: [] ∧ chSink (framed k) 23 = k := by decide +kernel
theorem witness_ringDeliver_ingest : (linkRt (setLink 15 { linkRt home 15 with ingest := [[1]] } home) 15).ingest = [1] :: [] := by decide +kernel
def parS : State := (framed 4).setBit aSnkPar 31 true
theorem witness_portFrame_par : (chRt parS 23).frames = ([1], false) :: [] ∧ parS.rbit aSnkPar 31 = true ∧ nextServed parS 4 parS.obs.lastPar = some 23 := by decide +kernel
def serS : State := (framed 5).setBit aSnkSer 31 true
theorem witness_portFrame_ser : serS.rbit aSnkSer 31 = true ∧ serS.fuse.variant = 0 ∧ serS.obs.rows < 16384 ∧ nextServed serS 5 serS.obs.lastSer = some 23 := by decide +kernel

/-! ClapperAndCounterEventsComplete -/
def clapS : State := (home.setBit aClpCtl 31 true).put aClpExt 6 2 1
theorem witness_clapIn : clapS.clap.inputs.testBit 3 ≠ true ∧ clapS.rbit aClpCtl 31 = true ∧ (clapS.rf aClpExt (2 * 3) 2).testBit 0 = true ∧
    home.clap.inputs.testBit 3 ≠ true ∧ home.rbit aClpCtl 31 = false := by decide +kernel
def matchS : State := setClap { home.clap with waits := [{ src := 4 }, { src := 1 }] } home
theorem witness_clapperMatch : firstMatch matchS.clap.waits = some { src := 1 } := by decide +kernel
theorem witness_pulseEnd : (setClap { home.clap with pulse := [3] } home).clap.pulse.contains 3 = true := by decide +kernel
theorem witness_sample : unitOwner (runAt plain 0) 0 < 8 ∧ unitPresent (runAt plain 0) 0 = true ∧ domLow (runAt plain 0) (unitOwner (runAt plain 0) 0) = 0 ∧
    actsOn (runAt plain 0) 0 = true ∧ atBoundary (runAt plain 0) 0 = true := by decide +kernel
theorem witness_threshold : (setClap { home.clap with crossed := [3] } home).clap.crossed.contains 3 = true := by decide +kernel
def wrapS (a : Nat) : State := setCtr a { ctrRt home a with wrap := true } home
theorem witness_overflow : (ctrRt (wrapS (aCntSel 0 0 3)) (aCntSel 0 0 3)).wrap = true ∧ unitSampled (wrapS (aCntSel 0 0 3)) 0 = false ∧
    3 < groupSize 0 ∧ (ctrRt (wrapS (aCntSel 3 0 31)) (aCntSel 3 0 31)).wrap = true ∧ 31 < groupSize 3 := by decide +kernel

/-! LoopEventsComplete -/
theorem witness_voltageLoop : avsOn (home.setBit aDevStrap 13 true) = true := by decide +kernel
theorem witness_governorLoop : hsPresent home 7 = true ∧ mrpReady home = true := by decide +kernel
theorem witness_linkEq : portPresent (port stUp) 15 = true ∧ lnkState (port stUp) 15 = stUp := by decide +kernel
theorem witness_refreshRate : hsPresent home (2 * 3) = true ∧ home.pwr.stackBad = 0 := by decide +kernel
theorem witness_fclkEdge : partPresent home 7 = true := by decide +kernel

/-! The whole machine -/
theorem witness_emptyQueue : home.pending = [] ∧ tollSrc home = 0 ∧ home.toll.setSec = none := by decide +kernel
theorem inv_of {s : State} (h : (regsWf s && memWf s && sramWf s && decide (s.host.numVf ≤ 8)) = true) : Inv s := by
  simp only [Bool.and_eq_true, decide_eq_true_eq] at h
  exact ⟨h.1.1.1, h.1.1.2, h.1.2, h.2⟩
theorem witness_stepKeepsInvariant : Inv home ∧ ∃ t, step home = .next t := ⟨inv_of (by decide +kernel), _, rfl⟩
theorem witness_wellFormed : wellFormed (.nop (cmd 8 0xFF [])) = true ∧ ∃ t, exec (.nop (cmd 8 0xFF [])) home = .next t := ⟨by decide +kernel, _, rfl⟩
theorem witness_repliesChangeHostSideOnly : (cmd 8 0xFF []).fn ≤ 8 ∧ (0x10000000 - 1 < 0x10000000 ∧ bRol ≤ 0x10000000 - 1) := by decide +kernel
/-- The fields of the Toll control register, and bit 31 of its first field. -/
theorem witness_fieldTypesTakeWrites : ∃ f ∈ regFields aTolCtl, f.lo + f.w ≤ 32 ∧ 1 ≤ f.w ∧
    (∀ g ∈ regFields aTolCtl, g ≠ f → g.lo + g.w ≤ f.lo ∨ f.lo < g.lo) ∧ (regFields aTolCtl).Nodup := by decide +kernel
theorem witness_fclkEdgesCount : partPresent slipS 0 = true ∧ domLow slipS 0 = 0 ∧ (domRt slipS 0).chg = none ∧ domLow (closeEdge 0 home) 0 = 0 ∧
    (domRt (closeEdge 0 home) 0).chg = none ∧ (domRt (closeEdge 0 home) 0).resume = none ∧ (domRt home 0).chg = none := by decide +kernel
theorem witness_failedTestsHaveNoEffect : commonTests 0x03 (cmd 1 0xFF []) home = some sPerm ∧ commonTests 0x99 (cmd 0 0xFF []) home = some sOpcode := by decide +kernel
theorem witness_safeStateServesTable19x1 : inSafe (home.setBit aSafStat 31 true) = true ∧ (opInfo 0x22).isSome = true ∧
    0x22 ∉ [0x00, 0x01, 0x02, 0x40, 0x41, 0x80, 0x68] := by decide +kernel
/-- No register at 0x10; an absent port of PU4; a VF that is not enabled. -/
theorem witness_absentRegisters : regFields (keyOf 0 0xFFC) = [] ∧ regPresent { home with fuse := { variant := 1 } } 0 (aLnkCtl 15) = false ∧
    (home.host.numVf = 8 ∧ ({ home with host := {} } : State).host.numVf < 8) := by decide +kernel
theorem witness_refusedRegisterWrites : regFields (keyOf 0 aTolCtl) ≠ [] ∧ regPresent home 0 aTolCtl = true ∧ reaches home 0 aTolCtl = true ∧
    underReset (setBoot { home.boot with phase := 1 } home) (keyOf 0 aTolCtl) = true ∧ underReset home (keyOf 0 aTolCtl) = false ∧
    (noExpert home 1 (aRgnA 0 1) = false ∧ expertOf home 1 = false ∧ reaches home 1 (aRgnA 0 1) = true) ∧
    (expertOf expert 1 = true ∧ mayWrite expert 1 (aPartCtl 0) = false ∧ reaches expert 1 (aRgnA 0 1) = true) := by decide +kernel
theorem witness_wideCounterReadsLatch : partPresent home 7 = true ∧ (∃ t, exec (.tolNowlRead 0) home = .next t) ∧ ∃ t, exec (.clkFclRead 0 7) home = .next t :=
  ⟨by decide +kernel, ⟨_, rfl⟩, _, rfl⟩
def lastPhase : HolderRt := { mask := 0xC0, tenant := 9, phase := 6 }
theorem witness_holderChangesCount : ({ home with holder := some lastPhase } : State).holder = some lastPhase ∧ lastPhase.phase = 6 ∧ lastPhase.bad = 0 ∧
    inSafe { home with holder := some lastPhase } = false ∧ 7 ∈ maskBits 8 lastPhase.mask ∧ 0 ∉ maskBits 8 lastPhase.mask := by decide +kernel
theorem witness_observingChangesNoWork : observes (.frameForm 0) = true ∧ ∃ t, exec (.frameForm 0) home = .next t := ⟨rfl, _, rfl⟩
theorem witness_onlyNamedCommandsReach : reachesKeys (.slotSwitch 0 5) = false ∧ reachesTrust (.slotSwitch 0 5) = false ∧
    reachesSram (.slotSwitch 0 5) = false ∧ reachesVfs (.slotSwitch 0 5) = false ∧ ∃ t, exec (.slotSwitch 0 5) home = .next t :=
  ⟨rfl, rfl, rfl, rfl, _, rfl⟩

end Sys2Proof.Tests
end

section
/-! PROOFS. Registers: reset values and stored words lie within the defined bits (R15), and what each field type takes from
a write (R13, R14). -/

namespace Sys2Proof.Proofs

open Sys2Proof Sys2Proof.Machine Sys2Proof.Laws

/-! ### Masks bit by bit -/

/-- A bit of words joined by OR along a list. -/
theorem getLsbD_foldl_or {β : Type} (g : β → Word) (l : List β) (m : Word) (i : Nat) :
    (l.foldl (fun a x => a ||| g x) m).getLsbD i = (m.getLsbD i || l.any (fun x => (g x).getLsbD i)) := by
  induction l generalizing m with
  | nil => simp
  | cons x l ih => simp [ih, Bool.or_assoc]

theorem getLsbD_definedMask (k i : Nat) :
    (definedMask k).getLsbD i = (regFields k).any (fun f => (fmask f.lo f.w).getLsbD i) := by
  simp [definedMask, getLsbD_foldl_or]

theorem getLsbD_tyMask (fs : List RField) (t : Ty) (i : Nat) :
    (tyMask fs t).getLsbD i = fs.any (fun f => decide (f.ty = t) && (fmask f.lo f.w).getLsbD i) := by
  have h : tyMask fs t = fs.foldl (fun m f => m ||| if f.ty = t then fmask f.lo f.w else 0) 0 := by
    simp only [tyMask]
    congr 1
    funext m f
    split <;> simp
  rw [h, getLsbD_foldl_or]
  simp [apply_ite (fun x : Word => x.getLsbD i), Bool.if_false_right]

/-- The reset value of a field lies within the field. -/
theorem getLsbD_fieldReset {f : RField} {i : Nat} (h : (BitVec.ofNat 32 (f.rst % 2 ^ f.w * 2 ^ f.lo)).getLsbD i = true) :
    (fmask f.lo f.w).getLsbD i = true := by
  simp only [BitVec.getLsbD_ofNat, Nat.testBit_mul_two_pow, Nat.testBit_mod_two_pow, getLsbD_fmask,
    Bool.and_eq_true, decide_eq_true_eq] at h ⊢
  omega

/-- A register's reset value has no reserved bit set (R15). -/
theorem regReset_reserved (k : Nat) : regReset k &&& ~~~ definedMask k = 0 := by
  refine BitVec.eq_of_getLsbD_eq fun i hi => ?_
  have hr : (regReset k).getLsbD i = true → (definedMask k).getLsbD i = true := by
    simp only [regReset, fieldsReset, getLsbD_foldl_or, getLsbD_definedMask, BitVec.ofNat_eq_ofNat, BitVec.getLsbD_zero,
      Bool.false_or, List.any_eq_true]
    exact fun ⟨f, hf, hb⟩ => ⟨f, hf, getLsbD_fieldReset hb⟩
  simpa [BitVec.getLsbD_eq_getElem, hi] using hr

/-! ### Reserved bits of a state -/

/-- A table reads the unlisted value or an entry of it. -/
theorem tabGet_eq_or_mem {α : Type} (d : Nat → α) (t : Tab α) (k : Nat) : tabGet d t k = d k ∨ (k, tabGet d t k) ∈ t := by
  induction t with
  | nil => exact .inl rfl
  | cons e r ih =>
    obtain ⟨j, v⟩ := e
    by_cases h : j = k
    · simp [tabGet, h]
    · simpa [tabGet, h, Ne.symm h] using ih

/-- In a state that meets the invariant no register holds a reserved bit (R15). -/
theorem reg_reserved {s : State} (h : Inv s) (k : Nat) : s.reg k &&& ~~~ definedMask k = 0 := by
  have hr := h.regs
  simp only [regsWf, Bool.and_eq_true, List.all_eq_true, decide_eq_true_eq] at hr
  rcases tabGet_eq_or_mem regReset s.regs k with he | he
  · rw [State.reg, he]; exact regReset_reserved k
  · exact hr.2 _ he

/-- Settles O49: a write reads back masked, other registers keep theirs, and the invariant keeps reserved bits zero. -/
theorem registerWritesReadBack : Obligations.RegisterWritesReadBack := by
  unfold Obligations.RegisterWritesReadBack
  exact fun s k j v => ⟨setReg_reg_same s k v, setReg_reg_ne s v, inv_setReg, fun h => reg_reserved h k⟩

/-! ### What a field takes from a write -/

/-- A bit that one field alone covers is in the mask of that field's type and in no other. -/
theorem getLsbD_tyMask_sole {fs : List RField} {f : RField} {i : Nat} (hf : f ∈ fs) (hlo : f.lo ≤ i) (hhi : i < f.lo + f.w)
    (h32 : f.lo + f.w ≤ 32) (hsole : ∀ g ∈ fs, g ≠ f → g.lo + g.w ≤ i ∨ i < g.lo) (t : Ty) :
    (tyMask fs t).getLsbD i = decide (f.ty = t) := by
  rw [getLsbD_tyMask, Bool.eq_iff_iff]
  simp only [List.any_eq_true, Bool.and_eq_true, decide_eq_true_eq, getLsbD_fmask]
  constructor
  · rintro ⟨g, hg, hty, hcov⟩
    by_cases hgf : g = f
    · rwa [← hgf]
    · have := hsole g hg hgf; omega
  · exact fun hty => ⟨f, hf, hty, by omega⟩

/-- Settles O50: at a bit that one field covers, the masks of `writeFields` come down to that field's type. -/
theorem fieldTypesTakeWrites : Obligations.FieldTypesTakeWrites := by
  unfold Obligations.FieldTypesTakeWrites
  intro fs locked old v f i hf hlo hhi h32 hsole _
  have hm := getLsbD_tyMask_sole hf hlo hhi h32 hsole
  have hi : i < 32 := by omega
  have hbit : bit (writeFields fs locked old v) i =
      (((bit old i && !(decide (f.ty = .rw) || decide (f.ty = .rws) || (!locked && decide (f.ty = .rwl)))) ||
        (bit v i && (decide (f.ty = .rw) || decide (f.ty = .rws) || (!locked && decide (f.ty = .rwl))))) &&
        !(bit v i && decide (f.ty = .w1c)) || (bit v i && decide (f.ty = .w1s))) := by
    simp only [bit, writeFields, BitVec.getLsbD_or, BitVec.getLsbD_and, BitVec.getLsbD_not, hm, hi]
    cases locked <;> simp [hm]
  rw [hbit]
  refine ⟨?_, ?_, ?_, ?_, ?_⟩
  · rintro (h | h) <;> simp [h]
  · intro h; cases locked <;> simp [h]
  · intro h; simp [h]
  · intro h; simp [h]
  · intro h; simp [h]

/-- Settles O43: every table is empty after reset, and no VF is enabled. -/
theorem resetMeetsInvariant : Obligations.ResetMeetsInvariant := ⟨rfl, rfl, rfl, Nat.zero_le 8⟩

end Sys2Proof.Proofs
end

section
/-! PROOFS. What every command keeps. `Keeps A s₀ s` relates the state before to a state on the way of a command; it is
reflexive, and every operation of the model carries it on, so the proof for an operation reads like its definition. -/

namespace Sys2Proof.Proofs

open Sys2Proof Sys2Proof.Machine Sys2Proof.Laws

-- One proof at a time, here and below: many proofs in flight, each waiting for the kernel, are many threads.
set_option Elab.async false

/-- Which guarded parts of the state a command may reach: key stores, trust state, SRAM words, NumVFs, what the fuses say of
stacks. -/
structure Areas where
  keys : Prop
  trust : Prop
  sram : Prop
  vfs : Prop
  fuse : Prop

/-- What holds of the states `s` before and `t` after work that reaches no guarded part outside `A`. -/
structure Keeps (A : Areas) (s t : State) : Prop where
  inv : Inv s → Inv t
  pending : t.pending = s.pending
  freeCtr : s.freeCtr ≤ t.freeCtr
  variant : t.fuse.variant = s.fuse.variant
  grade : t.fuse.grade = s.fuse.grade
  stepping : t.fuse.stepping = s.fuse.stepping
  keys : A.keys ∨ t.keys = s.keys
  trust : A.trust ∨ t.trust = s.trust
  sram : A.sram ∨ t.fab.sram = s.fab.sram
  vfs : A.vfs ∨ t.host.numVf = s.host.numVf
  fuse : A.fuse ∨ t.fuse = s.fuse

/-- The fields that `Keeps` speaks of. -/
def watched (s : State) :=
  (s.regs, s.mem.cells, s.fab.sram, s.host.numVf, s.pending, s.freeCtr, s.fuse, s.keys, s.trust)

/-- The answer of a command's body: whichever way it ends, its state keeps what `s₀` had. -/
def ResKeeps (A : Areas) (s₀ : State) : CmdRes → Prop
  | .fail _ _ s => Keeps A s₀ s
  | .done _ _ s => Keeps A s₀ s
  | .long _ s => Keeps A s₀ s

/-- An outcome: its next state, if it has one, keeps what `s₀` had. -/
def OutKeeps (A : Areas) (s₀ : State) (o : Host.Outcome State Fault Refusal) : Prop := ∀ t, o = .next t → Keeps A s₀ t

variable {A : Areas} {s₀ s t : State}

theorem Keeps.refl (A : Areas) (s : State) : Keeps A s s :=
  ⟨id, rfl, le_rfl, rfl, rfl, rfl, .inr rfl, .inr rfl, .inr rfl, .inr rfl, .inr rfl⟩

/-- An equality that holds unless an area is reached, carried over one more step. -/
theorem or_eq_trans {P : Prop} {α : Type} {x y z : α} (h₁ : P ∨ y = x) (h₂ : P ∨ z = y) : P ∨ z = x := by
  rcases h₁ with h | rfl
  · exact .inl h
  · exact h₂

theorem Keeps.trans (h₁ : Keeps A s₀ s) (h₂ : Keeps A s t) : Keeps A s₀ t where
  inv := h₂.inv ∘ h₁.inv
  pending := h₂.pending.trans h₁.pending
  freeCtr := h₁.freeCtr.trans h₂.freeCtr
  variant := h₂.variant.trans h₁.variant
  grade := h₂.grade.trans h₁.grade
  stepping := h₂.stepping.trans h₁.stepping
  keys := or_eq_trans h₁.keys h₂.keys
  trust := or_eq_trans h₁.trust h₂.trust
  sram := or_eq_trans h₁.sram h₂.sram
  vfs := or_eq_trans h₁.vfs h₂.vfs
  fuse := or_eq_trans h₁.fuse h₂.fuse

/-- An update of fields that `watched` leaves out keeps everything. -/
theorem Keeps.same (hs : Keeps A s₀ s) (e : watched t = watched s := by rfl) : Keeps A s₀ t := by
  simp only [watched, Prod.mk.injEq] at e
  obtain ⟨hregs, hcells, hsram, hvf, hpend, hctr, hfuse, hkeys, htrust⟩ := e
  exact hs.trans
    { inv := fun h => inv_of_same h hregs hcells hsram hvf
      pending := hpend
      freeCtr := hctr.ge
      variant := by rw [hfuse]
      grade := by rw [hfuse]
      stepping := by rw [hfuse]
      keys := .inr hkeys
      trust := .inr htrust
      sram := .inr hsram
      vfs := .inr hvf
      fuse := .inr hfuse }

/-! ### Control structure -/

protected theorem Keeps.ite {c : Prop} {_ : Decidable c} {x y : State} (hx : Keeps A s₀ x) (hy : Keeps A s₀ y) :
    Keeps A s₀ (if c then x else y) := by split <;> assumption
protected theorem ResKeeps.ite {c : Prop} {_ : Decidable c} {x y : CmdRes} (hx : ResKeeps A s₀ x) (hy : ResKeeps A s₀ y) :
    ResKeeps A s₀ (if c then x else y) := by split <;> assumption
protected theorem OutKeeps.ite {c : Prop} {_ : Decidable c} {x y} (hx : OutKeeps A s₀ x) (hy : OutKeeps A s₀ y) :
    OutKeeps A s₀ (if c then x else y) := by split <;> assumption
/-- A choice between two pairs whose second part is a state. -/
protected theorem Keeps.iteSnd {α : Type} {c : Prop} {_ : Decidable c} {x y : α × State} (hx : Keeps A s₀ x.2)
    (hy : Keeps A s₀ y.2) : Keeps A s₀ (if c then x else y).2 := by split <;> assumption
/-- A choice between two triples whose third part is a state. -/
protected theorem Keeps.iteThd {α β : Type} {c : Prop} {_ : Decidable c} {x y : α × β × State} (hx : Keeps A s₀ x.2.2)
    (hy : Keeps A s₀ y.2.2) : Keeps A s₀ (if c then x else y).2.2 := by split <;> assumption

protected theorem Keeps.forN {n} {f : Nat → State → State} (hs : Keeps A s₀ s)
    (hf : ∀ i t, Keeps A s₀ t → Keeps A s₀ (f i t)) : Keeps A s₀ (forN n f s) := forN_keeps hf hs
protected theorem Keeps.forL {β : Type} {l : List β} {f : β → State → State} (hs : Keeps A s₀ s)
    (hf : ∀ b t, Keeps A s₀ t → Keeps A s₀ (f b t)) : Keeps A s₀ (forL l f s) := forL_keeps hf hs
protected theorem Keeps.foldl {β : Type} {l : List β} {f : State → β → State} (hs : Keeps A s₀ s)
    (hf : ∀ t b, Keeps A s₀ t → Keeps A s₀ (f t b)) : Keeps A s₀ (l.foldl f s) := foldl_keeps (fun t h b => hf t b h) hs
/-- A choice between the pair of an operation and the state it would start from. -/
protected theorem Keeps.iteSndMk {α : Type} {c : Prop} {_ : Decidable c} {p : α × State} {b : α} (hp : Keeps A s₀ p.2)
    (hs : Keeps A s₀ s) : Keeps A s₀ (if c then p else (b, s)).2 := .iteSnd hp hs
/-- The second part of a pair. Given as a rule, it keeps the kernel from computing the first part. -/
protected theorem Keeps.mkSnd {α : Type} {a : α} (hs : Keeps A s₀ s) : Keeps A s₀ (a, s).2 := hs
/-- A fold that carries a value beside the state. -/
protected theorem Keeps.foldlSnd {α β : Type} {l : List β} {f : α × State → β → α × State} {x : α × State}
    (hs : Keeps A s₀ x.2) (hf : ∀ y b, Keeps A s₀ y.2 → Keeps A s₀ (f y b).2) : Keeps A s₀ (l.foldl f x).2 :=
  foldl_keeps (P := fun x => Keeps A s₀ x.2) (fun y h b => hf y b h) hs
/-- A fold that carries two values beside the state. -/
protected theorem Keeps.foldlThd {α β γ : Type} {l : List β} {f : α × γ × State → β → α × γ × State} {x : α × γ × State}
    (hs : Keeps A s₀ x.2.2) (hf : ∀ y b, Keeps A s₀ y.2.2 → Keeps A s₀ (f y b).2.2) : Keeps A s₀ (l.foldl f x).2.2 :=
  foldl_keeps (P := fun x => Keeps A s₀ x.2.2) (fun y h b => hf y b h) hs

protected theorem ResKeeps.fail {st res} (hs : Keeps A s₀ s) : ResKeeps A s₀ (.fail st res s) := hs
protected theorem ResKeeps.no {st} (hs : Keeps A s₀ s) : ResKeeps A s₀ (.no st s) := hs
protected theorem ResKeeps.done {st res} (hs : Keeps A s₀ s) : ResKeeps A s₀ (.done st res s) := hs
protected theorem ResKeeps.long {o} (hs : Keeps A s₀ s) : ResKeeps A s₀ (.long o s) := hs

theorem ResKeeps.ofFail {r st res} (h : ResKeeps A s₀ r) (e : r = .fail st res t) : Keeps A s₀ t := by subst e; exact h
theorem ResKeeps.ofDone {r st res} (h : ResKeeps A s₀ r) (e : r = .done st res t) : Keeps A s₀ t := by subst e; exact h
theorem ResKeeps.ofLong {r o} (h : ResKeeps A s₀ r) (e : r = .long o t) : Keeps A s₀ t := by subst e; exact h
/-- The state of a pair that is known by an equation. -/
theorem Keeps.snd {α : Type} {p : α × State} {x : α} (hs : Keeps A s₀ p.2) (e : p = (x, t)) : Keeps A s₀ t := by
  subst e; exact hs

protected theorem OutKeeps.next (hs : Keeps A s₀ s) : OutKeeps A s₀ (.next s) := by
  rintro t ⟨⟩; exact hs
protected theorem OutKeeps.fault {r} : OutKeeps A s₀ (.fault r) := by rintro t ⟨⟩

/-! ### The updates that reach what `Keeps` speaks of -/

protected theorem Keeps.setReg {k v} (hs : Keeps A s₀ s) : Keeps A s₀ (s.setReg k v) :=
  hs.trans { Keeps.refl A s with inv := inv_setReg }
protected theorem Keeps.dropRegs {p} (hs : Keeps A s₀ s) : Keeps A s₀ (s.dropRegs p) :=
  hs.trans { Keeps.refl A s with inv := inv_dropRegs }
protected theorem Keeps.bump (hs : Keeps A s₀ s) : Keeps A s₀ s.bump :=
  hs.trans { Keeps.refl A s with inv := inv_bump, freeCtr := Nat.le_succ _ }
protected theorem Keeps.setCell {k b} (hs : Keeps A s₀ s) : Keeps A s₀ (setCell k b s) :=
  hs.trans { Keeps.refl A s with inv := inv_setCell }
protected theorem Keeps.putSram {u w b} (hs : Keeps A s₀ s) (hm : A.sram) : Keeps A s₀ (putSram u w b s) :=
  hs.trans { Keeps.refl A s with inv := inv_putSram, sram := .inl hm }
protected theorem Keeps.setKeys {i k} (hs : Keeps A s₀ s) (hk : A.keys) : Keeps A s₀ (setKeys i k s) :=
  hs.trans { Keeps.refl A s with inv := fun h => inv_of_same h rfl rfl rfl rfl, keys := .inl hk }
protected theorem Keeps.setTrust {r} (hs : Keeps A s₀ s) (ht : A.trust) : Keeps A s₀ (setTrust r s) :=
  hs.trans { Keeps.refl A s with inv := fun h => inv_of_same h rfl rfl rfl rfl, trust := .inl ht }

protected theorem Keeps.scrubSram {m} (hs : Keeps A s₀ s) (hm : A.sram) : Keeps A s₀ (scrubSram m s) :=
  hs.trans { Keeps.refl A s with inv := inv_scrubSram, sram := .inl hm }
/-- The image's words are one fold over the SRAM table, which is not computed here. -/
protected theorem Keeps.loadSram {p b} (hs : Keeps A s₀ s) (hm : A.sram) : Keeps A s₀ (loadSram p b s) := by
  have hinv := inv_loadSram (p := p) (b := b) (s := s)
  obtain ⟨fab, e⟩ : ∃ fab, loadSram p b s = { s with fab := fab } := ⟨_, rfl⟩
  rw [e] at hinv ⊢
  exact hs.trans { Keeps.refl A s with inv := hinv, sram := .inl hm }
protected theorem Keeps.numVf {n} (hs : Keeps A s₀ s) (hn : n ≤ 8) (hv : A.vfs) :
    Keeps A s₀ { s with host := { s.host with numVf := n } } :=
  hs.trans { Keeps.refl A s with inv := fun h => inv_numVf h hn, vfs := .inl hv }
protected theorem Keeps.badStacks {n} (hs : Keeps A s₀ s) (hf : A.fuse) :
    Keeps A s₀ { s with fuse := { s.fuse with badStacks := n } } :=
  hs.trans { Keeps.refl A s with inv := fun h => inv_of_same h rfl rfl rfl rfl, fuse := .inl hf }
protected theorem Keeps.obs {o} (hs : Keeps A s₀ s) : Keeps A s₀ { s with obs := o } := hs.same

end Sys2Proof.Proofs
end

section
/-! PROOFS. What the operations of Sys2Proof/Machine/Ops.lean keep. -/

namespace Sys2Proof.Proofs

open Sys2Proof Sys2Proof.Machine Sys2Proof.Laws

set_option Elab.async false

variable {A : Areas} {s₀ s t : State}

protected theorem Keeps.put {a lo w v} (hs : Keeps A s₀ s) : Keeps A s₀ (s.put a lo w v) :=
  hs.setReg
protected theorem Keeps.setBit {a i b} (hs : Keeps A s₀ s) : Keeps A s₀ (s.setBit a i b) :=
  hs.put
protected theorem Keeps.countSat {a lo w n} (hs : Keeps A s₀ s) : Keeps A s₀ (s.countSat a lo w n) :=
  hs.put
protected theorem Keeps.clearReg {a} (hs : Keeps A s₀ s) : Keeps A s₀ (s.clearReg a) :=
  hs.setReg
protected theorem Keeps.coverReg {a} (hs : Keeps A s₀ s) : Keeps A s₀ (s.coverReg a) :=
  hs.setReg
protected theorem Keeps.coverRegs {p} (hs : Keeps A s₀ s) : Keeps A s₀ (s.coverRegs p) :=
  hs.forL fun _ _ hs => hs.coverReg
protected theorem Keeps.emit {e} (hs : Keeps A s₀ s) : Keeps A s₀ (s.emit e) :=
  hs.same
protected theorem Keeps.setPartState {p v} (hs : Keeps A s₀ s) : Keeps A s₀ (setPartState p v s) :=
  hs.put
protected theorem Keeps.setFnRt {f r} (hs : Keeps A s₀ s) : Keeps A s₀ (setFnRt f r s) :=
  hs.same
protected theorem Keeps.setPartRt {p r} (hs : Keeps A s₀ s) : Keeps A s₀ (setPartRt p r s) :=
  hs.same
protected theorem Keeps.setDomRt {d r} (hs : Keeps A s₀ s) : Keeps A s₀ (setDomRt d r s) :=
  hs.same
protected theorem Keeps.setQueueRt {q r} (hs : Keeps A s₀ s) : Keeps A s₀ (setQueueRt q r s) :=
  hs.same
protected theorem Keeps.setChRt {n r} (hs : Keeps A s₀ s) : Keeps A s₀ (setChRt n r s) :=
  hs.same
protected theorem Keeps.msixSend {f v} (hs : Keeps A s₀ s) : Keeps A s₀ (msixSend f v s) :=
  hs.setFnRt.ite hs.emit
protected theorem Keeps.raise {f v} (hs : Keeps A s₀ s) : Keeps A s₀ (raise f v s) :=
  hs.setBit.ite hs.setBit.msixSend
protected theorem Keeps.raisePart {pfVec vfVec split p} (hs : Keeps A s₀ s) :
    Keeps A s₀ (raisePart pfVec vfVec split p s) :=
  (hs.raise.ite hs.raise).ite hs.raise.raise

end Sys2Proof.Proofs
end

section
/-! PROOFS. What the operations of Sys2Proof/Machine/Flags.lean keep. -/

namespace Sys2Proof.Proofs

open Sys2Proof Sys2Proof.Machine Sys2Proof.Laws

set_option Elab.async false

variable {A : Areas} {s₀ s t : State}

protected theorem Keeps.errFlag {flag fn src wher} (hs : Keeps A s₀ s) : Keeps A s₀ (errFlag flag fn src wher s) :=
  have hs := hs.setBit.ite (hs.setBit.setBit.ite hs.setBit.setReg.setReg.setReg); hs.ite hs.raise
protected theorem Keeps.refuse {flag w} (hs : Keeps A s₀ s) : Keeps A s₀ (refuse flag w s) :=
  hs.errFlag
protected theorem Keeps.capture {aA aB a b} (hs : Keeps A s₀ s) : Keeps A s₀ (capture aA aB a b s) :=
  hs.setBit.ite hs.setReg.setReg

end Sys2Proof.Proofs
end

section
/-! PROOFS. What the operations of Sys2Proof/Machine/Operands.lean keep. -/

namespace Sys2Proof.Proofs

open Sys2Proof Sys2Proof.Machine Sys2Proof.Laws

set_option Elab.async false

variable {A : Areas} {s₀ s t : State}

protected theorem Keeps.putMbxOut {f off b} (hs : Keeps A s₀ s) : Keeps A s₀ (putMbxOut f off b s) :=
  hs.put
protected theorem Keeps.output {c addr bytes} (hs : Keeps A s₀ s) : Keeps A s₀ (Call.output c addr bytes s) := by
  refine hs.ite ?_
  split
  · exact hs.emit
  · exact hs.foldl fun _ _ hs => hs.putMbxOut

end Sys2Proof.Proofs
end

section
/-! PROOFS. What the operations of Sys2Proof/Machine/Watch.lean keep. -/

namespace Sys2Proof.Proofs

open Sys2Proof Sys2Proof.Machine Sys2Proof.Laws

set_option Elab.async false

variable {A : Areas} {s₀ s t : State}

protected theorem Keeps.setCtr {a r} (hs : Keeps A s₀ s) : Keeps A s₀ (setCtr a r s) :=
  hs.same
protected theorem Keeps.setClap {r} (hs : Keeps A s₀ s) : Keeps A s₀ (setClap r s) :=
  hs.same
protected theorem Keeps.noteCross {a old new} (hs : Keeps A s₀ s) : Keeps A s₀ (noteCross a old new s) :=
  hs.forN fun _ _ hs => hs.setClap.ite hs
protected theorem Keeps.addCtr {a n} (hs : Keeps A s₀ s) : Keeps A s₀ (addCtr a n s) :=
  hs.ite (have hs := hs.setBit.ite hs; by
    dsimp only
    split
    · exact hs.setCtr
    · exact hs.setCtr.noteCross)
protected theorem Keeps.countIn {as ok code n} (hs : Keeps A s₀ s) : Keeps A s₀ (countIn as ok code n s) :=
  hs.forL fun _ _ hs => hs.addCtr.ite hs
protected theorem Keeps.countUnit {u code n} (hs : Keeps A s₀ s) : Keeps A s₀ (countUnit u code n s) :=
  hs.countIn
protected theorem Keeps.countCluster {cl code inst n} (hs : Keeps A s₀ s) :
    Keeps A s₀ (countCluster cl code inst n s) :=
  hs.countIn
protected theorem Keeps.countDevice {code inst n} (hs : Keeps A s₀ s) : Keeps A s₀ (countDevice code inst n s) :=
  hs.countIn
protected theorem Keeps.countMask {g code mask} (hs : Keeps A s₀ s) : Keeps A s₀ (countMask g code mask s) :=
  hs.countIn
protected theorem Keeps.countDomain {mask code} (hs : Keeps A s₀ s) : Keeps A s₀ (countDomain mask code s) :=
  hs.countIn
protected theorem Keeps.watchRecord {k} (hs : Keeps A s₀ s) : Keeps A s₀ (watchRecord k s) :=
  hs.forN fun _ _ hs => hs.setClap.ite hs

end Sys2Proof.Proofs
end

section
/-! PROOFS. What the operations of Sys2Proof/Machine/Packets.lean keep. -/

namespace Sys2Proof.Proofs

open Sys2Proof Sys2Proof.Machine Sys2Proof.Laws

set_option Elab.async false

variable {A : Areas} {s₀ s t : State}

protected theorem Keeps.refreshFull {n} (hs : Keeps A s₀ s) : Keeps A s₀ (refreshFull n s) :=
  hs.setBit.same.ite hs.setBit
protected theorem Keeps.chanPut {n b count} (hs : Keeps A s₀ s) : Keeps A s₀ (chanPut n b count s) :=
  hs.setChRt.refreshFull
protected theorem Keeps.writeToll {n t'} (hs : Keeps A s₀ s) : Keeps A s₀ (writeToll n t' s) :=
  hs.chanPut.setChRt
protected theorem Keeps.writeStamp {n x} (hs : Keeps A s₀ s) : Keeps A s₀ (writeStamp n x s) := by
  unfold writeStamp
  split
  · exact hs.writeToll
  · exact hs
  · exact hs.chanPut.setChRt
protected theorem Keeps.loseTo {n cause len} (hs : Keeps A s₀ s) : Keeps A s₀ (loseTo n cause len s) :=
  hs.setChRt.countSat.countSat
protected theorem Keeps.writePlainPkt {n x b} (hs : Keeps A s₀ s) : Keeps A s₀ (writePlainPkt n x b s) :=
  hs.writeStamp.chanPut
protected theorem Keeps.writeAlign {n x} (hs : Keeps A s₀ s) : Keeps A s₀ (writeAlign n x s) :=
  have hs := hs.chanPut.writeToll.setChRt; (hs.forL (fun _ _ hs => hs.writePlainPkt.ite hs.loseTo)).ite hs
protected theorem Keeps.alignDue {n x} (hs : Keeps A s₀ s) : Keeps A s₀ (alignDue n x s) :=
  hs.writeAlign.ite hs
protected theorem Keeps.stampAt {n x} (hs : Keeps A s₀ s) : Keeps A s₀ (stampAt n x s) :=
  hs.writeStamp.alignDue
protected theorem Keeps.writeLoss {n x} (hs : Keeps A s₀ s) : Keeps A s₀ (writeLoss n x s) :=
  hs.ite hs.stampAt.chanPut.setChRt.alignDue
protected theorem Keeps.chanWrite {n k} (hs : Keeps A s₀ s) : Keeps A s₀ (chanWrite n k s) := by
  unfold chanWrite
  dsimp only
  split
  · exact hs.alignDue.loseTo
  · exact (hs.alignDue.writeLoss.stampAt.chanPut.countCluster.countCluster.setChRt.ite
         hs.alignDue.writeLoss.stampAt.chanPut.countCluster.countCluster).ite
        hs.alignDue.refreshFull.loseTo
protected theorem Keeps.stage {k} (hs : Keeps A s₀ s) : Keeps A s₀ (stage k s) :=
  hs.watchRecord.same.ite (hs.watchRecord.countCluster.forL fun _ _ hs => hs.loseTo)
protected theorem Keeps.stagePkt {cls unit concern bytes} (hs : Keeps A s₀ s) :
    Keeps A s₀ (stagePkt cls unit concern bytes s) :=
  hs.stage
protected theorem Keeps.stagePolicy {unit loop prevailed yielded part inst origin req app} (hs : Keeps A s₀ s) :
    Keeps A s₀ (stagePolicy unit loop prevailed yielded part inst origin req app s) :=
  hs.stagePkt
protected theorem Keeps.stageOwnctx {reason mask} (hs : Keeps A s₀ s) : Keeps A s₀ (stageOwnctx reason mask s) :=
  hs.forL fun _ _ hs => hs.stagePkt
protected theorem Keeps.distribute {k} (hs : Keeps A s₀ s) : Keeps A s₀ (distribute k s) :=
  hs.forL fun _ _ hs => hs.chanWrite.ite hs
protected theorem Keeps.drainStaged (hs : Keeps A s₀ s) : Keeps A s₀ (drainStaged s) :=
  hs.same.foldl fun _ _ hs => hs.distribute
protected theorem Keeps.writeEnd {n reason} (hs : Keeps A s₀ s) : Keeps A s₀ (writeEnd n reason s) :=
  hs.alignDue.writeLoss.stampAt.chanPut.setChRt
protected theorem Keeps.startChannel {n} (hs : Keeps A s₀ s) : Keeps A s₀ (startChannel n s) :=
  hs.setChRt.writeAlign.forL fun _ _ hs => hs.writePlainPkt

end Sys2Proof.Proofs
end

section
/-! PROOFS. What the operations of Sys2Proof/Machine/Host.lean keep. -/

namespace Sys2Proof.Proofs

open Sys2Proof Sys2Proof.Machine Sys2Proof.Laws

set_option Elab.async false

variable {A : Areas} {s₀ s t : State}

protected theorem Keeps.refreshPair {f k} (hs : Keeps A s₀ s) : Keeps A s₀ (refreshPair f k s) :=
  hs.put.setBit
protected theorem Keeps.writeReply {f k irq b} (hs : Keeps A s₀ s) : Keeps A s₀ (writeReply f k irq b s) :=
  hs.setBit.put.emit.errFlag.ite (hs.emit.put.setBit.raise.ite hs.emit.put.setBit)
protected theorem Keeps.postRing {f k irq b} (hs : Keeps A s₀ s) : Keeps A s₀ (postRing f k irq b s) :=
  hs.ite (hs.setFnRt.refreshPair.ite hs.writeReply)
protected theorem Keeps.flushHeld {f} (hs : Keeps A s₀ s) : Keeps A s₀ (flushHeld f s) :=
  (hs.setFnRt.forL fun _ _ hs => hs.writeReply).forN fun _ _ hs => hs.refreshPair
protected theorem Keeps.writeMbxReply {f b} (hs : Keeps A s₀ s) : Keeps A s₀ (writeMbxReply f b s) :=
  hs.forN fun _ _ hs => hs.setReg
protected theorem Keeps.postReply {c op status more res} (hs : Keeps A s₀ s) :
    Keeps A s₀ (postReply c op status more res s) := by
  unfold postReply
  split
  · exact hs.postRing
  · exact hs.ite (hs.writeMbxReply.setBit.ite hs.writeMbxReply.setBit.setBit.setBit.raise)
protected theorem Keeps.setOutst {l} (hs : Keeps A s₀ s) : Keeps A s₀ (setOutst l s) :=
  hs.same
protected theorem Keeps.refreshCall {c} (hs : Keeps A s₀ s) : Keeps A s₀ (refreshCall c s) := by
  unfold refreshCall
  split
  · exact hs.refreshPair
  · exact hs
protected theorem Keeps.finish {c op status res} (hs : Keeps A s₀ s) : Keeps A s₀ (finish c op status res s) :=
  hs.setOutst.countDevice.postReply.refreshCall
protected theorem Keeps.accept {o} (hs : Keeps A s₀ s) : Keeps A s₀ (accept o s) :=
  hs.setOutst.postReply.refreshCall
protected theorem Keeps.finishO {o status res} (hs : Keeps A s₀ s) : Keeps A s₀ (finishO o status res s) :=
  hs.finish
protected theorem Keeps.updOutst {o o'} (hs : Keeps A s₀ s) : Keeps A s₀ (updOutst o o' s) :=
  hs.setOutst
protected theorem Keeps.finishWhere {p status} (hs : Keeps A s₀ s) : Keeps A s₀ (finishWhere p status s) :=
  hs.forL fun _ _ hs => hs.finishO
protected theorem Keeps.mark {c op} (hs : Keeps A s₀ s) : Keeps A s₀ (mark c op s) :=
  hs.stagePkt.ite hs
/-- A host command, whatever its tests say: its body is what may reach the state, and replies keep everything. -/
protected theorem Keeps.runCmd {op caller body c} (hs : Keeps A s₀ s)
    (hb : ∀ c t, Keeps A s₀ t → ResKeeps A s₀ (body c t)) :
    Keeps A s₀ (runCmd op caller body c s) := by
  have ha (b : Bool) : Keeps A s₀ (if b then accept { op := op, call := c } s else s) := hs.accept.ite hs
  unfold runCmd
  split
  · exact hs.finish
  · refine .ite (ha _).finish ?_
    split
    · next e => exact (ResKeeps.ofFail (hb _ _ (ha _)) e).finish
    · next e => exact (ResKeeps.ofDone (hb _ _ (ha _)) e).mark.finish
    · next e => exact (ResKeeps.ofLong (hb _ _ (ha _)) e).setOutst.mark

end Sys2Proof.Proofs
end

section
/-! PROOFS. What the operations of Sys2Proof/Machine/Faults.lean keep. -/

namespace Sys2Proof.Proofs

open Sys2Proof Sys2Proof.Machine Sys2Proof.Laws

set_option Elab.async false

variable {A : Areas} {s₀ s t : State}

protected theorem Keeps.addFault {d f} (hs : Keeps A s₀ s) : Keeps A s₀ (addFault d f s) :=
  hs.ite hs.setDomRt
protected theorem Keeps.captureTie {p aA aB key a b} (hs : Keeps A s₀ s) :
    Keeps A s₀ (captureTie p aA aB key a b s).2 :=
  .iteSnd hs.capture.setDomRt (.iteSnd hs.setReg.setReg hs.capture)
protected theorem Keeps.pushRecord {b l} (hs : Keeps A s₀ s) : Keeps A s₀ (pushRecord b l s) :=
  hs.same
protected theorem Keeps.nextSeq (hs : Keeps A s₀ s) : Keeps A s₀ (nextSeq s) :=
  hs.same
protected theorem Keeps.recordParts {f mask wher sc ctx} (hs : Keeps A s₀ s) :
    Keeps A s₀ (recordParts f mask wher sc ctx s) :=
  hs.forL fun _ _ hs => hs.pushRecord
protected theorem Keeps.recordDev {f} (hs : Keeps A s₀ s) : Keeps A s₀ (recordDev f s) :=
  hs.pushRecord
protected theorem Keeps.asyncTo {f status part kind inst sc} (hs : Keeps A s₀ s) :
    Keeps A s₀ (asyncTo f status part kind inst sc s) :=
  hs.postRing.ite hs.countSat
protected theorem Keeps.asyncParts {status kind inst sc mask} (hs : Keeps A s₀ s) :
    Keeps A s₀ (asyncParts status kind inst sc mask s) :=
  hs.forL fun _ _ hs => hs.asyncTo
protected theorem Keeps.stageFault {f mask wher} (hs : Keeps A s₀ s) : Keeps A s₀ (stageFault f mask wher s) :=
  hs.stage
protected theorem Keeps.recordOnly {f} (hs : Keeps A s₀ s) : Keeps A s₀ (recordOnly f s) :=
  hs.nextSeq.recordDev.stage.raise

end Sys2Proof.Proofs
end

section
/-! PROOFS. What the operations of Sys2Proof/Machine/Taps.lean keep. -/

namespace Sys2Proof.Proofs

open Sys2Proof Sys2Proof.Machine Sys2Proof.Laws

set_option Elab.async false

variable {A : Areas} {s₀ s t : State}

protected theorem Keeps.setTapRt {u r} (hs : Keeps A s₀ s) : Keeps A s₀ (setTapRt u r s) :=
  hs.same
protected theorem Keeps.setClRt {d c r} (hs : Keeps A s₀ s) : Keeps A s₀ (setClRt d c r s) :=
  hs.setDomRt
protected theorem Keeps.tapLost {u} (hs : Keeps A s₀ s) : Keeps A s₀ (tapLost u s) :=
  (hs.countSat.ite hs).countUnit
protected theorem Keeps.tapEvent {u x} (hs : Keeps A s₀ s) : Keeps A s₀ (tapEvent u x s) := by
  refine hs.setTapRt.ite ?_
  split
  · exact hs.tapLost
  · exact hs.setTapRt.tapLost.ite hs.setClRt.tapLost
protected theorem Keeps.tapData {u k} (hs : Keeps A s₀ s) : Keeps A s₀ (tapData u k s) :=
  hs.setTapRt.ite (hs.tapLost.forL fun _ _ hs => hs.setChRt)
protected theorem Keeps.plainEvent {code u arg} (hs : Keeps A s₀ s) : Keeps A s₀ (plainEvent code u arg s) :=
  hs.tapEvent
protected theorem Keeps.scoredEvent {d cls u arg sc pre} (hs : Keeps A s₀ s) :
    Keeps A s₀ (scoredEvent d cls u arg sc pre s) :=
  hs.tapEvent
protected theorem Keeps.emitFlam {d c f} (hs : Keeps A s₀ s) : Keeps A s₀ (emitFlam d c f s) :=
  hs.stage.countSat.countUnit.countCluster.setClRt
protected theorem Keeps.scfCapture {d c checker kind cls unit sc} (hs : Keeps A s₀ s) :
    Keeps A s₀ (scfCapture d c checker kind cls unit sc s) :=
  hs.capture
protected theorem Keeps.flamAndFault {d c f} (hs : Keeps A s₀ s) : Keeps A s₀ (flamAndFault d c f s) :=
  hs.emitFlam.scfCapture.addFault.ite hs.emitFlam
protected theorem Keeps.emitCheckpoint {d cl k tk r final halted} (hs : Keeps A s₀ s) :
    Keeps A s₀ (emitCheckpoint d cl k tk r final halted s) :=
  (hs.scfCapture.addFault.ite hs).stage.setClRt
protected theorem Keeps.closeOne {d cl r} (hs : Keeps A s₀ s) : Keeps A s₀ (closeOne d cl r s) :=
  have hs := hs.setClRt.forL fun _ _ hs => hs.flamAndFault; hs.emitCheckpoint.ite hs
protected theorem Keeps.closeUpto {d cl r upto} (hs : Keeps A s₀ s) : Keeps A s₀ (closeUpto d cl r upto s) :=
  hs.forN fun _ _ hs => hs.closeOne
protected theorem Keeps.forward {x} (hs : Keeps A s₀ s) : Keeps A s₀ (forward x s) :=
  have hs := hs.forL fun _ _ hs => hs.countCluster
  .forL (by
    split
    · exact hs
    · dsimp only
      split
      · exact hs
      · exact hs.ite (hs.flamAndFault.ite hs.setClRt)) fun _ _ hs => hs.stage
protected theorem Keeps.flushTaps {mask} (hs : Keeps A s₀ s) : Keeps A s₀ (flushTaps mask s) :=
  (hs.forL fun _ _ hs => hs.setTapRt).forL fun _ _ hs => hs.forward
protected theorem Keeps.closeHalted {d r upto} (hs : Keeps A s₀ s) : Keeps A s₀ (closeHalted d r upto s) :=
  (hs.flushTaps.forL fun _ _ hs => hs.closeUpto).forL fun _ _ hs => hs.emitCheckpoint
protected theorem Keeps.closeRun {d r} (hs : Keeps A s₀ s) : Keeps A s₀ (closeRun d r s) :=
  hs.flushTaps.forL fun _ _ hs => hs.closeUpto
protected theorem Keeps.startChecker {d r} (hs : Keeps A s₀ s) : Keeps A s₀ (startChecker d r s) :=
  hs.setDomRt
protected theorem OutKeeps.execTapRecord {unit data} (hs : Keeps A s₀ s) :
    OutKeeps A s₀ (execTapRecord unit data s) := by
  refine .ite .fault ?_
  dsimp only
  split
  · exact .next hs
  · exact .next (hs.ite hs.setTapRt.forward)
protected theorem OutKeeps.execScoreClose {d cluster} (hs : Keeps A s₀ s) :
    OutKeeps A s₀ (execScoreClose d cluster s) := by
  refine .ite .fault <| .ite .fault ?_
  dsimp only
  split
  · exact .next hs
  · exact .ite (.next hs.closeOne) (.next hs)

end Sys2Proof.Proofs
end

section
/-! PROOFS. What the operations of Sys2Proof/Machine/Halt.lean keep. -/

namespace Sys2Proof.Proofs

open Sys2Proof Sys2Proof.Machine Sys2Proof.Laws

set_option Elab.async false

variable {A : Areas} {s₀ s t : State}

protected theorem Keeps.stageSlip {d sl faulted} (hs : Keeps A s₀ s) : Keeps A s₀ (stageSlip d sl faulted s) :=
  hs.stage
protected theorem Keeps.endSlip {d faulted} (hs : Keeps A s₀ s) : Keeps A s₀ (endSlip d faulted s) := by
  unfold endSlip
  dsimp only
  split
  · exact hs
  · exact hs.setDomRt.ite hs.setDomRt.stageSlip
protected theorem Keeps.putParts {a lo w v mask} (hs : Keeps A s₀ s) : Keeps A s₀ (putParts a lo w v mask s) :=
  hs.forL fun _ _ hs => hs.put
protected theorem Keeps.setPln {d st ctx pend} (hs : Keeps A s₀ s) : Keeps A s₀ (setPln d st ctx pend s) :=
  hs.putParts.putParts.putParts
protected theorem Keeps.refreshWaiters {d} (hs : Keeps A s₀ s) : Keeps A s₀ (refreshWaiters d s) :=
  hs.forL fun _ _ hs => hs.forN fun _ _ hs => hs.put
protected theorem Keeps.clearRun {d} (hs : Keeps A s₀ s) : Keeps A s₀ (clearRun d s) :=
  (hs.setDomRt.forL fun _ _ hs => hs.setBit).refreshWaiters
protected theorem Keeps.holdStrikes {mask} (hs : Keeps A s₀ s) : Keeps A s₀ (holdStrikes mask s) :=
  hs.forL fun _ _ hs => hs.setQueueRt
protected theorem Keeps.endWaiters {d began waiting} (hs : Keeps A s₀ s) :
    Keeps A s₀ (endWaiters d began waiting s) :=
  hs.finishWhere.finishWhere
protected theorem Keeps.reportFault {d ctx f} (hs : Keeps A s₀ s) : Keeps A s₀ (reportFault d ctx f s) :=
  hs.nextSeq.recordParts.stageFault
protected theorem Keeps.haltCore {d ctx sc dev} (hs : Keeps A s₀ s) : Keeps A s₀ (haltCore d ctx sc dev s) := by
  unfold haltCore
  extract_lets fs s₁ s₂ s₃
  have h₂ : Keeps A s₀ s₂ := hs.endSlip.forL fun _ _ hs => hs.reportFault
  have h₃ : Keeps A s₀ s₃ := by
    unfold s₃
    split
    · exact h₂
    · exact h₂.recordParts.stageFault
  exact h₃.endWaiters.clearRun.holdStrikes.setPln.putParts.setDomRt.asyncParts.forL fun _ _ hs => hs.raisePart
protected theorem Keeps.haltClose {d} (hs : Keeps A s₀ s) : Keeps A s₀ (haltClose d s).2.2 := by
  unfold haltClose
  dsimp only
  split
  · exact hs.closeHalted
  · exact hs.flushTaps
protected theorem Keeps.haltDomain {d dev} (hs : Keeps A s₀ s) : Keeps A s₀ (haltDomain d dev s) :=
  hs.haltClose.haltCore
protected theorem Keeps.closeStopped {d} (hs : Keeps A s₀ s) : Keeps A s₀ (closeStopped d s) := by
  refine .endSlip ?_
  split
  · exact hs.closeHalted
  · exact hs.flushTaps
protected theorem Keeps.safeMemory (hs : Keeps A s₀ s) : Keeps A s₀ (safeMemory s) :=
  (hs.forN fun _ _ hs => hs.setBit.setBit.ite hs).forN fun _ _ hs => hs.setBit.setBit.ite hs
protected theorem Keeps.dropStart {p} (hs : Keeps A s₀ s) : Keeps A s₀ (dropStart p s) :=
  hs.ite hs.setDomRt.putParts
protected theorem Keeps.safeEntry {f} (hs : Keeps A s₀ s) : Keeps A s₀ (safeEntry f s) :=
  hs.nextSeq.setBit.recordDev.raise.ite
    (have hs := ((hs.nextSeq.setBit.forL (fun _ _ hs => hs.haltDomain)).forN (fun _ _ hs => hs.dropStart)).recordDev
     have hs := (hs.stage.ite hs).forN fun _ _ hs => hs.emit
     hs.put.setClap.safeMemory.finishWhere.setBit.setBit.setBit.emit.raise)
protected theorem Keeps.deviceFault {kind unit detail injected} (hs : Keeps A s₀ s) :
    Keeps A s₀ (deviceFault kind unit detail injected s) :=
  hs.safeEntry.ite hs.recordOnly
protected theorem Keeps.haltOnFaults {d} (hs : Keeps A s₀ s) : Keeps A s₀ (haltOnFaults d s) := by
  unfold haltOnFaults
  split
  · exact hs
  · exact hs.haltClose.haltCore.forL fun _ _ hs => hs.safeEntry

end Sys2Proof.Proofs
end

section
/-! PROOFS. What the operations of Sys2Proof/Machine/Bells.lean keep. -/

namespace Sys2Proof.Proofs

open Sys2Proof Sys2Proof.Machine Sys2Proof.Laws

set_option Elab.async false

variable {A : Areas} {s₀ s t : State}

protected theorem Keeps.refreshBell {b} (hs : Keeps A s₀ s) : Keeps A s₀ (refreshBell b s) :=
  hs.put
protected theorem Keeps.bellFault {kind b unit} (hs : Keeps A s₀ s) : Keeps A s₀ (bellFault kind b unit s) :=
  hs.captureTie.addFault
protected theorem Keeps.applyStrike {b unit peer} (hs : Keeps A s₀ s) : Keeps A s₀ (applyStrike b unit peer s) :=
  have hs := hs.put.setBit
  (hs.setBit.bellFault.ite hs.setBit).ite ((hs.setReg.setBit.raisePart.ite hs.setReg.setBit).ite hs.setReg)
protected theorem Keeps.endWait {d w} (hs : Keeps A s₀ s) : Keeps A s₀ (endWait d w s) :=
  hs.setDomRt.scoredEvent.refreshBell
protected theorem Keeps.evalWaits {d} (hs : Keeps A s₀ s) : Keeps A s₀ (evalWaits d s) :=
  hs.forL fun _ _ hs => hs.endWait.ite hs
protected theorem Keeps.beginWait {d bell unit kind ri occ adv} (hs : Keeps A s₀ s) :
    Keeps A s₀ (beginWait d bell unit kind ri occ adv s) :=
  hs.setDomRt.ite (hs.bellFault.ite hs.setDomRt.refreshBell.scoredEvent)
protected theorem Keeps.applyAdvs {d} (hs : Keeps A s₀ s) : Keeps A s₀ (applyAdvs d s) :=
  hs.setDomRt.forL fun _ _ hs => hs.setReg.ite (hs.setReg.setBit.bellFault.ite hs.setReg.setBit)
protected theorem Keeps.timeoutWaits {d} (hs : Keeps A s₀ s) : Keeps A s₀ (timeoutWaits d s) :=
  hs.forL fun _ _ hs => hs.bellFault.ite hs
protected theorem Keeps.loadBell {b x} (hs : Keeps A s₀ s) : Keeps A s₀ (loadBell b x s) :=
  hs.setReg.setReg.setReg
protected theorem Keeps.loadBells {mask rs} (hs : Keeps A s₀ s) : Keeps A s₀ (loadBells mask rs s) :=
  hs.forL fun _ _ hs => hs.forN fun _ _ hs => hs.loadBell
protected theorem Keeps.resetBells {p} (hs : Keeps A s₀ s) : Keeps A s₀ (resetBells p s) :=
  (hs.forN fun _ _ hs => hs.clearReg.clearReg.clearReg.clearReg).setQueueRt

end Sys2Proof.Proofs
end

section
/-! PROOFS. What the operations of Sys2Proof/Machine/Queues.lean keep. -/

namespace Sys2Proof.Proofs

open Sys2Proof Sys2Proof.Machine Sys2Proof.Laws

set_option Elab.async false

variable {A : Areas} {s₀ s t : State}

protected theorem Keeps.clockFault {kind p q} (hs : Keeps A s₀ s) : Keeps A s₀ (clockFault kind p q s) :=
  hs.captureTie.addFault
protected theorem Keeps.queueFault {kind q} (hs : Keeps A s₀ s) : Keeps A s₀ (queueFault kind q s) :=
  hs.clockFault
protected theorem Keeps.countDisc {q n} (hs : Keeps A s₀ s) : Keeps A s₀ (countDisc q n s) :=
  hs.countSat
protected theorem Keeps.arrivalFlam {kind q e exp obs late} (hs : Keeps A s₀ s) :
    Keeps A s₀ (arrivalFlam kind q e exp obs late s) :=
  hs.emitFlam
protected theorem Keeps.matchArrival {q e} (hs : Keeps A s₀ s) : Keeps A s₀ (matchArrival q e s) := by
  unfold matchArrival
  dsimp only
  split
  · exact hs.setQueueRt
  · split
    · exact hs.setQueueRt.arrivalFlam
    · refine hs.setQueueRt.arrivalFlam.ite ?_
      split
      · exact hs.setQueueRt.setDomRt.arrivalFlam.ite hs.setQueueRt.setDomRt
      · exact hs.setQueueRt
protected theorem Keeps.enterQueue {q e} (hs : Keeps A s₀ s) : Keeps A s₀ (enterQueue q e s) :=
  (hs.ite hs.countDisc).ite
    (((hs.ite hs.countDisc).ite hs.queueFault).ite (hs.setQueueRt.matchArrival.ite hs.setQueueRt))
protected theorem Keeps.idleApply {p} (hs : Keeps A s₀ s) : Keeps A s₀ (idleApply p s) :=
  hs.ite (hs.setQueueRt.setDomRt.forL fun _ _ hs => by
    split
    · exact hs.applyStrike
    · exact hs)
protected theorem Keeps.emptyQueues {mask} (hs : Keeps A s₀ s) : Keeps A s₀ (emptyQueues mask s) :=
  hs.forL fun _ _ hs => hs.forN fun _ _ hs => hs.setQueueRt.ite hs.setQueueRt.countDisc
protected theorem Keeps.dropHeldStrikes {mask} (hs : Keeps A s₀ s) : Keeps A s₀ (dropHeldStrikes mask s) := by
  refine hs.forL fun _ _ hs => hs.setQueueRt.forL fun _ _ hs => ?_
  split
  · exact hs.setBit
  · exact hs
protected theorem Keeps.carryStrikes {mask} (hs : Keeps A s₀ s) : Keeps A s₀ (carryStrikes mask s) :=
  hs.forL fun _ _ hs => hs.setQueueRt.forL fun _ _ hs => hs.enterQueue
protected theorem Keeps.testRelease {q r} (hs : Keeps A s₀ s) : Keeps A s₀ (testRelease q r s) :=
  hs.ite ((hs.ite hs.setDomRt).ite (hs.captureTie.ite hs.queueFault))
protected theorem Keeps.testReleases {d} (hs : Keeps A s₀ s) : Keeps A s₀ (testReleases d s) := by
  refine hs.forL fun _ _ hs => ?_
  split
  · exact hs.testRelease
  · exact hs
protected theorem Keeps.present {q} (hs : Keeps A s₀ s) : Keeps A s₀ (present q s) := by
  unfold present
  dsimp only
  split
  · exact hs
  · split
    · exact hs.setQueueRt.setDomRt.applyStrike
    · exact hs.setQueueRt.setDomRt

end Sys2Proof.Proofs
end

section
/-! PROOFS. What the operations of Sys2Proof/Machine/Memory.lean keep. -/

namespace Sys2Proof.Proofs

open Sys2Proof Sys2Proof.Machine Sys2Proof.Laws

set_option Elab.async false

variable {A : Areas} {s₀ s t : State}

protected theorem Keeps.putTag {h r l wctr flags ct ver} (hs : Keeps A s₀ s) :
    Keeps A s₀ (putTag h r l wctr flags ct ver s) :=
  hs.setCell
protected theorem Keeps.memError {h code src r l} (hs : Keeps A s₀ s) : Keeps A s₀ (memError h code src r l s) :=
  have hs := hs.setBit.ite hs.setReg.setReg.setReg; hs.raisePart.ite hs.raise
protected theorem Keeps.memFault {h code l} (hs : Keeps A s₀ s) : Keeps A s₀ (memFault h code l s) :=
  hs.addFault.ite hs
protected theorem Keeps.writeLine {h r l off b} (hs : Keeps A s₀ s) : Keeps A s₀ (writeLine h r l off b s).2 :=
  .iteSnd (.iteSnd hs.putTag (.iteSnd hs hs.setCell.putTag)) hs.setCell
protected theorem Keeps.writeReport {src h r l off b} (hs : Keeps A s₀ s) :
    Keeps A s₀ (writeReport src h r l off b s).2 :=
  .iteSnd hs.writeLine (.iteSnd hs.writeLine.memError.plainEvent hs.writeLine.memError)
protected theorem Keeps.readBytes {src h r off len} (hs : Keeps A s₀ s) :
    Keeps A s₀ (readBytes src h r off len s).2.2 :=
  hs.foldlThd fun _ _ hs => hs.ite hs.memError
protected theorem Keeps.writeFrom {src h r off b} (hs : Keeps A s₀ s) : Keeps A s₀ (writeFrom src h r off b s).2 :=
  hs.foldlSnd fun _ _ hs => .iteSnd hs (.iteSnd hs.writeReport (.iteSnd hs.writeReport hs.writeReport))
protected theorem Keeps.writeBytes {src h r off b} (hs : Keeps A s₀ s) : Keeps A s₀ (writeBytes src h r off b s).2 :=
  hs.writeFrom
protected theorem Keeps.zeroRegion {h r} (hs : Keeps A s₀ s) : Keeps A s₀ (zeroRegion h r s) :=
  hs.forN fun _ _ hs => hs.setCell.putTag.ite hs.setCell
protected theorem Keeps.startSweep {h r zfill} (hs : Keeps A s₀ s) : Keeps A s₀ (startSweep h r zfill s) :=
  hs.setBit.setBit
protected theorem OutKeeps.execSweepEnd {h r} (hs : Keeps A s₀ s) : OutKeeps A s₀ (execSweepEnd h r s) :=
  .ite .fault <|
  .ite .fault <| .ite (.next hs) (.next (hs.zeroRegion.setBit.setBit.plainEvent.forL (fun _ _ hs => hs.finishO)))
protected theorem Keeps.rekeyLine {h r l new ue} (hs : Keeps A s₀ s) : Keeps A s₀ (rekeyLine h r l new ue s).2 :=
  .iteSnd (hs.memError.ite hs).setCell.putTag (hs.memError.ite hs).setCell
protected theorem Keeps.rekeyLines {h r new unread} (hs : Keeps A s₀ s) :
    Keeps A s₀ (rekeyLines h r new unread s).2.2 :=
  hs.foldlThd fun _ _ hs => .iteThd hs.rekeyLine hs
protected theorem Keeps.setRekey {h k} (hs : Keeps A s₀ s) : Keeps A s₀ (setRekey h k s) :=
  hs.same
protected theorem OutKeeps.execRekeyEnd {h unread} (hs : Keeps A s₀ s) : OutKeeps A s₀ (execRekeyEnd h unread s) := by
  refine .ite .fault ?_
  split
  · exact .next hs
  · exact .ite (.next hs) (.next (hs.rekeyLines.put.setBit.setReg.setRekey.forL fun _ _ hs => hs.finishO))

end Sys2Proof.Proofs
end

section
/-! PROOFS. What the operations of Sys2Proof/Machine/Net.lean keep. -/

namespace Sys2Proof.Proofs

open Sys2Proof Sys2Proof.Machine Sys2Proof.Laws

set_option Elab.async false

variable {A : Areas} {s₀ s t : State}

protected theorem Keeps.setNet {n} (hs : Keeps A s₀ s) : Keeps A s₀ (setNet n s) :=
  hs.same
protected theorem Keeps.setSb {u r} (hs : Keeps A s₀ s) : Keeps A s₀ (setSb u r s) :=
  hs.setNet
protected theorem Keeps.setNetQueue {k q} (hs : Keeps A s₀ s) : Keeps A s₀ (setNetQueue k q s) :=
  hs.setNet
protected theorem Keeps.setSrc {k r} (hs : Keeps A s₀ s) : Keeps A s₀ (setSrc k r s) :=
  hs.setNet
protected theorem Keeps.netFault {kind elem index sb bound credits} (hs : Keeps A s₀ s) :
    Keeps A s₀ (netFault kind elem index sb bound credits s) :=
  (hs.captureTie.ite hs.captureTie.setReg).addFault
protected theorem Keeps.creditHome {k sent} (hs : Keeps A s₀ s) : Keeps A s₀ (creditHome k sent s) :=
  hs.setBit.ite ((hs.setSrc.netFault.ite hs.setSrc).ite hs.setSrc)
protected theorem Keeps.consumed {e} (hs : Keeps A s₀ s) : Keeps A s₀ (consumed e s) :=
  hs.setNet
protected theorem Keeps.takeQueue {k} (hs : Keeps A s₀ s) : Keeps A s₀ (takeQueue k s).2 := by
  unfold takeQueue
  split
  · exact hs
  · exact hs.setNetQueue.consumed
protected theorem Keeps.send {k e} (hs : Keeps A s₀ s) : Keeps A s₀ (send k e s) :=
  hs.netFault.ite hs.setSrc.setNet
protected theorem Keeps.sendLater {n k e} (hs : Keeps A s₀ s) : Keeps A s₀ (sendLater n k e s) :=
  hs.setNet
protected theorem Keeps.creditLate {k} (hs : Keeps A s₀ s) : Keeps A s₀ (creditLate k s) :=
  hs.netFault
protected theorem Keeps.entFault {kind elem index sb e} (hs : Keeps A s₀ s) :
    Keeps A s₀ (entFault kind elem index sb e s) :=
  hs.netFault
protected theorem Keeps.routeOne {k e} (hs : Keeps A s₀ s) : Keeps A s₀ (routeOne k e s) := by
  unfold routeOne
  dsimp only
  split
  · exact hs.entFault
  · refine hs.setSrc.forL fun _ _ hs => .ite ?_ hs.setNet
    split
    · exact hs.countUnit
    · exact hs.countUnit.setNet.ite hs.countUnit
protected theorem Keeps.arriveLocal {k e} (hs : Keeps A s₀ s) : Keeps A s₀ (arriveLocal k e s) :=
  hs.entFault.ite hs.setNetQueue
protected theorem Keeps.netMove {d} (hs : Keeps A s₀ s) : Keeps A s₀ (netMove d s) :=
  (hs.setNet.forL fun _ _ hs => hs.send).setNet.forL fun _ _ hs => hs.routeOne
protected theorem Keeps.netArrive {d} (hs : Keeps A s₀ s) : Keeps A s₀ (netArrive d s) :=
  (hs.setNet.forL fun _ _ hs => hs.creditHome).forL fun _ _ hs => hs.arriveLocal
protected theorem Keeps.elemStep {u elem ph} (hs : Keeps A s₀ s) : Keeps A s₀ (elemStep u elem ph s) := by
  unfold elemStep
  dsimp only
  split
  · split
    · next e => exact (hs.takeQueue.snd e).netFault
    · next e => exact (hs.takeQueue.snd e).sendLater
  · split
    · split
      · next e => exact (hs.takeQueue.snd e).netFault
      · next e =>
        exact have hs := hs.takeQueue.snd e
          hs.sendLater.sendLater.ite (hs.countUnit.sendLater.sendLater.ite hs.countUnit.sendLater.sendLater)
    · split
      · exact hs.takeQueue.takeQueue.netFault.ite hs.takeQueue.takeQueue.sendLater
      · exact hs.takeQueue.takeQueue.netFault
    · split
      · next e => exact (hs.takeQueue.snd e).netFault
      · next e => exact (hs.takeQueue.snd e).sendLater
    · split
      · next e => exact (hs.takeQueue.snd e).netFault
      · next e => exact have hs := hs.takeQueue.snd e; (hs.countUnit.ite hs).sendLater
    · split
      · split
        · exact hs.takeQueue.takeQueue.netFault.ite hs.takeQueue.takeQueue.sendLater
        · exact hs.takeQueue.takeQueue.sendLater.ite hs.takeQueue.takeQueue.netFault
        · exact hs.takeQueue.takeQueue.netFault
      · split
        · exact hs.takeQueue.sendLater
        · exact hs.takeQueue.netFault
    · split
      · next e => exact (hs.takeQueue.snd e).netFault
      · next e => exact have hs := hs.takeQueue.snd e; hs.sendLater.sendLater.ite hs.sendLater.sendLater
    · exact hs
protected theorem Keeps.sbStep {u} (hs : Keeps A s₀ s) : Keeps A s₀ (sbStep u s) := by
  refine hs.forL fun _ _ hs => ?_
  split
  · exact hs.elemStep.ite hs
  · exact hs
protected theorem Keeps.setRoute {u set} (hs : Keeps A s₀ s) : Keeps A s₀ (setRoute u set s) :=
  hs.setSb.forL fun _ _ hs => hs.netFault.ite hs
protected theorem Keeps.clearNet {mask count} (hs : Keeps A s₀ s) : Keeps A s₀ (clearNet mask count s) :=
  have hs := (hs.forL fun _ _ hs => hs.countSat.ite hs).ite hs; hs.setNet.setBit.ite hs.setNet
protected theorem Keeps.loadCredits {c} (hs : Keeps A s₀ s) : Keeps A s₀ (loadCredits c s) :=
  hs.forL fun _ _ hs => hs.forL fun _ _ hs => hs.setSrc.ite hs
protected theorem Keeps.onceAt {d k f} (hs : Keeps A s₀ s) (hf : ∀ t, Keeps A s₀ t → Keeps A s₀ (f t)) :
    Keeps A s₀ (onceAt d k f s) := hs.ite (hf _ hs.setDomRt)
protected theorem Keeps.doRoute {u set} (hs : Keeps A s₀ s) : Keeps A s₀ (doRoute u set s) :=
  hs.onceAt (fun _ hs => hs.setRoute.scoredEvent)
protected theorem Keeps.doSteer {u elem len} (hs : Keeps A s₀ s) : Keeps A s₀ (doSteer u elem len s) :=
  hs.onceAt (fun _ hs => hs.setSb.scoredEvent)

end Sys2Proof.Proofs
end

section
/-! PROOFS. What the operations of Sys2Proof/Machine/Slips.lean keep. -/

namespace Sys2Proof.Proofs

open Sys2Proof Sys2Proof.Machine Sys2Proof.Laws

set_option Elab.async false

variable {A : Areas} {s₀ s t : State}

protected theorem Keeps.setLink {n r} (hs : Keeps A s₀ s) : Keeps A s₀ (setLink n r s) :=
  hs.same
protected theorem OutKeeps.execRoute {unit set} (hs : Keeps A s₀ s) : OutKeeps A s₀ (execRoute unit set s) :=
  .ite .fault (.next (hs.doRoute.ite hs))
protected theorem OutKeeps.execSteer {unit elem len} (hs : Keeps A s₀ s) :
    OutKeeps A s₀ (execSteer unit elem len s) :=
  .ite .fault (.next (hs.doSteer.ite hs))
protected theorem OutKeeps.execCreditLate {unit src} (hs : Keeps A s₀ s) :
    OutKeeps A s₀ (execCreditLate unit src s) :=
  .ite .fault (.next ((hs.onceAt (fun _ hs => hs.creditLate)).ite hs))

end Sys2Proof.Proofs
end

section
/-! PROOFS. What the operations of Sys2Proof/Machine/TollState.lean keep. -/

namespace Sys2Proof.Proofs

open Sys2Proof Sys2Proof.Machine Sys2Proof.Laws

set_option Elab.async false

variable {A : Areas} {s₀ s t : State}

protected theorem Keeps.setToll {r} (hs : Keeps A s₀ s) : Keeps A s₀ (setToll r s) :=
  hs.same
protected theorem Keeps.setIncr {i} (hs : Keeps A s₀ s) : Keeps A s₀ (setIncr i s) :=
  hs.setReg.setReg
protected theorem Keeps.cancelStart {p} (hs : Keeps A s₀ s) : Keeps A s₀ (cancelStart p s) :=
  (hs.setDomRt.putParts.setPln.ite hs.setDomRt.putParts).endWaiters.ite (hs.setDomRt.endWaiters.ite hs)
protected theorem Keeps.cancelTollStarts (hs : Keeps A s₀ s) : Keeps A s₀ (cancelTollStarts s) :=
  hs.forN fun _ _ hs => hs.cancelStart
protected theorem Keeps.refreshSvc (hs : Keeps A s₀ s) : Keeps A s₀ (refreshSvc s) :=
  hs.ite hs.put.raise
protected theorem Keeps.setTollState {st} (hs : Keeps A s₀ s) : Keeps A s₀ (setTollState st s) :=
  hs.ite (hs.put.setIncr.setToll.cancelTollStarts.ite hs.put.setIncr.setToll).asyncTo.raise.refreshSvc
protected theorem Keeps.refLost (hs : Keeps A s₀ s) : Keeps A s₀ (refLost s) :=
  hs.setTollState.ite (hs.setTollState.ite hs)
protected theorem Keeps.refRegained (hs : Keeps A s₀ s) : Keeps A s₀ (refRegained s) :=
  hs.setTollState.ite hs
protected theorem Keeps.putFine {i} (hs : Keeps A s₀ s) : Keeps A s₀ (putFine i s) :=
  hs.setToll
protected theorem Keeps.stepTo {fine} (hs : Keeps A s₀ s) : Keeps A s₀ (stepTo fine s) :=
  (hs.putFine.setBit.forN fun _ _ hs => hs.setChRt.writeToll.ite hs).cancelTollStarts
protected theorem Keeps.takeOff {x} (hs : Keeps A s₀ s) : Keeps A s₀ (takeOff x s) :=
  hs.setToll
protected theorem Keeps.newOffset {o mayLock} (hs : Keeps A s₀ s) : Keeps A s₀ (newOffset o mayLock s) :=
  have hs := hs.setToll.takeOff.stepTo.setToll.ite hs.setToll.setToll
  (hs.bump.setToll.setIncr.setToll.setTollState.ite hs.bump.setToll.setIncr.setToll).ite
    hs.bump.setToll.setIncr.setToll
protected theorem Keeps.setTime {t'} (hs : Keeps A s₀ s) : Keeps A s₀ (setTime t' s).2 := by
  unfold setTime
  extract_lets d
  split
  · exact hs.errFlag
  · dsimp only
    exact hs.stepTo

end Sys2Proof.Proofs
end

section
/-! PROOFS. What the operations of Sys2Proof/Machine/Cu.lean keep. -/

namespace Sys2Proof.Proofs

open Sys2Proof Sys2Proof.Machine Sys2Proof.Laws

set_option Elab.async false

variable {A : Areas} {s₀ s t : State}

protected theorem Keeps.setCu {u r} (hs : Keeps A s₀ s) : Keeps A s₀ (setCu u r s) :=
  hs.same
protected theorem Keeps.residueFault {u stage lane acc slot sc injected} (hs : Keeps A s₀ s) :
    Keeps A s₀ (residueFault u stage lane acc slot sc injected s) :=
  hs.captureTie.addFault
protected theorem Keeps.enterSlot {u slot} (hs : Keeps A s₀ s) : Keeps A s₀ (enterSlot u slot s) :=
  hs.setCu.scoredEvent.countUnit
protected theorem Keeps.presentChunk {u o bad} (hs : Keeps A s₀ s) : Keeps A s₀ (presentChunk u o bad s) := by
  unfold presentChunk
  dsimp only
  split
  · exact hs
  · exact hs.setCu.countUnit.countCluster.ite hs.setCu.countUnit
protected theorem Keeps.enterIfPend {u} (hs : Keeps A s₀ s) : Keeps A s₀ (enterIfPend u s) := by
  unfold enterIfPend
  split
  · exact hs.enterSlot
  · exact hs
protected theorem Keeps.takeScale {u} (hs : Keeps A s₀ s) : Keeps A s₀ (takeScale u s) := by
  unfold takeScale
  split
  · next e1 => exact hs.takeQueue.snd e1
  · next e1 => exact (hs.takeQueue.snd e1).setCu
protected theorem Keeps.s0Dot {u o bad} (hs : Keeps A s₀ s) : Keeps A s₀ (s0Dot u o bad s) :=
  have fed := hs.ite (hs.enterIfPend.takeScale.ite (by
    split
    · next e => exact hs.enterIfPend.takeQueue.snd e
    · next e => exact (hs.enterIfPend.takeQueue.snd e).setCu.presentChunk))
  have hs := hs.enterIfPend.presentChunk.ite fed
  hs.setCu.takeScale.ite hs
protected theorem Keeps.s0Bypass {u o} (hs : Keeps A s₀ s) : Keeps A s₀ (s0Bypass u o s) := by
  refine hs.ite ?_
  dsimp only
  split
  · next e1 => exact hs.enterIfPend.takeQueue.snd e1
  · next e1 => exact have hs := hs.enterIfPend.takeQueue.snd; .setCu (.iteSnd (hs e1).takeQueue (hs e1))
protected theorem Keeps.loadWrf {u} (hs : Keeps A s₀ s) : Keeps A s₀ (loadWrf u s) := by
  unfold loadWrf
  dsimp only
  split
  · exact hs
  · refine .ite hs ?_
    split
    · next e => exact hs.enterIfPend.takeQueue.snd e
    · next e => exact have hs := hs.enterIfPend.takeQueue.snd e; hs.setCu.countUnit.ite hs.setCu
protected theorem Keeps.s2 {u p} (hs : Keeps A s₀ s) : Keeps A s₀ (s2 u p s).2 :=
  .iteSnd hs <|
  have hs := (hs.setCu.countUnit.forL fun _ _ hs => hs.plainEvent).forL fun _ _ hs => hs.residueFault
  have hs : Keeps A s₀ _ := by
    split
    · exact hs.setBit.residueFault
    · exact hs
  hs.countUnit.ite hs
protected theorem Keeps.s1Check {u p} (hs : Keeps A s₀ s) : Keeps A s₀ (s1Check u p s).2 :=
  .iteSnd hs (have hs := hs.forL fun _ _ hs => hs.residueFault; by
    dsimp only
    split
    · exact .iteSnd hs.setBit.residueFault hs
    · exact hs)
protected theorem Keeps.s3s4 {u p} (hs : Keeps A s₀ s) : Keeps A s₀ (s3s4 u p s).2 :=
  hs.setCu
protected theorem Keeps.s5Overrun {u} (hs : Keeps A s₀ s) : Keeps A s₀ (s5Overrun u s) :=
  hs.addFault
protected theorem Keeps.cuPipe {u} (hs : Keeps A s₀ s) : Keeps A s₀ (cuPipe u s) :=
  have hs := hs.setCu.forL fun _ _ hs =>
    have hs : Keeps A s₀ _ := .iteSnd hs.s1Check (.iteSnd hs.s2 (.iteSnd hs.s3s4 hs))
    ((hs.setCu.countUnit.forL fun _ _ hs => hs.plainEvent).ite hs.setCu).ite hs.setCu
  have hs := hs.forL fun _ _ hs => hs.setCu.ite hs.setCu
  have hs : Keeps A s₀ _ := by
    split
    · exact hs
    · exact hs.setCu.sendLater
  hs.s5Overrun.ite hs
protected theorem Keeps.cuStep {u bad} (hs : Keeps A s₀ s) : Keeps A s₀ (cuStep u bad s) := by
  unfold cuStep
  extract_lets t r s₁ s₂
  have h₁ : Keeps A s₀ s₁ := by
    unfold s₁
    split
    · exact hs
    · split
      · exact hs.ite hs.setCu
      · exact hs
  have h₂ : Keeps A s₀ s₂ := h₁.cuPipe
  split
  · exact h₂
  · exact (h₂.s0Bypass.ite h₂.s0Dot).loadWrf
protected theorem Keeps.cuOnce {u bad} (hs : Keeps A s₀ s) : Keeps A s₀ (cuOnce u bad s) :=
  hs.onceAt (fun _ hs => hs.cuStep)
protected theorem Keeps.clearCus {mask} (hs : Keeps A s₀ s) : Keeps A s₀ (clearCus mask s) :=
  hs.same.setBit.ite hs.same
protected theorem OutKeeps.execDotStep {unit bad} (hs : Keeps A s₀ s) : OutKeeps A s₀ (execDotStep unit bad s) :=
  .ite .fault (.next (hs.cuOnce.ite hs))
protected theorem OutKeeps.execSlotSwitch {unit slot} (hs : Keeps A s₀ s) :
    OutKeeps A s₀ (execSlotSwitch unit slot s) :=
  .ite .fault (.next (hs.setCu.ite hs))

end Sys2Proof.Proofs
end

section
/-! PROOFS. What the operations of Sys2Proof/Machine/Mu.lean keep. -/

namespace Sys2Proof.Proofs

open Sys2Proof Sys2Proof.Machine Sys2Proof.Laws

set_option Elab.async false

variable {A : Areas} {s₀ s t : State}

protected theorem Keeps.setMu {u r} (hs : Keeps A s₀ s) : Keeps A s₀ (setMu u r s) :=
  hs.same
protected theorem Keeps.putSerr {u w e} (hs : Keeps A s₀ s) : Keeps A s₀ (putSerr u w e s) :=
  hs.same
protected theorem Keeps.muFault {kind u bank port} (hs : Keeps A s₀ s) : Keeps A s₀ (muFault kind u bank port s) :=
  hs.captureTie.addFault
protected theorem Keeps.eccCapture {p ue src gran unit wher} (hs : Keeps A s₀ s) :
    Keeps A s₀ (eccCapture p ue src gran unit wher s) :=
  hs.captureTie
protected theorem Keeps.muEcc {u w e gran injected} (hs : Keeps A s₀ s) : Keeps A s₀ (muEcc u w e gran injected s) :=
  .ite
    (have hs := hs.countSat.eccCapture.countUnit.countCluster.setMu.ite
         hs.countSat.eccCapture.countUnit.countCluster
     hs.ite hs.plainEvent)
    hs.eccCapture.addFault
protected theorem Keeps.dataTap {unit space target index wher flags value} (hs : Keeps A s₀ s) :
    Keeps A s₀ (dataTap unit space target index wher flags value s) :=
  hs.tapData.ite hs
protected theorem Keeps.muTap {u w ag wr supp value} (hs : Keeps A s₀ s) :
    Keeps A s₀ (muTap u w ag wr supp value s) :=
  hs.dataTap.ite hs.dataTap
protected theorem Keeps.takeIndex {u ag n} (hs : Keeps A s₀ s) : Keeps A s₀ (takeIndex u ag n s).2 := by
  unfold takeIndex
  extract_lets t key sq rq s₁ r
  have h₁ : Keeps A s₀ s₁ := by
    refine .ite ?_ hs
    split
    · exact hs.takeQueue.setMu.ite hs
    · exact hs
  clear_value s₁
  split
  · exact h₁
  · extract_lets s₂ r₂ s₃
    have h₂ : Keeps A s₀ s₂ := h₁.setMu.countUnit
    have h₃ : Keeps A s₀ s₃ := h₂.setMu
    clear_value s₂ s₃
    exact .iteSnd h₁ (.iteSnd h₂ (.iteSnd h₂ (.iteSnd h₃.plainEvent h₂)))
protected theorem Keeps.agIssue {u ag} (hs : Keeps A s₀ s) : Keeps A s₀ (agIssue u ag s) := by
  unfold agIssue
  dsimp only
  split
  · exact hs.setMu
  · refine .ite hs.setMu ?_
    split
    · exact (hs.setMu.takeIndex.iteSndMk hs.setMu).setMu.muFault
    · exact (hs.setMu.takeIndex.iteSndMk hs.setMu).setMu
protected theorem Keeps.agStart {u ag prog} (hs : Keeps A s₀ s) : Keeps A s₀ (agStart u ag prog s) :=
  hs.onceAt (fun _ hs => hs.setMu.scoredEvent)
protected theorem Keeps.agStarts {u} (hs : Keeps A s₀ s) : Keeps A s₀ (agStarts u s) := by
  unfold agStarts
  split
  · exact hs
  · exact hs.forL fun _ _ hs => hs.agStart
protected theorem Keeps.idxAccept {u} (hs : Keeps A s₀ s) : Keeps A s₀ (idxAccept u s) := by
  refine hs.ite ?_
  split
  · next e1 => exact hs.takeQueue.snd e1
  · next e1 => exact (hs.takeQueue.snd e1).setMu
protected theorem Keeps.findClashes {u} (hs : Keeps A s₀ s) : Keeps A s₀ (findClashes u s) :=
  hs.setMu.forL fun _ _ hs => hs.muFault
protected theorem Keeps.muPlan {u} (hs : Keeps A s₀ s) : Keeps A s₀ (muPlan u s) := by
  unfold muPlan
  exact hs.agStarts.onceAt (fun _ hs => (hs.idxAccept.setMu.forL fun _ _ hs => hs.agIssue).findClashes)
protected theorem Keeps.lbdDeliver {p j x w valid} (hs : Keeps A s₀ s) : Keeps A s₀ (lbdDeliver p j x w valid s) :=
  hs.setMu.ite (hs.clockFault.ite hs.same)
protected theorem Keeps.muWrite {u w b} (hs : Keeps A s₀ s) (hm : A.sram) : Keeps A s₀ (muWrite u w b s) :=
  have hs := hs.setMu.ite hs; ((hs.setBit.ite hs).putSram hm).putSerr
protected theorem Keeps.wrTake {u a} (hs : Keeps A s₀ s) : Keeps A s₀ (wrTake u a s).2 := by
  unfold wrTake
  dsimp only
  split
  · split
    · exact hs
    · split
      · split <;> exact hs
      · exact hs
  · split
    · next e => exact hs.takeQueue.snd e
    · next e => exact hs.takeQueue.snd e
protected theorem Keeps.muAct {u a ecc} (hs : Keeps A s₀ s) (hm : A.sram) : Keeps A s₀ (muAct u a ecc s) := by
  refine hs.ite (.ite ?_ ?_)
  · split
    · next e => exact (hs.wrTake.snd e).ite (hs.wrTake.snd e).muFault
    · next e =>
      exact
        have hs := hs.wrTake.snd e
        hs.countUnit.muTap.ite (hs.muWrite hm).countUnit.muTap
  · exact
      have hs := hs.ite hs.muEcc
      hs.countUnit.muTap.setMu.ite hs.countUnit.muTap.sendLater
protected theorem Keeps.muPerform {u which ecc} (hs : Keeps A s₀ s) (hm : A.sram) :
    Keeps A s₀ (muPerform u which ecc s) :=
  hs.setMu.forL fun _ _ hs => hs.muAct hm
protected theorem Keeps.lbdOut {u} (hs : Keeps A s₀ s) : Keeps A s₀ (lbdOut u s) :=
  hs.ite (hs.setMu.onceAt (fun _ hs => hs.forL fun _ _ hs => hs.lbdDeliver))
protected theorem Keeps.muWriteBack {u} (hs : Keeps A s₀ s) : Keeps A s₀ (muWriteBack u s) := by
  unfold muWriteBack
  dsimp only
  split
  · exact hs
  · exact hs.ite hs.setMu.putSerr
protected theorem Keeps.muStep {u} (hs : Keeps A s₀ s) (hm : A.sram) : Keeps A s₀ (muStep u s) := by
  unfold muStep
  exact hs.lbdOut.muPlan.muWriteBack.muPerform hm
protected theorem Keeps.clearMus {mask} (hs : Keeps A s₀ s) : Keeps A s₀ (clearMus mask s) :=
  hs.same.setBit.ite hs.same
protected theorem OutKeeps.execAgRun {unit ag prog} (hs : Keeps A s₀ s) : OutKeeps A s₀ (execAgRun unit ag prog s) :=
  .ite .fault (.next (hs.agStart.ite hs))
protected theorem OutKeeps.execAgAccess {unit ag ecc} (hs : Keeps A s₀ s) (hm : A.sram) :
    OutKeeps A s₀ (execAgAccess unit ag ecc s) :=
  .ite .fault (.next ((hs.muPlan.muPerform hm).ite hs))
protected theorem OutKeeps.execEccWriteBack {unit} (hs : Keeps A s₀ s) : OutKeeps A s₀ (execEccWriteBack unit s) :=
  .ite .fault (.next ((hs.muPlan.ite hs.setMu).muWriteBack.ite hs))

end Sys2Proof.Proofs
end

section
/-! PROOFS. What the operations of Sys2Proof/Machine/Dma.lean keep. -/

namespace Sys2Proof.Proofs

open Sys2Proof Sys2Proof.Machine Sys2Proof.Laws

set_option Elab.async false

variable {A : Areas} {s₀ s t : State}

protected theorem Keeps.xingPush {q e} (hs : Keeps A s₀ s) : Keeps A s₀ (xingPush q e s) :=
  hs.same
protected theorem Keeps.sendStrike {bell unit peer} (hs : Keeps A s₀ s) : Keeps A s₀ (sendStrike bell unit peer s) :=
  hs.xingPush
protected theorem Keeps.lineTap {unit h r l wr poison b} (hs : Keeps A s₀ s) :
    Keeps A s₀ (lineTap unit h r l wr poison b s) :=
  hs.dataTap
protected theorem Keeps.putDma {x y} (hs : Keeps A s₀ s) : Keeps A s₀ (putDma x y s) :=
  hs.same
protected theorem Keeps.refreshReads {x l} (hs : Keeps A s₀ s) : Keeps A s₀ (refreshReads x l s) :=
  hs.same
protected theorem Keeps.pumpOutGo {total fuel y} (hs : Keeps A s₀ s) : Keeps A s₀ (pumpOut.go total fuel y s).2 := by
  induction fuel generalizing y s with
  | zero => exact hs
  | succ n ih =>
    refine .iteSnd hs (ih ?_)
    exact have hs := hs.writeReport.countDevice.countUnit; have hs := hs.memFault.ite hs
      (hs.countUnit.ite hs).lineTap.refreshReads
protected theorem Keeps.pumpOut {x} (hs : Keeps A s₀ s) : Keeps A s₀ (pumpOut x s).2 :=
  .iteSnd hs.same hs.same.pumpOutGo
protected theorem Keeps.pumpAll {d} (hs : Keeps A s₀ s) : Keeps A s₀ (pumpAll d s) :=
  hs.forL fun _ _ hs => hs.pumpOut.putDma
protected theorem Keeps.dmaIssue {d ri occ cls b} (hs : Keeps A s₀ s) : Keeps A s₀ (dmaIssue d ri occ cls b s) :=
  hs.scoredEvent.same.pumpAll.ite hs.scoredEvent.countDevice.same
protected theorem Keeps.dmaStart {d ri occ} (hs : Keeps A s₀ s) : Keeps A s₀ (dmaStart d ri occ s) := by
  unfold dmaStart
  split
  · exact hs
  · exact hs.onceAt (fun _ hs => hs.beginWait.ite hs.dmaIssue)
protected theorem Keeps.dmaWaitedOf {d p} (hs : Keeps A s₀ s) : Keeps A s₀ (dmaWaitedOf d p s) := by
  refine hs.setDomRt.forL fun _ _ hs => ?_
  split
  · exact hs.dmaIssue
  · exact hs
protected theorem Keeps.dmaWaited {d} (hs : Keeps A s₀ s) : Keeps A s₀ (dmaWaited d s) :=
  hs.dmaWaitedOf
protected theorem Keeps.dmaStarts {d} (hs : Keeps A s₀ s) : Keeps A s₀ (dmaStarts d s) := by
  unfold dmaStarts
  split
  · exact hs
  · refine hs.forN fun _ _ hs => ?_
    dsimp only
    split
    · exact hs.dmaWaitedOf.dmaStart.dmaWaitedOf
    · exact hs.dmaWaitedOf
protected theorem Keeps.sendWords {x} (hs : Keeps A s₀ s) : Keeps A s₀ (sendWords x s).2 :=
  hs.forL fun _ _ hs => hs.same
protected theorem OutKeeps.execHbmReadReturn {d ri occ line fault} (hs : Keeps A s₀ s) :
    OutKeeps A s₀ (execHbmReadReturn d ri occ line fault s) := by
  refine .ite .fault ?_
  dsimp only
  split
  · exact .next hs
  · exact .ite (.next hs) <|
      have hs := hs.countSat.ite hs
      have hs := hs.ite hs.memError
      .ite (.next hs.countUnit.lineTap.putDma) (.next hs.countUnit.lineTap.sendWords.putDma)
protected theorem OutKeeps.execDmaComplete {d ri occ} (hs : Keeps A s₀ s) :
    OutKeeps A s₀ (execDmaComplete d ri occ s) := by
  refine .ite .fault ?_
  dsimp only
  split
  · exact .next hs.pumpAll
  · exact .next (hs.pumpAll.same.sendStrike.ite hs.pumpAll.same)
protected theorem OutKeeps.execDmaIssue {d ri occ} (hs : Keeps A s₀ s) : OutKeeps A s₀ (execDmaIssue d ri occ s) := by
  refine .ite .fault (.next (.ite ?_ hs))
  split
  · exact hs.dmaStart.dmaWaited.ite hs
  · exact hs
protected theorem Keeps.markOld {mask} (hs : Keeps A s₀ s) : Keeps A s₀ (markOld mask s) :=
  hs.same

end Sys2Proof.Proofs
end

section
/-! PROOFS. What the operations of Sys2Proof/Machine/Links.lean keep. -/

namespace Sys2Proof.Proofs

open Sys2Proof Sys2Proof.Machine Sys2Proof.Laws

set_option Elab.async false

variable {A : Areas} {s₀ s t : State}

protected theorem Keeps.linkFault {kind n} (hs : Keeps A s₀ s) : Keeps A s₀ (linkFault kind n s) :=
  hs.ite (hs.capture.countSat.ite hs.capture).addFault
protected theorem Keeps.parentLost {n} (hs : Keeps A s₀ s) : Keeps A s₀ (parentLost n s) :=
  (hs.forL fun _ _ hs => hs.ite hs.capture.addFault).ite hs
protected theorem Keeps.queueCtl {n ctype body} (hs : Keeps A s₀ s) : Keeps A s₀ (queueCtl n ctype body s) :=
  hs.setLink
protected theorem Keeps.queueMeasure {n} (hs : Keeps A s₀ s) : Keeps A s₀ (queueMeasure n s) :=
  hs.queueCtl.forN fun _ _ hs => hs.queueCtl
protected theorem Keeps.migSend {o k} (hs : Keeps A s₀ s) : Keeps A s₀ (migSend o k s).2.2 :=
  .iteThd hs (.iteThd (hs.readBytes.ite hs) hs)
protected theorem Keeps.migFree {k n l} (hs : Keeps A s₀ s) : Keeps A s₀ (migFree k n l s).2 := by
  induction k generalizing l s with
  | zero => exact hs
  | succ k ih =>
    unfold migFree
    split
    · exact ih hs.setLink
    · split
      · exact hs
      · exact .iteSnd hs (.iteSnd hs.migSend.finishO (ih hs.migSend.updOutst))
protected theorem Keeps.migDiscard {o reason} (hs : Keeps A s₀ s) : Keeps A s₀ (migDiscard o reason s) :=
  (hs.writeBytes.setLink.ite hs.writeBytes).finishO
protected theorem Keeps.migDown {n} (hs : Keeps A s₀ s) : Keeps A s₀ (migDown n s) :=
  hs.setLink.forL fun _ _ hs => hs.migDiscard
protected theorem Keeps.tellLink {n} (hs : Keeps A s₀ s) : Keeps A s₀ (tellLink n s) :=
  (hs.raise.ite hs).refreshSvc
protected theorem Keeps.setLnkState {n st reason} (hs : Keeps A s₀ s) : Keeps A s₀ (setLnkState n st reason s) :=
  have hs := hs.put.put
  have hs := hs.ite hs.plainEvent.tellLink
  have hs := hs.setLink.queueMeasure.ite hs.setLink
  .ite
    (have hs : Keeps A s₀ _ := by
      split
      · exact hs.setLink
      · exact hs
     have hs := (hs.linkFault.ite hs).migDown.parentLost
     hs.refLost.ite hs)
    hs
protected theorem Keeps.startTrain {n} (hs : Keeps A s₀ s) : Keeps A s₀ (startTrain n s) :=
  hs.setBit.setLink.setLnkState
protected theorem Keeps.putStream {x} (hs : Keeps A s₀ s) : Keeps A s₀ (putStream x s) :=
  hs.same
protected theorem Keeps.startTraffic {mask start} (hs : Keeps A s₀ s) : Keeps A s₀ (startTraffic mask start s) :=
  have hs := hs.forN fun _ _ hs => hs.setLink.ite hs; hs.same.ite hs
protected theorem Keeps.streamSend {p dest b} (hs : Keeps A s₀ s) : Keeps A s₀ (streamSend p dest b s).2 :=
  hs.putStream
protected theorem Keeps.streamSeal {p dest} (hs : Keeps A s₀ s) : Keeps A s₀ (streamSeal p dest s).2 :=
  hs.putStream
protected theorem Keeps.streamRecv {p src b} (hs : Keeps A s₀ s) : Keeps A s₀ (streamRecv p src b s).2 := by
  unfold streamRecv
  dsimp only
  split
  · exact hs.putStream
  · exact hs.putStream
protected theorem Keeps.streamVerify {p src b} (hs : Keeps A s₀ s) : Keeps A s₀ (streamVerify p src b s).2 :=
  hs.putStream
protected theorem Keeps.linkCap {n c} (hs : Keeps A s₀ s) : Keeps A s₀ (linkCap n c s) :=
  hs.ite hs.tapData
protected theorem Keeps.enqueueTx {n f} (hs : Keeps A s₀ s) : Keeps A s₀ (enqueueTx n f s) :=
  hs.clockFault.ite hs.setLink
protected theorem Keeps.txForward {n l imp} (hs : Keeps A s₀ s) : Keeps A s₀ (txForward n l imp s) := by
  unfold txForward
  dsimp only
  split
  · split
    · exact hs.enqueueTx.ite hs.linkFault
    · exact hs
  · exact hs
protected theorem Keeps.txCommit {d ri occ x cls} (hs : Keeps A s₀ s) : Keeps A s₀ (txCommit d ri occ x cls s) := by
  unfold txCommit
  split
  · exact
      have hs : Keeps A s₀ _ := by
        split
        · exact hs.scoredEvent.countUnit
        · exact hs.scoredEvent
      hs.linkFault.ite (by
        dsimp only
        split
        · exact .enqueueTx (.iteSnd hs.streamSend hs)
        · exact hs.txForward
        · exact .enqueueTx (.iteSnd hs.setLink.streamSend hs.setLink)
        · exact hs.enqueueTx
        · exact hs.streamSeal.enqueueTx)
  · exact hs
protected theorem Keeps.txGo {d ri occ cls} (hs : Keeps A s₀ s) : Keeps A s₀ (txGo d ri occ cls s) := by
  unfold txGo
  split
  · exact hs
  · exact hs.setDomRt.ite hs.txCommit
protected theorem Keeps.txStart {d ri occ} (hs : Keeps A s₀ s) : Keeps A s₀ (txStart d ri occ s) := by
  unfold txStart
  split
  · exact hs
  · exact hs.onceAt (fun _ hs => hs.beginWait.ite hs.txGo)
protected theorem Keeps.txPending {d} (hs : Keeps A s₀ s) : Keeps A s₀ (txPending d s) :=
  hs.setDomRt.forL fun _ _ hs => hs.txCommit
protected theorem Keeps.txStarts {d} (hs : Keeps A s₀ s) : Keeps A s₀ (txStarts d s) := by
  unfold txStarts
  split
  · exact hs
  · refine hs.forN fun _ _ hs => .ite ?_ hs
    split
    · exact hs.txStart
    · exact hs
protected theorem Keeps.txWaited {d} (hs : Keeps A s₀ s) : Keeps A s₀ (txWaited d s) :=
  hs.setDomRt.forL fun _ _ hs => hs.txGo
protected theorem Keeps.rxDispose {d n l e} (hs : Keeps A s₀ s) : Keeps A s₀ (rxDispose d n l e s) := by
  unfold rxDispose
  extract_lets a p lost s₁ u s₂
  have h₁ : Keeps A s₀ s₁ := hs.scoredEvent
  have h₂ : Keeps A s₀ s₂ := h₁.streamRecv.ite h₁
  split
  · refine h₁.linkFault.ite (h₁.linkFault.ite ?_)
    extract_lets y s₃
    have h₃ : Keeps A s₀ s₃ := h₁.streamRecv.iteSndMk h₁
    split
    · exact h₃.setMu
    · exact h₃.countSat
    · exact h₃.streamVerify.ite h₃.streamVerify.linkFault
    · exact h₃
  · split
    · exact h₂.countSat
    · exact h₂
    · exact h₂.linkFault
protected theorem Keeps.rxPresented {q e} (hs : Keeps A s₀ s) : Keeps A s₀ (rxPresented q e s) := by
  unfold rxPresented
  dsimp only
  split
  · exact hs
  · split
    · exact hs.rxDispose
    · exact hs
protected theorem Keeps.presentDue {q} (hs : Keeps A s₀ s) : Keeps A s₀ (presentDue q s) := by
  unfold presentDue
  split
  · exact hs
  · refine hs.present.rxPresented.ite ?_
    split
    · exact hs.present.ite (hs.present.addFault.ite hs.present.memFault)
    · exact hs.present
protected theorem Keeps.arrivalStrike {q before e} (hs : Keeps A s₀ s) : Keeps A s₀ (arrivalStrike q before e s) := by
  refine hs.ite ?_
  split
  · split
    · exact hs.sendStrike.ite hs
    · exact hs
  · exact hs
protected theorem OutKeeps.execArrival {q} (hs : Keeps A s₀ s) : OutKeeps A s₀ (execArrival q s) := by
  refine .ite .fault ?_
  split
  · exact .next hs
  · exact .ite (.next (hs.same.ite hs.same.countDisc)) (.next hs.same.enterQueue.arrivalStrike)
protected theorem Keeps.advanceFcnt {n} (hs : Keeps A s₀ s) : Keeps A s₀ (advanceFcnt n s) :=
  hs.setLink.ite (hs.setLink.put.plainEvent.ite (hs.setLnkState.asyncParts.ite hs.setLnkState.asyncTo))
protected theorem Keeps.remotePull {n} (hs : Keeps A s₀ s) : Keeps A s₀ (remotePull n s) := by
  unfold remotePull
  split
  · exact hs
  · split
    · exact hs
    · exact hs.setChRt.countDevice.setLink
protected theorem OutKeeps.execFrameSend {port} (hs : Keeps A s₀ s) : OutKeeps A s₀ (execFrameSend port s) :=
  .ite .fault <|
  .ite (.next hs) <|
  have hs := (hs.forN (fun _ _ hs => hs.remotePull.ite hs)).ite hs
  .next <|
    .advanceFcnt <|
      .forN (.emit (.setLink (.iteSnd hs.migFree hs))) fun _ _ hs =>
        have hs := hs.countUnit.ite (hs.countUnit.ite hs); hs.ite hs.linkCap
protected theorem Keeps.recvData {n fl} (hs : Keeps A s₀ s) : Keeps A s₀ (recvData n fl s) :=
  hs.ite (hs.xingPush.ite hs.countSat)
protected theorem Keeps.recvStrike {n f fl} (hs : Keeps A s₀ s) : Keeps A s₀ (recvStrike n f fl s) :=
  hs.sendStrike.ite hs.countSat
protected theorem Keeps.recvTrace {n fl} (hs : Keeps A s₀ s) : Keeps A s₀ (recvTrace n fl s) := by
  unfold recvTrace
  dsimp only
  split
  · exact hs.setLink
  · exact (hs.setLink.ite hs.setLink.countSat).ite hs.setLink.countSat
protected theorem Keeps.recvSlots {n f} (hs : Keeps A s₀ s) : Keeps A s₀ (recvSlots n f s) :=
  have hs := hs.countSat.countUnit.ite hs
  have hs := ((hs.forN fun _ _ hs => hs.xingPush).ite hs).setLink
  hs.forN fun _ _ hs =>
    have hs := hs.ite hs.linkCap
    by
      dsimp only
      split
      · exact hs.ite (hs.countSat.ite hs.countUnit.recvData)
      · exact hs.recvStrike.ite hs
      · exact hs.recvTrace.ite hs
      · exact hs
protected theorem OutKeeps.execFrameReceive {port f} (hs : Keeps A s₀ s) :
    OutKeeps A s₀ (execFrameReceive port f s) :=
  .ite .fault <|
  .ite (.next hs) <|
  have hs := hs.ite hs.countSat.countUnit
  .ite
    (have hs := hs.countSat.countUnit.linkCap.countSat.ite hs.countSat.countUnit.linkCap
     .ite (.next hs.setLink) <|
     .ite (.next hs.setLink.setLnkState) <| .ite (.next hs.setLink.setLnkState) (.next hs.setLink))
    (.ite (.next hs.setLink.recvSlots.setLnkState) (.next hs.setLink.recvSlots))
protected theorem OutKeeps.execTrain {port} (hs : Keeps A s₀ s) : OutKeeps A s₀ (execTrain port s) :=
  .ite .fault (.next (hs.setLnkState.ite hs))
protected theorem OutKeeps.execTrainTimeout {port} (hs : Keeps A s₀ s) : OutKeeps A s₀ (execTrainTimeout port s) :=
  .ite .fault (.next (hs.setLnkState.ite hs))
protected theorem OutKeeps.execFrameLock {port} (hs : Keeps A s₀ s) : OutKeeps A s₀ (execFrameLock port s) :=
  .ite .fault (.next (hs.setLnkState.ite hs))
protected theorem OutKeeps.execAutoRetrain {port} (hs : Keeps A s₀ s) : OutKeeps A s₀ (execAutoRetrain port s) :=
  .ite .fault (.next (hs.startTrain.ite hs))
protected theorem OutKeeps.execLinkDown {port reason} (hs : Keeps A s₀ s) :
    OutKeeps A s₀ (execLinkDown port reason s) :=
  .ite .fault (.next (hs.setLnkState.ite hs))
protected theorem Keeps.measureDone {n} (hs : Keeps A s₀ s) : Keeps A s₀ (measureDone n s) :=
  hs.setReg.forL fun _ _ hs => hs.setReg
protected theorem Keeps.tryUp {n} (hs : Keeps A s₀ s) : Keeps A s₀ (tryUp n s) :=
  hs.measureDone.setLnkState.ite hs
protected theorem OutKeeps.execHello {port m} (hs : Keeps A s₀ s) : OutKeeps A s₀ (execHello port m s) :=
  .ite .fault <| .ite (.next hs) <| .ite (.next hs.setLnkState) (.next hs.setReg.setLink.tryUp)
protected theorem OutKeeps.execLatreq {port m} (hs : Keeps A s₀ s) : OutKeeps A s₀ (execLatreq port m s) :=
  .ite .fault <| .ite (.next hs) (.next hs.queueCtl)
protected theorem OutKeeps.execLatrsp {port m} (hs : Keeps A s₀ s) : OutKeeps A s₀ (execLatrsp port m s) :=
  .ite .fault <| .ite (.next hs) <| .ite (.next hs) (.next hs.setLink.tryUp)
protected theorem OutKeeps.execTx {port ri occ} (hs : Keeps A s₀ s) : OutKeeps A s₀ (execTx port ri occ s) := by
  refine .ite .fault <| .ite (.next hs) (.next (.ite ?_ hs))
  split
  · exact hs.txStart.txWaited.ite hs
  · exact hs

end Sys2Proof.Proofs
end

section
/-! PROOFS. What the operations of Sys2Proof/Machine/Counters.lean keep. -/

namespace Sys2Proof.Proofs

open Sys2Proof Sys2Proof.Machine Sys2Proof.Laws

set_option Elab.async false

variable {A : Areas} {s₀ s t : State}

protected theorem Keeps.reselect {a} (hs : Keeps A s₀ s) : Keeps A s₀ (reselect a s) :=
  hs.put.setBit.setCtr
protected theorem Keeps.writeEvsel {a code} (hs : Keeps A s₀ s) : Keeps A s₀ (writeEvsel a code s) :=
  hs.put.setBit.setCtr.ite (hs.put.setBit.setCtr.reselect.ite hs.put.setBit.setCtr)
protected theorem Keeps.landLoad {a} (hs : Keeps A s₀ s) : Keeps A s₀ (landLoad a s) := by
  unfold landLoad
  dsimp only
  split
  · exact hs
  · exact hs.setCtr.ite hs.setCtr.noteCross
protected theorem Keeps.writeValh {a hi} (hs : Keeps A s₀ s) : Keeps A s₀ (writeValh a hi s) := by
  unfold writeValh
  exact hs.setCtr.ite hs.setCtr.landLoad
protected theorem Keeps.writeVall {a lo} (hs : Keeps A s₀ s) : Keeps A s₀ (writeVall a lo s) :=
  hs.setCtr
protected theorem Keeps.clearWraps {as} (hs : Keeps A s₀ s) : Keeps A s₀ (clearWraps as s) :=
  hs.forL fun _ _ hs => hs.setCtr.ite hs
protected theorem Keeps.unitPacket {reason u} (hs : Keeps A s₀ s) : Keeps A s₀ (unitPacket reason u s) :=
  hs.stagePkt.ite hs.stagePkt.clearWraps
protected theorem Keeps.groupPacket {reason g first} (hs : Keeps A s₀ s) :
    Keeps A s₀ (groupPacket reason g first s) :=
  hs.stagePkt.ite hs.stagePkt.clearWraps
protected theorem Keeps.groupPackets {reason g} (hs : Keeps A s₀ s) : Keeps A s₀ (groupPackets reason g s) :=
  hs.forN fun _ _ hs => hs.groupPacket
protected theorem Keeps.sampleGroup {g} (hs : Keeps A s₀ s) : Keeps A s₀ (sampleGroup g s) :=
  hs.groupPackets.forN fun _ _ hs => hs.reselect.ite hs
protected theorem Keeps.sampleUnit {d u} (hs : Keeps A s₀ s) : Keeps A s₀ (sampleUnit d u s) :=
  hs.onceAt (fun _ hs => (hs.unitPacket.ite hs).forL fun _ _ hs => hs.reselect.ite hs)
protected theorem Keeps.sampleDomain {d} (hs : Keeps A s₀ s) : Keeps A s₀ (sampleDomain d s) :=
  (hs.forL fun _ _ hs => hs.sampleUnit).ite hs
protected theorem Keeps.overflowDomain {d} (hs : Keeps A s₀ s) : Keeps A s₀ (overflowDomain d s) :=
  hs.forL fun _ _ hs => hs.unitPacket.ite hs
protected theorem Keeps.idleReselect {d} (hs : Keeps A s₀ s) : Keeps A s₀ (idleReselect d s) :=
  hs.ite (hs.forL fun _ _ hs => hs.ite (hs.reselect.ite hs.setCtr))
protected theorem Keeps.landLoads {d} (hs : Keeps A s₀ s) : Keeps A s₀ (landLoads d s) :=
  hs.forL fun _ _ hs => hs.landLoad
protected theorem Keeps.dropHolds {d} (hs : Keeps A s₀ s) : Keeps A s₀ (dropHolds d s) :=
  hs.forL fun _ _ hs => hs.setCtr.ite hs
protected theorem Keeps.finishSnap {o} (hs : Keeps A s₀ s) : Keeps A s₀ (finishSnap o s) :=
  (hs.ite hs.output).finishO
protected theorem Keeps.takeScope {b} (hs : Keeps A s₀ s) : Keeps A s₀ (takeScope b s) :=
  have hs := hs.forL fun _ _ hs => hs.setReg.setReg
  have hs := ((hs.forL (fun _ _ hs => hs.unitPacket)).ite hs.groupPackets).ite hs
  (hs.setClap.setBit.ite hs.setClap).setOutst.forL fun _ _ hs => hs.finishSnap
protected theorem Keeps.requestSnap {mask packets} (hs : Keeps A s₀ s) : Keeps A s₀ (requestSnap mask packets s) :=
  hs.setClap.forL fun _ _ hs => hs.takeScope
protected theorem Keeps.snapDomain {d} (hs : Keeps A s₀ s) : Keeps A s₀ (snapDomain d s) :=
  hs.forL fun _ _ hs => hs.takeScope
protected theorem Keeps.armSnaps {d} (hs : Keeps A s₀ s) : Keeps A s₀ (armSnaps d s) :=
  hs.setClap
protected theorem Keeps.goSnap {scope} (hs : Keeps A s₀ s) : Keeps A s₀ (goSnap scope s) :=
  hs.ite (hs.setBit.setClap.requestSnap.setBit.ite hs.setBit.setClap.requestSnap)
protected theorem Keeps.clearCtr {a} (hs : Keeps A s₀ s) : Keeps A s₀ (clearCtr a s) :=
  hs.clearReg.clearReg.clearReg.clearReg.setCtr
protected theorem Keeps.clearHolderCtrs {p} (hs : Keeps A s₀ s) : Keeps A s₀ (clearHolderCtrs p s) :=
  hs.forL fun _ _ hs => hs.clearCtr
protected theorem ResKeeps.bodyCntSet {c} (hs : Keeps A s₀ s) : ResKeeps A s₀ (bodyCntSet c s) := by
  unfold bodyCntSet
  extract_lets g i u a ev ok s₁ s₂ s₃
  have h₁ : Keeps A s₀ s₁ := hs.setBit.setBit.put
  have h₂ : Keeps A s₀ s₂ := .ite h₁ h₁.writeEvsel
  have h₃ : Keeps A s₀ s₃ := .ite h₂.writeVall.writeValh h₂
  generalize ctrWriter s c.fn a = w
  exact .ite (.no hs) <| .ite (.no hs) <| .ite (.no hs) <| .ite (.no hs) (.done h₃)
protected theorem OutKeeps.execCntSet {c} (hs : Keeps A s₀ s) : OutKeeps A s₀ (execCntSet c s) :=
  .next (hs.runCmd (fun _ _ hs => .bodyCntSet hs))
protected theorem ResKeeps.bodyCntSnap {c} (hs : Keeps A s₀ s) : ResKeeps A s₀ (bodyCntSnap c s) := by
  refine .ite (.no hs) <| .ite (.no hs) ?_
  split
  · exact .no hs
  · exact .ite (.done (hs.requestSnap.ite hs.requestSnap.output)) (.long hs.setOutst.requestSnap.refreshCall)
protected theorem OutKeeps.execCntSnap {c} (hs : Keeps A s₀ s) : OutKeeps A s₀ (execCntSnap c s) :=
  .next (hs.runCmd (fun _ _ hs => .bodyCntSnap hs))
protected theorem OutKeeps.execGroupSample {group} (hs : Keeps A s₀ s) : OutKeeps A s₀ (execGroupSample group s) :=
  .ite .fault (.next hs.sampleGroup)
protected theorem OutKeeps.execThreshold {t'} (hs : Keeps A s₀ s) : OutKeeps A s₀ (execThreshold t' s) :=
  .ite .fault <| .ite (.next hs) (.next hs.setClap)
protected theorem OutKeeps.execOverflow {ctr} (hs : Keeps A s₀ s) : OutKeeps A s₀ (execOverflow ctr s) :=
  .ite .fault <| .ite (.next hs) <| .ite (.next (hs.ite hs.unitPacket)) (.next hs.groupPacket)

end Sys2Proof.Proofs
end

section
/-! PROOFS. What the operations of Sys2Proof/Machine/Loops.lean keep. -/

namespace Sys2Proof.Proofs

open Sys2Proof Sys2Proof.Machine Sys2Proof.Laws

set_option Elab.async false

variable {A : Areas} {s₀ s t : State}

protected theorem Keeps.setPwr {r} (hs : Keeps A s₀ s) : Keeps A s₀ (setPwr r s) :=
  hs.same
protected theorem Keeps.policyAsync {part l} (hs : Keeps A s₀ s) : Keeps A s₀ (policyAsync part l s) := by
  unfold policyAsync
  split
  · exact hs.asyncParts
  · exact hs.asyncTo
protected theorem Keeps.applyDec {l i d} (hs : Keeps A s₀ s) : Keeps A s₀ (applyDec l i d s) := by
  unfold applyDec
  dsimp only
  split
  · exact hs.setReg
  · exact hs.setReg.ite hs.setReg.stagePolicy.setBit.policyAsync.raise
protected theorem Keeps.readSensors {x} (hs : Keeps A s₀ s) : Keeps A s₀ (readSensors x s) :=
  (hs.forN fun _ _ hs => by
    split
    · exact hs.setReg
    · exact hs.setReg).setReg
protected theorem Keeps.reportSensors (hs : Keeps A s₀ s) : Keeps A s₀ (reportSensors s) :=
  hs.setPwr.forL fun _ _ hs => hs.deviceFault
protected theorem Keeps.thermTrip (hs : Keeps A s₀ s) : Keeps A s₀ (thermTrip s) := by
  unfold thermTrip
  dsimp only
  split
  · exact hs.ite hs.same.deviceFault
  · exact hs.same.ite hs
protected theorem OutKeeps.execThermalLoop {r} (hs : Keeps A s₀ s) : OutKeeps A s₀ (execThermalLoop r s) :=
  .next (hs.readSensors.setPwr.reportSensors.forN fun _ _ hs => hs.applyDec.ite hs).thermTrip
protected theorem Keeps.setRail {rail mV d} (hs : Keeps A s₀ s) : Keeps A s₀ (setRail rail mV d s) :=
  hs.applyDec.emit.ite hs.applyDec
protected theorem OutKeeps.execVoltageLoop {rail early settled} (hs : Keeps A s₀ s) :
    OutKeeps A s₀ (execVoltageLoop rail early settled s) :=
  .ite .fault <| .ite (.next hs) (.next (hs.applyDec.ite hs.setRail))
protected theorem Keeps.raiseRail {cl cls} (hs : Keeps A s₀ s) : Keeps A s₀ (raiseRail cl cls s) :=
  hs.ite (hs.setRail.ite hs)
protected theorem OutKeeps.execRegulatorTimeout {rail} (hs : Keeps A s₀ s) :
    OutKeeps A s₀ (execRegulatorTimeout rail s) :=
  .ite .fault (.next (hs.deviceFault.ite hs))
protected theorem OutKeeps.execLinkEq {n code} (hs : Keeps A s₀ s) : OutKeeps A s₀ (execLinkEq n code s) :=
  .ite .fault <| .ite (.next hs) (.next hs.applyDec)
protected theorem OutKeeps.execRefreshRate {stack tempC} (hs : Keeps A s₀ s) :
    OutKeeps A s₀ (execRefreshRate stack tempC s) :=
  .ite .fault <|
  .ite (.next hs) <|
  have hs : Keeps A s₀ _ := by
    split
    · exact hs.put.setPwr
    · exact hs.setPwr
  have hs := hs.setPwr.applyDec.setBit
  .next (hs.deviceFault.ite hs)
protected theorem Keeps.classDecide {d fmask} (hs : Keeps A s₀ s) : Keeps A s₀ (classDecide d fmask s).2 :=
  hs.applyDec
protected theorem Keeps.refreshGov {origin h} (hs : Keeps A s₀ s) : Keeps A s₀ (refreshGov origin h s) := by
  refine hs.put.ite ?_
  dsimp only
  split
  · exact hs.put.put
  · exact have hs := hs.put.put.stagePolicy.setBit; hs.policyAsync.raise.ite hs
protected theorem Keeps.refreshGovs {mask} (hs : Keeps A s₀ s) : Keeps A s₀ (refreshGovs mask s) :=
  hs.forL fun _ _ hs => hs.refreshGov
protected theorem OutKeeps.execGovernorLoop {h} (hs : Keeps A s₀ s) : OutKeeps A s₀ (execGovernorLoop h s) :=
  .ite .fault <| .ite (.next hs) (.next hs.same.put.refreshGov)
protected theorem ResKeeps.bodyPwrPin {c} (hs : Keeps A s₀ s) : ResKeeps A s₀ (bodyPwrPin c s) :=
  .ite (.no hs) (.ite (.no hs) (.ite (.no hs) (have hs := hs.setReg.setBit.ite (hs.setReg.setBit.ite hs.setReg); by
    dsimp only
    split
    · exact .done hs.stagePolicy
    · exact .done hs)))
protected theorem OutKeeps.execPwrPin {c} (hs : Keeps A s₀ s) : OutKeeps A s₀ (execPwrPin c s) :=
  .next (hs.runCmd (fun _ _ hs => .bodyPwrPin hs))
protected theorem ResKeeps.bodyPwrHint {c} (hs : Keeps A s₀ s) : ResKeeps A s₀ (bodyPwrHint c s) := by
  refine .ite (.no hs) <| .ite (.no hs) <| .ite (.no hs) ?_
  dsimp only
  split
  · exact .done hs.setReg.setBit.stagePolicy
  · exact .done hs.setReg.setBit
protected theorem OutKeeps.execPwrHint {c} (hs : Keeps A s₀ s) : OutKeeps A s₀ (execPwrHint c s) :=
  .next (hs.runCmd (fun _ _ hs => .bodyPwrHint hs))
protected theorem ResKeeps.bodyPwrQuery {c} (hs : Keeps A s₀ s) : ResKeeps A s₀ (bodyPwrQuery c s) :=
  .ite (.no hs) <| .ite (.no hs) <| .ite (.no hs) (.done hs)
protected theorem OutKeeps.execPwrQuery {c} (hs : Keeps A s₀ s) : OutKeeps A s₀ (execPwrQuery c s) :=
  .next (hs.runCmd (fun _ _ hs => .bodyPwrQuery hs))
protected theorem ResKeeps.bodyGovSet {c} (hs : Keeps A s₀ s) : ResKeeps A s₀ (bodyGovSet c s) := by
  refine .ite (.no hs) <| .ite (.no hs) <| .ite (.no hs) <| .ite (.no hs) (.done ?_)
  split
  · exact have hs := hs.put.put.put.put.refreshGov; hs.stagePolicy.ite hs
  · exact hs.put.put.put.put.refreshGov
protected theorem OutKeeps.execGovSet {c} (hs : Keeps A s₀ s) : OutKeeps A s₀ (execGovSet c s) :=
  .next (hs.runCmd (fun _ _ hs => .bodyGovSet hs))

end Sys2Proof.Proofs
end

section
/-! PROOFS. What the operations of Sys2Proof/Machine/Sinks.lean keep. -/

namespace Sys2Proof.Proofs

open Sys2Proof Sys2Proof.Machine Sys2Proof.Laws

set_option Elab.async false

variable {A : Areas} {s₀ s t : State}

protected theorem Keeps.flushChannel {n} (hs : Keeps A s₀ s) : Keeps A s₀ (flushChannel n s) :=
  (hs.setChRt.ite hs).ite (hs.ite hs.setChRt)
protected theorem Keeps.stageHold {n p origin} (hs : Keeps A s₀ s) : Keeps A s₀ (stageHold n p origin s) :=
  hs.stagePolicy
protected theorem Keeps.demoteHold (hs : Keeps A s₀ s) : Keeps A s₀ (demoteHold s) := by
  refine hs.forN fun _ _ hs => .ite ?_ hs
  split
  · exact hs.setBit.setBit.stageHold.refreshFull
  · exact hs
protected theorem Keeps.enableChannel {n} (hs : Keeps A s₀ s) : Keeps A s₀ (enableChannel n s) :=
  (hs.setBit.setReg.setReg.ite hs.setBit).startChannel
protected theorem Keeps.disableChannel {n reason} (hs : Keeps A s₀ s) : Keeps A s₀ (disableChannel n reason s) :=
  hs.setBit.writeEnd.flushChannel.setClap.refreshFull
protected theorem Keeps.dropChannel {n} (hs : Keeps A s₀ s) : Keeps A s₀ (dropChannel n s) :=
  hs.setChRt.setBit
protected theorem Keeps.writeChCtl {n w v} (hs : Keeps A s₀ s) : Keeps A s₀ (writeChCtl n w v s) :=
  have hs := hs.refuse.ite hs
  have hs := hs.setBit.ite hs
  have hs := hs.ite (hs.refuse.ite (hs.refuse.ite (hs.refuse.ite hs.put)))
  have hs := hs.ite (by
    split
    · exact hs.refuse
    · exact hs.refuse.ite hs.put)
  have hs := hs.put.ite hs.refuse
  have hs : Keeps A s₀ _ := .ite (by
    split
    · exact hs.stageHold
    · exact hs.setBit) hs.setBit
  (hs.refuse.ite hs.enableChannel).ite (hs.disableChannel.ite hs.refreshFull)
protected theorem Keeps.writeChCls {n w v} (hs : Keeps A s₀ s) : Keeps A s₀ (writeChCls n w v s) :=
  .setReg (.iteSnd hs.refuse (.iteSnd hs.refuse hs))
protected theorem Keeps.writeChUr {n i v} (hs : Keeps A s₀ s) : Keeps A s₀ (writeChUr n i v s) :=
  hs.setReg.demoteHold
protected theorem Keeps.writeAwSel {n a w v} (hs : Keeps A s₀ s) : Keeps A s₀ (writeAwSel n a w v s) :=
  hs.setReg.refuse.ite hs.setReg
protected theorem Keeps.writeRngCtl {ing n w v} (hs : Keeps A s₀ s) : Keeps A s₀ (writeRngCtl ing n w v s) :=
  hs.setReg.ite (hs.refuse.ite (hs.refuse.ite (hs.setReg.setReg.ite hs.setReg)))
protected theorem Keeps.writeRngBase {ing n high w v} (hs : Keeps A s₀ s) :
    Keeps A s₀ (writeRngBase ing n high w v s) :=
  hs.refuse.ite (hs.refuse.ite (hs.refuse.ite hs.setReg))
protected theorem Keeps.writeRngLen {ing n w v} (hs : Keeps A s₀ s) : Keeps A s₀ (writeRngLen ing n w v s) :=
  hs.refuse.ite (hs.refuse.ite hs.setReg)
protected theorem Keeps.writeRngWb {ing n high w v} (hs : Keeps A s₀ s) : Keeps A s₀ (writeRngWb ing n high w v s) :=
  hs.refuse.ite (hs.refuse.ite hs.setReg)
protected theorem Keeps.writeRngRd {ing n w v} (hs : Keeps A s₀ s) : Keeps A s₀ (writeRngRd ing n w v s) :=
  hs.setReg.ite hs.refuse
protected theorem Keeps.writeSnkCfg {n w v} (hs : Keeps A s₀ s) : Keeps A s₀ (writeSnkCfg n w v s) :=
  have hs := hs.put.ite (hs.put.refuse.ite (hs.put.refuse.ite (hs.put.put.setBit.refuse.ite hs.put.put.setBit)))
  hs.flushChannel.ite hs
protected theorem Keeps.formPlain {n} (hs : Keeps A s₀ s) : Keeps A s₀ (formPlain n s) :=
  hs.ite hs.setChRt.refreshFull
protected theorem Keeps.formRoll {n} (hs : Keeps A s₀ s) : Keeps A s₀ (formRoll n s) :=
  hs.ite hs.setChRt
protected theorem OutKeeps.execFrameForm {n} (hs : Keeps A s₀ s) : OutKeeps A s₀ (execFrameForm n s) :=
  .ite .fault (.next (hs.ite (hs.formRoll.ite hs.formPlain)))
protected theorem OutKeeps.execFlushTimer {n} (hs : Keeps A s₀ s) : OutKeeps A s₀ (execFlushTimer n s) :=
  .ite .fault (.next (hs.flushChannel.ite hs))
protected theorem Keeps.ringIrq {ing n} (hs : Keeps A s₀ s) : Keeps A s₀ (ringIrq ing n s) :=
  hs.raise.ite hs.raisePart
protected theorem Keeps.ringDelivered {ing n last} (hs : Keeps A s₀ s) : Keeps A s₀ (ringDelivered ing n last s) :=
  have hs := hs.setBit.ite hs
  have hs := hs.setReg.emit.ite hs.setReg; have hs := hs.setBit.ite hs; hs.countDevice.ringIrq.ite hs.countDevice
protected theorem Keeps.ringWrite {ing n b} (hs : Keeps A s₀ s) : Keeps A s₀ (ringWrite ing n b s).2 :=
  .iteSnd (.iteSnd hs hs.emit) (.iteSnd hs hs.writeBytes.countDevice.same)
protected theorem Keeps.ringStep {ing n ok f drop} (hs : Keeps A s₀ s)
    (hd : ∀ t, Keeps A s₀ t → Keeps A s₀ (drop t)) :
    Keeps A s₀ (ringStep ing n ok f drop s) :=
  have hs' := hd _ (hs.ringWrite.iteSndMk hs)
  .ite hs (hs'.ringDelivered.ite (hs'.setBit.countSat.ite hs'.setBit.loseTo))
protected theorem OutKeeps.execRingDeliver {n ok} (hs : Keeps A s₀ s) : OutKeeps A s₀ (execRingDeliver n ok s) := by
  refine .ite ?_ <| .ite ?_ .fault
  · split
    · exact .next hs
    · exact .next ((hs.ringStep fun _ hs => hs.setChRt).ite hs)
  · split
    · exact .next hs
    · exact .next (hs.ringStep fun _ hs => hs.setLink)
protected theorem Keeps.amRow (hs : Keeps A s₀ s) : Keeps A s₀ (amRow s) :=
  Keeps.same (s := s) hs
protected theorem OutKeeps.execPortFrame {serial} (hs : Keeps A s₀ s) : OutKeeps A s₀ (execPortFrame serial s) := by
  unfold execPortFrame
  extract_lets on s₁
  have h₁ : Keeps A s₀ s₁ := hs.amRow.ite hs
  refine .ite (.next hs) ?_
  split
  · exact .next h₁
  · split
    · exact .next h₁
    · extract_lets r s₂ src s₃
      have h₂ : Keeps A s₀ s₂ := h₁.setChRt
      have h₃ : Keeps A s₀ s₃ := .ite h₂.same h₂.same
      exact .next h₃.emit.countDevice
protected theorem Keeps.writePar {w v} (hs : Keeps A s₀ s) : Keeps A s₀ (writePar w v s) :=
  hs.setBit.refuse.ite hs.setReg
protected theorem Keeps.writeSer {v} (hs : Keeps A s₀ s) : Keeps A s₀ (writeSer v s) :=
  hs.ite ((hs.setReg.forN fun _ _ hs => hs.emit.amRow).ite (hs.setReg.emit.ite hs.setReg))
protected theorem Keeps.writeRem {w v} (hs : Keeps A s₀ s) : Keeps A s₀ (writeRem w v s) :=
  hs.setReg.ite hs.setReg.refuse
protected theorem ResKeeps.bodyChConfig {c} (hs : Keeps A s₀ s) : ResKeeps A s₀ (bodyChConfig c s) :=
  .ite (.no hs) <| .ite (.no hs) <| .ite (.no hs) <| .ite (.no hs) <| .ite (.no hs) <| .ite (.no hs) <|
  .ite (.no hs) <|
  have hs := hs.ite hs.put
  by
    dsimp only
    split
    · exact .done hs.setBit.put.put.setReg.setReg.setReg.setBit.stageHold.refreshFull
    · exact .done hs.setBit.put.put.setReg.setReg.setReg.setBit.refreshFull
protected theorem OutKeeps.execChConfig {c} (hs : Keeps A s₀ s) : OutKeeps A s₀ (execChConfig c s) :=
  .next (hs.runCmd (fun _ _ hs => .bodyChConfig hs))
protected theorem ResKeeps.bodyChWindow {c} (hs : Keeps A s₀ s) : ResKeeps A s₀ (bodyChWindow c s) :=
  .ite (.no hs) <| .ite (.no hs) (.done hs.setReg.setReg.setReg)
protected theorem OutKeeps.execChWindow {c} (hs : Keeps A s₀ s) : OutKeeps A s₀ (execChWindow c s) :=
  .next (hs.runCmd (fun _ _ hs => .bodyChWindow hs))
protected theorem ResKeeps.bodyChEnable {c} (hs : Keeps A s₀ s) : ResKeeps A s₀ (bodyChEnable c s) :=
  .ite (.no hs) <|
  .ite
    (.ite (.no hs) <| .ite (.no hs) <| .ite (.no hs) (.done (hs.enableChannel.flushChannel.ite hs.enableChannel)))
    (.ite (.done hs.disableChannel) (.done (hs.flushChannel.ite hs)))
protected theorem OutKeeps.execChEnable {c} (hs : Keeps A s₀ s) : OutKeeps A s₀ (execChEnable c s) :=
  .next (hs.runCmd (fun _ _ hs => .bodyChEnable hs))
protected theorem ResKeeps.bodyRingSet {c} (hs : Keeps A s₀ s) : ResKeeps A s₀ (bodyRingSet c s) :=
  .ite (.no hs) <|
  .ite (.no hs) <|
  .ite (.no hs) <|
  .ite (.no hs) <|
  .ite (.no hs) <|
  .ite (.no hs) <|
  .ite (.no hs) <|
  .done <|
    (hs.setReg.setReg.setReg.setReg.setReg.setReg.setReg.ite hs.setReg.setReg.setReg.setReg.setReg.setReg).ite
      hs.setReg.setReg.setReg.setReg.setReg.setReg.setBit.put.put
protected theorem OutKeeps.execRingSet {c} (hs : Keeps A s₀ s) : OutKeeps A s₀ (execRingSet c s) :=
  .next (hs.runCmd (fun _ _ hs => .bodyRingSet hs))
protected theorem ResKeeps.bodySinkPort {c} (hs : Keeps A s₀ s) : ResKeeps A s₀ (bodySinkPort c s) :=
  .ite (.no hs) <|
  .ite (.ite (.done hs.setReg) (.no hs)) <|
  .ite (.ite (.no hs) <| .ite (.no hs) (.done hs.setReg)) <| .ite (.ite (.no hs) (.done hs.writeSer)) (.no hs)
protected theorem OutKeeps.execSinkPort {c} (hs : Keeps A s₀ s) : OutKeeps A s₀ (execSinkPort c s) :=
  .next (hs.runCmd (fun _ _ hs => .bodySinkPort hs))

end Sys2Proof.Proofs
end

section
/-! PROOFS. What the operations of Sys2Proof/Machine/Clapper.lean keep. -/

namespace Sys2Proof.Proofs

open Sys2Proof Sys2Proof.Machine Sys2Proof.Laws

set_option Elab.async false

variable {A : Areas} {s₀ s t : State}

protected theorem Keeps.clapStops (hs : Keeps A s₀ s) : Keeps A s₀ (clapStops s) := by
  unfold clapStops
  split
  · exact hs
  · exact have hs := hs.forL fun _ _ hs => hs.disableChannel.ite hs; hs.setClap.setBit.ite hs
protected theorem Keeps.stopTick {d} (hs : Keeps A s₀ s) : Keeps A s₀ (stopTick d s) := by
  unfold stopTick
  split
  · exact hs.setClap.ite hs
  · exact hs
protected theorem Keeps.stopAtOnce {p} (hs : Keeps A s₀ s) : Keeps A s₀ (stopAtOnce p s) := by
  unfold stopAtOnce
  split
  · exact hs.setClap.clapStops.ite hs
  · exact hs
protected theorem Keeps.actStart {x} (hs : Keeps A s₀ s) : Keeps A s₀ (actStart x s).2 :=
  hs.foldlSnd fun _ _ hs => .iteSnd hs (.iteSnd hs.errFlag hs.enableChannel)
protected theorem Keeps.actStop {x} (hs : Keeps A s₀ s) : Keeps A s₀ (actStop x s).2 :=
  .iteSnd hs hs.setClap.setBit
protected theorem Keeps.actPins (hs : Keeps A s₀ s) : Keeps A s₀ (actPins s) :=
  hs.ite (hs.forL fun _ _ hs => hs.emit.setBit.ite hs.emit.setClap)
protected theorem Keeps.fireActions {acts} (hs : Keeps A s₀ s) : Keeps A s₀ (fireActions acts s).2 :=
  have hs : Keeps A s₀ _ := .iteSnd (.actStop (.iteSnd hs.actStart hs)) (.iteSnd hs.actStart hs)
  have hs := hs.setReg.ite hs
  have hs := hs.actPins.ite hs; have hs := hs.setBit.raise.ite hs; (hs.requestSnap.ite hs).clapStops
protected theorem Keeps.setArcCount {i v} (hs : Keeps A s₀ s) : Keeps A s₀ (setArcCount i v s) :=
  hs.setClap
protected theorem Keeps.fireArc {st a m} (hs : Keeps A s₀ s) : Keeps A s₀ (fireArc st a m s) :=
  hs.fireActions.put.setArcCount.setArcCount.stage
protected theorem Keeps.takeMatch {m} (hs : Keeps A s₀ s) : Keeps A s₀ (takeMatch m s) :=
  hs.ite (have hs := hs.forN fun _ _ hs => hs.setArcCount.ite hs; hs.fireArc.ite (hs.fireArc.ite hs))
protected theorem OutKeeps.execClapperMatch (hs : Keeps A s₀ s) : OutKeeps A s₀ (execClapperMatch s) := by
  unfold execClapperMatch
  split
  · exact .next hs
  · exact .next hs.setClap.takeMatch
protected theorem OutKeeps.execStopCountEnd (hs : Keeps A s₀ s) : OutKeeps A s₀ (execStopCountEnd s) :=
  .next hs.clapStops
protected theorem OutKeeps.execPulseEnd {pin} (hs : Keeps A s₀ s) : OutKeeps A s₀ (execPulseEnd pin s) :=
  .ite .fault (.next (hs.setClap.emit.ite hs))
protected theorem OutKeeps.execClapIn {pin level} (hs : Keeps A s₀ s) : OutKeeps A s₀ (execClapIn pin level s) :=
  .ite .fault <| .ite (.next hs) (.next (hs.setClap.setClap.ite hs.setClap))
protected theorem OutKeeps.execPacketWrite (hs : Keeps A s₀ s) : OutKeeps A s₀ (execPacketWrite s) := by
  unfold execPacketWrite
  split
  · exact .next hs
  · exact .next hs.same.distribute.clapStops
protected theorem Keeps.writeClpCtl {v} (hs : Keeps A s₀ s) : Keeps A s₀ (writeClpCtl v s) :=
  hs.setBit.ite (hs.setBit.setClap.put.setClap.ite hs.setBit.setClap)
protected theorem Keeps.writeClpLevel {v} (hs : Keeps A s₀ s) : Keeps A s₀ (writeClpLevel v s) :=
  hs.forL fun _ _ hs => hs.setBit.emit
protected theorem Keeps.writeClp {w v} (hs : Keeps A s₀ s) : Keeps A s₀ (writeClp w v s) := by
  unfold writeClp
  exact ((hs.writeClpLevel.ite hs.writeClpLevel.refuse).ite
       (hs.writeClpLevel.setReg.refuse.ite hs.writeClpLevel.setReg)).ite
      (hs.refuse.ite (hs.setReg.refuse.ite hs.setReg))
protected theorem ResKeeps.bodyClapLoad {c} (hs : Keeps A s₀ s) : ResKeeps A s₀ (bodyClapLoad c s) := by
  refine .ite (.no hs) ?_
  split
  · exact .no hs
  · exact .ite (.no hs) (.done (hs.writeClpCtl.forL fun _ _ hs => hs.writeClp).writeClpCtl)
protected theorem OutKeeps.execClapLoad {c} (hs : Keeps A s₀ s) : OutKeeps A s₀ (execClapLoad c s) :=
  .next (hs.runCmd (fun _ _ hs => .bodyClapLoad hs))

end Sys2Proof.Proofs
end

section
/-! PROOFS. What the operations of Sys2Proof/Machine/Domain.lean keep. -/

namespace Sys2Proof.Proofs

open Sys2Proof Sys2Proof.Machine Sys2Proof.Laws

set_option Elab.async false

variable {A : Areas} {s₀ s t : State}

protected theorem Keeps.pendSlot {u slot} (hs : Keeps A s₀ s) : Keeps A s₀ (pendSlot u slot s) :=
  hs.ite hs.setCu
protected theorem Keeps.startScheds {d} (hs : Keeps A s₀ s) : Keeps A s₀ (startScheds d s) := by
  refine hs.forL fun _ _ hs => ?_
  split
  · exact hs.pendSlot
  · exact hs.doRoute.ite hs.doSteer
  · exact hs
protected theorem Keeps.edgeActs {d} (hs : Keeps A s₀ s) (hm : A.sram) : Keeps A s₀ (edgeActs d s) :=
  have hs := (((hs.forL (fun _ _ hs => hs.presentDue)).startScheds.evalWaits.forL fun _ _ hs => hs.muStep hm).forL
       (fun _ _ hs => hs.cuOnce)).forL
      (fun _ _ hs => hs.onceAt fun _ hs => hs.sbStep)
  hs.dmaStarts.pumpAll.dmaWaited.txWaited.txStarts.txPending.netMove.timeoutWaits.applyAdvs
protected theorem Keeps.creditsLate {d} (hs : Keeps A s₀ s) : Keeps A s₀ (creditsLate d s) :=
  hs.forL fun _ _ hs => (hs.onceAt (fun _ hs => hs.creditLate)).ite hs
protected theorem Keeps.waitCounts {d} (hs : Keeps A s₀ s) : Keeps A s₀ (waitCounts d s) :=
  hs.forL fun _ _ hs => hs.countUnit
protected theorem Keeps.edgeCounts {d} (hs : Keeps A s₀ s) : Keeps A s₀ (edgeCounts d s) :=
  hs.onceAt (fun _ hs => hs.countDomain.waitCounts.ite hs)
protected theorem Keeps.edgeWork {d} (hs : Keeps A s₀ s) (hm : A.sram) : Keeps A s₀ (edgeWork d s) :=
  (hs.edgeActs hm).creditsLate.edgeCounts
protected theorem Keeps.openWindow {d} (hs : Keeps A s₀ s) : Keeps A s₀ (openWindow d s) :=
  (hs.onceAt (fun _ hs => hs.setDomRt)).ite hs
protected theorem Keeps.slipEdge {d causes} (hs : Keeps A s₀ s) : Keeps A s₀ (slipEdge d causes s) :=
  have hs := (hs.setDomRt.forL (fun _ _ hs => (hs.countSat.ite hs).put)).countDomain.forL fun _ _ hs => hs.countMask
  hs.countMask.ite hs
protected theorem Keeps.endPushes {mask} (hs : Keeps A s₀ s) : Keeps A s₀ (endPushes mask s) :=
  hs.forL fun _ _ hs => hs.finishO
protected theorem Keeps.freeLoads {d} (hs : Keeps A s₀ s) : Keeps A s₀ (freeLoads d s) :=
  hs.setOutst
protected theorem Keeps.takeLimit {d} (hs : Keeps A s₀ s) : Keeps A s₀ (takeLimit d s) :=
  hs.setDomRt
protected theorem Keeps.planBoundary {d} (hs : Keeps A s₀ s) : Keeps A s₀ (planBoundary d s) :=
  hs.dropHeldStrikes.emptyQueues.markOld.clearNet.clearCus.clearMus.endPushes.freeLoads.takeLimit
protected theorem Keeps.zeroQueues {mask} (hs : Keeps A s₀ s) : Keeps A s₀ (zeroQueues mask s) :=
  hs.forL fun _ _ hs => hs.forN fun _ _ hs => hs.setQueueRt
protected theorem Keeps.putBase {mask base} (hs : Keeps A s₀ s) : Keeps A s₀ (putBase mask base s) :=
  hs.forL fun _ _ hs => hs.setReg.setReg
protected theorem Keeps.setFclass {d c} (hs : Keeps A s₀ s) : Keeps A s₀ (setFclass d c s) :=
  hs.putParts
protected theorem Keeps.setPend {mask ctx} (hs : Keeps A s₀ s) : Keeps A s₀ (setPend mask ctx s) :=
  hs.putParts
protected theorem Keeps.setCls {mask c} (hs : Keeps A s₀ s) : Keeps A s₀ (setCls mask c s) :=
  hs.forL fun _ _ hs => hs.setPartRt
protected theorem Keeps.goIdle {d} (hs : Keeps A s₀ s) : Keeps A s₀ (goIdle d s) :=
  hs.setPln.setFclass.startChecker.stageOwnctx.refreshGovs
protected theorem Keeps.putDomain {m} (hs : Keeps A s₀ s) : Keeps A s₀ (putDomain m s) :=
  hs.putParts
protected theorem Keeps.splitIdle {m} (hs : Keeps A s₀ s) : Keeps A s₀ (splitIdle m s) :=
  hs.forL fun _ _ hs => hs.putDomain.setDomRt.setPln
protected theorem Keeps.formDomain {m} (hs : Keeps A s₀ s) : Keeps A s₀ (formDomain m s) :=
  hs.ite (have hs := hs.splitIdle.putDomain.setPln.setDomRt.forL fun _ _ hs => hs.setPartRt; hs.ite hs.stageOwnctx)
protected theorem Keeps.markBegan {d} (hs : Keeps A s₀ s) : Keeps A s₀ (markBegan d s) :=
  hs.setOutst
protected theorem Keeps.beginSwitch {d w} (hs : Keeps A s₀ s) : Keeps A s₀ (beginSwitch d w s) :=
  have hs := hs.setPln.setFclass.forL fun _ _ hs => hs.setBit
  (hs.setDomRt.ite hs.setDomRt.zeroQueues.carryStrikes.startTraffic).markBegan.refreshGovs
protected theorem Keeps.beginChange {d w} (hs : Keeps A s₀ s) : Keeps A s₀ (beginChange d w s) :=
  hs.beginSwitch.ite ((hs.forL fun _ _ hs => hs.raiseRail).ite hs).setPln.setFclass.setDomRt
protected theorem Keeps.withClass {d w} (hs : Keeps A s₀ s) : Keeps A s₀ (withClass d w s).2 := by
  refine .iteSnd hs ?_
  split
  · exact hs
  · exact hs.classDecide
protected theorem Keeps.closeEarly {d r} (hs : Keeps A s₀ s) : Keeps A s₀ (closeEarly d r s) :=
  ((hs.flushTaps.forL fun _ _ hs => hs.closeUpto).forL fun _ _ hs => hs.ite hs.emitCheckpoint).endSlip
protected theorem Keeps.leaveRun {d} (hs : Keeps A s₀ s) : Keeps A s₀ (leaveRun d s) :=
  hs.clearRun.planBoundary.setDomRt
protected theorem Keeps.switchTo {d w} (hs : Keeps A s₀ s) : Keeps A s₀ (switchTo d w s) :=
  hs.withClass.leaveRun.beginChange
protected theorem Keeps.pendDue {p w} (hs : Keeps A s₀ s) : Keeps A s₀ (pendDue p w s) := by
  refine .ite ?_ ((hs.formDomain.withClass.beginChange.ite hs.setDomRt.endWaiters).ite hs.beginChange)
  split
  · exact hs.closeEarly.switchTo
  · exact hs
protected theorem Keeps.drainStops {d last} (hs : Keeps A s₀ s) : Keeps A s₀ (drainStops d last s) :=
  hs.forL fun _ _ hs => hs.same.updOutst
protected theorem Keeps.endStops {d last} (hs : Keeps A s₀ s) : Keeps A s₀ (endStops d last s) :=
  hs.forL fun _ _ hs => hs.finishO
protected theorem Keeps.endIdle {d last} (hs : Keeps A s₀ s) : Keeps A s₀ (endIdle d last s) :=
  hs.leaveRun.setDomRt.goIdle.drainStops.endStops.endWaiters
protected theorem Keeps.stopRun {d} (hs : Keeps A s₀ s) : Keeps A s₀ (stopRun d s) :=
  hs.drainStops.closeStopped.endIdle
protected theorem Keeps.runEnd {d r} (hs : Keeps A s₀ s) : Keeps A s₀ (runEnd d r s) := by
  unfold runEnd
  extract_lets s₁ stop asked nx target s₂ ctx fs s₃ src
  have h₁ : Keeps A s₀ s₁ := hs.closeRun.endSlip
  have h₂ : Keeps A s₀ s₂ := h₁.asyncParts.ite h₁
  clear_value target
  split
  · exact h₂.switchTo
  · exact h₂.leaveRun.setDomRt.haltCore.ite h₂.endIdle
protected theorem Keeps.finishWhereRes {d res} (hs : Keeps A s₀ s) : Keeps A s₀ (switchEnd.finishWhereRes d res s) :=
  hs.forL fun _ _ hs => hs.finishO
protected theorem Keeps.switchEnd {d w} (hs : Keeps A s₀ s) : Keeps A s₀ (switchEnd d w s) := by
  refine hs.setDomRt.endStops.endWaiters.leaveRun.setDomRt.goIdle.drainStops.ite
      (.finishWhereRes (.stageOwnctx (.setDomRt ?_)))
  split
  · exact hs.setPln.putBase.setDomRt
  · exact have hs := hs.setPln.putBase.setDomRt; hs.ite hs.loadBells.loadCredits.startChecker
protected theorem Keeps.edgeStart {d} (hs : Keeps A s₀ s) : Keeps A s₀ (edgeStart d s) := by
  unfold edgeStart
  extract_lets s₁ s₂ s₃
  have h₁ : Keeps A s₀ s₁ := by
    unfold s₁
    split
    · exact hs.switchEnd
    · exact hs
  have h₂ : Keeps A s₀ s₂ := by
    unfold s₂
    split
    · exact h₁.runEnd
    · exact h₁
  have h₃ : Keeps A s₀ s₃ := (h₂.stopRun.ite (h₂.ite h₂)).ite h₂
  refine h₃.forL fun _ _ hs => ?_
  split
  · exact hs.pendDue
  · exact hs
protected theorem Keeps.closeEdge {d} (hs : Keeps A s₀ s) (hm : A.sram) : Keeps A s₀ (closeEdge d s) :=
  have hs := hs.edgeStart.openWindow
  have running :=
    have hs := hs.testReleases
    have slipped := hs.slipEdge.overflowDomain.snapDomain.dropHolds
    have worked := (hs.endSlip.setDomRt.edgeWork hm).stopTick.sampleDomain.overflowDomain.snapDomain.dropHolds.clapStops
    hs.haltOnFaults.ite ((hs.clockFault.haltOnFaults.ite slipped).ite worked)
  have hs := hs.setDomRt.ite hs
  running.ite (hs.edgeCounts.stopTick.ite hs).overflowDomain.snapDomain.dropHolds.clapStops
protected theorem Keeps.armPend {p} (hs : Keeps A s₀ s) : Keeps A s₀ (armPend p s) := by
  unfold armPend
  dsimp only
  split
  · exact hs
  · exact hs.setDomRt
protected theorem Keeps.armStops {d} (hs : Keeps A s₀ s) : Keeps A s₀ (armStops d s) :=
  hs.setOutst
protected theorem Keeps.nextEdge {d} (hs : Keeps A s₀ s) : Keeps A s₀ (nextEdge d s) :=
  have hs := hs.ite (hs.forL (fun _ _ hs => hs.setPartRt))
  have hs := (hs.setDomRt.netArrive.ite hs.setDomRt).forL fun _ _ hs => hs.idleApply.armPend
  hs.landLoads.idleReselect.armSnaps.armStops
protected theorem Keeps.fclkStep {d} (hs : Keeps A s₀ s) (hm : A.sram) : Keeps A s₀ (fclkStep d s) :=
  hs.ite (have hs := hs.closeEdge hm; hs.ite hs.nextEdge.haltOnFaults)
protected theorem OutKeeps.execFclkEdge {d} (hs : Keeps A s₀ s) (hm : A.sram) : OutKeeps A s₀ (execFclkEdge d s) :=
  .ite .fault (.next ((hs.fclkStep hm).ite hs))
protected theorem OutKeeps.execRelease {q} (hs : Keeps A s₀ s) : OutKeeps A s₀ (execRelease q s) :=
  .ite .fault <|
  .ite (.next hs) <|
  .next (hs.testReleases.haltOnFaults.ite (hs.testReleases.endSlip.presentDue.ite hs.testReleases))
protected theorem OutKeeps.execSlipEnd {d} (hs : Keeps A s₀ s) : OutKeeps A s₀ (execSlipEnd d s) :=
  .ite .fault (.next (hs.endSlip.ite hs))
protected theorem OutKeeps.execSlipLimit {d} (hs : Keeps A s₀ s) : OutKeeps A s₀ (execSlipLimit d s) :=
  .ite .fault (.next (hs.clockFault.haltOnFaults.ite hs))
protected theorem OutKeeps.execWaitTimeout {d i} (hs : Keeps A s₀ s) : OutKeeps A s₀ (execWaitTimeout d i s) := by
  refine .ite .fault ?_
  dsimp only
  split
  · exact .next hs
  · exact .next ((hs.onceAt (fun _ hs => hs.bellFault)).ite hs)
protected theorem OutKeeps.execIdleStrikeApply {p} (hs : Keeps A s₀ s) : OutKeeps A s₀ (execIdleStrikeApply p s) :=
  .ite .fault (.next (hs.idleApply.ite hs))
protected theorem OutKeeps.execThrottleWindow {d} (hs : Keeps A s₀ s) : OutKeeps A s₀ (execThrottleWindow d s) :=
  .ite .fault (.next (hs.openWindow.ite hs))
protected theorem OutKeeps.execSample {unit} (hs : Keeps A s₀ s) (hm : A.sram) : OutKeeps A s₀ (execSample unit s) :=
  .ite .fault <| .ite (.next hs) (.next ((hs.endSlip.edgeWork hm).sampleUnit.ite hs))
protected theorem OutKeeps.execSwitchEnd {d} (hs : Keeps A s₀ s) : OutKeeps A s₀ (execSwitchEnd d s) := by
  refine .ite .fault (.next ?_)
  split
  · exact hs.switchEnd
  · exact hs
protected theorem OutKeeps.execRunEnd {d} (hs : Keeps A s₀ s) : OutKeeps A s₀ (execRunEnd d s) := by
  refine .ite .fault (.next ?_)
  split
  · exact hs.runEnd
  · exact hs
protected theorem OutKeeps.execTollStart {d} (hs : Keeps A s₀ s) : OutKeeps A s₀ (execTollStart d s) := by
  refine .ite .fault ?_
  split
  · exact .next hs
  · split
    · exact .next hs
    · exact .next (hs.pendDue.ite hs)
protected theorem OutKeeps.execClassChangeDone {d} (hs : Keeps A s₀ s) : OutKeeps A s₀ (execClassChangeDone d s) := by
  refine .ite .fault ?_
  dsimp only
  split
  · exact .next hs
  · exact .next (hs.setCls.setDomRt.setPln.ite hs.setCls.setDomRt)
protected theorem OutKeeps.execClassLock {d} (hs : Keeps A s₀ s) : OutKeeps A s₀ (execClassLock d s) :=
  .ite .fault (.next (hs.clockFault.haltOnFaults.ite hs))

end Sys2Proof.Proofs
end

section
/-! PROOFS. What the operations of Sys2Proof/Machine/Toll.lean keep. -/

namespace Sys2Proof.Proofs

open Sys2Proof Sys2Proof.Machine Sys2Proof.Laws

set_option Elab.async false

variable {A : Areas} {s₀ s t : State}

protected theorem Keeps.replaceRef (hs : Keeps A s₀ s) : Keeps A s₀ (replaceRef s) := by
  unfold replaceRef
  dsimp only
  split
  · exact hs.setToll.setTollState
  · exact hs.setToll.setTollState
protected theorem Keeps.refreshDepth (hs : Keeps A s₀ s) : Keeps A s₀ (refreshDepth s) :=
  hs.put
protected theorem Keeps.writeTolCtl {w v} (hs : Keeps A s₀ s) : Keeps A s₀ (writeTolCtl w v s) :=
  have hs := hs.setReg.replaceRef.ite hs.setReg; hs.refreshDepth.refuse.ite hs.refreshDepth
protected theorem Keeps.writeSetsec {w v} (hs : Keeps A s₀ s) : Keeps A s₀ (writeSetsec w v s) :=
  hs.refuse.ite hs.setToll
protected theorem ResKeeps.bodyTollSet {c} (hs : Keeps A s₀ s) : ResKeeps A s₀ (bodyTollSet c s) :=
  .ite (.no hs) <|
  .ite (.no hs) <|
  .ite (.no hs) <|
  have hs := hs.writeTolCtl.ite hs
  have hs := hs.setReg.ite hs
  have hs := hs.setReg.ite hs; have hs := hs.writeSetsec.ite hs; .done (hs.setReg.ite hs)
protected theorem OutKeeps.execTollSet {c} (hs : Keeps A s₀ s) : OutKeeps A s₀ (execTollSet c s) :=
  .next (hs.runCmd (fun _ _ hs => .bodyTollSet hs))
protected theorem ResKeeps.bodyTollQuery {x} (hs : Keeps A s₀ s) : ResKeeps A s₀ (bodyTollQuery x s) :=
  .done hs
protected theorem OutKeeps.execTollQuery {c} (hs : Keeps A s₀ s) : OutKeeps A s₀ (execTollQuery c s) :=
  .next (hs.runCmd (fun _ _ hs => .bodyTollQuery hs))
protected theorem Keeps.sendToll {port typ seq interval t' echo} (hs : Keeps A s₀ s) :
    Keeps A s₀ (sendToll port typ seq interval t' echo s) :=
  hs.queueCtl
protected theorem OutKeeps.execSyncSend {port} (hs : Keeps A s₀ s) : OutKeeps A s₀ (execSyncSend port s) :=
  .ite .fault <| .ite (.next hs) (.next hs.setToll.sendToll)
protected theorem OutKeeps.execSync {port m} (hs : Keeps A s₀ s) : OutKeeps A s₀ (execSync port m s) :=
  .ite .fault <|
  .ite (.next hs) <|
  have hs := hs.setToll.put.refreshDepth.setBit.ite hs.setToll.put.refreshDepth
  .next (hs.setBit.refRegained.setTollState.ite hs.setBit.refRegained).sendToll
protected theorem OutKeeps.execDreq {port m} (hs : Keeps A s₀ s) : OutKeeps A s₀ (execDreq port m s) :=
  .ite .fault <| .ite (.next hs) (.next hs.sendToll)
protected theorem OutKeeps.execDresp {port m} (hs : Keeps A s₀ s) : OutKeeps A s₀ (execDresp port m s) := by
  refine .ite .fault <| .ite (.next hs) ?_
  split
  · exact .next hs
  · exact .ite (.next hs) <| .ite (.next hs.setToll.setReg.countSat) (.next hs.setToll.setReg.newOffset)
protected theorem OutKeeps.execReferenceLost {cause} (hs : Keeps A s₀ s) :
    OutKeeps A s₀ (execReferenceLost cause s) :=
  .next (hs.refLost.ite hs)
protected theorem OutKeeps.execHoldoverLimit (hs : Keeps A s₀ s) : OutKeeps A s₀ (execHoldoverLimit s) :=
  .next (hs.setTollState.ite hs)
protected theorem OutKeeps.execPpsEdge (hs : Keeps A s₀ s) : OutKeeps A s₀ (execPpsEdge s) :=
  .ite (.next hs) <|
  .ite (.next (hs.countSat.setToll.refLost.ite hs.countSat.setToll)) <|
  have hs := hs.setToll.setToll.refRegained.ite hs.setToll
  by
    dsimp only
    split
    · exact .next (hs.setToll.setTime.takeOff.setToll.ite hs.setToll.setTime.newOffset)
    · exact .next hs.newOffset
protected theorem Keeps.lanesMove (hs : Keeps A s₀ s) : Keeps A s₀ (lanesMove s) :=
  have hs := hs.setToll.forN fun _ _ hs => hs.startTrain.ite hs; hs.emit.ite hs
protected theorem OutKeeps.execTollRefclkLoss (hs : Keeps A s₀ s) : OutKeeps A s₀ (execTollRefclkLoss s) :=
  .next hs.setToll.setBit.refLost.lanesMove
protected theorem OutKeeps.execTollRefclkReturn (hs : Keeps A s₀ s) : OutKeeps A s₀ (execTollRefclkReturn s) :=
  .ite (.next hs) (.next (hs.setToll.setTollState.ite hs.setToll))
protected theorem OutKeeps.execTollRefclkPresent (hs : Keeps A s₀ s) : OutKeeps A s₀ (execTollRefclkPresent s) :=
  .next (hs.setToll.setTollState.ite hs.setToll)

end Sys2Proof.Proofs
end

section
/-! PROOFS. What the operations of Sys2Proof/Machine/Plans.lean keep. -/

namespace Sys2Proof.Proofs

open Sys2Proof Sys2Proof.Machine Sys2Proof.Laws

set_option Elab.async false

variable {A : Areas} {s₀ s t : State}

protected theorem ResKeeps.bodyPlanAdmit {c} (hs : Keeps A s₀ s) : ResKeeps A s₀ (bodyPlanAdmit c s) := by
  refine .ite (.no hs) <| .ite (.no hs) <| .ite (.no hs.readBytes) <| .ite (.no hs.readBytes) ?_
  split
  · exact .fail hs.readBytes
  · exact .long hs.readBytes
protected theorem OutKeeps.execPlanAdmit {c} (hs : Keeps A s₀ s) : OutKeeps A s₀ (execPlanAdmit c s) :=
  .next (hs.runCmd (fun _ _ hs => .bodyPlanAdmit hs))
protected theorem Keeps.storeImage {p i} (hs : Keeps A s₀ s) : Keeps A s₀ (storeImage p i s) :=
  hs.same
protected theorem OutKeeps.execPlanAdmitDone {i} (hs : Keeps A s₀ s) : OutKeeps A s₀ (execPlanAdmitDone i s) := by
  unfold execPlanAdmitDone
  split
  · exact .next hs
  · exact .next hs.storeImage.finishO
protected theorem Keeps.showSlots {r} (hs : Keeps A s₀ s) : Keeps A s₀ (showSlots r s) :=
  hs.forL fun _ _ hs => hs.setReg.setReg
protected theorem Keeps.hideSlots {r} (hs : Keeps A s₀ s) : Keeps A s₀ (hideSlots r s) :=
  hs.forL fun _ _ hs => hs.clearReg.clearReg
protected theorem Keeps.setResidents {l} (hs : Keeps A s₀ s) : Keeps A s₀ (setResidents l s) :=
  hs.same
protected theorem Keeps.evict {r} (hs : Keeps A s₀ s) : Keeps A s₀ (evict r s) :=
  hs.setResidents.hideSlots.refreshGovs
protected theorem Keeps.dropResume {p} (hs : Keeps A s₀ s) : Keeps A s₀ (dropResume p s) :=
  (hs.endWaiters.ite hs).setDomRt.leaveRun.setDomRt.setPend.ite hs
protected theorem ResKeeps.bodyPlanLoad {c} (hs : Keeps A s₀ s) : ResKeeps A s₀ (bodyPlanLoad c s) := by
  unfold bodyPlanLoad
  dsimp only
  split
  · exact .no hs
  · split
    · exact .no hs
    · refine .ite (.no hs) <| .ite (.no hs) <| .ite (.no hs) ?_
      split
      · exact .no hs
      · exact .long hs.setResidents.showSlots.dropResume
protected theorem OutKeeps.execPlanLoad {c} (hs : Keeps A s₀ s) : OutKeeps A s₀ (execPlanLoad c s) :=
  .next (hs.runCmd (fun _ _ hs => .bodyPlanLoad hs))
protected theorem Keeps.storageFault {d kind unit detail} (hs : Keeps A s₀ s) :
    Keeps A s₀ (storageFault d kind unit detail s) :=
  hs.addFault
protected theorem Keeps.slotError {bad} (hs : Keeps A s₀ s) : Keeps A s₀ (slotError bad s) := by
  refine hs.ite ?_
  dsimp only
  split
  · exact hs
  · exact hs.eccCapture.storageFault.ite hs.eccCapture.setBit.setBit.errFlag
protected theorem OutKeeps.execContextLoadDone {i bad} (hs : Keeps A s₀ s) :
    OutKeeps A s₀ (execContextLoadDone i bad s) := by
  unfold execContextLoadDone
  split
  · exact .next hs
  · refine .ite (.next hs.slotError) ?_
    dsimp only
    split
    · exact .next hs.slotError.finishO
    · exact .next hs.slotError.setResidents.showSlots.refreshGovs.demoteHold.finishO
protected theorem Keeps.pinPolicy {p cls} (hs : Keeps A s₀ s) : Keeps A s₀ (pinPolicy p cls s) :=
  hs.stagePolicy
protected theorem ResKeeps.bodyPlanStart {c} (hs : Keeps A s₀ s) : ResKeeps A s₀ (bodyPlanStart c s) := by
  unfold bodyPlanStart
  dsimp only
  split
  · exact .no hs
  · exact .ite (.no hs) <|
      .ite (.no hs) <|
      .ite (.no hs) <|
      .ite (.no hs) <|
      .ite (.no hs) <|
      .ite (.no hs) <|
      .ite (.no hs) <|
      .ite (.no hs) <| .ite (.no hs.pinPolicy) <| .ite (.no hs) (.long (hs.ite hs.dropResume).setDomRt.setPend)
protected theorem OutKeeps.execPlanStart {c} (hs : Keeps A s₀ s) : OutKeeps A s₀ (execPlanStart c s) :=
  .next (hs.runCmd (fun _ _ hs => .bodyPlanStart hs))
protected theorem Keeps.askSwitch {d id cls} (hs : Keeps A s₀ s) : Keeps A s₀ (askSwitch d id cls s) :=
  hs.setDomRt.setPend
protected theorem ResKeeps.bodyPlanSwitch {c} (hs : Keeps A s₀ s) : ResKeeps A s₀ (bodyPlanSwitch c s) := by
  refine .ite (.no hs) <| .ite (.no hs) <| .ite (.no hs) ?_
  split
  · exact .no hs
  · exact .ite (.no hs) <| .ite (.no hs) <| .ite (.no hs.pinPolicy) (.long hs.askSwitch)
protected theorem OutKeeps.execPlanSwitch {c} (hs : Keeps A s₀ s) : OutKeeps A s₀ (execPlanSwitch c s) :=
  .next (hs.runCmd (fun _ _ hs => .bodyPlanSwitch hs))
protected theorem Keeps.writePlnSwitch {p w v} (hs : Keeps A s₀ s) : Keeps A s₀ (writePlnSwitch p w v s) := by
  refine hs.put.ite (hs.refuse.ite (hs.put.ite (hs.put.refuse.ite ?_)))
  split
  · exact hs.put.refuse
  · exact hs.put.refuse.ite hs.put.setBit.askSwitch
protected theorem ResKeeps.bodyPlanEvict {c} (hs : Keeps A s₀ s) : ResKeeps A s₀ (bodyPlanEvict c s) := by
  unfold bodyPlanEvict
  dsimp only
  split
  · exact .no hs
  · refine .ite (.no hs) (.done (.evict ?_))
    split
    · exact hs.dropResume.ite hs
    · exact hs
protected theorem OutKeeps.execPlanEvict {c} (hs : Keeps A s₀ s) : OutKeeps A s₀ (execPlanEvict c s) :=
  .next (hs.runCmd (fun _ _ hs => .bodyPlanEvict hs))
protected theorem ResKeeps.bodyPlanStop {c} (hs : Keeps A s₀ s) : ResKeeps A s₀ (bodyPlanStop c s) :=
  .ite (.no hs) <| .ite (.no hs) (.long hs)
protected theorem OutKeeps.execPlanStop {c} (hs : Keeps A s₀ s) : OutKeeps A s₀ (execPlanStop c s) :=
  .next (hs.runCmd (fun _ _ hs => .bodyPlanStop hs))
protected theorem Keeps.clearDomain {d} (hs : Keeps A s₀ s) : Keeps A s₀ (clearDomain d s) :=
  (hs.planBoundary.forL fun _ _ hs => hs.evict).setPln
protected theorem ResKeeps.bodyPlanClear {c} (hs : Keeps A s₀ s) : ResKeeps A s₀ (bodyPlanClear c s) :=
  .ite (.no hs) <| .ite (.no hs) (.done hs.clearDomain)
protected theorem OutKeeps.execPlanClear {c} (hs : Keeps A s₀ s) : OutKeeps A s₀ (execPlanClear c s) :=
  .next (hs.runCmd (fun _ _ hs => .bodyPlanClear hs))

end Sys2Proof.Proofs
end

section
/-! PROOFS. What the operations of Sys2Proof/Machine/KeyState.lean keep. -/

namespace Sys2Proof.Proofs

open Sys2Proof Sys2Proof.Machine Sys2Proof.Laws

set_option Elab.async false

variable {A : Areas} {s₀ s t : State}

protected theorem Keeps.setSession {h x} (hs : Keeps A s₀ s) (ht : A.trust) : Keeps A s₀ (setSession h x s) :=
  hs.setTrust ht
protected theorem Keeps.refreshKeys {p} (hs : Keeps A s₀ s) : Keeps A s₀ (refreshKeys p s) :=
  hs.setReg.setReg
protected theorem Keeps.refreshHolder {h} (hs : Keeps A s₀ s) : Keeps A s₀ (refreshHolder h s) :=
  hs.refreshKeys.ite hs
protected theorem Keeps.closeSession {h} (hs : Keeps A s₀ s) (ht : A.trust) : Keeps A s₀ (closeSession h s) :=
  (hs.setSession ht).refreshHolder
protected theorem Keeps.destroyKeys {p} (hs : Keeps A s₀ s) (hk : A.keys) (ht : A.trust) :
    Keeps A s₀ (destroyKeys p s) :=
  ((hs.forL fun _ _ hs => hs.setChRt).setKeys hk).closeSession ht
protected theorem Keeps.dropStaging {h} (hs : Keeps A s₀ s) (hk : A.keys) (ht : A.trust) :
    Keeps A s₀ (dropStaging h s) :=
  (hs.setKeys hk).closeSession ht
protected theorem Keeps.drawKey (hs : Keeps A s₀ s) : Keeps A s₀ (drawKey s).2 :=
  hs.bump
protected theorem Keeps.freshOperatorKey {h} (hs : Keeps A s₀ s) (hk : A.keys) : Keeps A s₀ (freshOperatorKey h s) :=
  hs.drawKey.setKeys hk
protected theorem Keeps.refreshTrust (hs : Keeps A s₀ s) : Keeps A s₀ (refreshTrust s) :=
  hs.put.put.put.setReg
protected theorem Keeps.endToken (hs : Keeps A s₀ s) (ht : A.trust) : Keeps A s₀ (endToken s) :=
  hs.clearReg.setBit.setTrust ht

end Sys2Proof.Proofs
end

section
/-! PROOFS. What the operations of Sys2Proof/Machine/BellCmds.lean keep. -/

namespace Sys2Proof.Proofs

open Sys2Proof Sys2Proof.Machine Sys2Proof.Laws

set_option Elab.async false

variable {A : Areas} {s₀ s t : State}

protected theorem Keeps.hostCount {b v} (hs : Keeps A s₀ s) : Keeps A s₀ (hostCount b v s) :=
  (hs.setQueueRt.setBit.ite hs.setQueueRt).setReg
protected theorem Keeps.writeBell {b which w v} (hs : Keeps A s₀ s) : Keeps A s₀ (writeBell b which w v s) := by
  refine hs.refuse.ite (hs.refuse.ite ?_)
  split
  · exact hs.hostCount
  · exact hs.setReg
  · exact hs.refuse.ite hs.setReg
protected theorem Keeps.writeStrk {w v} (hs : Keeps A s₀ s) : Keeps A s₀ (writeStrk w v s) :=
  hs.ite (hs.refuse.ite hs.sendStrike)
protected theorem ResKeeps.bodyBellSet {c} (hs : Keeps A s₀ s) : ResKeeps A s₀ (bodyBellSet c s) :=
  .ite (.no hs) <|
  .ite (.no hs) <|
  .ite (.no hs) <|
  have hs := hs.hostCount.ite hs; have hs := hs.setReg.ite hs; have hs := hs.setReg.ite hs; .done (hs.setBit.ite hs)
protected theorem OutKeeps.execBellSet {c} (hs : Keeps A s₀ s) : OutKeeps A s₀ (execBellSet c s) :=
  .next (hs.runCmd (fun _ _ hs => .bodyBellSet hs))
protected theorem ResKeeps.bodyBellStrike {c} (hs : Keeps A s₀ s) : ResKeeps A s₀ (bodyBellStrike c s) :=
  .ite (.no hs) (.done hs.sendStrike)
protected theorem OutKeeps.execBellStrike {c} (hs : Keeps A s₀ s) : OutKeeps A s₀ (execBellStrike c s) :=
  .next (hs.runCmd (fun _ _ hs => .bodyBellStrike hs))
protected theorem ResKeeps.bodyBellWait {c} (hs : Keeps A s₀ s) : ResKeeps A s₀ (bodyBellWait c s) :=
  .ite (.no hs) <| .ite (.no hs) <| .ite (.no hs) (.long hs)
protected theorem OutKeeps.execBellWait {c} (hs : Keeps A s₀ s) : OutKeeps A s₀ (execBellWait c s) :=
  .next (hs.runCmd (fun _ _ hs => .bodyBellWait hs))
protected theorem OutKeeps.execBellWaitEnd {i} (hs : Keeps A s₀ s) : OutKeeps A s₀ (execBellWaitEnd i s) := by
  unfold execBellWaitEnd
  split
  · exact .next hs
  · exact .next (hs.finishO.ite hs)
protected theorem OutKeeps.execBellWaitTimeout {i} (hs : Keeps A s₀ s) : OutKeeps A s₀ (execBellWaitTimeout i s) := by
  unfold execBellWaitTimeout
  split
  · exact .next hs
  · exact .next (hs.ite hs.finishO)

end Sys2Proof.Proofs
end

section
/-! PROOFS. What the operations of Sys2Proof/Machine/Roll.lean keep. -/

namespace Sys2Proof.Proofs

open Sys2Proof Sys2Proof.Machine Sys2Proof.Laws

set_option Elab.async false

variable {A : Areas} {s₀ s t : State}

protected theorem Keeps.countBlock (hs : Keeps A s₀ s) : Keeps A s₀ (countBlock s) :=
  hs.countDevice
protected theorem Keeps.countFallback {r fell} (hs : Keeps A s₀ s) : Keeps A s₀ (countFallback r fell s) :=
  hs.countSat.ite hs
protected theorem Keeps.rollEnter {x ws} (hs : Keeps A s₀ s) : Keeps A s₀ (rollEnter x ws s) :=
  hs.same
protected theorem Keeps.rollFail {r code seq x} (hs : Keeps A s₀ s) : Keeps A s₀ (rollFail r code seq x s) :=
  hs.capture.rollEnter.putDma
protected theorem Keeps.rollInBlock {r x} (hs : Keeps A s₀ s) : Keeps A s₀ (rollInBlock r x s) :=
  hs.ite
    (hs.rollFail.countBlock.ite
       (hs.ite (hs.countBlock.rollFail.ite (hs.countBlock.rollFail.ite hs.countBlock.rollEnter.putDma))))
protected theorem Keeps.rollWrite {x last} (hs : Keeps A s₀ s) : Keeps A s₀ (rollWrite x last s).2 :=
  have hs := hs.writeBytes.countDevice.countUnit; (hs.memFault.ite hs).lineTap.forL fun _ _ hs => hs.refreshReads
protected theorem Keeps.rollOutBlock {r bad x} (hs : Keeps A s₀ s) : Keeps A s₀ (rollOutBlock r bad x s) :=
  hs.ite hs.rollWrite.countFallback.countBlock.putDma
protected theorem Keeps.rollChanBlock {e n ev} (hs : Keeps A s₀ s) : Keeps A s₀ (rollChanBlock e n ev s) :=
  have hs := hs.setChRt.refreshFull
  hs.ite ((hs.setChRt.forN (fun _ _ hs => hs.loseTo)).ite hs.setChRt.countFallback.countBlock)
protected theorem Keeps.stopJob {r} (hs : Keeps A s₀ s) : Keeps A s₀ (execRollBlock.stopJob r s) :=
  hs.setBit.setBit.setBit.finishWhere
protected theorem OutKeeps.execRollBlock {r ev} (hs : Keeps A s₀ s) : OutKeeps A s₀ (execRollBlock r ev s) :=
  .ite .fault <|
  .ite (.next hs) <|
  have hs := hs.forL fun _ _ hs => hs.pumpAll
  have hs := hs.stopJob.ite hs
  .next (by
    split
    · exact hs.rollChanBlock
    · split
      · exact hs
      · exact hs.storageFault.ite (hs.rollOutBlock.ite hs.rollInBlock))
protected theorem Keeps.jobIrq {r} (hs : Keeps A s₀ s) : Keeps A s₀ (jobIrq r s) :=
  hs.raise.ite hs.raise
protected theorem Keeps.startJob {r} (hs : Keeps A s₀ s) : Keeps A s₀ (startJob r s) :=
  hs.setBit.setBit.setBit.put.setReg.setReg.setReg
protected theorem Keeps.writeJctl {r w v} (hs : Keeps A s₀ s) : Keeps A s₀ (writeJctl r w v s) :=
  have hs := hs.setBit.ite hs; (hs.refuse.ite hs).ite (hs.setReg.ite (hs.setReg.refuse.ite hs.setReg.startJob))
protected theorem OutKeeps.execRollJobDone {r} (hs : Keeps A s₀ s) : OutKeeps A s₀ (execRollJobDone r s) :=
  .ite .fault <|
  .ite (.next hs) <|
  have hs := hs.readBytes.writeBytes.writeBytes.ite hs.readBytes.writeBytes
  have hs := hs.setBit.setBit.put.setBit.setReg.setReg.setReg.countSat.countDevice
  .next (hs.forL fun _ _ hs => hs.finishO).jobIrq
protected theorem ResKeeps.bodyRollJob {c} (hs : Keeps A s₀ s) : ResKeeps A s₀ (bodyRollJob c s) :=
  .ite (.no hs) <| .ite (.no hs) <| .ite (.no hs) (.long hs.setReg.setReg.setReg.setReg.setReg.setReg.startJob)
protected theorem OutKeeps.execRollJob {c} (hs : Keeps A s₀ s) : OutKeeps A s₀ (execRollJob c s) :=
  .next (hs.runCmd (fun _ _ hs => .bodyRollJob hs))
protected theorem ResKeeps.bodyRollGrant {c} (hs : Keeps A s₀ s) : ResKeeps A s₀ (bodyRollGrant c s) :=
  .ite (.no hs) <| .ite (.no hs) <| .ite (.no hs) <| .ite (.no hs) (.done hs.put.put)
protected theorem OutKeeps.execRollGrant {c} (hs : Keeps A s₀ s) : OutKeeps A s₀ (execRollGrant c s) :=
  .next (hs.runCmd (fun _ _ hs => .bodyRollGrant hs))
protected theorem Keeps.writeRolCtl {r w v} (hs : Keeps A s₀ s) : Keeps A s₀ (writeRolCtl r w v s) :=
  have hs := hs.ite (hs.refuse.ite (hs.refuse.ite (hs.refuse.ite hs.put.put)))
  hs.ite (hs.refuse.ite (hs.refuse.ite (hs.put.refuse.ite hs.put.put)))
protected theorem Keeps.abortEngines {p ungrant} (hs : Keeps A s₀ s) : Keeps A s₀ (abortEngines p ungrant s) := by
  refine hs.forN fun r s hs => .ite ?_ hs
  extract_lets s₁ s₂ s₃
  have h₁ : Keeps A s₀ s₁ := hs.setBit.setBit.finishWhere.ite hs
  have h₂ : Keeps A s₀ s₂ := h₁.forN fun _ _ hs => hs.dropChannel.ite hs
  clear_value s₂
  have h₃ : Keeps A s₀ s₃ := h₂.same
  exact h₃.put.ite h₃

end Sys2Proof.Proofs
end

section
/-! PROOFS. What the operations of Sys2Proof/Machine/Partition.lean keep. -/

namespace Sys2Proof.Proofs

open Sys2Proof Sys2Proof.Machine Sys2Proof.Laws

set_option Elab.async false

variable {A : Areas} {s₀ s t : State}

protected theorem Keeps.clearFnLocal {f pcie} (hs : Keeps A s₀ s) : Keeps A s₀ (clearFnLocal f pcie s) :=
  hs.dropRegs.setFnRt
protected theorem Keeps.refreshVfEn (hs : Keeps A s₀ s) : Keeps A s₀ (refreshVfEn s) :=
  hs.put
protected theorem Keeps.endPartCmds {p} (hs : Keeps A s₀ s) : Keeps A s₀ (endPartCmds p s) :=
  hs.finishWhere
protected theorem Keeps.dropPends {mask} (hs : Keeps A s₀ s) : Keeps A s₀ (dropPends mask s) := by
  refine hs.forN fun _ _ hs => ?_
  split
  · exact hs.ite hs.setDomRt.setPend.endWaiters
  · exact hs
protected theorem Keeps.stopDomain {d} (hs : Keeps A s₀ s) : Keeps A s₀ (stopDomain d s) :=
  have hs := hs.haltOnFaults.ite hs; (hs.closeStopped.ite hs).endWaiters.clearRun.planBoundary.clearRun
protected theorem Keeps.haltParts {mask} (hs : Keeps A s₀ s) : Keeps A s₀ (haltParts mask s).2 :=
  hs.foldlSnd fun _ _ hs => hs.stopDomain.putParts.splitIdle.forL fun _ _ hs => hs.splitIdle
protected theorem Keeps.evictMask {mask} (hs : Keeps A s₀ s) : Keeps A s₀ (evictMask mask s) := by
  refine (hs.dropPends.forN fun _ _ hs => hs.dropResume.ite ?_).forL fun _ _ hs => hs.evict
  split
  · split
    · exact hs.ite hs.dropResume
    · exact hs
  · exact hs
protected theorem Keeps.haltOwn {mask out reason} (hs : Keeps A s₀ s) : Keeps A s₀ (haltOwn mask out reason s) :=
  hs.forN fun _ _ hs => hs.stageOwnctx.ite (hs.stageOwnctx.ite hs)
protected theorem Keeps.holderHalt {mask} (hs : Keeps A s₀ s) : Keeps A s₀ (holderHalt mask s) :=
  (hs.haltParts.evictMask.forL fun _ _ hs => hs.put.setBit).refreshVfEn.haltOwn
protected theorem Keeps.clearChannel {n} (hs : Keeps A s₀ s) : Keeps A s₀ (clearChannel n s) :=
  hs.dropChannel.dropRegs
protected theorem Keeps.stopRekey {h} (hs : Keeps A s₀ s) : Keeps A s₀ (stopRekey h s) :=
  hs.setBit.setBit.ite hs
protected theorem Keeps.quiescePart {ungrant pcie p} (hs : Keeps A s₀ s) :
    Keeps A s₀ (quiescePart ungrant pcie p s) :=
  have hs := hs.endPartCmds.clearFnLocal.drainStaged.clearChannel.clearChannel.abortEngines
  (hs.ite (hs.forL (fun _ _ hs => hs.coverRegs))).stopRekey
protected theorem Keeps.erasePart {fresh p} (hs : Keeps A s₀ s) (hk : A.keys) (ht : A.trust) :
    Keeps A s₀ (erasePart fresh p s) :=
  have hs := hs.destroyKeys hk ht; ((hs.freshOperatorKey hk).ite hs).same
protected theorem Keeps.scrubPart {p} (hs : Keeps A s₀ s) (hm : A.sram) : Keeps A s₀ (scrubPart p s) :=
  ((hs.clearNet.clearCus.clearMus.scrubSram hm).forN fun _ _ hs => hs.setQueueRt).same.resetBells.clearHolderCtrs
protected theorem Keeps.portToKey {n} (hs : Keeps A s₀ s) : Keeps A s₀ (portToKey n s) :=
  hs.setLnkState.ite hs
protected theorem Keeps.tablesPart {regions p} (hs : Keeps A s₀ s) : Keeps A s₀ (tablesPart regions p s) :=
  ((hs.dropRegs.ite hs).coverRegs.setDomRt.forL fun _ _ hs => hs.portToKey).setBit.stopAtOnce
protected theorem Keeps.scrubMask {mask bad} (hs : Keeps A s₀ s) (hm : A.sram) : Keeps A s₀ (scrubMask mask bad s) :=
  hs.forL fun _ _ hs => have hs := hs.scrubPart hm; hs.setPartRt.setBit.ite hs.setPartRt
protected theorem Keeps.startChange {mask tenant zf} (hs : Keeps A s₀ s) :
    Keeps A s₀ (startChange mask tenant zf s) :=
  hs.same.setBit.forL fun _ _ hs => hs.setPartState
protected theorem Keeps.setHolder {h} (hs : Keeps A s₀ s) : Keeps A s₀ (setHolder h s) :=
  hs.same
protected theorem Keeps.endChange {h failed} (hs : Keeps A s₀ s) : Keeps A s₀ (endChange h failed s) :=
  (hs.forL fun _ _ hs => hs.setPartState.setBit.setFnRt).same.setBit.setBit.forL fun _ _ hs => hs.finishO
protected theorem Keeps.assignPart {tenant p} (hs : Keeps A s₀ s) : Keeps A s₀ (assignPart tenant p s) :=
  (hs.put.setReg.dropRegs.forL fun _ _ hs => hs.setBit.clearReg).same.refreshKeys
protected theorem Keeps.doAssign {h} (hs : Keeps A s₀ s) (ht : A.trust) : Keeps A s₀ (doAssign h s) :=
  have hs := hs.forL fun _ _ hs => hs.assignPart; ((hs.endToken ht).ite hs).stageOwnctx.endChange
protected theorem Keeps.zeroStack {h} (hs : Keeps A s₀ s) : Keeps A s₀ (zeroStack h s) :=
  hs.forN fun _ _ hs => hs.ite (hs.forN fun _ _ hs => hs.setCell)
protected theorem Keeps.phaseWork {h bad} (hs : Keeps A s₀ s) (hk : A.keys) (ht : A.trust) (hm : A.sram) :
    Keeps A s₀ (phaseWork h bad s) := by
  unfold phaseWork
  dsimp only
  split
  · exact hs.holderHalt.setHolder
  · exact (hs.forL fun _ _ hs => hs.quiescePart).setHolder
  · exact (hs.forL fun _ _ hs => hs.erasePart hk ht).setHolder
  · exact (hs.scrubMask hm).setHolder
  · exact have hs := hs.forL fun _ _ hs => hs.tablesPart
      hs.endChange.ite ((hs.forL (fun _ _ hs => hs.setBit)).setHolder.ite hs.setHolder)
  · exact hs
  · exact hs.endChange.ite (hs.doAssign ht)
protected theorem OutKeeps.execHolderChangePhaseEnd {bad} (hs : Keeps A s₀ s) (hk : A.keys) (ht : A.trust)
    (hm : A.sram) :
    OutKeeps A s₀ (execHolderChangePhaseEnd bad s) := by
  unfold execHolderChangePhaseEnd
  split
  · exact .next hs
  · exact .next (hs.phaseWork hk ht hm)
protected theorem OutKeeps.execZfill (hs : Keeps A s₀ s) : OutKeeps A s₀ (execZfill s) := by
  unfold execZfill
  split
  · exact .next hs
  · exact .ite (.next hs) <|
      have hs := hs.forL fun _ _ hs => (hs.ite hs.zeroStack).setBit; .next (hs.endChange.ite hs.setHolder)
protected theorem ResKeeps.bodyPartAssign {c} (hs : Keeps A s₀ s) : ResKeeps A s₀ (bodyPartAssign c s) := by
  unfold bodyPartAssign
  dsimp only
  split
  · exact .no hs
  · exact .long hs.startChange
protected theorem OutKeeps.execPartAssign {c} (hs : Keeps A s₀ s) : OutKeeps A s₀ (execPartAssign c s) :=
  .next (hs.runCmd (fun _ _ hs => .bodyPartAssign hs))
protected theorem Keeps.writePartSwitch {w v} (hs : Keeps A s₀ s) : Keeps A s₀ (writePartSwitch w v s) :=
  hs.refuse.ite (have hs := hs.put.put.refuse.ite hs.put.put.put; hs.ite (hs.refuse.ite (by
    dsimp only
    split
    · exact hs.refuse
    · exact hs.startChange.setBit)))
protected theorem Keeps.startReset {p erase pcie} (hs : Keeps A s₀ s) : Keeps A s₀ (startReset p erase pcie s) :=
  hs.setPartState.haltParts.evictMask.haltOwn.quiescePart.setPartRt
protected theorem Keeps.endReset {p bad} (hs : Keeps A s₀ s) (hk : A.keys) (ht : A.trust) (hm : A.sram) :
    Keeps A s₀ (endReset p bad s) :=
  (((hs.erasePart hk ht).ite (hs.dropStaging hk ht)).scrubMask hm).tablesPart.setPartRt.setPartState.setBit.setFnRt.forL
    (fun _ _ hs => hs.finishO)
protected theorem OutKeeps.execPartitionResetEnd {p bad} (hs : Keeps A s₀ s) (hk : A.keys) (ht : A.trust)
    (hm : A.sram) :
    OutKeeps A s₀ (execPartitionResetEnd p bad s) :=
  .ite .fault <| .ite (.next (hs.endReset hk ht hm)) <| .ite (.next hs.setFnRt) (.next hs)
protected theorem ResKeeps.bodyPartReset {c} (hs : Keeps A s₀ s) : ResKeeps A s₀ (bodyPartReset c s) :=
  .ite (.no hs) (.long hs.startReset)
protected theorem OutKeeps.execPartReset {c} (hs : Keeps A s₀ s) : OutKeeps A s₀ (execPartReset c s) :=
  .next (hs.runCmd (fun _ _ hs => .bodyPartReset hs))
protected theorem Keeps.writePartCtl {p w v} (hs : Keeps A s₀ s) : Keeps A s₀ (writePartCtl p w v s) :=
  hs.refuse.ite
    (hs.put.put.refreshVfEn.ite (hs.put.put.refreshVfEn.setBit.ite hs.put.put.refreshVfEn.setBit.startReset))
protected theorem OutKeeps.execFunctionReset {fn} (hs : Keeps A s₀ s) : OutKeeps A s₀ (execFunctionReset fn s) :=
  .ite .fault <|
  .ite (.next hs) <|
  .ite (.next hs.setFnRt) <| .ite (.next hs.setFnRt.startReset) (.next hs.setFnRt.finishWhere.clearFnLocal)
protected theorem ResKeeps.bodyPartExpert {c} (hs : Keeps A s₀ s) : ResKeeps A s₀ (bodyPartExpert c s) :=
  .ite (.no hs) (.done hs.setBit.refreshVfEn)
protected theorem OutKeeps.execPartExpert {c} (hs : Keeps A s₀ s) : OutKeeps A s₀ (execPartExpert c s) :=
  .next (hs.runCmd (fun _ _ hs => .bodyPartExpert hs))
protected theorem ResKeeps.bodyPartQuery {c} (hs : Keeps A s₀ s) : ResKeeps A s₀ (bodyPartQuery c s) :=
  .done hs
protected theorem OutKeeps.execPartQuery {c} (hs : Keeps A s₀ s) : OutKeeps A s₀ (execPartQuery c s) :=
  .next (hs.runCmd (fun _ _ hs => .bodyPartQuery hs))

end Sys2Proof.Proofs
end

section
/-! PROOFS. What the operations of Sys2Proof/Machine/MemCmd.lean keep. -/

namespace Sys2Proof.Proofs

open Sys2Proof Sys2Proof.Machine Sys2Proof.Laws

set_option Elab.async false

variable {A : Areas} {s₀ s t : State}

protected theorem Keeps.createRegion {h r ver zf} (hs : Keeps A s₀ s) : Keeps A s₀ (createRegion h r ver zf s) :=
  hs.setBit.put.startSweep.ite hs.setBit.put
protected theorem Keeps.writeRgnA {h r w v} (hs : Keeps A s₀ s) : Keeps A s₀ (writeRgnA h r w v s) :=
  hs.refuse.ite
    (hs.refuse.ite
       (hs.refuse.ite
          (hs.refuse.ite
             (hs.refuse.ite
                (hs.refuse.ite (hs.setReg.ite (hs.setReg.createRegion.ite (hs.setReg.startSweep.ite hs.setReg))))))))
protected theorem Keeps.writeRgnB {h r w v} (hs : Keeps A s₀ s) : Keeps A s₀ (writeRgnB h r w v s) :=
  hs.refuse.ite (hs.refuse.ite (hs.refuse.ite (hs.refuse.ite hs.put)))
protected theorem ResKeeps.bodyRgnSet {c} (hs : Keeps A s₀ s) : ResKeeps A s₀ (bodyRgnSet c s) :=
  .ite (.no hs) <|
  .ite (.no hs) <|
  .ite (.no hs) <| .ite (.no hs) <| .ite (.long hs.setReg.put.createRegion) (.done hs.setReg.put.createRegion)
protected theorem OutKeeps.execRgnSet {c} (hs : Keeps A s₀ s) : OutKeeps A s₀ (execRgnSet c s) :=
  .next (hs.runCmd (fun _ _ hs => .bodyRgnSet hs))
protected theorem ResKeeps.bodyRgnClear {c} (hs : Keeps A s₀ s) : ResKeeps A s₀ (bodyRgnClear c s) :=
  .ite (.no hs) <| .ite (.no hs) (.done hs.setBit)
protected theorem OutKeeps.execRgnClear {c} (hs : Keeps A s₀ s) : OutKeeps A s₀ (execRgnClear c s) :=
  .next (hs.runCmd (fun _ _ hs => .bodyRgnClear hs))
protected theorem ResKeeps.bodyRgnZfill {c} (hs : Keeps A s₀ s) : ResKeeps A s₀ (bodyRgnZfill c s) :=
  .ite (.no hs) <| .ite (.no hs) <| .ite (.no hs) (.long hs.startSweep)
protected theorem OutKeeps.execRgnZfill {c} (hs : Keeps A s₀ s) : OutKeeps A s₀ (execRgnZfill c s) :=
  .next (hs.runCmd (fun _ _ hs => .bodyRgnZfill hs))
protected theorem Keeps.startRekey {h r ver resume} (hs : Keeps A s₀ s) : Keeps A s₀ (startRekey h r ver resume s) :=
  (hs.ite (hs.ite hs.setReg).setRekey).setBit.setBit
protected theorem ResKeeps.bodyRekey {c} (hs : Keeps A s₀ s) : ResKeeps A s₀ (bodyRekey c s) :=
  .ite (.no hs) <| .ite (.no hs) <| .ite (.no hs) <| .ite (.no hs) (.long hs.put.put.startRekey)
protected theorem OutKeeps.execRekeyRegion {c} (hs : Keeps A s₀ s) : OutKeeps A s₀ (execRekeyRegion c s) :=
  .next (hs.runCmd (fun _ _ hs => .bodyRekey hs))
protected theorem Keeps.writeRkCtl {h w v} (hs : Keeps A s₀ s) : Keeps A s₀ (writeRkCtl h w v s) :=
  hs.refuse.ite (have hs := hs.put.put.setBit.ite hs.put.put; hs.ite (hs.refuse.ite hs.startRekey))
protected theorem Keeps.readFrom {src h r off len} (hs : Keeps A s₀ s) : Keeps A s₀ (readFrom src h r off len s).2 :=
  hs.foldlSnd fun _ _ hs => .iteSnd hs (.iteSnd hs hs.memError)
protected theorem ResKeeps.bodyMemRead {c} (hs : Keeps A s₀ s) : ResKeeps A s₀ (bodyMemRead c s) := by
  unfold bodyMemRead
  split
  · exact .no hs
  · split
    · exact .no hs
    · exact .ite (.fail hs.readFrom) <| .ite (.fail hs.readFrom) (.done hs.readFrom.output)
protected theorem OutKeeps.execMemRead {c} (hs : Keeps A s₀ s) : OutKeeps A s₀ (execMemRead c s) :=
  .next (hs.runCmd (fun _ _ hs => .bodyMemRead hs))
protected theorem ResKeeps.bodyMemWrite {c} (hs : Keeps A s₀ s) : ResKeeps A s₀ (bodyMemWrite c s) := by
  unfold bodyMemWrite
  split
  · exact .no hs
  · split
    · exact .no hs
    · exact .done hs.writeFrom
protected theorem OutKeeps.execMemWrite {c} (hs : Keeps A s₀ s) : OutKeeps A s₀ (execMemWrite c s) :=
  .next (hs.runCmd (fun _ _ hs => .bodyMemWrite hs))
protected theorem ResKeeps.bodyDpPush {c} (hs : Keeps A s₀ s) : ResKeeps A s₀ (bodyDpPush c s) := by
  refine .ite (.no hs) <| .ite (.no hs) ?_
  split
  · exact .no hs
  · exact .ite (.done hs) (.long hs)
protected theorem OutKeeps.execDpPush {c} (hs : Keeps A s₀ s) : OutKeeps A s₀ (execDpPush c s) :=
  .next (hs.runCmd (fun _ _ hs => .bodyDpPush hs))
protected theorem OutKeeps.execPushWordEnter {i} (hs : Keeps A s₀ s) : OutKeeps A s₀ (execPushWordEnter i s) := by
  unfold execPushWordEnter
  split
  · exact .next hs
  · exact .ite (.next hs) (.next (hs.updOutst.enterQueue.finishO.ite hs.updOutst.enterQueue))
protected theorem OutKeeps.execPushTimeout {i} (hs : Keeps A s₀ s) : OutKeeps A s₀ (execPushTimeout i s) := by
  unfold execPushTimeout
  split
  · exact .next hs
  · exact .next hs.finishO

end Sys2Proof.Proofs
end

section
/-! PROOFS. What the operations of Sys2Proof/Machine/LinkCmd.lean keep. -/

namespace Sys2Proof.Proofs

open Sys2Proof Sys2Proof.Machine Sys2Proof.Laws

set_option Elab.async false

variable {A : Areas} {s₀ s t : State}

protected theorem Keeps.lanesBack {n} (hs : Keeps A s₀ s) : Keeps A s₀ (lanesBack n s) :=
  hs.ite hs.setToll
protected theorem Keeps.portControl {n en auto retrain} (hs : Keeps A s₀ s) :
    Keeps A s₀ (portControl n en auto retrain s) :=
  have hs := hs.setBit.setBit.setBit.ite hs.setBit.setBit
  (hs.setLnkState.ite hs).ite (hs.lanesBack.startTrain.ite hs)
protected theorem Keeps.writeLnkCtl {n w v} (hs : Keeps A s₀ s) : Keeps A s₀ (writeLnkCtl n w v s) :=
  hs.refuse.ite hs.put.portControl
protected theorem Keeps.assignPort {n valid p} (hs : Keeps A s₀ s) : Keeps A s₀ (assignPort n valid p s) :=
  hs.setBit.put.ite (hs.setBit.put.setLnkState.ite hs.setBit.put)
protected theorem Keeps.writeLnkOwn {n w v} (hs : Keeps A s₀ s) : Keeps A s₀ (writeLnkOwn n w v s) :=
  hs.refuse.ite (hs.refuse.ite (hs.refuse.ite hs.assignPort))
protected theorem Keeps.writeLnkCap {n w v} (hs : Keeps A s₀ s) : Keeps A s₀ (writeLnkCap n w v s) :=
  hs.refuse.ite (hs.setReg.ite hs.setReg.refuse)
protected theorem Keeps.writeImp {n k b w v} (hs : Keeps A s₀ s) : Keeps A s₀ (writeImp n k b w v s) :=
  hs.refuse.ite (hs.refuse.ite (hs.setReg.ite (hs.setReg.refuse.ite hs.setReg)))
protected theorem Keeps.writePealId {w v} (hs : Keeps A s₀ s) : Keeps A s₀ (writePealId w v s) :=
  hs.refuse.ite (hs.refuse.ite hs.setReg)
protected theorem Keeps.writePealCtl {w v} (hs : Keeps A s₀ s) : Keeps A s₀ (writePealCtl w v s) :=
  hs.refuse.ite hs.setReg.demoteHold
protected theorem Keeps.writePealRt {d w v} (hs : Keeps A s₀ s) : Keeps A s₀ (writePealRt d w v s) :=
  hs.refuse.ite (hs.refuse.ite hs.setReg)
protected theorem ResKeeps.bodyLinkCtl {c} (hs : Keeps A s₀ s) : ResKeeps A s₀ (bodyLinkCtl c s) :=
  .ite (.no hs) <| .ite (.no hs) (.done (hs.ite hs.put).portControl)
protected theorem OutKeeps.execLinkCtl {c} (hs : Keeps A s₀ s) : OutKeeps A s₀ (execLinkCtl c s) :=
  .next (hs.runCmd (fun _ _ hs => .bodyLinkCtl hs))
protected theorem ResKeeps.bodyLinkAssign {c} (hs : Keeps A s₀ s) : ResKeeps A s₀ (bodyLinkAssign c s) :=
  .ite (.no hs) <| .ite (.no hs) (.done hs.assignPort)
protected theorem OutKeeps.execLinkAssign {c} (hs : Keeps A s₀ s) : OutKeeps A s₀ (execLinkAssign c s) :=
  .next (hs.runCmd (fun _ _ hs => .bodyLinkAssign hs))
protected theorem ResKeeps.bodyLinkQuery {c} (hs : Keeps A s₀ s) : ResKeeps A s₀ (bodyLinkQuery c s) :=
  .ite (.no hs) <| .ite (.no hs) (.done hs)
protected theorem OutKeeps.execLinkQuery {c} (hs : Keeps A s₀ s) : OutKeeps A s₀ (execLinkQuery c s) :=
  .next (hs.runCmd (fun _ _ hs => .bodyLinkQuery hs))
protected theorem ResKeeps.bodyLinkCapture {c} (hs : Keeps A s₀ s) : ResKeeps A s₀ (bodyLinkCapture c s) :=
  .ite (.no hs) <| .ite (.no hs) (.done (hs.setReg.ite hs.setReg.setReg))
protected theorem OutKeeps.execLinkCapture {c} (hs : Keeps A s₀ s) : OutKeeps A s₀ (execLinkCapture c s) :=
  .next (hs.runCmd (fun _ _ hs => .bodyLinkCapture hs))
protected theorem ResKeeps.bodyLinkImpair {c} (hs : Keeps A s₀ s) : ResKeeps A s₀ (bodyLinkImpair c s) :=
  .ite (.no hs) <| .ite (.no hs) <| .ite (.no hs) (.done (hs.forN (fun _ _ hs => hs.setReg.setReg)))
protected theorem OutKeeps.execLinkImpair {c} (hs : Keeps A s₀ s) : OutKeeps A s₀ (execLinkImpair c s) :=
  .next (hs.runCmd (fun _ _ hs => .bodyLinkImpair hs))
protected theorem ResKeeps.bodyPealSet {c} (hs : Keeps A s₀ s) : ResKeeps A s₀ (bodyPealSet c s) :=
  .ite (.no hs) (have hs := hs.setReg.ite hs; have hs := hs.setReg.ite hs; .done (hs.setReg.demoteHold.ite hs))
protected theorem OutKeeps.execPealSet {c} (hs : Keeps A s₀ s) : OutKeeps A s₀ (execPealSet c s) :=
  .next (hs.runCmd (fun _ _ hs => .bodyPealSet hs))
protected theorem ResKeeps.bodyPealRoute {c} (hs : Keeps A s₀ s) : ResKeeps A s₀ (bodyPealRoute c s) := by
  refine .ite (.no hs) ?_
  split
  · exact .no hs
  · exact .ite (.no hs) (.done (hs.forN fun _ _ hs => hs.setReg))
protected theorem OutKeeps.execPealRoute {c} (hs : Keeps A s₀ s) : OutKeeps A s₀ (execPealRoute c s) :=
  .next (hs.runCmd (fun _ _ hs => .bodyPealRoute hs))

end Sys2Proof.Proofs
end

section
/-! PROOFS. What the operations of Sys2Proof/Machine/Trust.lean keep. -/

namespace Sys2Proof.Proofs

open Sys2Proof Sys2Proof.Machine Sys2Proof.Laws

set_option Elab.async false

variable {A : Areas} {s₀ s t : State}

protected theorem ResKeeps.startUpdate {r c} (hs : Keeps A s₀ s) : ResKeeps A s₀ (startUpdate r c s) :=
  .ite (.no hs) <| .ite (.no hs) (.long hs.setBit)
protected theorem Keeps.activate {b x} (hs : Keeps A s₀ s) (ht : A.trust) : Keeps A s₀ (activate b x s) :=
  (hs.setTrust ht).refreshTrust
protected theorem OutKeeps.execRecordUpdateDone {i ok} (hs : Keeps A s₀ s) (ht : A.trust) :
    OutKeeps A s₀ (execRecordUpdateDone i ok s) := by
  unfold execRecordUpdateDone
  split
  · exact .next hs
  · exact .ite (.next ((hs.setBit.setTrust ht).activate ht).finishO) (.next (hs.setBit.setTrust ht).errFlag.finishO)
protected theorem Keeps.bootRecord (hs : Keeps A s₀ s) (ht : A.trust) : Keeps A s₀ (bootRecord s) := by
  unfold bootRecord
  dsimp only
  split
  · exact ((hs.setTrust ht).put.activate ht).ite (hs.setTrust ht).refreshTrust.put
  · exact hs.put.activate ht
  · exact (hs.setTrust ht).refreshTrust.put
protected theorem Keeps.signReport {f nonce sess} (hs : Keeps A s₀ s) (ht : A.trust) :
    Keeps A s₀ (signReport f nonce sess s).2 :=
  (hs.setTrust ht).bump
protected theorem ResKeeps.bodyAttest {c} (hs : Keeps A s₀ s) (ht : A.trust) : ResKeeps A s₀ (bodyAttest c s) := by
  refine .ite (.no hs) ?_
  split
  · exact .no hs
  · exact .done (hs.signReport ht).output
protected theorem OutKeeps.execAttest {c} (hs : Keeps A s₀ s) (ht : A.trust) : OutKeeps A s₀ (execAttest c s) :=
  .next (hs.runCmd (fun _ _ hs => .bodyAttest hs ht))
protected theorem ResKeeps.bodyCertGet {c} (hs : Keeps A s₀ s) : ResKeeps A s₀ (bodyCertGet c s) := by
  refine .ite (.fail hs) ?_
  split
  · exact .no hs
  · exact .done hs.output
protected theorem OutKeeps.execCertGet {c} (hs : Keeps A s₀ s) : OutKeeps A s₀ (execCertGet c s) :=
  .next (hs.runCmd (fun _ _ hs => .bodyCertGet hs))
protected theorem ResKeeps.bodyKeySession {c} (hs : Keeps A s₀ s) (ht : A.trust) :
    ResKeeps A s₀ (bodyKeySession c s) := by
  refine .ite (.no hs) ?_
  split
  · exact .no hs
  · exact .done (((hs.bump.setTrust ht).setSession ht).refreshHolder.signReport ht).output
protected theorem OutKeeps.execKeySession {c} (hs : Keeps A s₀ s) (ht : A.trust) :
    OutKeeps A s₀ (execKeySession c s) :=
  .next (hs.runCmd (fun _ _ hs => .bodyKeySession hs ht))
protected theorem OutKeeps.execSessionExpiry {holder} (hs : Keeps A s₀ s) (ht : A.trust) :
    OutKeeps A s₀ (execSessionExpiry holder s) :=
  .ite .fault (.next (hs.closeSession ht))
protected theorem ResKeeps.bodyKeyInstall {c} (hs : Keeps A s₀ s) (hk : A.keys) (ht : A.trust) :
    ResKeeps A s₀ (bodyKeyInstall c s) := by
  unfold bodyKeyInstall
  dsimp only
  split
  · exact .no hs
  · refine .ite (.no hs) ?_
    split
    · exact .no hs
    · split
      · exact .no (hs.closeSession ht)
      · exact .ite (.no (hs.closeSession ht)) (.done ((hs.closeSession ht).setKeys hk).refreshHolder)
protected theorem OutKeeps.execKeyInstall {c} (hs : Keeps A s₀ s) (hk : A.keys) (ht : A.trust) :
    OutKeeps A s₀ (execKeyInstall c s) :=
  .next (hs.runCmd (fun _ _ hs => .bodyKeyInstall hs hk ht))
protected theorem Keeps.newLinkKey {h} (hs : Keeps A s₀ s) : Keeps A s₀ (newLinkKey h s) :=
  hs.forL fun _ _ hs => hs.put.setLink.setLnkState.ite hs.put.setLink
protected theorem ResKeeps.bodyKeyCommit {c} (hs : Keeps A s₀ s) (hk : A.keys) : ResKeeps A s₀ (bodyKeyCommit c s) :=
  .ite (.no hs) <| .ite (.no hs) <| have hs := (hs.setKeys hk).refreshHolder; .done (hs.newLinkKey.ite hs)
protected theorem OutKeeps.execKeyCommit {c} (hs : Keeps A s₀ s) (hk : A.keys) : OutKeeps A s₀ (execKeyCommit c s) :=
  .next (hs.runCmd (fun _ _ hs => .bodyKeyCommit hs hk))
protected theorem ResKeeps.bodyKeyDiscard {c} (hs : Keeps A s₀ s) (hk : A.keys) :
    ResKeeps A s₀ (bodyKeyDiscard c s) :=
  .done (hs.setKeys hk).refreshHolder
protected theorem OutKeeps.execKeyDiscard {c} (hs : Keeps A s₀ s) (hk : A.keys) :
    OutKeeps A s₀ (execKeyDiscard c s) :=
  .next (hs.runCmd (fun _ _ hs => .bodyKeyDiscard hs hk))
protected theorem ResKeeps.bodyKeyDelete {c} (hs : Keeps A s₀ s) (hk : A.keys) : ResKeeps A s₀ (bodyKeyDelete c s) :=
  .ite (.no hs) <| .ite (.no hs) (.done (hs.setKeys hk).refreshKeys)
protected theorem OutKeeps.execKeyDelete {c} (hs : Keeps A s₀ s) (hk : A.keys) : OutKeeps A s₀ (execKeyDelete c s) :=
  .next (hs.runCmd (fun _ _ hs => .bodyKeyDelete hs hk))
protected theorem ResKeeps.bodySetEnrolGo {b id gen owner key} (hs : Keeps A s₀ s) :
    ResKeeps A s₀ (bodySetEnrol.go b id gen owner key s) :=
  .startUpdate hs
protected theorem ResKeeps.bodySetEnrol {c} (hs : Keeps A s₀ s) (ht : A.trust) :
    ResKeeps A s₀ (bodySetEnrol c s) := by
  unfold bodySetEnrol
  dsimp only
  split
  · exact .no hs
  · refine .ite (.no hs) ?_
    split
    · exact .no hs
    · exact have hs := hs.closeSession ht; .ite (.no hs) (.ite (.no hs) (by
        split
        · exact .ite (.no hs) (.bodySetEnrolGo hs)
        · exact .ite (.bodySetEnrolGo hs) (.no hs)))
protected theorem OutKeeps.execSetEnrol {c} (hs : Keeps A s₀ s) (ht : A.trust) : OutKeeps A s₀ (execSetEnrol c s) :=
  .next (hs.runCmd (fun _ _ hs => .bodySetEnrol hs ht))
protected theorem ResKeeps.bodySetLeave {c} (hs : Keeps A s₀ s) : ResKeeps A s₀ (bodySetLeave c s) :=
  .ite (.no hs) (.startUpdate hs)
protected theorem OutKeeps.execSetLeave {c} (hs : Keeps A s₀ s) : OutKeeps A s₀ (execSetLeave c s) :=
  .next (hs.runCmd (fun _ _ hs => .bodySetLeave hs))
protected theorem ResKeeps.enrolKey {c l n upd} (hs : Keeps A s₀ s) : ResKeeps A s₀ (enrolKey c s l n upd) := by
  unfold enrolKey
  dsimp only
  split
  · exact .no hs
  · exact .ite (.no hs) <| .ite (.no hs) (.startUpdate hs)
protected theorem ResKeeps.revokeKey {c l upd} (hs : Keeps A s₀ s) : ResKeeps A s₀ (revokeKey c s l upd) :=
  .ite (.no hs) (.startUpdate hs)
protected theorem ResKeeps.bodyToolkeyEnrol {c} (hs : Keeps A s₀ s) : ResKeeps A s₀ (bodyToolkeyEnrol c s) :=
  .enrolKey hs
protected theorem OutKeeps.execToolkeyEnrol {c} (hs : Keeps A s₀ s) : OutKeeps A s₀ (execToolkeyEnrol c s) :=
  .next (hs.runCmd (fun _ _ hs => .bodyToolkeyEnrol hs))
protected theorem ResKeeps.bodyToolkeyRevoke {c} (hs : Keeps A s₀ s) : ResKeeps A s₀ (bodyToolkeyRevoke c s) :=
  .revokeKey hs
protected theorem OutKeeps.execToolkeyRevoke {c} (hs : Keeps A s₀ s) : OutKeeps A s₀ (execToolkeyRevoke c s) :=
  .next (hs.runCmd (fun _ _ hs => .bodyToolkeyRevoke hs))
protected theorem ResKeeps.bodyDbgkeyEnrol {c} (hs : Keeps A s₀ s) : ResKeeps A s₀ (bodyDbgkeyEnrol c s) :=
  .enrolKey hs
protected theorem OutKeeps.execDbgkeyEnrol {c} (hs : Keeps A s₀ s) : OutKeeps A s₀ (execDbgkeyEnrol c s) :=
  .next (hs.runCmd (fun _ _ hs => .bodyDbgkeyEnrol hs))
protected theorem ResKeeps.bodyDbgkeyRevoke {c} (hs : Keeps A s₀ s) : ResKeeps A s₀ (bodyDbgkeyRevoke c s) :=
  .revokeKey hs
protected theorem OutKeeps.execDbgkeyRevoke {c} (hs : Keeps A s₀ s) : OutKeeps A s₀ (execDbgkeyRevoke c s) :=
  .next (hs.runCmd (fun _ _ hs => .bodyDbgkeyRevoke hs))
protected theorem ResKeeps.bodySvnCommit {x} (hs : Keeps A s₀ s) (ht : A.trust) : ResKeeps A s₀ (bodySvnCommit x s) :=
  .ite (.no hs) <| .ite (.no hs) (.done (hs.setTrust ht).refreshTrust)
protected theorem OutKeeps.execFwSvnCommit {c} (hs : Keeps A s₀ s) (ht : A.trust) :
    OutKeeps A s₀ (execFwSvnCommit c s) :=
  .next (hs.runCmd (fun _ _ hs => .bodySvnCommit hs ht))
protected theorem ResKeeps.bodyDbgNonce {c} (hs : Keeps A s₀ s) (ht : A.trust) :
    ResKeeps A s₀ (bodyDbgNonce c s) := by
  unfold bodyDbgNonce
  split
  · exact .no hs
  · exact .done (hs.bump.setTrust ht).output
protected theorem OutKeeps.execDbgNonce {c} (hs : Keeps A s₀ s) (ht : A.trust) : OutKeeps A s₀ (execDbgNonce c s) :=
  .next (hs.runCmd (fun _ _ hs => .bodyDbgNonce hs ht))
protected theorem OutKeeps.execNonceExpiry (hs : Keeps A s₀ s) (ht : A.trust) : OutKeeps A s₀ (execNonceExpiry s) :=
  .next (hs.setTrust ht)
protected theorem Keeps.admitToken {b} (hs : Keeps A s₀ s) (ht : A.trust) : Keeps A s₀ (admitToken b s).2 :=
  (hs.setTrust ht).setReg.setBit
protected theorem ResKeeps.bodyDbgAdmit {c} (hs : Keeps A s₀ s) (ht : A.trust) :
    ResKeeps A s₀ (bodyDbgAdmit c s) := by
  unfold bodyDbgAdmit
  dsimp only
  split
  · exact .no (hs.setTrust ht)
  · exact have hs := hs.setTrust ht; .ite (.no hs) (by
      split
      · exact .no hs
      · exact .done (hs.admitToken ht))
protected theorem OutKeeps.execDbgAdmit {c} (hs : Keeps A s₀ s) (ht : A.trust) : OutKeeps A s₀ (execDbgAdmit c s) :=
  .next (hs.runCmd (fun _ _ hs => .bodyDbgAdmit hs ht))
protected theorem ResKeeps.bodyDbgEnd {x} (hs : Keeps A s₀ s) (ht : A.trust) : ResKeeps A s₀ (bodyDbgEnd x s) :=
  .ite (.no hs) (.done (hs.endToken ht))
protected theorem OutKeeps.execDbgEnd {c} (hs : Keeps A s₀ s) (ht : A.trust) : OutKeeps A s₀ (execDbgEnd c s) :=
  .next (hs.runCmd (fun _ _ hs => .bodyDbgEnd hs ht))
protected theorem OutKeeps.execTokenExpiry (hs : Keeps A s₀ s) (ht : A.trust) : OutKeeps A s₀ (execTokenExpiry s) :=
  .next (hs.ite (hs.endToken ht))
protected theorem ResKeeps.bodyWeightUnwrap {c} (hs : Keeps A s₀ s) : ResKeeps A s₀ (bodyWeightUnwrap c s) := by
  refine .ite (.no hs) <| .ite (.no hs) <| .ite (.no hs.readFrom) <| .ite (.no hs) <| .ite (.no hs) ?_
  split
  · exact .no hs
  · exact .long hs
protected theorem OutKeeps.execWeightUnwrap {c} (hs : Keeps A s₀ s) : OutKeeps A s₀ (execWeightUnwrap c s) :=
  .next (hs.runCmd (fun _ _ hs => .bodyWeightUnwrap hs))
protected theorem Keeps.openChunk {p sr so key hd i n plen} (hs : Keeps A s₀ s) :
    Keeps A s₀ (openChunk p sr so key hd i n plen s).2 := .iteSnd hs.readFrom.mkSnd hs.readFrom.mkSnd
protected theorem OutKeeps.execWeightUnwrapDone {i} (hs : Keeps A s₀ s) :
    OutKeeps A s₀ (execWeightUnwrapDone i s) := by
  unfold execWeightUnwrapDone
  split
  · exact .next hs
  · refine .next (.finishO (hs.foldlSnd fun y k hs => .iteSnd hs ?_))
    generalize e : openChunk _ _ _ _ _ _ _ _ y.2 = x
    have hx : Keeps A s₀ x.2 := e ▸ hs.openChunk
    obtain ⟨c, t⟩ := x
    cases c with
    | none => exact hx.writeFrom.mkSnd
    | some b => exact .iteSnd hx.writeFrom.mkSnd hx.writeFrom.mkSnd

end Sys2Proof.Proofs
end

section
/-! PROOFS. What the operations of Sys2Proof/Machine/Monitors.lean keep. -/

namespace Sys2Proof.Proofs

open Sys2Proof Sys2Proof.Machine Sys2Proof.Laws

set_option Elab.async false

variable {A : Areas} {s₀ s t : State}

protected theorem Keeps.mutePf0 (hs : Keeps A s₀ s) : Keeps A s₀ (mutePf0 s) :=
  hs.setOutst
protected theorem Keeps.resetPf0 (hs : Keeps A s₀ s) : Keeps A s₀ (resetPf0 s) :=
  hs.mutePf0.clearFnLocal
protected theorem Keeps.resetVf {f} (hs : Keeps A s₀ s) : Keeps A s₀ (resetVf f s) :=
  hs.setFnRt.finishWhere.clearFnLocal.setFnRt
protected theorem Keeps.setNumVf {n} (hs : Keeps A s₀ s) (hn : n ≤ 8) (hv : A.vfs) : Keeps A s₀ (setNumVf n s) :=
  (Keeps.numVf (hs.forN fun _ _ hs => hs.resetVf.ite hs) hn hv).put
protected theorem OutKeeps.execPf0Flr (hs : Keeps A s₀ s) (hv : A.vfs) : OutKeeps A s₀ (execPf0Flr s) :=
  .next (hs.setNumVf (Nat.zero_le 8) hv).resetPf0
protected theorem Keeps.pcieReset (hs : Keeps A s₀ s) (hv : A.vfs) : Keeps A s₀ (pcieReset s) :=
  (hs.setNumVf (Nat.zero_le 8) hv).resetPf0
protected theorem OutKeeps.execConventionalReset {perst} (hs : Keeps A s₀ s) (hv : A.vfs) :
    OutKeeps A s₀ (execConventionalReset perst s) :=
  have hs := hs.pcieReset hv; .next (hs.same.ite hs)
protected theorem Keeps.hclkLost {n} (hs : Keeps A s₀ s) : Keeps A s₀ (hclkLost n s) :=
  hs.memFault.memFault
protected theorem Keeps.fclkLost {p} (hs : Keeps A s₀ s) : Keeps A s₀ (fclkLost p s) :=
  hs.ite hs.clockFault.haltOnFaults
protected theorem Keeps.clockLost {clk} (hs : Keeps A s₀ s) (hv : A.vfs) : Keeps A s₀ (clockLost clk s) :=
  have hs := hs.setBit.ite (hs.setBit.ite hs)
  hs.fclkLost.ite
    (hs.deviceFault.ite
       (hs.setToll.setBit.refLost.lanesMove.ite
          (hs.hclkLost.ite ((hs.pcieReset hv).ite ((hs.setLnkState.ite hs).ite hs)))))
protected theorem OutKeeps.execClockLoss {clk} (hs : Keeps A s₀ s) (hv : A.vfs) :
    OutKeeps A s₀ (execClockLoss clk s) :=
  .ite .fault (.next (hs.clockLost hv))
protected theorem OutKeeps.execVoltage {rail high mV} (hs : Keeps A s₀ s) :
    OutKeeps A s₀ (execVoltage rail high mV s) :=
  .next (hs.deviceFault.ite hs)
protected theorem OutKeeps.execWatchdogExpiry (hs : Keeps A s₀ s) : OutKeeps A s₀ (execWatchdogExpiry s) :=
  .ite (.next hs) (.next hs.countSat.deviceFault)
protected theorem OutKeeps.execSafeReq {low} (hs : Keeps A s₀ s) : OutKeeps A s₀ (execSafeReq low s) :=
  .next (hs.same.setBit.deviceFault.ite hs.same.setBit)
protected theorem Keeps.writeSafEnter {w v} (hs : Keeps A s₀ s) : Keeps A s₀ (writeSafEnter w v s) :=
  hs.refuse.ite (hs.deviceFault.ite hs)
protected theorem Keeps.refreshFailed (hs : Keeps A s₀ s) : Keeps A s₀ (refreshFailed s) :=
  hs.put
protected theorem Keeps.unitFails {u} (hs : Keeps A s₀ s) : Keeps A s₀ (unitFails u s) :=
  hs.setBit.refreshFailed.deviceFault
protected theorem OutKeeps.execPeriodicSelftest {unit fail} (hs : Keeps A s₀ s) :
    OutKeeps A s₀ (execPeriodicSelftest unit fail s) :=
  .ite .fault (.next (hs.unitFails.ite hs))
protected theorem ResKeeps.bodySelftest {c} (hs : Keeps A s₀ s) : ResKeeps A s₀ (bodySelftest c s) :=
  .ite (.no hs) <| .ite (.no hs) (.long hs.setBit)
protected theorem OutKeeps.execSelftest {c} (hs : Keeps A s₀ s) : OutKeeps A s₀ (execSelftest c s) :=
  .next (hs.runCmd (fun _ _ hs => .bodySelftest hs))
protected theorem OutKeeps.execSelftestDone {i failed} (hs : Keeps A s₀ s) (hm : A.sram) :
    OutKeeps A s₀ (execSelftestDone i failed s) := by
  unfold execSelftestDone
  split
  · exact .next hs
  · exact .next <|
        have hs := ((hs.scrubSram hm).forL (fun _ _ hs => hs.setBit)).refreshFailed.forL fun _ _ hs => hs.unitFails
        hs.finishO.setBit
protected theorem ResKeeps.bodyFaultRead {c} (hs : Keeps A s₀ s) : ResKeeps A s₀ (bodyFaultRead c s) := by
  refine .ite (.no hs) <| .ite (.no hs) <| .ite (.no hs) ?_
  split
  · exact .no hs
  · exact .done hs.output
protected theorem OutKeeps.execFaultRead {c} (hs : Keeps A s₀ s) : OutKeeps A s₀ (execFaultRead c s) :=
  .next (hs.runCmd (fun _ _ hs => .bodyFaultRead hs))
protected theorem Keeps.writeSafRsel {w v} (hs : Keeps A s₀ s) : Keeps A s₀ (writeSafRsel w v s) :=
  hs.refuse.ite (have hs := hs.put.refuse.ite hs.put.put; hs.ite (hs.forN fun _ _ hs => hs.setReg).setReg)
protected theorem Keeps.writeSafStctl {w v} (hs : Keeps A s₀ s) : Keeps A s₀ (writeSafStctl w v s) :=
  hs.refuse.ite (hs.refuse.ite (hs.put.refuse.ite hs.put.put))

end Sys2Proof.Proofs
end

section
/-! PROOFS. What the operations of Sys2Proof/Machine/Drain.lean keep. -/

namespace Sys2Proof.Proofs

open Sys2Proof Sys2Proof.Machine Sys2Proof.Laws

set_option Elab.async false

variable {A : Areas} {s₀ s t : State}

protected theorem Keeps.readDigests {h r off n i l} (hs : Keeps A s₀ s) :
    Keeps A s₀ (readDigests h r off n i l s).2 := by
  induction n generalizing i l s with
  | zero => exact hs
  | succ n ih => exact ih hs.readBytes
protected theorem Keeps.completeImage {h r off} (hs : Keeps A s₀ s) : Keeps A s₀ (completeImage h r off s).2 :=
  .iteSnd hs.readBytes hs.readBytes.readDigests
protected theorem ResKeeps.bodyDrain {c} (hs : Keeps A s₀ s) : ResKeeps A s₀ (bodyDrain c s) :=
  .ite (.no hs) <| .ite (.no hs) <| .ite (.no hs) <| .ite (.no hs) (.long (hs.bump.same.ite hs.bump))
protected theorem OutKeeps.execDrain {c} (hs : Keeps A s₀ s) : OutKeeps A s₀ (execDrain c s) :=
  .next (hs.runCmd (fun _ _ hs => .bodyDrain hs))
protected theorem Keeps.writeChunks {h r off id i l x} (hs : Keeps A s₀ x.2) :
    Keeps A s₀ (writeChunks h r off id i l x).2 := by
  induction l generalizing i x with
  | nil => exact hs
  | cons b l ih => exact .iteSnd hs (ih hs.writeBytes)
protected theorem Keeps.writeImage {h r off sram c} (hs : Keeps A s₀ s) :
    Keeps A s₀ (writeImage h r off sram c s).2 :=
  have hs := Keeps.writeChunks hs.writeBytes; .iteSnd hs hs.writeBytes
protected theorem OutKeeps.execDrainDone {i} (hs : Keeps A s₀ s) : OutKeeps A s₀ (execDrainDone i s) := by
  unfold execDrainDone
  split
  · exact .next hs
  · extract_lets p id s₁
    have h₁ : Keeps A s₀ s₁ := .ite hs.same hs
    split
    · exact .next h₁
    · exact .ite (.next h₁.finishO) (.next (h₁.writeImage.finishO.ite h₁.writeImage.finishO))
protected theorem ResKeeps.bodyMigrate {c} (hs : Keeps A s₀ s) : ResKeeps A s₀ (bodyMigrate c s) := by
  refine .ite (.no hs) <| .ite (.no hs) <| .ite (.no hs) ?_
  dsimp only
  split
  · exact .no hs.completeImage
  · split
    · exact .no hs.completeImage
    · exact .ite (.no hs.completeImage) (.long hs.completeImage)
protected theorem OutKeeps.execMigrate {c} (hs : Keeps A s₀ s) : OutKeeps A s₀ (execMigrate c s) :=
  .next (hs.runCmd (fun _ _ hs => .bodyMigrate hs))
protected theorem OutKeeps.execMigrateTimeout {i} (hs : Keeps A s₀ s) : OutKeeps A s₀ (execMigrateTimeout i s) := by
  unfold execMigrateTimeout
  split
  · exact .next hs
  · exact .next (hs.finishO.ite hs)
protected theorem ResKeeps.bodyMigrateRecv {c} (hs : Keeps A s₀ s) : ResKeeps A s₀ (bodyMigrateRecv c s) := by
  refine .ite (.no hs) <| .ite (.no hs) <| .ite (.no hs) ?_
  split
  · exact .no hs
  · exact .ite (.no hs) (.long hs)
protected theorem OutKeeps.execMigrateRecv {c} (hs : Keeps A s₀ s) : OutKeeps A s₀ (execMigrateRecv c s) :=
  .next (hs.runCmd (fun _ _ hs => .bodyMigrateRecv hs))
protected theorem Keeps.takeOffer {o m} (hs : Keeps A s₀ s) : Keeps A s₀ (takeOffer o m s) := by
  unfold takeOffer
  dsimp only
  split
  · exact hs.migDiscard
  · exact hs.migDiscard.ite hs.writeBytes.updOutst
protected theorem Keeps.takeChunk {o m} (hs : Keeps A s₀ s) : Keeps A s₀ (takeChunk o m s) := by
  refine hs.migDiscard.ite ?_
  split
  · exact hs.migDiscard
  · exact hs.migDiscard.ite (hs.writeBytes.migDiscard.ite hs.writeBytes.updOutst)
protected theorem Keeps.takeEnd {o m} (hs : Keeps A s₀ s) : Keeps A s₀ (takeEnd o m s) :=
  hs.migDiscard.ite (hs.migDiscard.ite (hs.writeBytes.migDiscard.ite hs.writeBytes.setLink.finishO))
protected theorem OutKeeps.execMigrationMessage {port m} (hs : Keeps A s₀ s) :
    OutKeeps A s₀ (execMigrationMessage port m s) := by
  refine .ite .fault ?_
  split
  · exact .next hs
  · refine .ite (.next hs) <| .ite (.next (hs.ite (hs.finishO.ite (hs.finishO.ite hs)))) (.next ?_)
    split
    · exact hs.takeOffer.ite hs.migDiscard
    · exact hs.takeChunk.ite hs
    · exact hs.takeEnd.ite hs
    · exact hs
protected theorem OutKeeps.execStall {i} (hs : Keeps A s₀ s) : OutKeeps A s₀ (execStall i s) := by
  unfold execStall
  split
  · exact .next hs
  · exact .next (hs.migDiscard.ite hs)
protected theorem OutKeeps.execOfferTimeout {i} (hs : Keeps A s₀ s) : OutKeeps A s₀ (execOfferTimeout i s) := by
  unfold execOfferTimeout
  split
  · exact .next hs
  · exact .next (hs.finishO.ite hs)
protected theorem Keeps.readChunks {h r off id n i l ok} (hs : Keeps A s₀ s) :
    Keeps A s₀ (readChunks h r off id n i l ok s).2.2 := by
  induction n generalizing i l ok s with
  | zero => exact hs
  | succ n ih => exact ih hs.readBytes
protected theorem ResKeeps.bodyRestore {c} (hs : Keeps A s₀ s) : ResKeeps A s₀ (bodyRestore c s) := by
  refine .ite (.no hs) <| .ite (.no hs) <| .ite (.no hs) ?_
  dsimp only
  split
  · exact .no hs.completeImage
  · exact .ite (.no hs.completeImage) <|
      .ite (.no hs.completeImage.readChunks) <|
      .ite (.no hs.completeImage.readChunks) (.long hs.completeImage.readChunks)
protected theorem OutKeeps.execRestore {c} (hs : Keeps A s₀ s) : OutKeeps A s₀ (execRestore c s) :=
  .next (hs.runCmd (fun _ _ hs => .bodyRestore hs))
protected theorem Keeps.loadCap {p hdr c} (hs : Keeps A s₀ s) : Keeps A s₀ (loadCap p hdr c s) := by
  unfold loadCap
  extract_lets m inm fc sc s₁ s₂ s₃ n w u32 net src s₄ s₅
  have h₁ : Keeps A s₀ s₁ := hs.forL fun _ _ hs => hs.setPartRt
  have h₂ : Keeps A s₀ s₂ := h₁.same
  have h₃ : Keeps A s₀ s₃ := h₂.holdStrikes
  have h₄ : Keeps A s₀ s₄ := h₃.same
  have h₅ : Keeps A s₀ s₅ := h₄.forL fun _ _ hs => hs.setReg
  exact h₅.forL fun _ _ hs => hs.setLink
protected theorem Keeps.loadDom {p hdr c} (hs : Keeps A s₀ s) : Keeps A s₀ (loadDom p hdr c s) := by
  unfold loadDom
  split
  · exact hs
  · exact hs.setDomRt.setPend
protected theorem OutKeeps.execRestoreDone {i} (hs : Keeps A s₀ s) (hm : A.sram) :
    OutKeeps A s₀ (execRestoreDone i s) := by
  unfold execRestoreDone
  split
  · exact .next hs
  · refine .ite (.next hs.finishO) (.next (.finishO (.refreshWaiters (.ite ?_ hs.loadCap.loadDom))))
    exact hs.loadCap.loadDom.foldlSnd fun _ _ hs => hs.loadSram hm

end Sys2Proof.Proofs
end

section
/-! PROOFS. What the operations of Sys2Proof/Machine/Boot.lean keep. -/

namespace Sys2Proof.Proofs

open Sys2Proof Sys2Proof.Machine Sys2Proof.Laws

set_option Elab.async false

variable {A : Areas} {s₀ s t : State}

protected theorem Keeps.setBoot {b} (hs : Keeps A s₀ s) : Keeps A s₀ (setBoot b s) :=
  hs.same
protected theorem Keeps.settleRecord (hs : Keeps A s₀ s) (ht : A.trust) : Keeps A s₀ (settleRecord s) := by
  unfold settleRecord
  split
  · exact hs
  · exact (hs.setTrust ht).bump
protected theorem Keeps.unpowered (hs : Keeps A s₀ s) (hk : A.keys) (ht : A.trust) (hm : A.sram) (hv : A.vfs)
    (hf : A.fuse) : Keeps A s₀ (unpowered s) :=
  (hs.settleRecord ht).trans
    { inv := fun _ => ⟨rfl, rfl, rfl, Nat.zero_le 8⟩
      pending := rfl
      freeCtr := le_rfl
      variant := rfl
      grade := rfl
      stepping := rfl
      keys := .inl hk
      trust := .inl ht
      sram := .inl hm
      vfs := .inl hv
      fuse := .inl hf }
protected theorem OutKeeps.execPowerLoss (hs : Keeps A s₀ s) (hk : A.keys) (ht : A.trust) (hm : A.sram)
    (hv : A.vfs) (hf : A.fuse) :
    OutKeeps A s₀ (execPowerLoss s) :=
  .next (hs.unpowered hk ht hm hv hf).setBoot
protected theorem Keeps.measure {img src} (hs : Keeps A s₀ s) (ht : A.trust) : Keeps A s₀ (measure img src s) :=
  have hs := hs.setTrust ht; hs.setReg.setReg.ite hs
protected theorem Keeps.awaitHost (hs : Keeps A s₀ s) : Keeps A s₀ (awaitHost s) :=
  hs.clearReg.setReg.setBoot
protected theorem Keeps.strapPmd (hs : Keeps A s₀ s) : Keeps A s₀ (strapPmd s) :=
  hs.forN fun _ _ hs => hs.put
protected theorem Keeps.bootSteps (hs : Keeps A s₀ s) (ht : A.trust) : Keeps A s₀ (bootSteps s) := by
  unfold bootSteps
  extract_lets b strap s₁ s₂ src s₃
  have h₁ : Keeps A s₀ s₁ := hs.setReg.strapPmd
  have h₂ : Keeps A s₀ s₂ := .ite h₁ h₁.errFlag
  have h₃ : Keeps A s₀ s₃ := h₂.setTrust ht
  split
  · exact (h₃.measure ht).setBoot
  · exact (h₃.measure ht).setBoot
  · exact h₃.awaitHost
protected theorem OutKeeps.execColdReset {b} (hs : Keeps A s₀ s) (hk : A.keys) (ht : A.trust) (hm : A.sram)
    (hv : A.vfs) (hf : A.fuse) :
    OutKeeps A s₀ (execColdReset b s) :=
  have hs := (hs.unpowered hk ht hm hv hf).emit; .next (hs.setBit.setBoot.ite (hs.setBit.setBoot.bootSteps ht))
protected theorem OutKeeps.execSysRstRelease (hs : Keeps A s₀ s) (ht : A.trust) :
    OutKeeps A s₀ (execSysRstRelease s) :=
  .next ((hs.setBoot.bootSteps ht).ite hs.setBoot)
protected theorem OutKeeps.execPerstRelease (hs : Keeps A s₀ s) : OutKeeps A s₀ (execPerstRelease s) :=
  .next (hs.same.ite hs)
protected theorem OutKeeps.execPcieLinkTrained {rate width} (hs : Keeps A s₀ s) :
    OutKeeps A s₀ (execPcieLinkTrained rate width s) :=
  .next hs.put.put
protected theorem Keeps.pieceDone {st} (hs : Keeps A s₀ s) : Keeps A s₀ (pieceDone st s) :=
  hs.clearReg.put.setBit.setBit
protected theorem OutKeeps.execRecoveryPiece (hs : Keeps A s₀ s) (ht : A.trust) :
    OutKeeps A s₀ (execRecoveryPiece s) :=
  .ite (.next hs) <|
  .ite (.next hs.pieceDone) <|
  .ite (.next hs.setBoot.pieceDone) <| .ite (.next (hs.measure ht).setBoot.pieceDone) (.next hs.setBoot.pieceDone)
protected theorem Keeps.fillRegs {r} (hs : Keeps A s₀ s) (hk : A.keys) (ht : A.trust) (hf : A.fuse) :
    Keeps A s₀ (fillRegs r s) :=
  have hs := (hs.badStacks hf).forN fun _ _ hs => hs.setReg
  have hs := (hs.setReg.setReg.setReg.forN fun _ _ hs => hs.setReg).setBit
  have hs := hs.errFlag.ite hs
  ((hs.errFlag.ite hs).bootRecord ht |>.forL fun _ _ hs => hs.freshOperatorKey hk).drawKey.setKeys hk
protected theorem Keeps.settleSafe {cold hold} (hs : Keeps A s₀ s) : Keeps A s₀ (settleSafe cold hold s) :=
  (hs.raise.ite (hs.deviceFault.ite hs.setBit.setBit.setBit.raise)).ite hs.setBit.setBit.setBit.clearReg.emit
protected theorem Keeps.startGov (hs : Keeps A s₀ s) : Keeps A s₀ (startGov s) :=
  hs.forL fun _ _ hs => hs.put.refreshGov
protected theorem OutKeeps.execMrpReady {r} (hs : Keeps A s₀ s) (hk : A.keys) (ht : A.trust) (hf : A.fuse) :
    OutKeeps A s₀ (execMrpReady r s) :=
  .ite (.next hs) (.next ((hs.fillRegs hk ht hf).ite hs).setBoot.setBit.put.startGov.settleSafe)
protected theorem Keeps.warmStop {d} (hs : Keeps A s₀ s) : Keeps A s₀ (warmStop d s) :=
  hs.clearRun.planBoundary.setDomRt.setPln.setFclass
protected theorem Keeps.warmFn {f} (hs : Keeps A s₀ s) : Keeps A s₀ (warmFn f s) :=
  hs.clearFnLocal
protected theorem Keeps.warmPort {n} (hs : Keeps A s₀ s) : Keeps A s₀ (warmPort n s) :=
  hs.put.setLink
protected theorem Keeps.warmKeys (hs : Keeps A s₀ s) (hk : A.keys) (ht : A.trust) : Keeps A s₀ (warmKeys s) :=
  have hs := (hs.forN fun _ _ hs => hs.dropStaging hk ht).setTrust ht; (hs.endToken ht).ite hs
protected theorem Keeps.warmReset (hs : Keeps A s₀ s) (hk : A.keys) (ht : A.trust) : Keeps A s₀ (warmReset s) := by
  refine hs.clearFnLocal.awaitHost.ite (hs.ite ?_)
  refine .refreshSvc (.setBoot (.setBit (.warmKeys (.strapPmd (.coverRegs ?_)) hk ht)))
  refine .forN (.forN (.setClap (.forN (.obs ?_) ?emit)) ?engines) ?ports
  case emit => exact fun _ _ hs => hs.emit
  case engines => exact fun _ _ hs => hs.abortEngines
  case ports => exact fun _ _ hs => hs.warmPort
  exact (((hs.settleRecord ht).setOutst.setBit.setBit.forL fun _ _ hs => hs.warmStop).forN
    fun _ _ hs => hs.warmFn).forN fun _ _ hs => hs.dropChannel.setBit
protected theorem OutKeeps.execWarmReset (hs : Keeps A s₀ s) (hk : A.keys) (ht : A.trust) :
    OutKeeps A s₀ (execWarmReset s) :=
  .ite (.next hs) (.next (hs.setBoot.ite (hs.setBoot.warmReset hk ht)))
protected theorem OutKeeps.execWatchdogWarmReset (hs : Keeps A s₀ s) (hk : A.keys) (ht : A.trust) :
    OutKeeps A s₀ (execWatchdogWarmReset s) :=
  .next ((hs.warmReset hk ht).ite hs)

end Sys2Proof.Proofs
end

section
/-! PROOFS. What the operations of Sys2Proof/Machine/Pins.lean keep. -/

namespace Sys2Proof.Proofs

open Sys2Proof Sys2Proof.Machine Sys2Proof.Laws

set_option Elab.async false

variable {A : Areas} {s₀ s t : State}

protected theorem OutKeeps.execJtagInstructionLoad {ir} (hs : Keeps A s₀ s) :
    OutKeeps A s₀ (execJtagInstructionLoad ir s) :=
  .next hs.same

end Sys2Proof.Proofs
end

section
/-! PROOFS. What the operations of Sys2Proof/Machine/HostCmds.lean keep. -/

namespace Sys2Proof.Proofs

open Sys2Proof Sys2Proof.Machine Sys2Proof.Laws

set_option Elab.async false

variable {A : Areas} {s₀ s t : State}

protected theorem OutKeeps.execNop {c} (hs : Keeps A s₀ s) : OutKeeps A s₀ (execNop c s) :=
  .next (hs.runCmd (fun _ _ hs => .done hs))
protected theorem ResKeeps.bodyQueryCaps {c} (hs : Keeps A s₀ s) : ResKeeps A s₀ (bodyQueryCaps c s) := by
  refine .ite (.no hs) ?_
  split
  · exact .no hs
  · exact .done hs.output
protected theorem OutKeeps.execQueryCaps {c} (hs : Keeps A s₀ s) : OutKeeps A s₀ (execQueryCaps c s) :=
  .next (hs.runCmd (fun _ _ hs => .bodyQueryCaps hs))
protected theorem ResKeeps.bodyErrlogRead {c} (hs : Keeps A s₀ s) : ResKeeps A s₀ (bodyErrlogRead c s) :=
  .done (hs.setReg.ite hs)
protected theorem OutKeeps.execErrlogRead {c} (hs : Keeps A s₀ s) : OutKeeps A s₀ (execErrlogRead c s) :=
  .next (hs.runCmd (fun _ _ hs => .bodyErrlogRead hs))
protected theorem Keeps.flushMsix {f} (hs : Keeps A s₀ s) : Keeps A s₀ (flushMsix f s) :=
  hs.forN fun _ _ hs => hs.setFnRt.emit.ite hs
protected theorem OutKeeps.execBusMasterEnable {fn en} (hs : Keeps A s₀ s) :
    OutKeeps A s₀ (execBusMasterEnable fn en s) :=
  .ite .fault <| .ite (.next hs) (.next (hs.setFnRt.flushHeld.flushMsix.ite hs.setFnRt))
protected theorem OutKeeps.execMsixUnmask {fn vec} (hs : Keeps A s₀ s) : OutKeeps A s₀ (execMsixUnmask fn vec s) := by
  refine .ite .fault <| .ite (.next hs) ?_
  dsimp only
  split
  · exact .next hs.setFnRt.flushMsix
  · exact .ite .fault (.next hs.setFnRt.flushMsix)
protected theorem OutKeeps.execNumvfsWrite {n} (hs : Keeps A s₀ s) (hv : A.vfs) :
    OutKeeps A s₀ (execNumvfsWrite n s) := by
  unfold execNumvfsWrite
  split
  · exact .fault
  · next hn => exact .next (hs.setNumVf (Nat.not_lt.1 hn) hv)

end Sys2Proof.Proofs
end

section
/-! PROOFS. What the operations of Sys2Proof/Machine/Bar0.lean keep. -/

namespace Sys2Proof.Proofs

open Sys2Proof Sys2Proof.Machine Sys2Proof.Laws

set_option Elab.async false

variable {A : Areas} {s₀ s t : State}

protected theorem Keeps.readLatch {key} (hs : Keeps A s₀ s) : Keeps A s₀ (readLatch key s) :=
  hs.setToll.ite (hs.setPartRt.ite hs)
protected theorem Keeps.readReg {f o} (hs : Keeps A s₀ s) : Keeps A s₀ (readReg f o s).2 :=
  .iteSnd hs hs.readLatch
protected theorem Keeps.writeGeneric {w v} (hs : Keeps A s₀ s) : Keeps A s₀ (writeGeneric w v s) :=
  hs.setReg.refuse.ite hs.setReg
protected theorem Keeps.writeRanged {lo wd ok w v} (hs : Keeps A s₀ s) : Keeps A s₀ (writeRanged lo wd ok w v s) :=
  hs.writeGeneric.ite hs.writeGeneric.refuse
protected theorem Keeps.writeImr {f high v} (hs : Keeps A s₀ s) : Keeps A s₀ (writeImr f high v s) :=
  hs.setReg.forN fun _ _ hs => hs.msixSend.ite hs
protected theorem Keeps.writeRqCtl {f k w v} (hs : Keeps A s₀ s) : Keeps A s₀ (writeRqCtl f k w v s) :=
  (hs.setReg.setFnRt.refreshPair.ite hs.refuse).ite
    (hs.refuse.ite (hs.setReg.ite (hs.refuse.ite hs.setReg.setFnRt.setReg.setReg.setReg.setReg.setReg)))
protected theorem Keeps.writeRqBase {f k w v} (hs : Keeps A s₀ s) : Keeps A s₀ (writeRqBase f k w v s) :=
  hs.refuse.ite hs.setReg
protected theorem Keeps.writeTail {f k v} (hs : Keeps A s₀ s) : Keeps A s₀ (writeTail f k v s) :=
  hs.setReg.ite hs.setReg.setBit.put.setFnRt
protected theorem Keeps.writeCqHead {f k w v} (hs : Keeps A s₀ s) : Keeps A s₀ (writeCqHead f k w v s) :=
  hs.setReg.ite hs.refuse
protected theorem Keeps.writeB2wCtl {f k w v} (hs : Keeps A s₀ s) : Keeps A s₀ (writeB2wCtl f k w v s) :=
  hs.refuse.ite (hs.refuse.ite hs.setReg)
protected theorem Keeps.writeB2wBase {f k w v} (hs : Keeps A s₀ s) : Keeps A s₀ (writeB2wBase f k w v s) :=
  hs.refuse.ite hs.setReg
protected theorem Keeps.mbxRefuse {flag kind f} (hs : Keeps A s₀ s) : Keeps A s₀ (mbxRefuse flag kind f s) :=
  hs.setBit.put.errFlag.errFlag
protected theorem Keeps.writeMbxCtl {f v} (hs : Keeps A s₀ s) : Keeps A s₀ (writeMbxCtl f v s) :=
  hs.ite (hs.mbxRefuse.ite (hs.mbxRefuse.ite hs.setBit.setBit))
protected theorem Keeps.writeMbxArea {f w v} (hs : Keeps A s₀ s) : Keeps A s₀ (writeMbxArea f w v s) :=
  hs.refuse.ite hs.setReg
protected theorem Keeps.writeInj {tgt lo wd ok w v} (hs : Keeps A s₀ s) : Keeps A s₀ (writeInj tgt lo wd ok w v s) :=
  hs.refuse.ite hs.writeRanged
protected theorem Keeps.writeResinj {w v} (hs : Keeps A s₀ s) : Keeps A s₀ (writeResinj w v s) :=
  hs.writeInj
protected theorem Keeps.writeEinj {w v} (hs : Keeps A s₀ s) : Keeps A s₀ (writeEinj w v s) :=
  hs.writeInj
protected theorem Keeps.writeCinj {w v} (hs : Keeps A s₀ s) : Keeps A s₀ (writeCinj w v s) :=
  hs.writeInj
protected theorem Keeps.writeClkSlip {p w v} (hs : Keeps A s₀ s) : Keeps A s₀ (writeClkSlip p w v s) :=
  hs.writeRanged.setDomRt.ite hs.writeRanged
protected theorem Keeps.govWritten {h pin hint} (hs : Keeps A s₀ s) : Keeps A s₀ (govWritten h pin hint s) := by
  unfold govWritten
  dsimp only
  split
  · exact (hs.put.stagePolicy.ite hs.put.refreshGov).ite hs.put.refreshGov
  · exact hs.put.refreshGov
protected theorem Keeps.writeGov {h w v} (hs : Keeps A s₀ s) : Keeps A s₀ (writeGov h w v s) :=
  have hs := hs.ite (hs.refuse.ite (hs.refuse.ite hs.put.put)); (hs.put.ite hs.refuse).govWritten
protected theorem Keeps.writeCtr {w v} (hs : Keeps A s₀ s) : Keeps A s₀ (writeCtr w v s) := by
  unfold writeCtr
  dsimp only
  split
  · exact hs.setBit.setBit.put.writeEvsel.ite hs.setBit.setBit.put.refuse
  · exact hs.writeVall
  · exact hs.writeValh
  · exact hs.writeGeneric
protected theorem Keeps.writeCntSnap {v} (hs : Keeps A s₀ s) : Keeps A s₀ (writeCntSnap v s) :=
  hs.put.goSnap.ite hs.put
protected theorem Keeps.boundYields {l i up down y} (hs : Keeps A s₀ s) :
    Keeps A s₀ (boundYields l i up down y s) := by
  unfold boundYields
  split
  · exact hs.stagePolicy
  · exact hs
protected theorem Keeps.writeLoop {l i j w v} (hs : Keeps A s₀ s) : Keeps A s₀ (writeLoop l i j w v s) := by
  unfold writeLoop
  dsimp only
  split
  · exact hs.refuse.ite hs.setReg.boundYields
  · exact hs.ite (hs.refuse.ite (hs.refuse.ite hs.setReg.boundYields))
  · exact have hs := (hs.refuse.ite hs).ite (hs.setBit.ite hs).setBit
      have hs := hs.ite (hs.setBit.ite hs.refuse); have hs := hs.boundYields.ite hs; hs.boundYields.ite hs
  · exact hs
protected theorem Keeps.writePwrLim {w v} (hs : Keeps A s₀ s) : Keeps A s₀ (writePwrLim w v s) :=
  have hs := hs.put.ite hs; have hs := hs.put.ite hs; hs.ite hs.refuse
protected theorem Keeps.writeDev {w v} (hs : Keeps A s₀ s) : Keeps A s₀ (writeDev w v s) :=
  hs.writeImr.ite (hs.writeImr.ite (hs.writePartCtl.ite (hs.writePartSwitch.ite hs.writeGeneric)))
protected theorem Keeps.writeCmd {w v} (hs : Keeps A s₀ s) : Keeps A s₀ (writeCmd w v s) := by
  unfold writeCmd
  refine .ite ?_ ((hs.writeB2wCtl.ite hs.writeB2wBase).ite hs.writeGeneric)
  dsimp only
  split
  · exact hs.writeRqCtl
  · exact hs.writeRqBase
  · exact hs.writeRqBase
  · exact hs.writeRqBase
  · exact hs.writeRqBase
  · exact hs.writeTail
  · exact hs.writeCqHead
  · exact hs.writeGeneric
protected theorem Keeps.writeMbx {w v} (hs : Keeps A s₀ s) : Keeps A s₀ (writeMbx w v s) := by
  unfold writeMbx
  exact hs.writeMbxCtl.ite (hs.writeMbxArea.ite (hs.writeMbxArea.ite hs.writeGeneric))
protected theorem Keeps.writeFab {w v} (hs : Keeps A s₀ s) : Keeps A s₀ (writeFab w v s) := by
  unfold writeFab
  exact hs.writeResinj.ite (hs.writeEinj.ite (hs.writeCinj.ite (hs.writePlnSwitch.ite hs.writeGeneric)))
protected theorem Keeps.writeBel {w v} (hs : Keeps A s₀ s) : Keeps A s₀ (writeBel w v s) := by
  unfold writeBel
  exact (hs.writeGeneric.ite hs.writeBell).ite (hs.writeStrk.ite hs.writeGeneric)
protected theorem Keeps.writeTol {w v} (hs : Keeps A s₀ s) : Keeps A s₀ (writeTol w v s) := by
  unfold writeTol
  exact hs.writeTolCtl.ite (hs.writeSetsec.ite (hs.writeRanged.ite (hs.writeClkSlip.ite hs.writeGeneric)))
protected theorem Keeps.writeMem {w v} (hs : Keeps A s₀ s) : Keeps A s₀ (writeMem w v s) := by
  unfold writeMem
  exact (hs.writeRgnA.ite hs.writeRgnB).ite (hs.writeRkCtl.ite hs.writeGeneric)
protected theorem Keeps.writeLnk {w v} (hs : Keeps A s₀ s) : Keeps A s₀ (writeLnk w v s) := by
  unfold writeLnk
  exact (hs.writePealId.ite (hs.writePealCtl.ite (hs.writePealRt.ite hs.writeGeneric))).ite
      (hs.writeLnkCtl.ite (hs.writeLnkOwn.ite (hs.writeLnkCap.ite (hs.writeImp.ite hs.writeGeneric))))
protected theorem Keeps.writeHeldCtl {n w v} (hs : Keeps A s₀ s) : Keeps A s₀ (writeHeldCtl n w v s) :=
  (hs.refuse.ite hs).writeChCtl
protected theorem Keeps.writeObs {w v} (hs : Keeps A s₀ s) : Keeps A s₀ (writeObs w v s) := by
  unfold writeObs
  exact ((hs.writeChCtl.ite hs.writeHeldCtl).ite
       (hs.writeChCls.ite (hs.writeChUr.ite (hs.writeChUr.ite (hs.writeAwSel.ite hs.writeGeneric))))).ite
      (hs.writeGov.ite hs.writeGeneric)
protected theorem Keeps.writeClpBlock {w v} (hs : Keeps A s₀ s) : Keeps A s₀ (writeClpBlock w v s) := by
  unfold writeClpBlock
  exact hs.writeClpCtl.ite (hs.writeGeneric.ite hs.writeClp)
protected theorem Keeps.writeCnt {w v} (hs : Keeps A s₀ s) : Keeps A s₀ (writeCnt w v s) := by
  unfold writeCnt
  exact hs.writeCtr.ite (hs.writeRanged.ite (hs.writeRanged.ite (hs.writeCntSnap.ite hs.writeGeneric)))
protected theorem Keeps.writeRol {w v} (hs : Keeps A s₀ s) : Keeps A s₀ (writeRol w v s) := by
  unfold writeRol
  dsimp only
  split
  · exact hs.writeRolCtl
  · exact hs.writeJctl
  · exact hs.refuse.ite hs.writeGeneric
  · exact hs.writeGeneric
protected theorem Keeps.writeRng {ing n r w v} (hs : Keeps A s₀ s) : Keeps A s₀ (writeRng ing n r w v s) := by
  unfold writeRng
  split
  · exact hs.writeRngCtl
  · exact hs.writeRngBase
  · exact hs.writeRngBase
  · exact hs.writeRngLen
  · exact hs.writeRngRd
  · exact hs.writeRngWb
  · exact hs.writeRngWb
  · exact hs.writeSnkCfg
  · exact hs.writeGeneric
protected theorem Keeps.writeSnk {w v} (hs : Keeps A s₀ s) : Keeps A s₀ (writeSnk w v s) := by
  unfold writeSnk
  exact hs.writeRng.ite (hs.writeRng.ite (hs.writePar.ite (hs.writeSer.ite (hs.writeRem.ite hs.writeGeneric))))
protected theorem Keeps.writePwr {w v} (hs : Keeps A s₀ s) : Keeps A s₀ (writePwr w v s) := by
  unfold writePwr
  exact hs.writeLoop.ite (hs.writePwrLim.ite hs.writeGeneric)
protected theorem Keeps.writeSaf {w v} (hs : Keeps A s₀ s) : Keeps A s₀ (writeSaf w v s) := by
  unfold writeSaf
  exact hs.writeSafEnter.ite (hs.writeSafStctl.ite (hs.writeSafRsel.ite hs.writeGeneric))
protected theorem Keeps.writeBlock {w v} (hs : Keeps A s₀ s) : Keeps A s₀ (writeBlock w v s) := by
  unfold writeBlock
  split
  · exact hs.writeDev
  · exact hs.writeCmd
  · exact hs.writeMbx
  · exact hs.writeFab
  · exact hs.writeBel
  · exact hs.writeTol
  · exact hs.writeMem
  · exact hs.writeLnk
  · exact hs.writeObs
  · exact hs.writeClpBlock
  · exact hs.writeCnt
  · exact hs.writeRol
  · exact hs.writeSnk
  · exact hs.writePwr
  · exact hs.writeSaf
protected theorem Keeps.writeReg {f src o v} (hs : Keeps A s₀ s) : Keeps A s₀ (writeReg f src o v s) :=
  hs.ite (hs.refuse.ite (hs.refuse.ite (hs.refuse.ite hs.writeBlock)))
protected theorem Keeps.bar0Read {f o} (hs : Keeps A s₀ s) : Keeps A s₀ (bar0Read f o s).2 := by
  unfold bar0Read
  split
  · exact hs.readReg
  · exact hs
protected theorem Keeps.bar0Write {f src o v} (hs : Keeps A s₀ s) : Keeps A s₀ (bar0Write f src o v s) := by
  unfold bar0Write
  split
  · exact hs.writeReg
  · exact hs

end Sys2Proof.Proofs
end

section
/-! PROOFS. What the operations of Sys2Proof/Machine/Bar2.lean keep. -/

namespace Sys2Proof.Proofs

open Sys2Proof Sys2Proof.Machine Sys2Proof.Laws

set_option Elab.async false

variable {A : Areas} {s₀ s t : State}

protected theorem Keeps.b2wFlag {f bits} (hs : Keeps A s₀ s) : Keeps A s₀ (b2wFlag f bits s) :=
  hs.forL fun _ _ hs => hs.setBit
protected theorem Keeps.b2wCount {h r lines} (hs : Keeps A s₀ s) : Keeps A s₀ (b2wCount h r lines s) :=
  hs.same.ite hs
protected theorem Keeps.b2wRead {h r off len} (hs : Keeps A s₀ s) : Keeps A s₀ (b2wRead h r off len s).2.2 :=
  (hs.foldlThd fun _ _ hs => hs.ite hs.memError).b2wCount
protected theorem Keeps.b2wLine {h r off data en l} (hs : Keeps A s₀ s) : Keeps A s₀ (b2wLine h r off data en l s) :=
  hs.writeReport.ite ((hs.ite hs.writeReport).ite (hs.ite hs.writeReport).writeReport)
protected theorem OutKeeps.execBar2Access {fn addr write len data en} (hs : Keeps A s₀ s) :
    OutKeeps A s₀ (execBar2Access fn addr write len data en s) :=
  .ite .fault <|
  .ite .fault <|
  .ite (.next hs) <|
  .ite
    (.ite (.next (hs.b2wFlag.forN (fun _ _ hs => hs.b2wLine)).b2wCount) <|
     .next (hs.b2wFlag.b2wRead.b2wFlag.ite hs.b2wFlag.b2wRead).emit)
    (.ite (.next (hs.b2wFlag.errFlag.ite hs.b2wFlag)) (.next hs.b2wFlag.emit))
protected theorem OutKeeps.execBar2ReadTimeout {fn addr} (hs : Keeps A s₀ s) :
    OutKeeps A s₀ (execBar2ReadTimeout fn addr s) :=
  .ite .fault <| .ite .fault <| .ite (.next hs.b2wFlag.emit) (.next hs)

end Sys2Proof.Proofs
end

section
/-! PROOFS. What the operations of Sys2Proof/Machine/RegRows.lean keep. -/

namespace Sys2Proof.Proofs

open Sys2Proof Sys2Proof.Machine Sys2Proof.Laws

set_option Elab.async false

variable {A : Areas} {s₀ s t : State}

protected theorem OutKeeps.rowWrite {o w} (hs : Keeps A s₀ s) : OutKeeps A s₀ (rowWrite o w s) :=
  .ite .fault (.next hs.writeReg)
protected theorem OutKeeps.guarded {what n count k} (hk : OutKeeps A s₀ k) : OutKeeps A s₀ (guarded what n count k) :=
  .ite hk .fault
protected theorem OutKeeps.execPartSwitchGo {w} (hs : Keeps A s₀ s) : OutKeeps A s₀ (execPartSwitchGo w s) :=
  .rowWrite hs
protected theorem OutKeeps.execPartCtlReset {w p} (hs : Keeps A s₀ s) : OutKeeps A s₀ (execPartCtlReset w p s) :=
  .guarded (.rowWrite hs)
protected theorem OutKeeps.execBelStrk {w} (hs : Keeps A s₀ s) : OutKeeps A s₀ (execBelStrk w s) :=
  .rowWrite hs
protected theorem OutKeeps.execPlnSwitchGo {w p} (hs : Keeps A s₀ s) : OutKeeps A s₀ (execPlnSwitchGo w p s) :=
  .guarded (.rowWrite hs)
protected theorem OutKeeps.execMemRgna {w h r} (hs : Keeps A s₀ s) : OutKeeps A s₀ (execMemRgna w h r s) :=
  .guarded (.guarded (.rowWrite hs))
protected theorem OutKeeps.execMemRkctlGo {w h} (hs : Keeps A s₀ s) : OutKeeps A s₀ (execMemRkctlGo w h s) :=
  .guarded (.rowWrite hs)
protected theorem OutKeeps.execJctlGo {w r} (hs : Keeps A s₀ s) : OutKeeps A s₀ (execJctlGo w r s) :=
  .guarded (.rowWrite hs)
protected theorem OutKeeps.execChannelEn {w n} (hs : Keeps A s₀ s) : OutKeeps A s₀ (execChannelEn w n s) :=
  .guarded (.rowWrite hs)
protected theorem OutKeeps.execSnkParEn {w} (hs : Keeps A s₀ s) : OutKeeps A s₀ (execSnkParEn w s) :=
  .rowWrite hs
protected theorem OutKeeps.execSnkSerEn {w} (hs : Keeps A s₀ s) : OutKeeps A s₀ (execSnkSerEn w s) :=
  .rowWrite hs
protected theorem OutKeeps.execClpArm {w} (hs : Keeps A s₀ s) : OutKeeps A s₀ (execClpArm w s) :=
  .rowWrite hs
protected theorem OutKeeps.execClpLevelRelease {w} (hs : Keeps A s₀ s) : OutKeeps A s₀ (execClpLevelRelease w s) :=
  .rowWrite hs
protected theorem OutKeeps.execEvselWrite {w ctr} (hs : Keeps A s₀ s) : OutKeeps A s₀ (execEvselWrite w ctr s) :=
  .ite (.rowWrite hs) .fault
protected theorem OutKeeps.execValhLoad {w ctr} (hs : Keeps A s₀ s) : OutKeeps A s₀ (execValhLoad w ctr s) :=
  .ite (.rowWrite hs) .fault
protected theorem OutKeeps.execCntSnapGo {w} (hs : Keeps A s₀ s) : OutKeeps A s₀ (execCntSnapGo w s) :=
  .rowWrite hs
protected theorem OutKeeps.execCntFrzRelease {w} (hs : Keeps A s₀ s) : OutKeeps A s₀ (execCntFrzRelease w s) :=
  .rowWrite hs
protected theorem OutKeeps.execRetrain {w n} (hs : Keeps A s₀ s) : OutKeeps A s₀ (execRetrain w n s) :=
  .guarded (.rowWrite hs)
protected theorem OutKeeps.execTolCtlSrc {w} (hs : Keeps A s₀ s) : OutKeeps A s₀ (execTolCtlSrc w s) :=
  .rowWrite hs
protected theorem OutKeeps.execTolSetsec {w} (hs : Keeps A s₀ s) : OutKeeps A s₀ (execTolSetsec w s) :=
  .rowWrite hs
protected theorem OutKeeps.execSafRselGo {w} (hs : Keeps A s₀ s) : OutKeeps A s₀ (execSafRselGo w s) :=
  .rowWrite hs
protected theorem OutKeeps.execSafEnter {w} (hs : Keeps A s₀ s) : OutKeeps A s₀ (execSafEnter w s) :=
  .rowWrite hs
protected theorem OutKeeps.execInjectionArm {w which} (hs : Keeps A s₀ s) :
    OutKeeps A s₀ (execInjectionArm w which s) :=
  .guarded (.rowWrite hs)
protected theorem OutKeeps.execDoorbell {w k} (hs : Keeps A s₀ s) : OutKeeps A s₀ (execDoorbell w k s) :=
  .guarded (.rowWrite hs)
protected theorem OutKeeps.execCqHeadWrite {w k} (hs : Keeps A s₀ s) : OutKeeps A s₀ (execCqHeadWrite w k s) :=
  .guarded (.rowWrite hs)
protected theorem OutKeeps.execRqEn {w k} (hs : Keeps A s₀ s) : OutKeeps A s₀ (execRqEn w k s) :=
  .guarded (.rowWrite hs)
protected theorem OutKeeps.execRngRd {w n ingest} (hs : Keeps A s₀ s) : OutKeeps A s₀ (execRngRd w n ingest s) :=
  .guarded (.rowWrite hs)
protected theorem OutKeeps.execFlush {w n} (hs : Keeps A s₀ s) : OutKeeps A s₀ (execFlush w n s) :=
  .guarded (.rowWrite hs)
protected theorem OutKeeps.execDevLock {w} (hs : Keeps A s₀ s) : OutKeeps A s₀ (execDevLock w s) :=
  .rowWrite hs
protected theorem OutKeeps.execImrWrite {w f high} (hs : Keeps A s₀ s) : OutKeeps A s₀ (execImrWrite w f high s) :=
  .guarded (.rowWrite hs)
protected theorem OutKeeps.execB2wCtl {w k} (hs : Keeps A s₀ s) : OutKeeps A s₀ (execB2wCtl w k s) :=
  .guarded (.rowWrite hs)
protected theorem OutKeeps.rowRead {fn o} (hs : Keeps A s₀ s) : OutKeeps A s₀ (rowRead fn o s) :=
  .ite .fault <| .ite (.next hs) (.next hs.readReg.emit)
protected theorem OutKeeps.execTolNowlRead {fn} (hs : Keeps A s₀ s) : OutKeeps A s₀ (execTolNowlRead fn s) :=
  .rowRead hs
protected theorem OutKeeps.execClkFclRead {fn p} (hs : Keeps A s₀ s) : OutKeeps A s₀ (execClkFclRead fn p s) :=
  .guarded (.rowRead hs)

end Sys2Proof.Proofs
end

section
/-! PROOFS. What the operations of Sys2Proof/Machine/Rings.lean keep. -/

namespace Sys2Proof.Proofs

open Sys2Proof Sys2Proof.Machine Sys2Proof.Laws

set_option Elab.async false

variable {A : Areas} {s₀ s t : State}

protected theorem Keeps.afterExec {o} (hs : Keeps A s₀ s) (ho : OutKeeps A s₀ o) : Keeps A s₀ (afterExec o s) := by
  unfold afterExec
  split
  · next t => exact ho t rfl
  · exact hs
protected theorem Keeps.regReads {f n o} (hs : Keeps A s₀ s) : Keeps A s₀ (regReads f n o s).2 := by
  induction n generalizing o s with
  | zero => exact hs
  | succ n ih => exact ih hs.bar0Read
protected theorem ResKeeps.bodyRegRead {c} (hs : Keeps A s₀ s) : ResKeeps A s₀ (bodyRegRead c s) :=
  .ite (.no hs) (.done hs.regReads)
protected theorem OutKeeps.execRegRead {c} (hs : Keeps A s₀ s) : OutKeeps A s₀ (execRegRead c s) :=
  .next (hs.runCmd (fun _ _ hs => .bodyRegRead hs))
protected theorem Keeps.regWriteOne {c o v} (hs : Keeps A s₀ s) : Keeps A s₀ (regWriteOne c o v s).2 := by
  unfold regWriteOne
  split
  · exact hs
  · exact .iteSnd hs (.iteSnd hs.writeReg (.iteSnd hs.writeReg hs.writeReg))
protected theorem Keeps.regWrites {c n i} (hs : Keeps A s₀ s) : Keeps A s₀ (regWrites c n i s).2.2 := by
  induction n generalizing i s with
  | zero => exact hs
  | succ n ih =>
    unfold regWrites
    split
    · next e => exact hs.regWriteOne.snd e
    · next e => exact ih (hs.regWriteOne.snd e)
protected theorem ResKeeps.bodyRegWrite {c} (hs : Keeps A s₀ s) : ResKeeps A s₀ (bodyRegWrite c s) := by
  refine .ite (.no hs) ?_
  dsimp only
  split
  · exact .fail (hs.regWrites.ite hs.regWrites.mark)
  · exact .done hs.regWrites
protected theorem Keeps.regWriteCore {c} (hs : Keeps A s₀ s) : Keeps A s₀ (regWriteCore c s) :=
  hs.runCmd (fun _ _ hs => .bodyRegWrite hs)
protected theorem Keeps.runOpcode {op c} (hs : Keeps A s₀ s) (hk : A.keys) (ht : A.trust) :
    Keeps A s₀ (runOpcode op c s) := by
  unfold runOpcode
  split
  · exact hs.afterExec (.execNop hs)
  · exact hs.afterExec (.execQueryCaps hs)
  · exact hs.afterExec (.execErrlogRead hs)
  · exact hs.afterExec (.execFwSvnCommit hs ht)
  · exact hs.afterExec (.execPartQuery hs)
  · exact hs.afterExec (.execPartAssign hs)
  · exact hs.afterExec (.execPartReset hs)
  · exact hs.afterExec (.execPartExpert hs)
  · exact hs.afterExec (.execBellSet hs)
  · exact hs.afterExec (.execBellStrike hs)
  · exact hs.afterExec (.execBellWait hs)
  · exact hs.afterExec (.execPlanAdmit hs)
  · exact hs.afterExec (.execPlanLoad hs)
  · exact hs.afterExec (.execPlanStart hs)
  · exact hs.afterExec (.execPlanSwitch hs)
  · exact hs.afterExec (.execPlanEvict hs)
  · exact hs.afterExec (.execPlanStop hs)
  · exact hs.afterExec (.execPlanClear hs)
  · exact hs.afterExec (.execRgnSet hs)
  · exact hs.afterExec (.execRgnClear hs)
  · exact hs.afterExec (.execRgnZfill hs)
  · exact hs.afterExec (.execRekeyRegion hs)
  · exact hs.afterExec (.execMemRead hs)
  · exact hs.afterExec (.execMemWrite hs)
  · exact hs.afterExec (.execRollGrant hs)
  · exact hs.afterExec (.execRollJob hs)
  · exact hs.afterExec (.execDpPush hs)
  · exact hs.afterExec (.execAttest hs ht)
  · exact hs.afterExec (.execCertGet hs)
  · exact hs.afterExec (.execKeySession hs ht)
  · exact hs.afterExec (.execKeyInstall hs hk ht)
  · exact hs.afterExec (.execKeyCommit hs hk)
  · exact hs.afterExec (.execKeyDiscard hs hk)
  · exact hs.afterExec (.execKeyDelete hs hk)
  · exact hs.afterExec (.execSetEnrol hs ht)
  · exact hs.afterExec (.execSetLeave hs)
  · exact hs.afterExec (.execWeightUnwrap hs)
  · exact hs.afterExec (.execToolkeyEnrol hs)
  · exact hs.afterExec (.execToolkeyRevoke hs)
  · exact hs.afterExec (.execDbgkeyEnrol hs)
  · exact hs.afterExec (.execDbgkeyRevoke hs)
  · exact hs.afterExec (.execChConfig hs)
  · exact hs.afterExec (.execChWindow hs)
  · exact hs.afterExec (.execChEnable hs)
  · exact hs.afterExec (.execRingSet hs)
  · exact hs.afterExec (.execSinkPort hs)
  · exact hs.afterExec (.execGovSet hs)
  · exact hs.afterExec (.execClapLoad hs)
  · exact hs.afterExec (.execCntSet hs)
  · exact hs.afterExec (.execCntSnap hs)
  · exact hs.afterExec (.execLinkCtl hs)
  · exact hs.afterExec (.execLinkAssign hs)
  · exact hs.afterExec (.execLinkQuery hs)
  · exact hs.afterExec (.execLinkCapture hs)
  · exact hs.afterExec (.execLinkImpair hs)
  · exact hs.afterExec (.execPealSet hs)
  · exact hs.afterExec (.execPealRoute hs)
  · exact hs.afterExec (.execTollSet hs)
  · exact hs.afterExec (.execTollQuery hs)
  · exact hs.afterExec (.execPwrPin hs)
  · exact hs.afterExec (.execPwrHint hs)
  · exact hs.afterExec (.execPwrQuery hs)
  · exact hs.afterExec (.execFaultRead hs)
  · exact hs.afterExec (.execSelftest hs)
  · exact hs.afterExec (.execDrain hs)
  · exact hs.afterExec (.execMigrate hs)
  · exact hs.afterExec (.execMigrateRecv hs)
  · exact hs.afterExec (.execRestore hs)
  · exact hs.afterExec (.execDbgNonce hs ht)
  · exact hs.afterExec (.execDbgAdmit hs ht)
  · exact hs.afterExec (.execDbgEnd hs ht)
  · exact hs.afterExec (.execRegRead hs)
  · exact hs.regWriteCore
  · exact hs.runCmd (fun _ _ hs => .no hs)
protected theorem Keeps.runMail {f s'} (hs : Keeps A s₀ s) (hk : A.keys) (ht : A.trust) :
    Keeps A s₀ (runMail f s' s) :=
  (hs.runOpcode hk ht).ite hs
protected theorem OutKeeps.execMbxGo {w} (hs : Keeps A s₀ s) (hk : A.keys) (ht : A.trust) :
    OutKeeps A s₀ (execMbxGo w s) := by
  unfold execMbxGo
  exact .ite .fault (.next (hs.writeReg.runMail hk ht))
protected theorem OutKeeps.execRegWrite {c} (hs : Keeps A s₀ s) (hk : A.keys) (ht : A.trust) :
    OutKeeps A s₀ (execRegWrite c s) :=
  .next (hs.regWriteCore.runMail hk ht)
protected theorem OutKeeps.execRegisterWrite {a} (hs : Keeps A s₀ s) (hk : A.keys) (ht : A.trust) :
    OutKeeps A s₀ (execRegisterWrite a s) :=
  .ite .fault <|
  .ite .fault <|
  .ite (.next hs) <| .ite (.next hs.emit.errFlag) (.next ((hs.bar0Write.bar0Write.ite hs.bar0Write).runMail hk ht))
protected theorem OutKeeps.execDescriptorFetch {fn k desc readErr buf bufErr} (hs : Keeps A s₀ s) (hk : A.keys)
    (ht : A.trust) :
    OutKeeps A s₀ (execDescriptorFetch fn k desc readErr buf bufErr s) := by
  refine .ite .fault <| .ite .fault <| .ite (.next hs) ?_
  dsimp only
  split
  · exact .ite (.next hs) (.next ((hs.setFnRt.runOpcode hk ht).runMail hk ht))
  · exact .ite (.next hs) <|
      .ite (.next hs.setBit.put.setFnRt) <|
      .ite (.next hs.put.setFnRt) (.next ((hs.put.runOpcode hk ht).runMail hk ht))

end Sys2Proof.Proofs
end

section
/-! PROOFS. What every command and every step keeps. -/

namespace Sys2Proof.Proofs

open Sys2Proof Sys2Proof.Machine Sys2Proof.Laws

set_option Elab.async false

/-- The TKCLK edge of an empty queue. -/
protected theorem Keeps.tollTick {A : Areas} {s₀ s : State} (hs : Keeps A s₀ s) : Keeps A s₀ (tollTick s) := by
  unfold tollTick
  extract_lets slews e x s₁ toll s₂
  have h₁ : Keeps A s₀ s₁ := hs.putFine
  have h₂ : Keeps A s₀ s₂ := h₁.setToll.takeOff.ite h₁
  clear_value s₂
  split
  · exact h₂
  · exact h₂.setToll.setTime.ite h₂

/-- The commands that may change what the fuses say of the stacks. -/
def reachesFuse : Instr → Bool
  | .coldReset _ | .mrpReady _ | .powerLoss => true
  | _ => false

/-- The areas that the model says a command may reach. -/
def reach (i : Instr) : Areas where
  keys := reachesKeys i = true
  trust := reachesTrust i = true
  sram := reachesSram i = true
  vfs := reachesVfs i = true
  fuse := reachesFuse i = true

/-- One case per command: each reaches no area but those that `reach` names, which is where a `rfl` stands. -/
theorem exec_keeps (i : Instr) (s : State) : OutKeeps (reach i) s (exec i s) := by
  have hs := Keeps.refl (reach i) s
  cases i with
  | nop c => exact .execNop hs
  | queryCaps c => exact .execQueryCaps hs
  | errlogRead c => exact .execErrlogRead hs
  | fwSvnCommit c => exact .execFwSvnCommit hs rfl
  | partQuery c => exact .execPartQuery hs
  | partAssign c => exact .execPartAssign hs
  | partSwitchGo w => exact .execPartSwitchGo hs
  | holderChangePhaseEnd bad => exact .execHolderChangePhaseEnd hs rfl rfl rfl
  | zfill => exact .execZfill hs
  | partReset c => exact .execPartReset hs
  | partCtlReset w p => exact .execPartCtlReset hs
  | partitionResetEnd p bad => exact .execPartitionResetEnd hs rfl rfl rfl
  | partExpert c => exact .execPartExpert hs
  | bellSet c => exact .execBellSet hs
  | bellStrike c => exact .execBellStrike hs
  | belStrk w => exact .execBelStrk hs
  | bellWait c => exact .execBellWait hs
  | bellWaitEnd idx => exact .execBellWaitEnd hs
  | bellWaitTimeout idx => exact .execBellWaitTimeout hs
  | idleStrikeApply p => exact .execIdleStrikeApply hs
  | planAdmit c => exact .execPlanAdmit hs
  | planAdmitDone idx => exact .execPlanAdmitDone hs
  | planLoad c => exact .execPlanLoad hs
  | contextLoadDone idx bad => exact .execContextLoadDone hs
  | planStart c => exact .execPlanStart hs
  | tollStart d => exact .execTollStart hs
  | planSwitch c => exact .execPlanSwitch hs
  | plnSwitchGo w p => exact .execPlnSwitchGo hs
  | planEvict c => exact .execPlanEvict hs
  | planStop c => exact .execPlanStop hs
  | planClear c => exact .execPlanClear hs
  | classChangeDone d => exact .execClassChangeDone hs
  | classLock d => exact .execClassLock hs
  | switchEnd d => exact .execSwitchEnd hs
  | runEnd d => exact .execRunEnd hs
  | rgnSet c => exact .execRgnSet hs
  | rgnClear c => exact .execRgnClear hs
  | rgnZfill c => exact .execRgnZfill hs
  | memRgna w h r => exact .execMemRgna hs
  | sweepEnd h r => exact .execSweepEnd hs
  | rekeyRegion c => exact .execRekeyRegion hs
  | memRkctlGo w h => exact .execMemRkctlGo hs
  | rekeyEnd h unread => exact .execRekeyEnd hs
  | memRead c => exact .execMemRead hs
  | memWrite c => exact .execMemWrite hs
  | rollGrant c => exact .execRollGrant hs
  | rollJob c => exact .execRollJob hs
  | jctlGo w r => exact .execJctlGo hs
  | rollJobDone r => exact .execRollJobDone hs
  | dpPush c => exact .execDpPush hs
  | pushWordEnter idx => exact .execPushWordEnter hs
  | pushTimeout idx => exact .execPushTimeout hs
  | attest c => exact .execAttest hs rfl
  | certGet c => exact .execCertGet hs
  | keySession c => exact .execKeySession hs rfl
  | sessionExpiry holder => exact .execSessionExpiry hs rfl
  | keyInstall c => exact .execKeyInstall hs rfl rfl
  | keyCommit c => exact .execKeyCommit hs rfl
  | keyDiscard c => exact .execKeyDiscard hs rfl
  | keyDelete c => exact .execKeyDelete hs rfl
  | setEnrol c => exact .execSetEnrol hs rfl
  | setLeave c => exact .execSetLeave hs
  | weightUnwrap c => exact .execWeightUnwrap hs
  | toolkeyEnrol c => exact .execToolkeyEnrol hs
  | toolkeyRevoke c => exact .execToolkeyRevoke hs
  | dbgkeyEnrol c => exact .execDbgkeyEnrol hs
  | dbgkeyRevoke c => exact .execDbgkeyRevoke hs
  | dbgNonce c => exact .execDbgNonce hs rfl
  | nonceExpiry => exact .execNonceExpiry hs rfl
  | dbgAdmit c => exact .execDbgAdmit hs rfl
  | dbgEnd c => exact .execDbgEnd hs rfl
  | tokenExpiry => exact .execTokenExpiry hs rfl
  | chConfig c => exact .execChConfig hs
  | chWindow c => exact .execChWindow hs
  | chEnable c => exact .execChEnable hs
  | channelEn w n => exact .execChannelEn hs
  | ringSet c => exact .execRingSet hs
  | sinkPort c => exact .execSinkPort hs
  | snkParEn w => exact .execSnkParEn hs
  | snkSerEn w => exact .execSnkSerEn hs
  | govSet c => exact .execGovSet hs
  | clapLoad c => exact .execClapLoad hs
  | clpArm w => exact .execClpArm hs
  | clpLevelRelease w => exact .execClpLevelRelease hs
  | cntSet c => exact .execCntSet hs
  | evselWrite w ctr => exact .execEvselWrite hs
  | valhLoad w ctr => exact .execValhLoad hs
  | cntSnap c => exact .execCntSnap hs
  | cntSnapGo w => exact .execCntSnapGo hs
  | cntFrzRelease w => exact .execCntFrzRelease hs
  | linkCtl c => exact .execLinkCtl hs
  | retrain w n => exact .execRetrain hs
  | linkAssign c => exact .execLinkAssign hs
  | linkQuery c => exact .execLinkQuery hs
  | linkCapture c => exact .execLinkCapture hs
  | linkImpair c => exact .execLinkImpair hs
  | pealSet c => exact .execPealSet hs
  | pealRoute c => exact .execPealRoute hs
  | tollSet c => exact .execTollSet hs
  | tolCtlSrc w => exact .execTolCtlSrc hs
  | tolSetsec w => exact .execTolSetsec hs
  | tollQuery c => exact .execTollQuery hs
  | tolNowlRead fn => exact .execTolNowlRead hs
  | clkFclRead fn p => exact .execClkFclRead hs
  | pwrPin c => exact .execPwrPin hs
  | pwrHint c => exact .execPwrHint hs
  | pwrQuery c => exact .execPwrQuery hs
  | faultRead c => exact .execFaultRead hs
  | safRselGo w => exact .execSafRselGo hs
  | selftest c => exact .execSelftest hs
  | drain c => exact .execDrain hs
  | migrate c => exact .execMigrate hs
  | migrateRecv c => exact .execMigrateRecv hs
  | migrationMessage port m => exact .execMigrationMessage hs
  | migrateTimeout idx => exact .execMigrateTimeout hs
  | stall idx => exact .execStall hs
  | offerTimeout idx => exact .execOfferTimeout hs
  | restore c => exact .execRestore hs
  | regRead c => exact .execRegRead hs
  | regWrite c => exact .execRegWrite hs rfl rfl
  | registerWrite a => exact .execRegisterWrite hs rfl rfl
  | injectionArm w which => exact .execInjectionArm hs
  | doorbell w k => exact .execDoorbell hs
  | cqHeadWrite w k => exact .execCqHeadWrite hs
  | rqEn w k => exact .execRqEn hs
  | descriptorFetch fn k desc readErr buf bufErr => exact .execDescriptorFetch hs rfl rfl
  | mbxGo w => exact .execMbxGo hs rfl rfl
  | rngRd w n ingest => exact .execRngRd hs
  | flush w n => exact .execFlush hs
  | devLock w => exact .execDevLock hs
  | imrWrite w f high => exact .execImrWrite hs
  | b2wCtl w k => exact .execB2wCtl hs
  | bar2Access fn addr write len data en => exact .execBar2Access hs
  | bar2ReadTimeout fn addr => exact .execBar2ReadTimeout hs
  | safEnter w => exact .execSafEnter hs
  | coldReset b => exact .execColdReset hs rfl rfl rfl rfl rfl
  | mrpReady b => exact .execMrpReady hs rfl rfl rfl
  | powerLoss => exact .execPowerLoss hs rfl rfl rfl rfl rfl
  | warmReset => exact .execWarmReset hs rfl rfl
  | conventionalReset perst => exact .execConventionalReset hs rfl
  | functionReset fn => exact .execFunctionReset hs
  | pf0Flr => exact .execPf0Flr hs rfl
  | busMasterEnable fn en => exact .execBusMasterEnable hs
  | recoveryPiece => exact .execRecoveryPiece hs rfl
  | safeReq low => exact .execSafeReq hs
  | clockLoss clk => exact .execClockLoss hs rfl
  | voltage rail high mV => exact .execVoltage hs
  | watchdogExpiry => exact .execWatchdogExpiry hs
  | watchdogWarmReset => exact .execWatchdogWarmReset hs rfl rfl
  | thermalLoop r => exact .execThermalLoop hs
  | voltageLoop rail early settled => exact .execVoltageLoop hs
  | governorLoop h => exact .execGovernorLoop hs
  | linkEq n code => exact .execLinkEq hs
  | refreshRate stack tempC => exact .execRefreshRate hs
  | throttleWindow d => exact .execThrottleWindow hs
  | periodicSelftest unit fail => exact .execPeriodicSelftest hs
  | arrival q => exact .execArrival hs
  | release q => exact .execRelease hs
  | slipEnd d => exact .execSlipEnd hs
  | slipLimit d => exact .execSlipLimit hs
  | waitTimeout d idx => exact .execWaitTimeout hs
  | slotSwitch unit slot => exact .execSlotSwitch hs
  | dotStep unit bad => exact .execDotStep hs
  | agRun unit ag prog => exact .execAgRun hs
  | agAccess unit ag ecc => exact .execAgAccess hs rfl
  | eccWriteBack unit => exact .execEccWriteBack hs
  | route unit set => exact .execRoute hs
  | steer unit elem len => exact .execSteer hs
  | creditLate unit src => exact .execCreditLate hs
  | dmaIssue d ri occ => exact .execDmaIssue hs
  | dmaComplete d ri occ => exact .execDmaComplete hs
  | hbmReadReturn d ri occ line fault => exact .execHbmReadReturn hs
  | rollBlock r ev => exact .execRollBlock hs
  | tx port ri occ => exact .execTx hs
  | frameSend port => exact .execFrameSend hs
  | frameReceive port f => exact .execFrameReceive hs
  | linkDown port reason => exact .execLinkDown hs
  | train port => exact .execTrain hs
  | trainTimeout port => exact .execTrainTimeout hs
  | autoRetrain port => exact .execAutoRetrain hs
  | hello port m => exact .execHello hs
  | latrsp port m => exact .execLatrsp hs
  | sync port m => exact .execSync hs
  | dreq port m => exact .execDreq hs
  | dresp port m => exact .execDresp hs
  | syncSend port => exact .execSyncSend hs
  | referenceLost cause => exact .execReferenceLost hs
  | holdoverLimit => exact .execHoldoverLimit hs
  | ppsEdge => exact .execPpsEdge hs
  | tollRefclkLoss => exact .execTollRefclkLoss hs
  | tollRefclkPresent => exact .execTollRefclkPresent hs
  | clapIn pin level => exact .execClapIn hs
  | tapRecord unit data => exact .execTapRecord hs
  | packetWrite => exact .execPacketWrite hs
  | scoreClose d cluster => exact .execScoreClose hs
  | clapperMatch => exact .execClapperMatch hs
  | stopCountEnd => exact .execStopCountEnd hs
  | pulseEnd pin => exact .execPulseEnd hs
  | sample unit => exact .execSample hs rfl
  | groupSample group => exact .execGroupSample hs
  | threshold t => exact .execThreshold hs
  | overflow ctr => exact .execOverflow hs
  | frameForm n => exact .execFrameForm hs
  | flushTimer n => exact .execFlushTimer hs
  | ringDeliver n ok => exact .execRingDeliver hs
  | portFrame serial => exact .execPortFrame hs
  | fclkEdge d => exact .execFclkEdge hs rfl
  | latreq port m => exact .execLatreq hs
  | frameLock port => exact .execFrameLock hs
  | tollRefclkReturn => exact .execTollRefclkReturn hs
  | sysRstRelease => exact .execSysRstRelease hs rfl
  | perstRelease => exact .execPerstRelease hs
  | pcieLinkTrained rate width => exact .execPcieLinkTrained hs
  | msixUnmask fn vec => exact .execMsixUnmask hs
  | numvfsWrite n => exact .execNumvfsWrite hs rfl
  | jtagInstructionLoad ir => exact .execJtagInstructionLoad hs
  | regulatorTimeout rail => exact .execRegulatorTimeout hs
  | drainDone idx => exact .execDrainDone hs
  | restoreDone idx => exact .execRestoreDone hs rfl
  | selftestDone idx failed => exact .execSelftestDone hs rfl
  | recordUpdateDone idx ok => exact .execRecordUpdateDone hs rfl
  | weightUnwrapDone idx => exact .execWeightUnwrapDone hs

theorem reachesFuse_eq_false {i : Instr} (hc : ∀ b, i ≠ .coldReset b) (hr : ∀ r, i ≠ .mrpReady r) (hp : i ≠ .powerLoss) :
    reachesFuse i = false := by
  unfold reachesFuse
  split
  · exact absurd rfl (hc _)
  · exact absurd rfl (hr _)
  · exact absurd rfl hp
  · rfl

/-- Settles O47: each command keeps the queue and the fixed fuses, and reaches the rest of the fuses only where
`reachesFuse` says so. -/
theorem commandsKeepQueueAndFuses : Obligations.CommandsKeepQueueAndFuses := by
  unfold Obligations.CommandsKeepQueueAndFuses
  intro i s t ht
  have hk := exec_keeps i s t ht
  refine ⟨hk.pending, hk.freeCtr, hk.variant, hk.grade, hk.stepping, fun hc hr hp => hk.fuse.resolve_left ?_⟩
  show ¬ reachesFuse i = true
  rw [reachesFuse_eq_false hc hr hp]
  exact Bool.false_ne_true

/-- Settles O44: a step is a command on the state without the queue's front, or one TKCLK edge, and both keep the invariant. -/
theorem stepKeepsInvariant : Obligations.StepKeepsInvariant := by
  unfold Obligations.StepKeepsInvariant
  intro s t hs ht
  unfold step at ht
  split at ht
  · obtain rfl := Host.Outcome.next.inj ht
    exact (Keeps.refl ⟨False, False, False, False, False⟩ s).tollTick.inv hs
  · next c rest _ =>
    have hrest : Inv { s with pending := rest } := inv_of_same hs rfl rfl rfl rfl
    exact (exec_keeps c _ t ht).inv hrest

end Sys2Proof.Proofs
end

section
/-! PROOFS. The array units in a score cycle (R76 to R83, R102 to R116, R124): what each row does once its condition holds. -/

namespace Sys2Proof.Proofs

open Sys2Proof Sys2Proof.Machine Sys2Proof.Laws

/-! ### Compute units -/

/-- SLOT_SWITCH before the CU's work of the edge: the scheduled slot becomes pending (R77). -/
theorem exec_slotSwitch_due {s : State} {u k : Nat} (hu : isCu u = true) (hacts : actsNow s (unitPart u) = true)
    (hsched : schedNow s u 0 0 k = true) (hdone : (domRt s (domLow s (unitPart u))).done.contains (1, u, 0) = false) :
    exec (.slotSwitch u k) s = .next (setCu u { cuRt s u with pend := some k } s) := by
  show execSlotSwitch u k s = _
  simp only [execSlotSwitch, hu, hacts, hsched, hdone, Bool.not_true, Bool.not_false, Bool.and_self, Bool.false_eq_true,
    ite_false, ite_true]

/-- DOT_STEP while planned actions take place: the CU does its score cycle (R76, R80 to R83). -/
theorem exec_dotStep_acting {s : State} {u : Nat} (bad : List Nat) (hu : isCu u = true) (hacts : actsNow s (unitPart u) = true)
    (hpres : unitPresent s u = true) : exec (.dotStep u bad) s = .next (cuOnce u bad s) := by
  show execDotStep u bad s = _
  simp [execDotStep, hu, hacts, hpres]

/-! ### Memory units and landing slices -/

/-- AG_RUN of an entry that the schedule holds for the current sc: the run starts (R102). -/
theorem exec_agRun_due {s : State} {u : Nat} {b : UnitBlk} {e : SchedRec} (hu : isMem u = true)
    (hacts : actsNow s (muPart u) = true) (hb : muBlk s u = some b) (he : e ∈ b.sched) (hsc : e.sc = relSc s (muPart u)) :
    exec (.agRun u e.elem e.index) s = .next (agStart u e.elem e.index s) := by
  show execAgRun u e.elem e.index s = _
  have hdue : b.sched.any (fun x => decide (x.sc = relSc s (muPart u)) && decide (x.elem = e.elem) &&
      decide (x.index = e.index)) = true := List.any_eq_true.2 ⟨e, he, by simp [hsc]⟩
  simp only [execAgRun, hu, hacts, hb, hdue, Bool.not_true, Bool.and_self, Bool.false_eq_true, ite_false, ite_true]

/-- AG_ACCESS while planned actions take place: the sc is planned, then the generator's accesses are performed
(R103 to R116). -/
theorem exec_agAccess_acting {s : State} {u : Nat} (ag ecc : Nat) (hu : isMem u = true) (hacts : actsNow s (muPart u) = true)
    (hpres : memPresent s u = true) : exec (.agAccess u ag ecc) s = .next (muPerform u (some ag) ecc (muPlan u s)) := by
  show execAgAccess u ag ecc s = _
  simp [execAgAccess, hu, hacts, hpres]

/-- ECC_WRITE_BACK: the bank must be free of the accesses planned for this sc, and none is planned while no planned
action takes place (R114, R124). -/
theorem exec_eccWriteBack_present {s : State} {u : Nat} (hu : isMem u = true) (hpres : memPresent s u = true) :
    exec (.eccWriteBack u) s = .next (muWriteBack u
      (if actsNow s (muPart u) then muPlan u s else setMu u { muRt s u with acts := [] } s)) := by
  show execEccWriteBack u s = _
  simp [execEccWriteBack, hu, hpres]

/-- Settles O34: each row of a CU, an MU or a slice does its unit's shared step when its condition holds. -/
theorem arrayUnitEventsComplete : Obligations.ArrayUnitEventsComplete := by
  unfold Obligations.ArrayUnitEventsComplete
  refine ⟨fun s u k bad hu hacts => ⟨exec_slotSwitch_due hu hacts, exec_dotStep_acting bad hu hacts⟩,
    fun s u ag n hu hacts => ⟨?_, fun hpres => ⟨exec_agAccess_acting ag n hu hacts hpres, ?_⟩⟩, fun s u hu hacts hpres => ?_⟩
  · rintro b e hb he hsc rfl rfl
    exact exec_agRun_due hu hacts hb he hsc
  · rw [exec_eccWriteBack_present hu hpres, if_pos hacts]
  · rw [exec_eccWriteBack_present hu hpres, hacts, if_neg Bool.false_ne_true]

end Sys2Proof.Proofs
end

section
/-! PROOFS. The guarded parts of the state (R113, R559, R560, R575, R584), read off what every command keeps. -/

namespace Sys2Proof.Proofs

open Sys2Proof Sys2Proof.Machine

/-- Settles O60: by `exec_keeps` each command leaves alone every area that `reach` does not name for it, and `reach` names an
area exactly where the model's own predicate does. -/
theorem onlyNamedCommandsReach : Obligations.OnlyNamedCommandsReach := by
  unfold Obligations.OnlyNamedCommandsReach
  intro i s t ht
  have hk : Keeps (reach i) s t := exec_keeps i s t ht
  exact ⟨fun h => hk.keys.resolve_left (Bool.eq_false_iff.1 h), fun h => hk.trust.resolve_left (Bool.eq_false_iff.1 h),
    fun h => hk.sram.resolve_left (Bool.eq_false_iff.1 h), fun h => hk.vfs.resolve_left (Bool.eq_false_iff.1 h)⟩

end Sys2Proof.Proofs
end

section
/-! PROOFS. The fabric network and DMA in a score cycle (R138, R140, R149, R281, R283, R287, R291, R292): what each row does
once its condition holds. -/

namespace Sys2Proof.Proofs

open Sys2Proof Sys2Proof.Machine

/-! ### Switch boxes and sources -/

/-- ROUTE of a set that the schedule holds for the current sc: the set takes effect (R138). -/
theorem exec_route_due {s : State} {u k : Nat} (hu : arrayUnit u = true) (hacts : actsNow s (unitPart u) = true)
    (hsched : schedNow s u 2 0 k = true) : exec (.route u k) s = .next (doRoute u k s) := by
  show execRoute u k s = _
  simp [execRoute, hu, hacts, hsched]

/-- STEER of an entry that the schedule holds for the current sc: the run of the steer node or relay starts (R140). -/
theorem exec_steer_due {s : State} {u : Nat} {b : UnitBlk} {e : SchedRec} (hu : arrayUnit u = true)
    (hacts : actsNow s (unitPart u) = true) (hb : blkOf s u 2 = some b) (he : e ∈ b.sched) (hlo : 1 ≤ e.elem)
    (hhi : e.elem ≤ 4) (hsc : e.sc = relSc s (unitPart u)) :
    exec (.steer u e.elem e.len) s = .next (doSteer u e.elem e.len s) := by
  show execSteer u e.elem e.len s = _
  have hdue : b.sched.any (fun x => decide (x.elem = e.elem) && decide (1 ≤ e.elem) && decide (e.elem ≤ 4) &&
      decide (x.len = e.len) && decide (x.sc = relSc s (unitPart u))) = true :=
    List.any_eq_true.2 ⟨e, he, by simp [hlo, hhi, hsc]⟩
  simp only [execSteer, hu, hacts, hb, hdue, Bool.not_true, Bool.and_self, Bool.false_eq_true, ite_false, ite_true]

/-- CREDIT_LATE of a source with an overdue credit: its watchdog faults, once on the edge (R149; log entry 3). -/
theorem exec_creditLate_overdue {s : State} {u k : Nat} (hu : arrayUnit u = true) (hacts : actsNow s (unitPart u) = true)
    (hlate : lateSends s (32 * u + k) = true) :
    exec (.creditLate u k) s =
      .next (onceAt (domLow s (unitPart u)) (9, u, k) (Machine.creditLate (32 * u + k)) s) := by
  show execCreditLate u k s = _
  simp [execCreditLate, hu, hacts, hlate]

/-! ### DMA -/

/-- DMA_ISSUE of an occurrence that falls due: it issues or begins its wait, and the waits that ended issue theirs
(R204, R291). -/
theorem exec_dmaIssue_due {s : State} {d ri occ : Nat} {b : List Byte} (hd : d < 8) (hlow : domLow s d = d)
    (hacts : actsOn s d = true) (hrec : dmaRec s d ri = some b) (hdue : dmaDue s d b = some occ) :
    exec (.dmaIssue d ri occ) s = .next (dmaWaited d (dmaStart d ri occ s)) := by
  show execDmaIssue d ri occ s = _
  simp [execDmaIssue, hd, hlow, hacts, hrec, hdue]

/-- DMA_COMPLETE of an occurrence that is done once the outbound words have moved on: it leaves the list and
strikes its bell if its record asks for it, but not for inbound words from before a plan boundary (R232, R292). -/
theorem exec_dmaComplete_done {s : State} {d ri occ : Nat} {x : DmaRt} (hd : d < 8) (hlow : domLow s d = d)
    (hfind : findDma (pumpAll d s) d ri occ (dmaDone (pumpAll d s)) = some x) :
    exec (.dmaComplete d ri occ) s = .next
      (if x.strike && (x.outb || !x.old) then
        sendStrike x.bell (0x800 + 8 * x.part + x.lbd) none { pumpAll d s with dmas := (pumpAll d s).dmas.erase x }
      else { pumpAll d s with dmas := (pumpAll d s).dmas.erase x }) := by
  show execDmaComplete d ri occ s = _
  simp only [execDmaComplete, hd, hlow, hfind, decide_true, Bool.not_true, Bool.false_eq_true, ite_false]

/-! ### Returns of a Roll occurrence -/

/-- The words of a Roll occurrence hold one line each until its blocks are decoded (R508), so a line fills exactly one. -/
theorem filter_dmaAt_roll {x : DmaRt} {line : Nat} (hroll : x.roll = true) (hi : line - x.off / 128 < x.words.length) :
    (List.range x.words.length).filter (dmaAt x line) = [line - x.off / 128] := by
  have hpred : dmaAt x line = (· == line - x.off / 128) := by
    funext j
    simp [dmaAt, hroll, beq_eq_decide]
  have hone : (List.range x.words.length).count (line - x.off / 128) = 1 :=
    List.count_eq_one_of_mem List.nodup_range (List.mem_range.2 hi)
  rw [hpred, List.filter_beq, hone, List.replicate_one]

theorem find?_dmaAt_roll {x : DmaRt} {line : Nat} (hroll : x.roll = true) (hi : line - x.off / 128 < x.words.length) :
    (List.range x.words.length).find? (dmaAt x line) = some (line - x.off / 128) := by
  rw [← List.head?_filter, filter_dmaAt_roll hroll hi, List.head?_cons]

/-- HBM_READ_RETURN of a clean line of a Roll occurrence: the line is counted, tapped and marked as returned, and no word
sets out towards the inbound queue before its block is decoded (R281, R283, R287, R508). -/
theorem exec_hbmReadReturn_roll {s : State} {d ri occ line : Nat} {x : DmaRt} (hd : d < 8) (hlow : domLow s d = d)
    (hfind : findDma s d ri occ (fun x => !x.outb && x.lines.contains line && !x.back.contains line) = some x)
    (hroll : x.roll = true) (hbehind : dmaBehind x line s = false) (hi : line - x.off / 128 < x.words.length)
    (hclean : (x.words.getD (line - x.off / 128) ([], 0)).2 % 8 = 0) :
    exec (.hbmReadReturn d ri occ line 0) s = .next (putDma x { x with back := x.back ++ [line] }
      (lineTap (0x800 + 8 * x.part + x.lbd) x.part x.region line false false (x.words.getD (line - x.off / 128) ([], 0)).1
        (countUnit (0x800 + 8 * x.part + x.lbd) 0x40 1 s))) := by
  show execHbmReadReturn d ri occ line 0 s = _
  simp [execHbmReadReturn, hd, hlow, hfind, hbehind, hroll, filter_dmaAt_roll hroll hi, find?_dmaAt_roll hroll hi, hclean,
    -List.getD_eq_getElem?_getD, -List.contains_eq_mem]

/-- Settles O35: each row of the network and of DMA does its shared step when its condition holds. -/
theorem networkAndDmaEventsComplete : Obligations.NetworkAndDmaEventsComplete := by
  unfold Obligations.NetworkAndDmaEventsComplete
  refine ⟨fun s u hu hacts => ⟨fun k => exec_route_due hu hacts, fun b e => exec_steer_due hu hacts,
      fun k => exec_creditLate_overdue hu hacts⟩,
    fun s d ri occ hd hlow => ⟨fun b => exec_dmaIssue_due hd hlow, ?complete, ?back⟩⟩
  case complete =>
    rintro e x rfl hfind f rfl
    exact exec_dmaComplete_done hd hlow hfind
  case back =>
    rintro x line hfind hroll hbehind i rfl hi hclean
    exact exec_hbmReadReturn_roll hd hlow hfind hroll hbehind hi hclean

end Sys2Proof.Proofs
end

section
/-! PROOFS. Ends of bell and plan commands, and the run of a slip domain (R181 to R185, R192, R200, R201, R208, R215, R228,
R229, R234, R235, R257): what each row does once its condition holds. -/

namespace Sys2Proof.Proofs

open Sys2Proof Sys2Proof.Machine

/-! ### Ends of outstanding commands -/

section

variable {s : State} {i : Nat} {o : Outst}

/-- BELL_WAIT_END at or above THRESH: the wait ends with COUNT and the Toll time (R625, R640). -/
theorem exec_bellWaitEnd_reached (ho : outstAt s i [0x16] = some o) (hcount : o.b ≤ bellCount s o.a) :
    exec (.bellWaitEnd i) s =
      .next (finishO o sOk (leBytes 4 (bellCount s o.a) ++ zeros 4 ++ leBytes 8 s.toll.now.toNat) s) := by
  show execBellWaitEnd i s = _
  simp only [execBellWaitEnd, ho, if_pos hcount]

/-- BELL_WAIT_TIMEOUT below THRESH: the wait ends with E_TIMEOUT (R625, R640). -/
theorem exec_bellWaitTimeout_below (ho : outstAt s i [0x16] = some o) (hcount : bellCount s o.a < o.b) :
    exec (.bellWaitTimeout i) s = .next (finishO o sTimeout [] s) := by
  show execBellWaitTimeout i s = _
  simp only [execBellWaitTimeout, ho, if_neg hcount.not_ge]

/-- PLAN_ADMIT_DONE: the image takes its plan store (R181; log entry 54). -/
theorem exec_planAdmitDone_running (ho : outstAt s i [0x20] = some o) :
    exec (.planAdmitDone i) s = .next
      (finishO o sOk (badResult { dir := noIdx, item := noIdx }) (storeImage o.a (parseImage o.data) s)) := by
  show execPlanAdmitDone i s = _
  simp only [execPlanAdmitDone, ho]

theorem slotError_zero (s : State) : slotError 0 s = s := rfl

/-- CONTEXT_LOAD_DONE of a load that waits for nothing, with no error in a slot: the context resides, HOLD channels that it
bars are demoted, and the reply names its slots (R182, R192, R365). -/
theorem exec_contextLoadDone_clean {r x : Resident} (ho : outstAt s i [0x21] = some o) (hfree : o.c = 0)
    (hfind : (residentsOf s (leNat o.data)).find? (fun y => decide (y.id = o.b) && y.loading) = some r)
    (hx : x = { r with loading := false }) :
    exec (.contextLoadDone i 0) s = .next (finishO o sOk
      ([bite (slotIn x.slots 0), bite (slotIn x.slots 1), 0, 0] ++ leBytes 4 x.ctx.res0 ++ leBytes 4 x.ctx.res1)
      (demoteHold (refreshGovs x.mask (showSlots x (setResidents
        (s.plan.resident.map (fun y => if y = r then x else y)) s))))) := by
  subst hx
  show execContextLoadDone i 0 s = _
  simp only [execContextLoadDone, ho, slotError_zero, hfree, ne_eq, not_true_eq_false, if_false, hfind]

end

/-! ### Strikes, and starts at a Toll time -/

/-- IDLE_STRIKE_APPLY (R201). -/
theorem exec_idleStrikeApply_present {s : State} {p : Nat} (hp : p < 8) (hpres : partPresent s p = true) :
    exec (.idleStrikeApply p) s = .next (idleApply p s) := by
  show execIdleStrikeApply p s = _
  simp [execIdleStrikeApply, hp, hpres]

/-- TOLL_START of a start whose time has come, whose class is in force and whose domain is neither in a switch nor HALTED:
the switch begins (R185, R259). -/
theorem exec_tollStart_due {s : State} {d : Nat} {w : WaitSw} {t : BitVec 64} (hd : d < 8) (hpend : (domRt s d).pend = some w)
    (htoll : w.atToll = some t) (hdue : 0 ≤ (s.toll.now - t).toInt) (hcls : w.fclass = (partRt s d).cls)
    (hsw : (domRt s (domLow s d)).sw = none) (hstate : plnState s d ≠ stHalted) :
    exec (.tollStart d) s = .next (pendDue d { w with armed := true } s) := by
  show execTollStart d s = _
  simp [execTollStart, hd, hpend, htoll, hdue, hcls, hsw, hstate, -BitVec.toInt_sub]

/-- ARRIVAL of a new entry where FCLK runs: it leaves the crossing, enters its queue and, if a strike, acts as its arrival
says (R200, R222). -/
theorem exec_arrival_new {s : State} {q : Nat} {e : EntryData} {r : List (EntryData × Bool)} (hq : q < 256)
    (hxing : tabGet (fun _ => []) s.xing q = (e, false) :: r) (hchg : (domRt s (domLow s (queuePart q))).chg = none)
    {t : State} (ht : t = { s with xing := tabSet (fun _ => []) q r s.xing }) :
    exec (.arrival q) s = .next (arrivalStrike q (queueRt t q).arrived e (enterQueue q e t)) := by
  subst ht
  show execArrival q s = _
  simp [execArrival, hq, hxing, hchg]

/-! ### Rows of a domain, named by its lowest partition -/

section

variable {s : State} {d : Nat} (hd : d < 8) (hlow : domLow s d = d)

include hd hlow

/-- CLASS_CHANGE_DONE: the new class is in force. A request that was cancelled meanwhile leaves the domain idle (R262); any
other waits, unarmed, for the next edge (R234, R259; log entry 49). -/
theorem exec_classChangeDone_changing {w : WaitSw} (hchg : (domRt s d).chg = some w) {e : State}
    (he : e = setCls (domMask s d) w.fclass s) :
    exec (.classChangeDone d) s = .next (if w.ctx = 0xFF then
        setPln d stIdle 0xFF 0xFF (setDomRt d { domRt e d with chg := none } e)
      else setDomRt d { domRt e d with chg := none, pend := some { w with armed := false } } e) := by
  subst he
  show execClassChangeDone d s = _
  simp only [execClassChangeDone, hd, hlow, hchg, decide_true, Bool.not_true, Bool.false_eq_true, if_false]

/-- CLASS_LOCK in a class change: the domain halts with a clock fault (R235). -/
theorem exec_classLock_changing {w : WaitSw} (hchg : (domRt s d).chg = some w) :
    exec (.classLock d) s = .next (haltOnFaults d (clockFault 5 d 0 s)) := by
  show execClassLock d s = _
  simp [execClassLock, hd, hlow, hchg]

/-- SWITCH_END on the edge after the 704 (R183). -/
theorem exec_switchEnd_over {w : SwitchRt} (hover : switchOver s d = some w) :
    exec (.switchEnd d) s = .next (Machine.switchEnd d w s) := by
  show execSwitchEnd d s = _
  simp [execSwitchEnd, hd, hlow, hover]

/-- RUN_END on the edge at base + LENGTH_SC (R168). -/
theorem exec_runEnd_over {r : Resident} (hover : runOver s d = some r) :
    exec (.runEnd d) s = .next (Machine.runEnd d r s) := by
  show execRunEnd d s = _
  simp [execRunEnd, hd, hlow, hover]

/-- SLIP_END on an edge without a cause: the slip ends with its record (R33, R34). -/
theorem exec_slipEnd_noCause (hrun : inRun s d = true) (hslip : slipping s d = true) (hcauses : edgeCauses s d = 0) :
    exec (.slipEnd d) s = .next (endSlip d false s) := by
  show execSlipEnd d s = _
  simp [execSlipEnd, hd, hlow, hrun, hslip, hcauses]

/-- SLIP_LIMIT with a cause still active: the domain halts with a clock fault (R35, R36, R257). -/
theorem exec_slipLimit_cause (hrun : inRun s d = true) (hlimit : limitHit s d = true) (hcauses : edgeCauses s d ≠ 0) :
    exec (.slipLimit d) s = .next (haltOnFaults d (clockFault 3 d 0 s)) := by
  show execSlipLimit d s = _
  simp [execSlipLimit, hd, hlow, hrun, hlimit, hcauses]

/-- WAIT_TIMEOUT of a wait that has lasted WAIT_TO below TARGET: a bell fault, once on the edge (R208, R215; log entry 3). -/
theorem exec_waitTimeout_expired {i : Nat} {w : WaitRt} (hwait : (domRt s d).waits[i]? = some w) (hacts : actsOn s d = true)
    (hout : timedOut s d w = true) (hbelow : reached s w.bell = false) :
    exec (.waitTimeout d i) s = .next (onceAt d (15, w.bell, i) (bellFault 1 w.bell w.unit) s) := by
  show execWaitTimeout d i s = _
  simp [execWaitTimeout, hd, hlow, hwait, hacts, hout, hbelow]

end

/-- RELEASE of a queue whose release falls due: its test faults, slips, or presents the entry (R228, R229). -/
theorem exec_release_due {s : State} {q : Nat} (hq : q < 256) (hrun : inRun s (domLow s (queuePart q)) = true)
    (hdue : (dueRel s q).isSome = true) {d : Nat} (hd : domLow s (queuePart q) = d) {e : State} (he : e = testReleases d s) :
    exec (.release q) s = .next (if haltsNow e d then haltOnFaults d e
      else if actsOn e d then presentDue q (endSlip d false e) else e) := by
  subst he hd
  show execRelease q s = _
  have hrel : (dueRel s q).isNone = false := by rw [← Option.not_isSome, hdue, Bool.not_true]
  simp only [execRelease, hq, hrun, hrel, decide_true, Bool.not_true, Bool.or_self, Bool.false_eq_true, if_false]

/-- Settles O33: each row does its shared step when its condition holds. -/
theorem domainEventsComplete : Obligations.DomainEventsComplete := by
  unfold Obligations.DomainEventsComplete
  refine ⟨fun s i o => ⟨exec_bellWaitEnd_reached, exec_bellWaitTimeout_below, exec_planAdmitDone_running,
      fun ho hfree r hfind x => exec_contextLoadDone_clean ho hfree hfind⟩,
    fun s p => exec_idleStrikeApply_present, fun s d w t => exec_tollStart_due,
    fun s d hd hlow => ⟨fun w hchg e he => ⟨?cancelled, ?waiting⟩, fun w => exec_classLock_changing hd hlow,
      fun w => exec_switchEnd_over hd hlow, fun r => exec_runEnd_over hd hlow, exec_slipEnd_noCause hd hlow,
      exec_slipLimit_cause hd hlow, fun i w => exec_waitTimeout_expired hd hlow, ?release⟩,
    fun s q e r hq hxing hchg t => exec_arrival_new hq hxing hchg⟩
  case cancelled =>
    intro hctx
    rw [exec_classChangeDone_changing hd hlow hchg he, if_pos hctx]
  case waiting =>
    intro hctx
    rw [exec_classChangeDone_changing hd hlow hchg he, if_neg hctx]
  case release =>
    intro q hq hdom hrun hdue e he
    exact exec_release_due hq (hdom ▸ hrun) hdue hdom he

end Sys2Proof.Proofs
end

section
/-! PROOFS. What a reply leaves alone (R600, R610, R691): it reaches registers, the host side and what the device sends out,
and nothing else. -/

namespace Sys2Proof.Proofs

open Sys2Proof Sys2Proof.Machine Sys2Proof.Laws

/-- `t` differs from `s` in registers, in the host side and in what has been sent out, at most. -/
def HostSideOnly (s t : State) : Prop := ∃ regs out host, t = { s with regs := regs, out := out, host := host }

section

variable {s₀ s t : State}

theorem HostSideOnly.refl (s : State) : HostSideOnly s s := ⟨s.regs, s.out, s.host, rfl⟩

theorem HostSideOnly.mem (h : HostSideOnly s t) : t.mem = s.mem := by obtain ⟨_, _, _, rfl⟩ := h; rfl
theorem HostSideOnly.fab (h : HostSideOnly s t) : t.fab = s.fab := by obtain ⟨_, _, _, rfl⟩ := h; rfl
theorem HostSideOnly.doms (h : HostSideOnly s t) : t.doms = s.doms := by obtain ⟨_, _, _, rfl⟩ := h; rfl
theorem HostSideOnly.plan (h : HostSideOnly s t) : t.plan = s.plan := by obtain ⟨_, _, _, rfl⟩ := h; rfl
theorem HostSideOnly.toll (h : HostSideOnly s t) : t.toll = s.toll := by obtain ⟨_, _, _, rfl⟩ := h; rfl
theorem HostSideOnly.keys (h : HostSideOnly s t) : t.keys = s.keys := by obtain ⟨_, _, _, rfl⟩ := h; rfl

protected theorem HostSideOnly.ite {c : Prop} {_ : Decidable c} {x y : State} (hx : HostSideOnly s₀ x)
    (hy : HostSideOnly s₀ y) : HostSideOnly s₀ (if c then x else y) := by split <;> assumption
protected theorem HostSideOnly.forN {n} {f : Nat → State → State} (hs : HostSideOnly s₀ s)
    (hf : ∀ i t, HostSideOnly s₀ t → HostSideOnly s₀ (f i t)) : HostSideOnly s₀ (forN n f s) := forN_keeps hf hs
protected theorem HostSideOnly.forL {β : Type} {l : List β} {f : β → State → State} (hs : HostSideOnly s₀ s)
    (hf : ∀ b t, HostSideOnly s₀ t → HostSideOnly s₀ (f b t)) : HostSideOnly s₀ (forL l f s) := forL_keeps hf hs

protected theorem HostSideOnly.setReg {a v} (hs : HostSideOnly s₀ s) : HostSideOnly s₀ (s.setReg a v) := by
  obtain ⟨_, _, _, rfl⟩ := hs; exact ⟨_, _, _, rfl⟩
protected theorem HostSideOnly.emit {e} (hs : HostSideOnly s₀ s) : HostSideOnly s₀ (s.emit e) := by
  obtain ⟨_, _, _, rfl⟩ := hs; exact ⟨_, _, _, rfl⟩
protected theorem HostSideOnly.setFnRt {f r} (hs : HostSideOnly s₀ s) : HostSideOnly s₀ (setFnRt f r s) := by
  obtain ⟨_, _, _, rfl⟩ := hs; exact ⟨_, _, _, rfl⟩
protected theorem HostSideOnly.setOutst {l} (hs : HostSideOnly s₀ s) : HostSideOnly s₀ (setOutst l s) := by
  obtain ⟨_, _, _, rfl⟩ := hs; exact ⟨_, _, _, rfl⟩
protected theorem HostSideOnly.put {a lo w v} (hs : HostSideOnly s₀ s) : HostSideOnly s₀ (s.put a lo w v) := hs.setReg
protected theorem HostSideOnly.setBit {a i b} (hs : HostSideOnly s₀ s) : HostSideOnly s₀ (s.setBit a i b) := hs.put

/-! ### Interrupts and error flags -/

protected theorem HostSideOnly.msixSend {f v} (hs : HostSideOnly s₀ s) : HostSideOnly s₀ (msixSend f v s) :=
  hs.setFnRt.ite hs.emit
protected theorem HostSideOnly.raise {f v} (hs : HostSideOnly s₀ s) : HostSideOnly s₀ (raise f v s) :=
  hs.setBit.ite hs.setBit.msixSend
protected theorem HostSideOnly.errFlag {flag fn src wher} (hs : HostSideOnly s₀ s) :
    HostSideOnly s₀ (errFlag flag fn src wher s) :=
  have hs := hs.setBit.ite (hs.setBit.setBit.ite hs.setBit.setReg.setReg.setReg)
  hs.ite hs.raise

/-! ### Replies -/

protected theorem HostSideOnly.refreshPair {f k} (hs : HostSideOnly s₀ s) : HostSideOnly s₀ (refreshPair f k s) :=
  hs.put.setBit
protected theorem HostSideOnly.writeReply {f k irq b} (hs : HostSideOnly s₀ s) : HostSideOnly s₀ (writeReply f k irq b s) :=
  hs.setBit.put.emit.errFlag.ite (hs.emit.put.setBit.raise.ite hs.emit.put.setBit)
protected theorem HostSideOnly.postRing {f k irq b} (hs : HostSideOnly s₀ s) : HostSideOnly s₀ (postRing f k irq b s) :=
  hs.ite (hs.setFnRt.refreshPair.ite hs.writeReply)
protected theorem HostSideOnly.writeMbxReply {f b} (hs : HostSideOnly s₀ s) : HostSideOnly s₀ (writeMbxReply f b s) :=
  hs.forN fun _ _ ht => ht.setReg
protected theorem HostSideOnly.postReply {c op status more res} (hs : HostSideOnly s₀ s) :
    HostSideOnly s₀ (postReply c op status more res s) := by
  unfold postReply
  split
  · exact hs.postRing
  · exact hs.ite (hs.writeMbxReply.setBit.ite hs.writeMbxReply.setBit.setBit.setBit.raise)
protected theorem HostSideOnly.refreshCall {c} (hs : HostSideOnly s₀ s) : HostSideOnly s₀ (refreshCall c s) := by
  unfold refreshCall
  split
  · exact hs.refreshPair
  · exact hs
protected theorem HostSideOnly.accept {o} (hs : HostSideOnly s₀ s) : HostSideOnly s₀ (accept o s) :=
  hs.setOutst.postReply.refreshCall

end

/-- Posting ACCEPTED (R600). -/
theorem hostSideOnly_accepted (op : Nat) (c : Call) (s : State) : HostSideOnly s (accepted op c s) := (HostSideOnly.refl s).accept

end Sys2Proof.Proofs
end

section
/-! PROOFS. A context that begins to load (R192, Table 5-20): it joins the resident contexts, its slots show LOADING, and what
runs in the slip domains is seen as before. -/

namespace Sys2Proof.Proofs

open Sys2Proof Sys2Proof.Machine Sys2Proof.Laws

/-- The context is listed and its slots show it. -/
def beginLoad (r : Resident) (s : State) : State := showSlots r (setResidents (s.plan.resident ++ [r]) s)

theorem hostSideOnly_showSlots (r : Resident) (s : State) : HostSideOnly s (showSlots r s) :=
  (HostSideOnly.refl s).forL fun _ _ ht => ht.setReg.setReg

theorem hostSideOnly_beginLoad (r : Resident) (s : State) :
    HostSideOnly (setResidents (s.plan.resident ++ [r]) s) (beginLoad r s) := hostSideOnly_showSlots ..

theorem resident_beginLoad (r : Resident) (s : State) : (beginLoad r s).plan.resident = s.plan.resident ++ [r] := by
  rw [(hostSideOnly_beginLoad r s).plan, setResidents_resident]

theorem domRt_beginLoad (r : Resident) (s : State) (d : Nat) : domRt (beginLoad r s) d = domRt s d := by
  rw [domRt, (hostSideOnly_beginLoad r s).doms, setResidents_doms, domRt]

/-- The slot registers lie above those of the partitions. -/
theorem reg_showSlots_below (r : Resident) (s : State) {k : Nat} (hk : k < bFab + 0x39000) :
    (showSlots r s).reg k = s.reg k := by
  refine forL_keeps (P := fun t : State => t.reg k = s.reg k) (fun n t ht => ?_) rfl
  have hA : k ≠ aPlnSlotA n := by unfold aPlnSlotA; omega
  have hB : k ≠ aPlnSlotB n := by unfold aPlnSlotB; omega
  rw [setReg_reg_ne _ _ hB, setReg_reg_ne _ _ hA, ht]

theorem reg_beginLoad_below (r : Resident) (s : State) {k : Nat} (hk : k < bFab + 0x39000) :
    (beginLoad r s).reg k = s.reg k := by
  rw [beginLoad, reg_showSlots_below _ _ hk, setResidents_reg]

theorem lowBit_le (n m : Nat) : lowBit n m ≤ n := by
  unfold lowBit
  cases hfind : (List.range n).find? (fun i => m.testBit i) with
  | none => exact le_rfl
  | some i => exact (List.mem_range.1 (List.mem_of_find?_eq_some hfind)).le

theorem domMask_beginLoad (r : Resident) (s : State) {p : Nat} (hp : p ≤ 8) : domMask (beginLoad r s) p = domMask s p := by
  rw [domMask, State.rf, reg_beginLoad_below, domMask, State.rf]
  unfold aPartStat bDev bFab; omega

theorem plnStat_beginLoad (r : Resident) (s : State) {d : Nat} (hd : d ≤ 8) (lo w : Nat) :
    (beginLoad r s).rf (aPlnStat d) lo w = s.rf (aPlnStat d) lo w := by
  rw [State.rf, reg_beginLoad_below, State.rf]
  unfold aPlnStat; omega

theorem plnState_beginLoad (r : Resident) (s : State) {d : Nat} (hd : d ≤ 8) : plnState (beginLoad r s) d = plnState s d :=
  plnStat_beginLoad r s hd 16 4

theorem ctxRuns_beginLoad (r : Resident) (s : State) {d : Nat} (hd : d ≤ 8) : ctxRuns (beginLoad r s) d = ctxRuns s d := by
  rw [ctxRuns, plnState_beginLoad r s hd, domRt_beginLoad, ctxRuns]

section

variable {r : Resident} (hloading : r.loading = true) (s : State)

include hloading

/-- A context that loads does not reside yet. -/
theorem residentOf_beginLoad (mask id : Nat) : residentOf (beginLoad r s) mask id = residentOf s mask id := by
  simp [residentOf, resident_beginLoad, List.find?_append, hloading]

theorem runCtx_beginLoad {d : Nat} (hd : d ≤ 8) : runCtx (beginLoad r s) d = runCtx s d := by
  rw [runCtx, plnState_beginLoad r s hd, residentOf_beginLoad hloading, domMask_beginLoad r s hd, plnStat_beginLoad r s hd,
    runCtx]

/-- The load itself is no reason for it to wait (Table 5-17). -/
theorem loadWaits_beginLoad (mask : Nat) : loadWaits (beginLoad r s) mask = loadWaits s mask := by
  have hlow : (maskBits 8 mask).map (domLow (beginLoad r s)) = (maskBits 8 mask).map (domLow s) := by
    refine List.map_congr_left fun p hp => ?_
    have hp8 : p < 8 := List.mem_range.1 (List.mem_filter.1 hp).1
    rw [domLow, domMask_beginLoad r s hp8.le, domLow]
  rw [loadWaits, hlow, loadWaits]
  refine List.find?_congr fun d hd => ?_
  obtain ⟨p, -, rfl⟩ := List.mem_map.1 hd
  have hd8 : domLow s p ≤ 8 := lowBit_le ..
  rw [ctxRuns_beginLoad r s hd8, runCtx_beginLoad hloading s hd8]

end

/-- With no restored run that waits to resume, none is dropped (R730). -/
theorem dropResume_of_none {p : Nat} {s : State} (h : (domRt s p).resume = none) : dropResume p s = s := by
  simp [dropResume, h]

end Sys2Proof.Proofs
end

section
/-! PROOFS. The plan store and its resident contexts (R180, R192, R626): PLAN_ADMIT, PLAN_LOAD and PLAN_EVICT. -/

namespace Sys2Proof.Proofs

open Sys2Proof Sys2Proof.Machine Sys2Proof.Laws

/-- A LONG command that one of its own checks stops, after ACCEPTED. -/
theorem runCmd_long_fail {op caller body c s st res e} (h : PassesLong op caller c s) (hl : isLong op = true)
    (hb : body c (accepted op c s) = .fail st res e) : runCmd op caller body c s = finish c op st res e := by
  rw [runCmd_long_eq h hl, hb]

/-! ### PLAN_ADMIT -/

/-- What the checks of PLAN_ADMIT before those of Table 5-16 come to in state `a`: the operands name bytes of a usable region
that are read without an error as `img`, which leaves state `t`, and no admission runs there (R180, R626). -/
structure AdmitReads (c : Call) (a : State) (img : List Byte) (t : State) : Prop where
  low : 1 ≤ c.b 16
  high : c.b 16 < 15
  aligned : c.le 24 8 % 64 = 0
  valid : rgnValid a c.part.toNat (c.b 16) = true
  notBusy : rgnBusy a c.part.toNat (c.b 16) = false
  fits : c.le 24 8 + c.le 32 8 ≤ rgnUsable a c.part.toNat (c.b 16)
  read : readBytes 1 c.part.toNat (c.b 16) (c.le 24 8) (c.le 32 8) a = (0, img, t)
  alone : ∀ o ∈ t.host.outst, ¬ (o.acc = true ∧ o.op = 0x20 ∧ o.b = 1)

/-- The admission checks of Table 5-16 then decide. -/
theorem AdmitReads.bodyPlanAdmit_eq {c : Call} {a t : State} {img : List Byte} (h : AdmitReads c a img t) :
    bodyPlanAdmit c a = (admitBad { s := t, part := c.part.toNat, len := c.le 32 8, img := img }).elim
      (.long { a := storePart c.part.toNat img, b := 1, data := img } t)
      (fun x => .fail (admitStatus x.reason) (badResult x) t) := by
  obtain ⟨hlow, hhigh, haligned, hvalid, hbusy, hfits, hread, halone⟩ := h
  have hnone : t.host.outst.any (fun o => o.acc && decide (o.op = 0x20) && decide (o.a = storePart c.part.toNat img) &&
      decide (o.b = 1)) = false := by
    refine List.any_eq_false.2 fun o ho hrun => halone o ho ?_
    simp only [Bool.and_eq_true, decide_eq_true_eq] at hrun
    obtain ⟨⟨⟨hacc, hop⟩, -⟩, hb⟩ := hrun
    exact ⟨hacc, hop, hb⟩
  have hr0 : c.b 16 ≠ 0 := Nat.one_le_iff_ne_zero.1 hlow
  simp only [bodyPlanAdmit, hread, hnone, hvalid, hbusy, haligned, hr0, hhigh.not_ge, hfits.not_gt, decide_false, ne_eq,
    not_true_eq_false, Bool.not_true, Bool.or_self, Bool.false_eq_true, if_false]
  cases admitBad { s := t, part := c.part.toNat, len := c.le 32 8, img := img } <;> rfl

/-- PLAN_ADMIT of an image that is read: it is kept for its store, or refused with the first rule it breaks (R180). -/
theorem exec_planAdmit_read {c : Call} {s t : State} {img : List Byte} (hpass : PassesLong 0x20 callT c s)
    (h : AdmitReads c (accepted 0x20 c s) img t) :
    exec (.planAdmit c) s = .next ((admitBad { s := t, part := c.part.toNat, len := c.le 32 8, img := img }).elim
      (running 0x20 c { a := storePart c.part.toNat img, b := 1, data := img } t)
      (fun x => finish c 0x20 (admitStatus x.reason) (badResult x) t)) := by
  show Host.Outcome.next (runCmd 0x20 callT bodyPlanAdmit c s) = _
  have hbody := h.bodyPlanAdmit_eq
  cases hbad : admitBad { s := t, part := c.part.toNat, len := c.le 32 8, img := img } with
  | none =>
    rw [hbad, Option.elim_none] at hbody
    rw [runCmd_long hpass rfl hbody, Option.elim_none]
  | some x =>
    rw [hbad, Option.elim_some] at hbody
    rw [runCmd_long_fail hpass rfl hbody, Option.elim_some]

/-! ### PLAN_EVICT -/

/-- PLAN_EVICT of a resident context that neither runs nor is a target (R192). -/
theorem exec_planEvict_unused {c : Call} {s : State} {r : Resident} (hpass : Passes 0x24 callT c s)
    (hfind : findResident s c.part.toNat (c.b 16) = some r) (hunused : inUse s r = false)
    (hres : (domRt s c.part.toNat).resume = none) : exec (.planEvict c) s = .next (replied 0x24 c [] (evict r s)) := by
  have hbody : bodyPlanEvict c s = .done sOk [] (evict r s) := by
    simp [bodyPlanEvict, hfind, hunused, hres]
  show Host.Outcome.next (runCmd 0x24 callT bodyPlanEvict c s) = _
  rw [runCmd_ok hpass rfl hbody]

/-! ### PLAN_LOAD -/

/-- What the checks of PLAN_LOAD come to in state `a`: context `x` of the admitted image `im` can be loaded into slots `l`, at
once and under a new ID, and no restored run waits to resume (R192, R294, R771, R772, Table 5-17). -/
structure LoadReady (c : Call) (a : State) (im : Image) (x : Ctx) (l : List Nat) : Prop where
  image : imageOf a c.part.toNat = some im
  ctx : im.ctxs[c.b 16]? = some x
  named : c.b 17 ≠ 0xFF
  fresh : ∀ r ∈ residentsOf a c.part.toNat, r.id ≠ c.b 17
  dmaFits : x.dmas.filterMap (dmaLoad a) = []
  dmaFree : x.dmas.any (dmaBusy a) = false
  stays : migrates a c.part.toNat = false
  untested : selfTesting a im.partMask = false
  sound : failedUnit a x = false
  slots : pickSlots a x = .ok l
  atOnce : loadWaits a im.partMask = none
  noResume : (domRt a c.part.toNat).resume = none

/-- The entry that PLAN_LOAD adds to the resident contexts. -/
def loadEntry (c : Call) (a : State) (im : Image) (x : Ctx) (l : List Nat) : Resident :=
  { id := c.b 17, mask := im.partMask, tenant := tenantOf a c.part.toNat, imageId := im.imageId, ctx := x, slots := l,
    loading := true }

section

variable {c : Call} {a : State} {im : Image} {x : Ctx} {l : List Nat}

theorem LoadReady.bodyPlanLoad_eq (h : LoadReady c a im x l) :
    bodyPlanLoad c a = .long { a := c.part.toNat, b := c.b 17, data := leBytes 1 c.part.toNat }
      (beginLoad (loadEntry c a im x l) a) := by
  have hfresh : (residentsOf a c.part.toNat).any (fun r => decide (r.id = c.b 17)) = false :=
    List.any_eq_false.2 fun r hr he => h.fresh r hr (of_decide_eq_true he)
  have hdrop : dropResume c.part.toNat (beginLoad (loadEntry c a im x l) a) = beginLoad (loadEntry c a im x l) a :=
    dropResume_of_none ((congrArg DomRt.resume (domRt_beginLoad ..)).trans h.noResume)
  have hwaits : loadWaits (beginLoad (loadEntry c a im x l) a) im.partMask = none :=
    (loadWaits_beginLoad rfl a im.partMask).trans h.atOnce
  simp only [beginLoad, loadEntry] at hdrop hwaits ⊢
  simp [bodyPlanLoad, h.image, h.ctx, h.named, hfresh, h.dmaFits, h.dmaFree, h.stays, h.untested, h.sound, h.slots, hdrop,
    hwaits, b2n, -List.any_eq_false]

/-- PLAN_LOAD of a context that can be loaded: the load begins at once (R192). -/
theorem exec_planLoad_ready {s : State} (hpass : PassesLong 0x21 callT c s) (h : LoadReady c (accepted 0x21 c s) im x l) :
    exec (.planLoad c) s = .next (running 0x21 c { a := c.part.toNat, b := c.b 17, data := leBytes 1 c.part.toNat }
      (beginLoad (loadEntry c (accepted 0x21 c s) im x l) (accepted 0x21 c s))) := by
  show Host.Outcome.next (runCmd 0x21 callT bodyPlanLoad c s) = _
  rw [runCmd_long hpass rfl h.bodyPlanLoad_eq]

end

/-- Settles O4: admission turns on the first broken rule of Table 5-16, an eviction takes the context out, and a load that need
not wait adds its entry and reaches registers and the host side otherwise. -/
theorem planStoreCommandsComplete : Obligations.PlanStoreCommandsComplete := by
  unfold Obligations.PlanStoreCommandsComplete
  rintro c s a p rfl
  refine ⟨?admission, fun hpass r => exec_planEvict_unused hpass, ?load⟩
  case admission =>
    rintro rfl hpass hlow hhigh haligned hvalid hbusy hfits img t hread halone
    rw [exec_planAdmit_read hpass ⟨hlow, hhigh, haligned, hvalid, hbusy, hfits, hread, halone⟩]
    cases admitBad { s := t, part := c.part.toNat, len := c.le 32 8, img := img } <;> rfl
  case load =>
    rintro rfl hpass im x l himage hctx hnamed hfresh hfits hfree hstays huntested hsound hslots hatOnce hnoResume
    have hready : LoadReady c (accepted 0x21 c s) im x l :=
      ⟨himage, hctx, hnamed, hfresh, hfits, hfree, hstays, huntested, hsound, hslots, hatOnce, hnoResume⟩
    have hacc := hostSideOnly_accepted 0x21 c s
    have hload := hostSideOnly_beginLoad (loadEntry c (accepted 0x21 c s) im x l) (accepted 0x21 c s)
    exact ⟨_, _, rfl, rfl, rfl, rfl, rfl, rfl, rfl, resident_beginLoad .., exec_planLoad_ready hpass hready,
      hload.mem.trans hacc.mem, hload.fab.trans hacc.fab, hload.doms.trans hacc.doms, hload.toll.trans hacc.toll,
      hload.keys.trans hacc.keys⟩

end Sys2Proof.Proofs
end

section
/-! PROOFS. Host access to bells (R195, R212, R625): BELL_SET, BELL_STRIKE and BELL_WAIT. -/

namespace Sys2Proof.Proofs

open Sys2Proof Sys2Proof.Machine Sys2Proof.Laws

/-! ### The registers of a bell -/

theorem blockOf_bel {o : Nat} (hlo : bBel ≤ o) (hhi : o < bTol) : blockOf o = 4 := by
  have hcmd : bCmd ≤ bBel := by decide
  have hmbx : bMbx ≤ bBel := by decide
  have hfab : bFab ≤ bBel := by decide
  rw [blockOf, if_neg (hcmd.trans hlo).not_gt, if_neg (hmbx.trans hlo).not_gt, if_neg (hfab.trans hlo).not_gt,
    if_neg hlo.not_gt, if_pos hhi]

theorem regFields_bel {k o : Nat} (hoff : offOf k = o) (haligned : o % 4 = 0) (hblock : blockOf o = 4) :
    regFields k = belFields (o - bBel) := by
  simp [regFields, hoff, haligned, hblock]

section

variable {b : Nat} (hb : b < 256)

include hb

/-- The registers of a bell follow one another from its place in the block (Table 6-3). -/
theorem regFields_bell {r : Nat} (hr : r < 16) (h4 : r % 4 = 0) : regFields (bBel + 0x10 * b + r) =
    if r = 0 ∨ r = 4 then rwAll 0 else if r = 8 then [⟨0, 20, .rw, 0⟩]
    else [⟨31, 1, .w1c, 0⟩, ⟨30, 1, .rw, 0⟩, ⟨29, 1, .w1c, 0⟩, ⟨28, 1, .w1c, 0⟩, ⟨24, 4, .ro, 0⟩, ⟨0, 13, .ro, 0⟩] := by
  have hoff : offOf (bBel + 0x10 * b + r) = bBel + (0x10 * b + r) := by unfold offOf bBel; omega
  have hblock : blockOf (bBel + (0x10 * b + r)) = 4 := blockOf_bel (Nat.le_add_right ..) (by unfold bBel bTol; omega)
  have haligned : (bBel + (0x10 * b + r)) % 4 = 0 := by unfold bBel; omega
  have hr16 : (0x10 * b + r) % 0x10 = r := by omega
  rw [regFields_bel hoff haligned hblock, Nat.add_sub_cancel_left, belFields, if_pos (by omega), hr16]

theorem definedMask_belCnt : definedMask (aBelCnt b) = BitVec.allOnes 32 := by
  rw [aBelCnt, definedMask, ← Nat.add_zero (bBel + 0x10 * b), regFields_bell hb (by decide) rfl]
  decide

theorem definedMask_belTgt : definedMask (aBelTgt b) = BitVec.allOnes 32 := by
  rw [aBelTgt, definedMask, regFields_bell hb (by decide) rfl]
  decide

theorem definedMask_belCfg : definedMask (aBelCfg b) = fmask 0 20 := by
  rw [aBelCfg, definedMask, regFields_bell hb (by decide) rfl]
  decide

theorem irqEn_defined : fmask 30 1 &&& definedMask (aBelStat b) = fmask 30 1 := by
  rw [aBelStat, definedMask, regFields_bell hb (by decide) rfl]
  decide

end

/-! ### What a host write of a bell reaches -/

/-- `t` differs from `s` in registers and in what waits in the planned-release queues, at most. -/
def RegsQueuesOnly (s t : State) : Prop := ∃ regs queues, t = { s with regs := regs, queues := queues }

theorem RegsQueuesOnly.setReg {s t : State} {a : Nat} {v : Word} (h : RegsQueuesOnly s t) : RegsQueuesOnly s (t.setReg a v) := by
  obtain ⟨_, _, rfl⟩ := h; exact ⟨_, _, rfl⟩
theorem RegsQueuesOnly.setQueueRt {s t : State} {q : Nat} {r : QueueRt} (h : RegsQueuesOnly s t) :
    RegsQueuesOnly s (setQueueRt q r t) := by
  obtain ⟨_, _, rfl⟩ := h; exact ⟨_, _, rfl⟩
theorem RegsQueuesOnly.ite {s x y : State} {p : Prop} [Decidable p] (hx : RegsQueuesOnly s x) (hy : RegsQueuesOnly s y) :
    RegsQueuesOnly s (if p then x else y) := by split <;> assumption
theorem RegsQueuesOnly.hostCount {s t : State} {b v : Nat} (h : RegsQueuesOnly s t) : RegsQueuesOnly s (hostCount b v t) :=
  have hq := h.setQueueRt
  (hq.setReg.ite hq).setReg

/-- A register of one of two states. -/
theorem reg_ite (p : Prop) [Decidable p] (x y : State) (k : Nat) :
    (if p then x else y).reg k = if p then x.reg k else y.reg k := apply_ite (fun t : State => t.reg k) p x y

section

variable {b : Nat} (v : Nat) (s : State)

/-- COUNT takes the written value (R214). -/
theorem hostCount_reg_cnt (hb : b < 256) : (hostCount b v s).reg (aBelCnt b) = BitVec.ofNat 32 v := by
  rw [hostCount, setReg_reg_same, definedMask_belCnt hb, BitVec.and_allOnes]

/-- Of the other registers a write of COUNT reaches the status alone. -/
theorem hostCount_reg_ne {k : Nat} (hcnt : k ≠ aBelCnt b) (hstat : k ≠ aBelStat b) : (hostCount b v s).reg k = s.reg k := by
  simp only [hostCount, setReg_reg_ne _ _ hcnt, reg_ite, reg_setBit_ne _ _ _ hstat, setQueueRt_reg, ite_self]

theorem belStat_ne_belCnt (b : Nat) : aBelStat b ≠ aBelCnt b := by simp [aBelStat, aBelCnt]

/-- A discarded strike sets LOST and leaves IRQ_EN (R214). -/
theorem hostCount_irqEn (hb : b < 256) : (hostCount b v s).rbit (aBelStat b) 30 = s.rbit (aBelStat b) 30 := by
  unfold hostCount
  rw [State.rbit, setReg_reg_ne _ _ (belStat_ne_belCnt b), ← State.rbit]
  split
  case isTrue => rw [rbit_setBit_apart _ _ (by decide) (irqEn_defined hb)]; rfl
  case isFalse => rfl

end

/-! ### BELL_SET -/

/-- What BELL_SET writes: the fields that its mask selects, in the order of the row (R625). -/
def bellWritten (c : Call) (s : State) : State :=
  let b := c.b 16
  let s := if c.bit 17 0 then hostCount b (c.le 20 4) s else s
  let s := if c.bit 17 1 then s.setReg (aBelTgt b) (BitVec.ofNat 32 (c.le 24 4)) else s
  let s := if c.bit 17 2 then s.setReg (aBelCfg b) (BitVec.ofNat 32 (c.le 28 4)) else s
  if c.bit 17 3 then s.setBit (aBelStat b) 30 (c.bit 18 0) else s

theorem callByte_lt (c : Call) (i : Nat) : c.b i < 256 := BitVec.isLt _

section

variable (c : Call) (s : State)

theorem regsQueuesOnly_bellWritten : RegsQueuesOnly s (bellWritten c s) :=
  have h : RegsQueuesOnly s s := ⟨s.regs, s.queues, rfl⟩
  have h := h.hostCount.ite h
  have h := h.setReg.ite h
  have h := h.setReg.ite h
  h.setReg.ite h

theorem bellWritten_cnt : (bellWritten c s).reg (aBelCnt (c.b 16)) =
    if c.bit 17 0 then BitVec.ofNat 32 (c.le 20 4) else s.reg (aBelCnt (c.b 16)) := by
  have htgt : aBelCnt (c.b 16) ≠ aBelTgt (c.b 16) := by simp [aBelCnt, aBelTgt]
  have hcfg : aBelCnt (c.b 16) ≠ aBelCfg (c.b 16) := by simp [aBelCnt, aBelCfg]
  have hstat : aBelCnt (c.b 16) ≠ aBelStat (c.b 16) := (belStat_ne_belCnt _).symm
  simp only [bellWritten, reg_ite, reg_setBit_ne _ _ _ hstat, setReg_reg_ne _ _ hcfg, setReg_reg_ne _ _ htgt, ite_self,
    hostCount_reg_cnt _ _ (callByte_lt c 16)]

theorem bellWritten_tgt : (bellWritten c s).reg (aBelTgt (c.b 16)) =
    if c.bit 17 1 then BitVec.ofNat 32 (c.le 24 4) else s.reg (aBelTgt (c.b 16)) := by
  have hcnt : aBelTgt (c.b 16) ≠ aBelCnt (c.b 16) := by simp [aBelTgt, aBelCnt]
  have hcfg : aBelTgt (c.b 16) ≠ aBelCfg (c.b 16) := by simp [aBelTgt, aBelCfg]
  have hstat : aBelTgt (c.b 16) ≠ aBelStat (c.b 16) := by simp [aBelTgt, aBelStat]
  simp only [bellWritten, reg_ite, reg_setBit_ne _ _ _ hstat, setReg_reg_ne _ _ hcfg, setReg_reg_same,
    definedMask_belTgt (callByte_lt c 16), BitVec.and_allOnes, hostCount_reg_ne _ _ hcnt hstat, ite_self]

/-- WAIT_TO is at most 2^19, so its field holds it. -/
theorem bellWritten_waitTo (hto : c.bit 17 2 = true → c.le 28 4 ≤ 2 ^ 19) : (bellWritten c s).rf (aBelCfg (c.b 16)) 0 20 =
    if c.bit 17 2 then c.le 28 4 else s.rf (aBelCfg (c.b 16)) 0 20 := by
  have hcnt : aBelCfg (c.b 16) ≠ aBelCnt (c.b 16) := by simp [aBelCfg, aBelCnt]
  have htgt : aBelCfg (c.b 16) ≠ aBelTgt (c.b 16) := by simp [aBelCfg, aBelTgt]
  have hstat : aBelCfg (c.b 16) ≠ aBelStat (c.b 16) := by simp [aBelCfg, aBelStat]
  simp only [State.rf, bellWritten, reg_ite, reg_setBit_ne _ _ _ hstat, setReg_reg_ne _ _ htgt, setReg_reg_same,
    definedMask_belCfg (callByte_lt c 16), hostCount_reg_ne _ _ hcnt hstat, ite_self]
  split
  case isTrue hsel =>
    have hle := hto hsel
    rw [fld_and_mask _ _ BitVec.and_self, fld, BitVec.toNat_ofNat]
    omega
  case isFalse => rfl

theorem bellWritten_irqEn : (bellWritten c s).rbit (aBelStat (c.b 16)) 30 =
    if c.bit 17 3 then c.bit 18 0 else s.rbit (aBelStat (c.b 16)) 30 := by
  have htgt : aBelStat (c.b 16) ≠ aBelTgt (c.b 16) := by simp [aBelStat, aBelTgt]
  have hcfg : aBelStat (c.b 16) ≠ aBelCfg (c.b 16) := by simp [aBelStat, aBelCfg]
  have hset (t : State) : bit ((t.setBit (aBelStat (c.b 16)) 30 (c.bit 18 0)).reg (aBelStat (c.b 16))) 30 = c.bit 18 0 :=
    rbit_setBit_same t _ (by decide) (irqEn_defined (callByte_lt c 16))
  have hcount : bit ((hostCount (c.b 16) (c.le 20 4) s).reg (aBelStat (c.b 16))) 30 = bit (s.reg (aBelStat (c.b 16))) 30 :=
    hostCount_irqEn _ s (callByte_lt c 16)
  simp only [State.rbit, bellWritten, reg_ite, apply_ite (bit · 30), hset, setReg_reg_ne _ _ hcfg, setReg_reg_ne _ _ htgt, hcount,
    ite_self]

end

/-- BELL_SET of a bell of the partition named by PART, while no context runs there unless IRQ_EN alone is selected (R212). -/
theorem bodyBellSet_eq {c : Call} {s : State} (hpart : bellPart (c.b 16) = c.part.toNat)
    (hto : c.bit 17 2 = true → c.le 28 4 ≤ 2 ^ 19) (hidle : c.b 17 % 8 = 0 ∨ bellIdle s (c.b 16) = true) :
    bodyBellSet c s = .done sOk (leBytes 4 (s.reg (aBelStat (c.b 16))).toNat) (bellWritten c s) := by
  have hinRange : (c.bit 17 2 && decide (2 ^ 19 < c.le 28 4)) = false := by
    rw [Bool.and_eq_false_imp]
    exact fun hsel => decide_eq_false (hto hsel).not_gt
  have hmayWrite : (decide (c.b 17 % 8 ≠ 0) && !bellIdle s (c.b 16)) = false := by
    rcases hidle with h | h <;> simp [h]
  rw [bodyBellSet, if_neg (not_not_intro hpart), hinRange, hmayWrite]
  rfl

/-! ### BELL_STRIKE and BELL_WAIT -/

theorem bodyBellStrike_eq {c : Call} {s : State} (hpart : bellPart (c.b 16) = c.part.toNat) :
    bodyBellStrike c s = .done sOk [] (sendStrike (c.b 16) (fnUnit c.fn) none s) :=
  if_neg (not_not_intro hpart)

/-- BELL_WAIT with its operands in range, and no more than 8 waits of its function (R625). -/
theorem bodyBellWait_eq {c : Call} {a : State} (hpart : bellPart (c.b 16) = c.part.toNat) (hlow : 1 ≤ c.le 24 4)
    (hhigh : c.le 24 4 ≤ 10 ^ 7)
    (hroom : (a.host.outst.filter (fun o => decide (o.op = 0x16) && decide (o.call.fn = c.fn))).length ≤ 8) :
    bodyBellWait c a = .long { a := c.b 16, b := c.le 20 4 } a := by
  rw [bodyBellWait, if_neg (not_not_intro hpart), if_neg (not_or_intro (Nat.one_le_iff_ne_zero.1 hlow) hhigh.not_gt),
    if_neg hroom.not_gt]

/-- Settles O3: BELL_SET writes one register for each field it selects and reaches registers and queues alone, BELL_STRIKE sends
its strike, and BELL_WAIT stays outstanding. -/
theorem bellCommandsComplete : Obligations.BellCommandsComplete := by
  unfold Obligations.BellCommandsComplete
  rintro c s a hpart
  refine ⟨?set, ?strike, ?wait⟩
  case set =>
    intro hpass hto hidle
    obtain ⟨_, _, hframe⟩ := regsQueuesOnly_bellWritten c s
    refine ⟨bellWritten c s, ?_, bellWritten_cnt c s, bellWritten_tgt c s, bellWritten_waitTo c s hto, bellWritten_irqEn c s, ?_⟩
    · exact congrArg Host.Outcome.next (runCmd_ok hpass rfl (bodyBellSet_eq hpart hto hidle))
    · rw [hframe]; exact ⟨rfl, rfl, rfl, rfl, rfl, rfl, rfl⟩
  case strike =>
    intro hpass
    exact congrArg Host.Outcome.next (runCmd_ok hpass rfl (bodyBellStrike_eq hpart))
  case wait =>
    rintro rfl hpass hlow hhigh hroom
    exact congrArg Host.Outcome.next (runCmd_long hpass rfl (bodyBellWait_eq hpart hlow hhigh hroom))

end Sys2Proof.Proofs
end

section
/-! PROOFS. PLN_SWITCH_p (R187): a GO that is already set, and what refutes O24. -/

namespace Sys2Proof.Proofs

open Sys2Proof Sys2Proof.Machine Sys2Proof.Laws

/-- GO is a field of PLN_SWITCH_p (Table 5-19). -/
theorem plnSwitchGo_defined {p : Nat} (hp : p < 8) : fmask 31 1 &&& definedMask (aPlnSwitch p) = fmask 31 1 := by
  revert p; decide

/-- A GO that finds GO set takes CTX_ID and has no further effect (R18). -/
theorem writePlnSwitch_goSet {p : Nat} {w : RegW} {v : Word} {s : State} (hp : p < 8) (hgo : bit v 31 = true)
    (hexpert : expertFor s w.fn p = true) (hlow : domLow s p = p) (hset : s.rbit (aPlnSwitch p) 31 = true) :
    writePlnSwitch p w v s = s.put (aPlnSwitch p) 16 8 (fld v 16 8) := by
  have hstays : (s.put (aPlnSwitch p) 16 8 (fld v 16 8)).rbit (aPlnSwitch p) 31 = true := by
    rw [rbit_put_apart s _ (by decide) (plnSwitchGo_defined hp), hset]
  simp [writePlnSwitch, hgo, hexpert, hlow, hstays]

theorem plnSwitch_shared {p : Nat} (hp : p < 8) : isLocal (aPlnSwitch p) = false := by
  revert p; decide

theorem exec_plnSwitchGo_goSet {p : Nat} {w : Wr} {s : State} (hp : p < 8) (htakes : WriteTakes w.fn (aPlnSwitch p) s)
    (hgo : bit w.val 31 = true) (hexpert : expertFor s w.fn p = true) (hlow : domLow s p = p)
    (hset : s.rbit (aPlnSwitch p) 31 = true) :
    exec (.plnSwitchGo w p) s = .next (s.put (aPlnSwitch p) 16 8 (fld w.val 16 8)) := by
  show guarded "partition" p 8 (rowWrite (aPlnSwitch p) w s) = _
  rw [guarded, if_pos hp, rowWrite_takes htakes, write_plnSwitch hp (keyOf_shared (plnSwitch_shared hp)),
    writePlnSwitch_goSet hp hgo hexpert hlow hset]

theorem doms_putParts (a : Nat → Nat) (lo w v mask : Nat) (s : State) : (putParts a lo w v mask s).doms = s.doms :=
  forL_keeps (P := fun t : State => t.doms = s.doms) (fun _ _ ht => ht) rfl

/-- A switch that is asked for waits (R187). -/
theorem pend_askSwitch (d id cls : Nat) (s : State) : (domRt (askSwitch d id cls s) d).pend.isSome = true := by
  rw [domRt, askSwitch, setPend, doms_putParts, ← domRt, domRt_setDomRt_same]
  rfl

/-! ### A state with GO set and no request -/

/-- PF0 has expert control, domain 0 is in RUN with no request waiting, context 3 resides, and GO of PLN_SWITCH_0 reads 1. -/
def switchGoSet : State :=
  setResidents [{ id := 3, mask := 1, slots := [0] }]
    (((State.reset.setBit aCmdExpert 31 true).put (aPlnStat 0) 16 4 stRun).setBit (aPlnSwitch 0) 31 true)

/-- PF0 writes GO with CTX_ID 3. -/
def switchGoWrite : Wr := { fn := 0, val := 0x80030000#32 }

/-- What the write makes of that state. -/
def switchGoTaken : State := switchGoSet.put (aPlnSwitch 0) 16 8 (fld switchGoWrite.val 16 8)

theorem switchGoWrite_takes : WriteTakes switchGoWrite.fn (aPlnSwitch 0) switchGoSet := by
  unfold WriteTakes; decide +kernel

theorem switchGoWrite_expert : expertFor switchGoSet switchGoWrite.fn 0 = true ∧ domLow switchGoSet 0 = 0 := by decide +kernel

/-- In that state the request would pass every other test of R187. -/
theorem switchGoTaken_ready : plnState switchGoTaken 0 = stRun ∧ (domRt switchGoTaken 0).pend = none ∧ extest switchGoTaken = false ∧
    switchTarget switchGoTaken 0 (fld switchGoWrite.val 16 8) = some { id := 3, mask := 1, slots := [0] } ∧
    isInvalid switchGoTaken { id := 3, mask := 1, slots := [0] } = false := by decide +kernel

theorem exec_switchGoWrite : exec (.plnSwitchGo switchGoWrite 0) switchGoSet = .next switchGoTaken := by
  obtain ⟨hexpert, hlow⟩ := switchGoWrite_expert
  exact exec_plnSwitchGo_goSet (by decide) switchGoWrite_takes rfl hexpert hlow (by decide +kernel)

/-- Refutes O24: its clause on PLN_SWITCH_p leaves out that GO reads 0 before the write. Where GO already reads 1 the write has no
further effect (R18), so no request waits after it, and the clause asks for one. -/
theorem not_engineRegisterRowsComplete : ¬ Obligations.EngineRegisterRowsComplete := by
  unfold Obligations.EngineRegisterRowsComplete
  intro h
  obtain ⟨-, -, -, hswitch, -⟩ := h switchGoWrite switchGoSet switchGoTaken switchGoWrite.val rfl
  obtain ⟨hexpert, hlow⟩ := switchGoWrite_expert
  obtain ⟨hrun, hnone, hextest, htarget, hvalid⟩ := switchGoTaken_ready
  have hnext := hswitch 0 (by decide) switchGoWrite_takes rfl hexpert hlow rfl hrun hnone hextest _ htarget hvalid
  have hsame : switchGoTaken = askSwitch 0 (fld switchGoWrite.val 16 8) 0 (switchGoTaken.setBit (aPlnSwitch 0) 31 true) :=
    Host.Outcome.next.inj (exec_switchGoWrite.symm.trans hnext)
  have hasked := pend_askSwitch 0 (fld switchGoWrite.val 16 8) 0 (switchGoTaken.setBit (aPlnSwitch 0) 31 true)
  rw [← hsame, hnone] at hasked
  exact Bool.false_ne_true hasked

end Sys2Proof.Proofs
end

section
/-! PROOFS. A TKCLK edge, and the messages of the Toll tree, the reference and its loss (R236, R238, R240, R241, R243, R245 to
R250, R813): what each comes to once its condition holds. -/

namespace Sys2Proof.Proofs

open Sys2Proof Sys2Proof.Machine Sys2Proof.Laws

/-! ### A TKCLK edge -/

theorem step_idle {s : State} (h : s.pending = []) : step s = .next (tollTick s) := by
  simp only [step, h, idleTick]

/-- Toll keeps 64 bits of whole tt and 32 bits below them. -/
theorem putFine_natCast (n : Nat) (s : State) :
    putFine n s = setToll { s.toll with now := BitVec.ofNat 64 (n / 2 ^ 32), frac := BitVec.ofNat 32 n } s := by
  have hmod : ((n : Int) % 2 ^ 96).toNat = n % 2 ^ 96 := by omega
  have hnow : BitVec.ofNat 64 (n % 2 ^ 96 / 2 ^ 32) = BitVec.ofNat 64 (n / 2 ^ 32) := by
    apply BitVec.eq_of_toNat_eq
    simp only [BitVec.toNat_ofNat]
    omega
  have hfrac : BitVec.ofNat 32 (n % 2 ^ 96) = BitVec.ofNat 32 n := by
    apply BitVec.eq_of_toNat_eq
    simp only [BitVec.toNat_ofNat]
    omega
  rw [putFine, hmod, hnow, hfrac]

/-- Under FREE the edge adds INCR whole, and no second waits to be set (R236, R238). -/
theorem tollTick_free {s : State} (hfree : tollSrc s = 0) (hset : s.toll.setSec = none) :
    tollTick s = putFine ((tollFine s + incrOf s : Nat) : Int) s := by
  have hkept (i : Int) : (putFine i s).toll.setSec = none := hset
  simp [tollTick, hfree, hkept]

/-- Settles O42: the idle step is one TKCLK edge, which adds INCR where nothing disciplines Toll. -/
theorem emptyQueueTicksToll : Obligations.EmptyQueueTicksToll := by
  unfold Obligations.EmptyQueueTicksToll
  refine fun s hempty => ⟨step_idle hempty, fun hfree hset => ?_⟩
  rw [step_idle hempty, tollTick_free hfree hset, putFine_natCast]

/-! ### Messages of the Toll tree -/

section

variable {s : State} {n : Nat} {m : TollMsg} (hn : n < 16) (hport : tollPort s n = true)

include hn hport

section

variable (hsrc : tollSrc s = 2) (hparent : tollParent s = n)

include hsrc hparent

/-- The first SYNC of a locked parent: the child keeps what it announces, regains its reference and answers with a DREQ
(R243, R245). -/
theorem exec_sync_first {x : TollRt} (hfirst : s.toll.parentInt = none) (hlocked : m.state = tlLocked) (hdepth : m.depth < 4)
    (hx : x = { s.toll with parentInt := some m.interval, parentDepth := m.depth, parentLocked := true,
                            exch := some (m.seq, m.t, m.arrive, m.depart) }) :
    exec (.sync n m) s = .next (sendToll n 2 m.seq 0 m.depart 0 (refRegained
      ((refreshDepth ((setToll x s).put aTolStat 0 10 m.root)).setBit aTolStat 23 false))) := by
  subst hx
  show execSync n m s = _
  simp [execSync, hn, hport, hsrc, hparent, hfirst, hlocked, hdepth.not_ge]

/-- DRESP of the exchange under way: the path's delay is known. One that differs from the delay of training by more than 64 tt is
counted, any other gives an offset (R246, R247). -/
theorem exec_dresp_exchange {t1 t2 t3 : DWord} (hexch : s.toll.exch = some (m.seq, t1, t2, t3)) {a b e : Int} {f : State}
    (ha : a = (t2 - t1).toInt) (hb : b = (m.t - t3).toInt) (he : e = (BitVec.ofNat 16 (s.rf (aTolAsym n) 0 16)).toInt)
    (hf : f = (setToll { s.toll with exch := none } s).setReg aTolPath (BitVec.ofInt 32 ((a + b) / 2))) :
    exec (.dresp n m) s = .next (
      if 128 < ((a + b) - 2 * (s.rf (aLnkWlat n) 0 16 : Int)).natAbs then f.countSat aTolStat 10 6 1
      else newOffset ((a - b - e) * 2 ^ 31) (decide (s.toll.parentDepth < 4) && s.toll.parentLocked) f) := by
  have hpath (t : State) (v : Word) : (t.setReg aTolPath v).rf (aLnkWlat n) 0 16 = t.rf (aLnkWlat n) 0 16 := by
    have hne : aLnkWlat n ≠ aTolPath := by unfold aLnkWlat aLnk aTolPath bLnk bTol; omega
    rw [State.rf, setReg_reg_ne _ _ hne, State.rf]
  subst ha hb he hf
  show execDresp n m s = _
  simp only [execDresp, hn, hport, hsrc, hparent, hexch, hpath, decide_true, decide_false, Bool.not_true, Bool.or_self,
    Bool.false_eq_true, ne_eq, not_true_eq_false, if_false]
  exact (apply_ite Host.Outcome.next ..).symm

end

section

variable (hchild : (childPorts s).contains n = true)

include hchild

/-- DREQ of a child: its arrival is returned (R245). -/
theorem exec_dreq_child : exec (.dreq n m) s = .next (sendToll n 3 m.seq 0 m.arrive m.t s) := by
  show execDreq n m s = _
  simp only [execDreq, hn, hport, hchild, decide_true, Bool.not_true, Bool.or_self, Bool.false_eq_true, if_false]

/-- SYNC_SEND to a child takes the next number (R245). -/
theorem exec_syncSend_child {q : Nat} (hq : q = tabGet (fun _ => 0) s.toll.seqTx n) :
    exec (.syncSend n) s = .next (sendToll n 1 q (s.rf aTolCtl 24 4) 0 0
      (setToll { s.toll with seqTx := tabSet (fun _ => 0) n ((q + 1) % 2 ^ 16) s.toll.seqTx } s)) := by
  subst hq
  show execSyncSend n s = _
  simp only [execSyncSend, hn, hport, hchild, decide_true, Bool.not_true, Bool.or_self, Bool.false_eq_true, if_false]
  rfl

end

end

/-! ### The reference -/

section

variable {s : State}

/-- REFERENCE_LOST names the source in use: the parent (0) or PPS (1) (R241). -/
theorem exec_referenceLost_used {cause : Nat} (h : (cause = 0 ∧ tollSrc s = 2) ∨ (cause = 1 ∧ tollSrc s = 1)) :
    exec (.referenceLost cause) s = .next (refLost s) := by
  show execReferenceLost cause s = _
  rw [execReferenceLost, if_pos h]

/-- HOLDOVER_LIMIT in HOLDOVER: Toll runs free (R241). -/
theorem exec_holdoverLimit_holdover (h : tollState s = tlHoldover) :
    exec .holdoverLimit s = .next (setTollState tlFree s) := by
  show execHoldoverLimit s = _
  rw [execHoldoverLimit, if_pos h]

/-- A PPS edge outside the window while LOCKED is counted, and the second in a row loses the reference (R250). -/
theorem exec_ppsEdge_outside (hsrc : tollSrc s = 1) (hlocked : tollState s = tlLocked) (hout : 64000 < (ppsOffset s).natAbs)
    {e : State} (he : e = s.countSat aTolStat 16 6 1) :
    exec .ppsEdge s = .next (if s.toll.badPps = 0 then setToll { s.toll with badPps := 1 } e
      else refLost (setToll { s.toll with badPps := 0 } e)) := by
  have htoll : e.toll = s.toll := by rw [he]; rfl
  show execPpsEdge s = _
  simp only [execPpsEdge, hsrc, hlocked, hout, ← he, htoll, ne_eq, not_true_eq_false, and_self, if_false, if_true]
  rcases Nat.eq_zero_or_pos s.toll.badPps with hbad | hbad
  · simp only [hbad, if_true, Nat.zero_add, Nat.reduceLeDiff, if_false]
  · rw [if_pos (by omega), if_neg (by omega)]

/-- A valid PPS edge gives an offset (R248). -/
theorem exec_ppsEdge_valid (hsrc : tollSrc s = 1) (hvalid : tollState s ≠ tlLocked ∨ (ppsOffset s).natAbs ≤ 64000)
    (hclock : s.toll.refclk ≠ 2) (hset : s.toll.setSec = none) :
    exec .ppsEdge s = .next (newOffset (ppsOffset s * 2 ^ 32) true (setToll { s.toll with badPps := 0 } s)) := by
  have hin : ¬ (tollState s = tlLocked ∧ 64000 < (ppsOffset s).natAbs) := by omega
  show execPpsEdge s = _
  simp [execPpsEdge, hsrc, hin, hclock, hset]

/-- TOLL_REFCLK present under FREE: Toll locks, and TKCLK leaves the fallback (R240, R241). -/
theorem exec_tollRefclkPresent_free (hfree : tollSrc s = 0) : exec .tollRefclkPresent s =
    .next (setTollState tlLocked (setToll { s.toll with refclk := 2, fallback := false } s)) := by
  have hseen : tollSrc (setToll { s.toll with refclk := 2, fallback := false } s) = 0 := hfree
  show execTollRefclkPresent s = _
  simp [execTollRefclkPresent, hfree, hseen]

/-- TOLL_REFCLK back under FREE in HOLDOVER: Toll acquires (R240). -/
theorem exec_tollRefclkReturn_holdover (hgone : s.toll.refclk = 0) (hfree : tollSrc s = 0) (hold : tollState s = tlHoldover) :
    exec .tollRefclkReturn s = .next (setTollState tlAcquire (setToll { s.toll with refclk := 1 } s)) := by
  have hseen : tollSrc (setToll { s.toll with refclk := 1 } s) = 0 ∧
      tollState (setToll { s.toll with refclk := 1 } s) = tlHoldover := ⟨hfree, hold⟩
  show execTollRefclkReturn s = _
  simp only [execTollRefclkReturn, hgone, if_pos hseen, ne_eq, not_true_eq_false, if_false]

end

/-- Settles O37: each message and each event of the reference does its shared step when its condition holds. -/
theorem tollEventsComplete : Obligations.TollEventsComplete := by
  unfold Obligations.TollEventsComplete
  refine ⟨fun s n m hn hport => ⟨?sync, fun hchild => ⟨exec_dreq_child hn hport hchild,
        fun q => exec_syncSend_child hn hport hchild⟩,
      fun t1 t2 t3 hsrc hparent hexch a b e ha hb he f => exec_dresp_exchange hn hport hsrc hparent hexch ha hb he⟩,
    fun s => ⟨fun h => exec_referenceLost_used (.inl ⟨rfl, h⟩), fun h => exec_referenceLost_used (.inr ⟨rfl, h⟩),
      exec_holdoverLimit_holdover, fun hsrc hlocked hout e => exec_ppsEdge_outside hsrc hlocked hout, exec_ppsEdge_valid, rfl,
      exec_tollRefclkPresent_free, exec_tollRefclkReturn_holdover⟩⟩
  case sync =>
    rintro hsrc hparent hfirst hlocked hdepth x e hx rfl
    exact exec_sync_first hn hport hsrc hparent hfirst hlocked hdepth hx

end Sys2Proof.Proofs
end

section
/-! PROOFS. Pushes (R226, R627): DP_PUSH, the entry of its words, and its timeout. -/

namespace Sys2Proof.Proofs

open Sys2Proof Sys2Proof.Machine Sys2Proof.Laws

/-- DP_PUSH in RUN with its operands in range, and words to push: it keeps them for its partition's queue (R226, R627). -/
theorem bodyDpPush_words {c : Call} {a : State} {w : List Byte} (hrun : plnState a c.part.toNat = stRun)
    (hlow : 1 ≤ c.le 32 4) (hhigh : c.le 32 4 ≤ 2 ^ 20) (hshape : if c.bit 16 0 then 32 ≤ c.le 32 4 else c.le 32 4 % 64 = 0)
    (htlow : 1 ≤ c.le 36 4) (hthigh : c.le 36 4 ≤ 10 ^ 7) (hwords : pushWords c a = .ok w) (hw : w ≠ []) :
    bodyDpPush c a = .long { a := 32 * c.part.toNat + 24 + b2n (c.bit 16 0), data := w } a := by
  have hparam : (decide (c.le 32 4 = 0) || decide (2 ^ 20 < c.le 32 4) || (!c.bit 16 0 && decide (c.le 32 4 % 64 ≠ 0)) ||
      (c.bit 16 0 && decide (c.le 32 4 < 32)) || decide (c.le 36 4 = 0) || decide (10 ^ 7 < c.le 36 4)) = false := by
    cases hsealed : c.bit 16 0 <;> simp only [hsealed, if_true, if_false, Bool.false_eq_true] at hshape
    · simp [hshape, Nat.one_le_iff_ne_zero.1 hlow, Nat.one_le_iff_ne_zero.1 htlow]
      exact ⟨hhigh, hthigh⟩
    · simp [hshape.not_gt, Nat.one_le_iff_ne_zero.1 hlow, Nat.one_le_iff_ne_zero.1 htlow]
      exact ⟨hhigh, hthigh⟩
  simp only [bodyDpPush, hrun, hparam, hwords, if_neg hw, ne_eq, not_true_eq_false, Bool.false_eq_true, if_false]

section

variable {s : State} {i : Nat} {o : Outst} (ho : outstAt s i [0x38] = some o)

include ho

/-- PUSH_WORD_ENTER of the first push of its queue, which has room: the next word enters, and the last ends the push (R226). -/
theorem exec_pushWordEnter_room (hfirst : ∀ x ∈ s.host.outst.take i, ¬ (x.acc = true ∧ x.op = 0x38 ∧ x.a = o.a))
    (hroom : (queueRt s o.a).entries.length < queueDepth o.a) :
    exec (.pushWordEnter i) s = .next
      (if o.data.drop 64 = [] then
        finishO { o with b := o.b + 1, data := [] } sOk (leBytes 4 (o.b + 1))
          (enterQueue o.a (.word (padTo 64 (o.data.take 64)) 0) (updOutst o { o with b := o.b + 1, data := [] } s))
       else enterQueue o.a (.word (padTo 64 (o.data.take 64)) 0) (updOutst o { o with b := o.b + 1, data := o.data.drop 64 } s)) := by
  have hnone : (s.host.outst.take i).any (fun x => x.acc && decide (x.op = 0x38) && decide (x.a = o.a)) = false := by
    refine List.any_eq_false.2 fun x hx hearlier => hfirst x hx ?_
    simpa only [Bool.and_eq_true, decide_eq_true_eq, and_assoc] using hearlier
  show execPushWordEnter i s = _
  simp only [execPushWordEnter, ho, hnone, hroom.not_ge, decide_false, Bool.or_self, Bool.false_eq_true, if_false]
  by_cases hlast : o.data.drop 64 = []
  · rw [if_pos hlast, if_pos hlast, hlast]
  · rw [if_neg hlast, if_neg hlast]

/-- PUSH_TIMEOUT: the push ends with the count of the words that entered (R627). -/
theorem exec_pushTimeout_running : exec (.pushTimeout i) s = .next (finishO o sTimeout (leBytes 4 o.b) s) := by
  show execPushTimeout i s = _
  simp only [execPushTimeout, ho]

end

/-- Settles O9: a push keeps its words and waits, they enter one by one, and it ends with the last or with its timeout. -/
theorem pushesComplete : Obligations.PushesComplete := by
  unfold Obligations.PushesComplete
  refine ⟨?begin, fun i o s ho => ⟨exec_pushWordEnter_room ho, exec_pushTimeout_running ho⟩⟩
  case begin =>
    rintro c s a p rfl rfl hpass hrun hlow hhigh hshape htlow hthigh w hwords hw
    exact congrArg Host.Outcome.next
      (runCmd_long hpass rfl (bodyDpPush_words hrun hlow hhigh hshape htlow hthigh hwords hw))

end Sys2Proof.Proofs
end

section
/-! PROOFS. The safety monitor (R223, R254, R766 to R772, R784, R818): what it finds enters the safe state or marks a unit. -/

namespace Sys2Proof.Proofs

open Sys2Proof Sys2Proof.Machine Sys2Proof.Laws

/-! ### Clocks, rails, the watchdog and the request pin -/

section

variable {s : State}

/-- CLOCK_LOSS of a monitored clock (R254). -/
theorem exec_clockLoss_monitored {clk : Nat} (h : clk < 34 ∨ clk = 255) : exec (.clockLoss clk) s = .next (clockLost clk s) := by
  have hnamed : (decide (clk < 34) || decide (clk = 255)) = true := by simpa only [Bool.or_eq_true, decide_eq_true_eq] using h
  show execClockLoss clk s = _
  simp only [execClockLoss, hnamed, Bool.not_true, Bool.false_eq_true, if_false]

/-- VOLTAGE once the MRP is ready (R767). -/
theorem exec_voltage_ready {rail mV : Nat} {high : Bool} (h : mrpReady s = true) : exec (.voltage rail high mV) s =
    .next (deviceFault 2 0x876 (rail % 256 + 256 * b2n high + 65536 * (mV % 65536)) false s) := by
  show execVoltage rail high mV s = _
  rw [execVoltage, if_pos h]

/-- WATCHDOG_EXPIRY while the watchdog runs: it is counted, and the count goes into the record (R768). -/
theorem exec_watchdogExpiry_on (h : s.boot.phase = 3 ∨ s.boot.phase = 5) {e : State} (he : e = s.countSat aSafWdt 0 16 1) :
    exec .watchdogExpiry s = .next (deviceFault 4 0x876 (e.rf aSafWdt 0 16) false e) := by
  subst he
  show execWatchdogExpiry s = _
  rw [execWatchdogExpiry, if_neg (by omega)]

/-- SAFE_REQ falls once the MRP is ready (R766). -/
theorem exec_safeReq_falls (hready : mrpReady s = true) (hhigh : s.safe.reqLow = false) {e : State}
    (he : e = { s with safe := { s.safe with reqLow := true } }.setBit aSafStat 29 true) :
    exec (.safeReq true) s = .next (deviceFault 5 0x876 0 false e) := by
  have hkept : mrpReady e = true := by
    rw [mrpReady, he, rbit_setBit_ne _ _ _ _ (by decide)]
    exact hready
  show execSafeReq true s = _
  simp only [execSafeReq, ← he, hhigh, hkept, Bool.not_false, Bool.and_self, if_true]

/-- SAFE_REQ goes high: the request ends, and nothing else changes (R766). -/
theorem exec_safeReq_rises (s : State) : exec (.safeReq false) s =
    .next ({ s with safe := { s.safe with reqLow := false } }.setBit aSafStat 29 false) := rfl

end

/-! ### Self-test -/

/-- PERIODIC_SELFTEST of an idle array unit that is in use: it is marked if it fails, and else nothing changes (R769, R771). -/
theorem exec_periodicSelftest_idle {s : State} {u : Nat} (hu : arrayUnit u = true) (hon : s.rbit aSafStctl 31 = true)
    (hpres : unitPresent s u = true) (hsound : failedOf s u = false) (hidle : unitIdle s u = true)
    (hfree : selfTesting s (2 ^ unitPart u) = false) (fail : Bool) :
    exec (.periodicSelftest u fail) s = .next (if fail then unitFails u s else s) := by
  show execPeriodicSelftest u fail s = _
  simp only [execPeriodicSelftest, hu, hon, hpres, hsound, hidle, hfree, Bool.not_true, Bool.not_false, Bool.true_and,
    Bool.false_eq_true, if_false]

/-- SELFTEST_DONE: units that passed are in use again, those that failed are marked, and the reply names the partitions without
one (R772, R784). -/
theorem exec_selftestDone_running {s e f : State} {i : Nat} {failed us bad : List Nat} {o : Outst}
    (ho : outstAt s i [0x81] = some o) (hus : us = testUnits s (o.call.b 16)) (hbad : bad = us.filter (fun u => failed.contains u))
    (he : e = refreshFailed (forL (us.filter (fun u => !failed.contains u)) (fun u t => t.setBit (aSafFail (u / 32)) (u % 32) false)
      (scrubSram (o.call.b 16) s)))
    (hf : f = finishO o sOk [bite (maskOf ((maskBits 8 (o.call.b 16)).filter (fun p => bad.all (fun u => decide (unitPart u ≠ p)))))]
      (forL bad (fun u t => unitFails u t) e)) :
    exec (.selftestDone i failed) s =
      .next (f.setBit aSafStat 28 (f.host.outst.any (fun x => x.acc && decide (x.op = 0x81)))) := by
  show execSelftestDone i failed s = _
  rw [execSelftestDone, ho, hf, he, hbad, hus]

/-- Settles O32: each finding of the monitor does its shared step when its condition holds. -/
theorem safetyMonitorComplete : Obligations.SafetyMonitorComplete := by
  unfold Obligations.SafetyMonitorComplete
  refine ⟨fun s clk => exec_clockLoss_monitored, fun s => ⟨rfl, rfl, rfl, rfl⟩, fun s rail mV high => exec_voltage_ready,
    fun s h e => exec_watchdogExpiry_on h, fun s e hready hhigh => exec_safeReq_falls hready hhigh, exec_safeReq_rises, ?selftest,
    fun s e f i failed us bad o => exec_selftestDone_running⟩
  case selftest =>
    intro s u hu hon hpres hsound hidle hfree
    have htested := exec_periodicSelftest_idle hu hon hpres hsound hidle hfree
    exact ⟨htested true, htested false⟩

end Sys2Proof.Proofs
end

section
/-! PROOFS. Register rows of the links, the Toll, the safe state and the device block (R86, R122, R156, R249, R315, R681, R687,
R766, R777, R830): what a write that passes its tests does. -/

namespace Sys2Proof.Proofs

open Sys2Proof Sys2Proof.Machine Sys2Proof.Laws

/-! ### A write of a register that all functions share -/

/-- The function-local blocks are CMD and MBX (R647). -/
theorem isLocal_eq_false {o : Nat} (h : o < bCmd ∨ bFab ≤ o) : isLocal o = false := by
  rw [isLocal, Bool.and_eq_false_iff, decide_eq_false_iff_not, decide_eq_false_iff_not]
  omega

/-- A register row on a shared register is the write of that register. -/
theorem rowWrite_shared {o : Nat} {w : Wr} {s : State} (hshared : isLocal o = false) (h : WriteTakes w.fn o s) :
    rowWrite o w s = .next (writeBlock { fn := w.fn, src := 0, key := o } w.val s) := by
  rw [rowWrite_takes h, keyOf_shared hshared]

theorem guarded_lt {what : String} {n count : Nat} (h : n < count) (k : Out) : guarded what n count k = k := if_pos h

/-- A register without RWL fields takes a write by the types of its fields, locked or not (R13, R14). -/
theorem writeGeneric_noLock {w : RegW} {v : Word} {s : State} (h : tyMask (regFields w.key) .rwl = 0) :
    writeGeneric w v s = s.setReg w.key (writeFields (regFields w.key) false (s.reg w.key) v) := by
  simp only [writeGeneric, writeFields, h, ite_self, ne_eq, not_true_eq_false, decide_false, Bool.and_false, Bool.false_eq_true,
    if_false]

section

variable {w : Wr} {s : State}

/-! ### Links and Toll -/

/-- A write of LNK_n_CTL by PF0 (R315). -/
theorem exec_retrain_takes {n : Nat} (hn : n < 16) (h : WriteTakes w.fn (aLnkCtl n) s) (hpf : w.fn = 0) :
    exec (.retrain w n) s = .next (portControl n (bit w.val 31) (bit w.val 30) (bit w.val 29)
      (s.put (aLnkCtl n) 27 2 (fld w.val 27 2))) := by
  have hshared : isLocal (aLnkCtl n) = false := isLocal_eq_false (.inr (by unfold aLnkCtl aLnk bFab bLnk; omega))
  show guarded "port" n 16 (rowWrite (aLnkCtl n) w s) = _
  rw [guarded_lt hn, rowWrite_shared hshared h, write_lnkCtl hn rfl, writeLnkCtl, if_neg (not_not_intro hpf)]

/-- TOL_CTL takes a value whose SRC and INTERVAL are not reserved; a new source, or a new parent of LINK, replaces the
reference (R830). -/
theorem writeTolCtl_valid {r : RegW} {v : Word} {e : State} (hsrc : fld v 18 2 ≠ 3) (hinterval : fld v 24 4 ≤ 10)
    (he : e = s.setReg aTolCtl v) : writeTolCtl r v s = refreshDepth
      (if fld v 18 2 ≠ s.rf aTolCtl 18 2 ∨ (fld v 18 2 = 2 ∧ fld v 20 4 ≠ s.rf aTolCtl 20 4) then replaceRef e else e) := by
  subst he
  simp only [writeTolCtl, hsrc, hinterval.not_gt, decide_false, Bool.or_self, Bool.false_eq_true, if_false]
  rfl

theorem exec_tolCtlSrc_takes (h : WriteTakes w.fn aTolCtl s) (hsrc : fld w.val 18 2 ≠ 3) (hinterval : fld w.val 24 4 ≤ 10)
    {e : State} (he : e = s.setReg aTolCtl w.val) : exec (.tolCtlSrc w) s = .next (refreshDepth
      (if fld w.val 18 2 ≠ s.rf aTolCtl 18 2 ∨ (fld w.val 18 2 = 2 ∧ fld w.val 20 4 ≠ s.rf aTolCtl 20 4) then replaceRef e
       else e)) := by
  show rowWrite aTolCtl w s = _
  rw [rowWrite_shared rfl h, write_tolCtl rfl, writeTolCtl_valid hsrc hinterval he]

/-- TOL_SETSEC of a root: the second waits to be set (R249). -/
theorem exec_tolSetsec_takes (h : WriteTakes w.fn aTolSetsec s) (hroot : tollSrc s ≠ 2) :
    exec (.tolSetsec w) s = .next (setToll { s.toll with setSec := some w.val.toNat } s) := by
  show rowWrite aTolSetsec w s = _
  rw [rowWrite_shared rfl h, write_tolSetsec rfl, writeSetsec, if_neg hroot]

/-! ### The safe state -/

/-- SAF_RSEL with GO by PF0: the selected record, or zeros, enters SAF_RDATA, and SAF_RSTAT counts the buffer (R777). -/
theorem writeSafRsel_go {r : RegW} {v : Word} {e : State} (hpf : r.fn = 0) (hgo : bit v 31 = true)
    (hbuf : fld v 8 8 < 8 ∨ fld v 8 8 = 0xFF) (he : e = (s.put aSafRsel 0 4 (fld v 0 4)).put aSafRsel 8 8 (fld v 8 8))
    {b : FaultBuf} (hb : b = faultBuf s (if fld v 8 8 = 0xFF then devBuf else fld v 8 8)) :
    writeSafRsel r v s =
      (forN 8 (fun k t => t.setReg (aSafRdata k) (BitVec.ofNat 32 (leAt ((b.recs[fld v 0 4]?).getD (zeros 32)) (4 * k) 4))) e).setReg
        aSafRstat (BitVec.ofNat 32 (2 ^ 31 * b2n (decide (fld v 0 4 < b.recs.length)) + 2 ^ 16 * b.recs.length + b.missed)) := by
  have hknown : ¬ (8 ≤ fld v 8 8 ∧ fld v 8 8 ≠ 0xFF) := by omega
  have hindex : e.rf aSafRsel 0 4 = fld v 0 4 := by
    rw [he, rf_put_apart _ _ (by decide) (by decide), rf_put_same _ _ (by decide) (by decide)]
    exact Nat.mod_mod _ _
  have hpart : e.rf aSafRsel 8 8 = fld v 8 8 := by
    rw [he, rf_put_same _ _ (by decide) (by decide)]
    exact Nat.mod_mod _ _
  have hsel : selBuf e = b := by
    rw [selBuf, hpart, hb, he]
    rfl
  simp only [writeSafRsel, hpf, hgo, ne_eq, not_true_eq_false, if_false, if_neg hknown, ← he, hsel, hindex, Bool.not_true,
    Bool.false_eq_true]

theorem exec_safRselGo_takes (h : WriteTakes w.fn aSafRsel s) (hpf : w.fn = 0) (hgo : bit w.val 31 = true)
    (hbuf : fld w.val 8 8 < 8 ∨ fld w.val 8 8 = 0xFF) {e : State}
    (he : e = (s.put aSafRsel 0 4 (fld w.val 0 4)).put aSafRsel 8 8 (fld w.val 8 8))
    {b : FaultBuf} (hb : b = faultBuf s (if fld w.val 8 8 = 0xFF then devBuf else fld w.val 8 8)) :
    exec (.safRselGo w) s = .next (
      (forN 8 (fun k t => t.setReg (aSafRdata k) (BitVec.ofNat 32 (leAt ((b.recs[fld w.val 0 4]?).getD (zeros 32)) (4 * k) 4))) e).setReg
        aSafRstat (BitVec.ofNat 32 (2 ^ 31 * b2n (decide (fld w.val 0 4 < b.recs.length)) + 2 ^ 16 * b.recs.length + b.missed))) := by
  show rowWrite aSafRsel w s = _
  rw [rowWrite_shared rfl h, write_safRsel rfl, writeSafRsel_go hpf hgo hbuf he hb]

/-- SAF_ENTER by PF0 (R766). -/
theorem exec_safEnter_takes (h : WriteTakes w.fn aSafEnter s) (hpf : w.fn = 0) (henter : bit w.val 31 = true) :
    exec (.safEnter w) s = .next (deviceFault 5 0x876 1 true s) := by
  show rowWrite aSafEnter w s = _
  rw [rowWrite_shared rfl h, write_safEnter rfl, writeSafEnter, if_neg (not_not_intro hpf), if_pos henter]

/-! ### The device block -/

/-- DEV_LOCK keeps every bit that was set (R687). -/
theorem exec_devLock_takes (h : WriteTakes w.fn aDevLock s) :
    exec (.devLock w) s = .next (s.setReg aDevLock (s.reg aDevLock ||| (w.val &&& 0x7FFF#32))) := by
  have hfields : regFields aDevLock = [⟨0, 15, .w1s, 0⟩] := by decide
  have htypes : tyMask [⟨0, 15, .w1s, 0⟩] .rw = 0#32 ∧ tyMask [⟨0, 15, .w1s, 0⟩] .rws = 0#32 ∧
      tyMask [⟨0, 15, .w1s, 0⟩] .rwl = 0#32 ∧ tyMask [⟨0, 15, .w1s, 0⟩] .w1c = 0#32 ∧
      tyMask [⟨0, 15, .w1s, 0⟩] .w1s = 0x7FFF#32 := by decide
  obtain ⟨hrw, hrws, hrwl, hw1c, hw1s⟩ := htypes
  show rowWrite aDevLock w s = _
  rw [rowWrite_shared rfl h, write_devLock rfl, writeGeneric_noLock (by rw [hfields, hrwl]; rfl), hfields]
  simp only [writeFields, hrw, hrws, hrwl, hw1c, hw1s, if_neg Bool.false_ne_true, BitVec.or_zero, BitVec.and_zero, BitVec.not_zero,
    BitVec.and_allOnes]

/-- A write of a function's IMR (R681). -/
theorem exec_imrWrite_low {f : Nat} (hf : f ≤ 8) (h : WriteTakes w.fn (aImrL f) s) :
    exec (.imrWrite w f false) s = .next (writeImr f false w.val s) := by
  have hshared : isLocal (aImrL f) = false := isLocal_eq_false (.inl (by unfold aImrL bDev bCmd; omega))
  show guarded "function" f 9 (rowWrite (aImrL f) w s) = _
  rw [guarded_lt (by omega), rowWrite_shared hshared h, write_imrL (by omega) rfl]

/-- PF0 alone has an upper half (R681). -/
theorem exec_imrWrite_high (h : WriteTakes w.fn (aImrH 0) s) :
    exec (.imrWrite w 0 true) s = .next (writeImr 0 true w.val s) := by
  show guarded "function" 0 9 (rowWrite (aImrH 0) w s) = _
  rw [guarded_lt (by decide), rowWrite_shared rfl h, write_imrH rfl]

/-! ### Error injection -/

/-- An injection register whose target nobody holds takes a value that is not reserved (R86, R122, R156). -/
theorem writeInj_free {tgt lo wd : Nat} {ok : Nat → Bool} {r : RegW} {v : Word} (hfree : held s tgt = false)
    (hok : ok (fld v lo wd) = true) (hrwl : tyMask (regFields r.key) .rwl = 0) :
    writeInj tgt lo wd ok r v s = s.setReg r.key (writeFields (regFields r.key) false (s.reg r.key) v) := by
  rw [writeInj, hfree, Bool.and_false, if_neg Bool.false_ne_true, writeRanged, if_pos hok, writeGeneric_noLock hrwl]

theorem exec_injectionArm_cu (h : WriteTakes w.fn aCuResinj s) (hfree : held s (unitPart (fld w.val 0 12)) = false)
    (hlow : 1 ≤ fld w.val 29 2) (hhigh : fld w.val 29 2 ≤ 2) : exec (.injectionArm w 0) s =
      .next (s.setReg aCuResinj (writeFields (regFields aCuResinj) false (s.reg aCuResinj) w.val)) := by
  have hlock : tyMask (regFields aCuResinj) .rwl = 0 := by decide
  have hkind : fld w.val 29 2 = 1 ∨ fld w.val 29 2 = 2 := by omega
  show guarded "injection register" 0 3 (rowWrite aCuResinj w s) = _
  rw [guarded_lt (by decide), rowWrite_shared rfl h, write_cuResinj rfl, writeResinj,
    writeInj_free hfree (by simpa only [Bool.or_eq_true, decide_eq_true_eq] using hkind) hlock]

theorem exec_injectionArm_sram (h : WriteTakes w.fn aSramEinj s)
    (hfree : held s (if fld w.val 28 2 = 1 then fld w.val 12 3 else unitPart (fld w.val 0 12)) = false)
    (hkind : fld w.val 28 2 ≤ 1) : exec (.injectionArm w 1) s =
      .next (s.setReg aSramEinj (writeFields (regFields aSramEinj) false (s.reg aSramEinj) w.val)) := by
  have hlock : tyMask (regFields aSramEinj) .rwl = 0 := by decide
  show guarded "injection register" 1 3 (rowWrite aSramEinj w s) = _
  rw [guarded_lt (by decide), rowWrite_shared rfl h, write_sramEinj rfl, writeEinj,
    writeInj_free hfree (decide_eq_true hkind) hlock]

theorem exec_injectionArm_net (h : WriteTakes w.fn aNetCinj s) (hfree : held s (unitPart (fld w.val 0 12)) = false) :
    exec (.injectionArm w 2) s =
      .next (s.setReg aNetCinj (writeFields (regFields aNetCinj) false (s.reg aNetCinj) w.val)) := by
  have hlock : tyMask (regFields aNetCinj) .rwl = 0 := by decide
  show guarded "injection register" 2 3 (rowWrite aNetCinj w s) = _
  rw [guarded_lt (by decide), rowWrite_shared rfl h, write_netCinj rfl, writeCinj, writeInj_free hfree rfl hlock]

end

end Sys2Proof.Proofs
end

section
/-! PROOFS. Ring pairs and BAR2 windows (R591, R592, R594, R596, R661): the function-local registers of the CMD block and what a
write that passes its tests does. -/

namespace Sys2Proof.Proofs

open Sys2Proof Sys2Proof.Machine Sys2Proof.Laws

/-! ### Where the registers lie -/

/-- A key lies at the offset that the function wrote. -/
theorem offOf_keyOf {f o : Nat} (ho : o < 0x10000000) : offOf (keyOf f o) = o := by
  unfold offOf keyOf fnBase
  split <;> omega

/-- A function's CMD registers have the fields of the block (R647). -/
theorem regFields_cmd (f : Nat) {x : Nat} (hx : x < 0x100000) (haligned : x % 4 = 0) :
    regFields (fnBase f + bCmd + x) = cmdFields x := by
  have hoff : offOf (fnBase f + bCmd + x) = bCmd + x := by unfold offOf fnBase bCmd; omega
  have hblock : blockOf (bCmd + x) = 1 := by
    rw [blockOf, if_neg (by omega), if_pos (by unfold bCmd bMbx; omega)]
  have hlocal : ¬ fnBase f + bCmd + x < 0x10000000 := by unfold fnBase; omega
  have hword : ¬ (bCmd + x) % 4 ≠ 0 := by unfold bCmd; omega
  simp only [regFields, hoff, hblock, if_neg hlocal, if_neg hword, Nat.add_sub_cancel_left]

section

variable {f k : Nat} (hk : k < 4)

include hk

theorem regFields_ring {r : Nat} (hr : r < 0x1000) (haligned : r % 4 = 0) :
    regFields (aRqCtl f k + r) = cmdFields (0x1000 * k + r) := by
  rw [aRqCtl, Nat.add_assoc, regFields_cmd f (by omega) (by omega)]

theorem definedMask_cqTail : BitVec.ofNat 32 (2 ^ 31) &&& definedMask (aCqTail f k) = 0x80000000#32 := by
  rw [aCqTail, definedMask, regFields_ring hk (by decide) rfl]
  revert k; decide

theorem definedMask_rqStat : BitVec.ofNat 32 (2 ^ 31) &&& definedMask (aRqStat f k) = 0x80000000#32 := by
  rw [aRqStat, definedMask, regFields_ring hk (by decide) rfl]
  revert k; decide

end

/-! ### Which writer each row reaches -/

section

variable {w : RegW} {v : Word} {s : State} {k : Nat}

theorem writeBlock_cmd {x : Nat} (hx : x < 0x100000) (ho : offOf w.key = bCmd + x) : writeBlock w v s = writeCmd w v s := by
  have hblock : blockOf (offOf w.key) = 1 := by
    rw [ho, blockOf, if_neg (by omega), if_pos (by unfold bCmd bMbx; omega)]
  simp only [writeBlock, hblock]

/-- Register `r` of ring pair `k`, as the writer of the CMD block takes its offset apart. -/
theorem ring_place {r : Nat} (hk : k < 4) (hr : r < 0x1000) (ho : offOf w.key = bCmd + 0x1000 * k + r) :
    writeBlock w v s = writeCmd w v s ∧ offOf w.key - bCmd < 0x4000 ∧ (offOf w.key - bCmd) / 0x1000 = k ∧
      (offOf w.key - bCmd) % 0x1000 = r := by
  refine ⟨writeBlock_cmd (x := 0x1000 * k + r) (by omega) (by omega), ?_⟩
  omega

theorem write_rqCtl (hk : k < 4) (ho : offOf w.key = bCmd + 0x1000 * k) : writeBlock w v s = writeRqCtl w.fn k w v s := by
  obtain ⟨hwrite, hring, hpair, hreg⟩ := ring_place (v := v) (s := s) hk (by decide) (ho.trans (Nat.add_zero _).symm)
  rw [hwrite]
  simp only [writeCmd, if_pos hring, hpair, hreg]

theorem write_sqTail (hk : k < 4) (ho : offOf w.key = bCmd + 0x1000 * k + 0x18) : writeBlock w v s = writeTail w.fn k v s := by
  obtain ⟨hwrite, hring, hpair, hreg⟩ := ring_place (v := v) (s := s) hk (by decide) ho
  rw [hwrite]
  simp only [writeCmd, if_pos hring, hpair, hreg]

theorem write_cqHead (hk : k < 4) (ho : offOf w.key = bCmd + 0x1000 * k + 0x20) : writeBlock w v s = writeCqHead w.fn k w v s := by
  obtain ⟨hwrite, hring, hpair, hreg⟩ := ring_place (v := v) (s := s) hk (by decide) ho
  rw [hwrite]
  simp only [writeCmd, if_pos hring, hpair, hreg]

theorem write_b2wCtl (hk : k < 16) (ho : offOf w.key = bCmd + 0x9000 + 0x10 * k) : writeBlock w v s = writeB2wCtl w.fn k w v s := by
  have hx : offOf w.key - bCmd = 0x9000 + 0x10 * k := by omega
  have hapart : ¬ 0x9000 + 0x10 * k < 0x4000 := by omega
  have hwindow : 0x9000 ≤ 0x9000 + 0x10 * k ∧ 0x9000 + 0x10 * k < 0x9100 := by omega
  have hctl : (0x9000 + 0x10 * k) % 0x10 = 0 := by omega
  have hindex : (0x9000 + 0x10 * k - 0x9000) / 0x10 = k := by omega
  rw [writeBlock_cmd (by omega) (ho.trans (Nat.add_assoc ..))]
  simp only [writeCmd, hx, if_neg hapart, if_pos hwindow, if_pos hctl, hindex]

end

/-! ### A pair that starts -/

/-- Pair `k` of function `f` with EN newly set: its pointers return to 0 and it is ACTIVE (R591, R596). -/
def ringStarted (f k : Nat) (v : Word) (s : State) : State :=
  (((((setFnRt f { fnRt s f with stopped := (fnRt s f).stopped.filter (fun j => decide (j ≠ k)),
                                 fenced := (fnRt s f).fenced.filter (fun c => decide (c.via ≠ .ring k)) }
    (s.setReg (aRqCtl f k) v)).setReg
    (aSqTail f k) 0).setReg (aSqHead f k) 0).setReg (aCqHead f k) 0).setReg (aCqTail f k) (BitVec.ofNat 32 (2 ^ 31))).setReg
    (aRqStat f k) (BitVec.ofNat 32 (2 ^ 31))

/-- RQ_k_CTL with EN and valid sizes, of an idle pair whose function may run commands (R591, R596). -/
theorem writeRqCtl_starts {f k : Nat} {w : RegW} {v : Word} {s : State} (hidle : s.rbit (aRqStat f k) 31 = false)
    (hen : bit v 31 = true) (hlow : 4 ≤ fld v 16 4) (hhigh : fld v 16 4 ≤ 12) (horder : fld v 16 4 < fld v 12 4)
    (hcq : fld v 12 4 ≤ 13) (hheld : f ≠ 0 → partState s (f - 1) = 1) : writeRqCtl f k w v s = ringStarted f k v s := by
  have hmay : ¬ (f ≠ 0 ∧ partState s (f - 1) ≠ 1) := fun ⟨hvf, hstate⟩ => hstate (hheld hvf)
  simp only [writeRqCtl, hidle, hen, hlow, hhigh, horder, hcq, if_neg hmay, decide_true, Bool.and_self, Bool.not_true,
    Bool.false_eq_true, if_false, ringStarted]

section

variable (f k : Nat) (v : Word) (s : State)

theorem hostSideOnly_ringStarted : HostSideOnly s (ringStarted f k v s) :=
  (HostSideOnly.refl s).setReg.setFnRt.setReg.setReg.setReg.setReg.setReg

/-- The registers of a pair are apart. -/
theorem ring_ne {x y : Nat} (h : x ≠ y) : aRqCtl f k + x ≠ aRqCtl f k + y := fun he => h (Nat.add_left_cancel he)
theorem ring_ne_ctl {x : Nat} (h : 0 < x) : aRqCtl f k ≠ aRqCtl f k + x := (Nat.lt_add_of_pos_right h).ne

theorem ringStarted_ctl : (ringStarted f k v s).reg (aRqCtl f k) = v &&& definedMask (aRqCtl f k) := by
  have hstat : aRqCtl f k ≠ aRqStat f k := ring_ne_ctl f k (by decide)
  have hcqTail : aRqCtl f k ≠ aCqTail f k := ring_ne_ctl f k (by decide)
  have hcqHead : aRqCtl f k ≠ aCqHead f k := ring_ne_ctl f k (by decide)
  have hsqHead : aRqCtl f k ≠ aSqHead f k := ring_ne_ctl f k (by decide)
  have hsqTail : aRqCtl f k ≠ aSqTail f k := ring_ne_ctl f k (by decide)
  rw [ringStarted, setReg_reg_ne _ _ hstat, setReg_reg_ne _ _ hcqTail, setReg_reg_ne _ _ hcqHead, setReg_reg_ne _ _ hsqHead,
    setReg_reg_ne _ _ hsqTail, setFnRt_reg, setReg_reg_same]

theorem ringStarted_sqTail : (ringStarted f k v s).reg (aSqTail f k) = 0 := by
  have hstat : aSqTail f k ≠ aRqStat f k := ring_ne f k (by decide)
  have hcqTail : aSqTail f k ≠ aCqTail f k := ring_ne f k (by decide)
  have hcqHead : aSqTail f k ≠ aCqHead f k := ring_ne f k (by decide)
  have hsqHead : aSqTail f k ≠ aSqHead f k := ring_ne f k (by decide)
  rw [ringStarted, setReg_reg_ne _ _ hstat, setReg_reg_ne _ _ hcqTail, setReg_reg_ne _ _ hcqHead, setReg_reg_ne _ _ hsqHead,
    setReg_reg_same]
  exact BitVec.zero_and

theorem ringStarted_sqHead : (ringStarted f k v s).reg (aSqHead f k) = 0 := by
  have hstat : aSqHead f k ≠ aRqStat f k := ring_ne f k (by decide)
  have hcqTail : aSqHead f k ≠ aCqTail f k := ring_ne f k (by decide)
  have hcqHead : aSqHead f k ≠ aCqHead f k := ring_ne f k (by decide)
  rw [ringStarted, setReg_reg_ne _ _ hstat, setReg_reg_ne _ _ hcqTail, setReg_reg_ne _ _ hcqHead, setReg_reg_same]
  exact BitVec.zero_and

theorem ringStarted_cqHead : (ringStarted f k v s).reg (aCqHead f k) = 0 := by
  have hstat : aCqHead f k ≠ aRqStat f k := ring_ne f k (by decide)
  have hcqTail : aCqHead f k ≠ aCqTail f k := ring_ne f k (by decide)
  rw [ringStarted, setReg_reg_ne _ _ hstat, setReg_reg_ne _ _ hcqTail, setReg_reg_same]
  exact BitVec.zero_and

variable {k} (hk : k < 4)

include hk

theorem ringStarted_cqTail : (ringStarted f k v s).reg (aCqTail f k) = 0x80000000#32 := by
  have hstat : aCqTail f k ≠ aRqStat f k := ring_ne f k (by decide)
  rw [ringStarted, setReg_reg_ne _ _ hstat, setReg_reg_same, definedMask_cqTail hk]
theorem ringStarted_rqStat : (ringStarted f k v s).reg (aRqStat f k) = 0x80000000#32 := by
  rw [ringStarted, setReg_reg_same, definedMask_rqStat hk]

end

/-! ### The rows -/

section

variable {w : Wr} {s : State} {k : Nat}

/-- A doorbell within the ring moves its tail and nothing else (R592). -/
theorem exec_doorbell_takes (hk : k < 4) (h : WriteTakes w.fn (bCmd + 0x1000 * k + 0x18) s)
    (hin : fld w.val 0 12 < 2 ^ s.rf (aRqCtl w.fn k) 16 4) :
    exec (.doorbell w k) s = .next (s.setReg (aSqTail w.fn k) w.val) := by
  have hkept : (s.setReg (aSqTail w.fn k) w.val).rf (aRqCtl w.fn k) 16 4 = s.rf (aRqCtl w.fn k) 16 4 := by
    have hne : aRqCtl w.fn k ≠ aSqTail w.fn k := ring_ne_ctl w.fn k (by decide)
    rw [State.rf, setReg_reg_ne _ _ hne, State.rf]
  show guarded "ring pair" k 4 (rowWrite (bCmd + 0x1000 * k + 0x18) w s) = _
  rw [guarded_lt hk, rowWrite_takes h, write_sqTail hk (offOf_keyOf (by unfold bCmd; omega))]
  simp only [writeTail, hkept, if_pos hin]

/-- CQ_HEAD moves up to the tail (R594). -/
theorem exec_cqHeadWrite_takes (hk : k < 4) (h : WriteTakes w.fn (bCmd + 0x1000 * k + 0x20) s) {n x y : Nat}
    (hn : n = 2 ^ s.rf (aRqCtl w.fn k) 12 4) (hx : x = s.rf (aCqHead w.fn k) 0 13) (hy : y = s.rf (aCqTail w.fn k) 0 13)
    (hin : fld w.val 0 13 < n) (hupTo : (fld w.val 0 13 + n - x) % n ≤ (y + n - x) % n) :
    exec (.cqHeadWrite w k) s = .next (s.setReg (aCqHead w.fn k) w.val) := by
  subst hn hx hy
  show guarded "ring pair" k 4 (rowWrite (bCmd + 0x1000 * k + 0x20) w s) = _
  rw [guarded_lt hk, rowWrite_takes h, write_cqHead hk (offOf_keyOf (by unfold bCmd; omega))]
  exact congrArg Host.Outcome.next (if_pos ⟨hin, hupTo⟩)

/-- EN of an idle pair (R591, R596). -/
theorem exec_rqEn_starts (hk : k < 4) (h : WriteTakes w.fn (bCmd + 0x1000 * k) s) (hidle : s.rbit (aRqStat w.fn k) 31 = false)
    (hen : bit w.val 31 = true) (hlow : 4 ≤ fld w.val 16 4) (hhigh : fld w.val 16 4 ≤ 12)
    (horder : fld w.val 16 4 < fld w.val 12 4) (hcq : fld w.val 12 4 ≤ 13) (hheld : w.fn ≠ 0 → partState s (w.fn - 1) = 1) :
    exec (.rqEn w k) s = .next (ringStarted w.fn k w.val s) := by
  show guarded "ring pair" k 4 (rowWrite (bCmd + 0x1000 * k) w s) = _
  rw [guarded_lt hk, rowWrite_takes h, write_rqCtl hk (offOf_keyOf (by unfold bCmd; omega)),
    writeRqCtl_starts hidle hen hlow hhigh horder hcq hheld]

/-- A window that is off takes its control word, onto a region that the function may open (R661). -/
theorem exec_b2wCtl_takes (hk : k < 16) (h : WriteTakes w.fn (bCmd + 0x9000 + 0x10 * k) s)
    (hoff : s.rbit (aB2wCtl w.fn k) 31 = false)
    (hreach : bit w.val 31 = true → b2wReach s w.fn (fld w.val 4 3) (fld w.val 0 4) = true) :
    exec (.b2wCtl w k) s = .next (s.setReg (aB2wCtl w.fn k) w.val) := by
  have hmay : (bit w.val 31 && !b2wReach s w.fn (fld w.val 4 3) (fld w.val 0 4)) = false := by
    rw [Bool.and_eq_false_imp]
    exact fun hen => by rw [hreach hen, Bool.not_true]
  show guarded "window" k 16 (rowWrite (bCmd + 0x9000 + 0x10 * k) w s) = _
  rw [guarded_lt hk, rowWrite_takes h, write_b2wCtl hk (offOf_keyOf (by unfold bCmd; omega))]
  simp only [writeB2wCtl, hoff, hmay, Bool.false_and, Bool.false_eq_true, if_false]

end

/-- Settles O26: each row that passes its tests reaches the writer of its register, which does what the rule says. -/
theorem controlRegisterRowsComplete : Obligations.ControlRegisterRowsComplete := by
  unfold Obligations.ControlRegisterRowsComplete
  rintro w s e v rfl
  refine ⟨fun n => exec_retrain_takes, fun h hsrc hint => exec_tolCtlSrc_takes h hsrc hint, exec_tolSetsec_takes,
    fun h hpf hgo hbuf he r => exec_safRselGo_takes h hpf hgo hbuf he, exec_safEnter_takes, exec_devLock_takes, ?imr,
    fun k => exec_doorbell_takes, fun k hk h n x y => exec_cqHeadWrite_takes hk h, ?rqEn, fun k => exec_b2wCtl_takes,
    exec_injectionArm_cu, exec_injectionArm_sram, exec_injectionArm_net⟩
  case imr =>
    refine fun f hf => ⟨exec_imrWrite_low hf, ?_⟩
    rintro rfl
    exact exec_imrWrite_high
  case rqEn =>
    intro k hk h hidle hen hlow hhigh horder hcq hheld
    have hframe := hostSideOnly_ringStarted w.fn k w.val s
    exact ⟨ringStarted w.fn k w.val s, exec_rqEn_starts hk h hidle hen hlow hhigh horder hcq hheld,
      ringStarted_ctl .., ringStarted_sqTail .., ringStarted_sqHead .., ringStarted_cqHead ..,
      ringStarted_cqTail _ _ _ hk, ringStarted_rqStat _ _ _ hk, hframe.mem, hframe.fab, hframe.doms⟩

end Sys2Proof.Proofs
end

section
/-! PROOFS. Region commands (R267, R295, R296, R627): RGN_SET, RGN_CLEAR, RGN_ZFILL and REKEY_REGION. -/

namespace Sys2Proof.Proofs

open Sys2Proof Sys2Proof.Machine Sys2Proof.Laws

/-- The table entry and KEY_VER that RGN_SET writes, and the sweep that it begins (R267, R295). -/
def regionSet (c : Call) (a : State) : State :=
  createRegion (c.b 16) (c.b 17) (if rgnOperator a (c.b 16) (c.b 17) then 0 else c.b 24) (c.bit 18 1)
    ((a.setReg (aRgnA (c.b 16) (c.b 17)) (BitVec.ofNat 32 (b2n (c.bit 18 0) * 2 ^ 30 + c.b 19 * 2 ^ 27 + c.le 20 2))).put
      (aRgnB (c.b 16) (c.b 17)) 0 14 (c.le 22 2))

section

variable {c : Call} {s a : State}

/-- RGN_SET of a free entry that obeys R267 under a live key: it waits for its sweep, or is done when there is none. -/
theorem bodyRgnSet_free (hpres : hsPresent a (c.b 16) = true) (hvalid : rgnValid a (c.b 16) (c.b 17) = false)
    (hfixed : rgnFixed a (c.b 16) (c.b 17) = false) (hbusy : rgnBusy a (c.b 16) (c.b 17) = false)
    (hrules : rgnRules a (c.b 16) (c.b 17) (c.bit 18 0) (c.b 19) (c.le 20 2) (c.le 22 2) = true)
    (hkey : rgnOperator a (c.b 16) (c.b 17) = true ∨ verLive a (c.b 16) (c.b 17) (c.b 24) = true) :
    bodyRgnSet c a = if rgnBusy (regionSet c a) (c.b 16) (c.b 17) then .long { a := 16 * c.b 16 + c.b 17 } (regionSet c a)
      else .done sOk (leBytes 8 (rgnUsable (regionSet c a) (c.b 16) (c.b 17))) (regionSet c a) := by
  have hlive : (!rgnOperator a (c.b 16) (c.b 17) && !verLive a (c.b 16) (c.b 17) (c.b 24)) = false := by
    rcases hkey with h | h <;> simp [h]
  simp only [bodyRgnSet, hpres, hvalid, hfixed, hbusy, hrules, hlive, Bool.not_true, Bool.or_self, Bool.false_eq_true, if_false]
  rfl

/-- RGN_SET whose body says whether a sweep has begun ends as that says (R600, R627). -/
theorem exec_rgnSet_of_body (hpass : PassesLong 0x30 (callMem true true) c s)
    (hbody : bodyRgnSet c (accepted 0x30 c s) =
      if rgnBusy a (c.b 16) (c.b 17) then .long { a := 16 * c.b 16 + c.b 17 } a
      else .done sOk (leBytes 8 (rgnUsable a (c.b 16) (c.b 17))) a) :
    exec (.rgnSet c) s = .next (if rgnBusy a (c.b 16) (c.b 17) then running 0x30 c { a := 16 * c.b 16 + c.b 17 } a
      else replied 0x30 c (leBytes 8 (rgnUsable a (c.b 16) (c.b 17))) a) := by
  show Host.Outcome.next (runCmd 0x30 (callMem true true) bodyRgnSet c s) = _
  congr 1
  cases hsweep : rgnBusy a (c.b 16) (c.b 17) <;> rw [hsweep] at hbody
  case true => exact runCmd_long hpass rfl hbody
  case false => exact runCmd_long_ok hpass rfl hbody

/-- RGN_CLEAR of an entry that may change: VALID clears (R268, R627). -/
theorem bodyRgnClear_free (hpres : hsPresent s (c.b 16) = true) (hfixed : rgnFixed s (c.b 16) (c.b 17) = false)
    (hbusy : rgnBusy s (c.b 16) (c.b 17) = false) :
    bodyRgnClear c s = .done sOk [] (s.setBit (aRgnA (c.b 16) (c.b 17)) 31 false) := by
  simp only [bodyRgnClear, hpres, hfixed, hbusy, Bool.not_true, Bool.or_self, Bool.false_eq_true, if_false]

/-- RGN_ZFILL of a valid region on which no sweep runs (R295). -/
theorem bodyRgnZfill_idle (hpres : hsPresent a (c.b 16) = true) (hvalid : rgnValid a (c.b 16) (c.b 17) = true)
    (hbusy : rgnBusy a (c.b 16) (c.b 17) = false) (hrekey : rekeying a (c.b 16) (c.b 17) = false) :
    bodyRgnZfill c a = .long { a := 16 * c.b 16 + c.b 17 } (startSweep (c.b 16) (c.b 17) true a) := by
  simp only [bodyRgnZfill, hpres, hvalid, hbusy, hrekey, Bool.not_true, Bool.or_self, Bool.false_eq_true, if_false]

/-- REKEY_REGION of a valid region under a live version, its RESUME as ABORTED says (R296, R297). -/
theorem bodyRekey_idle (hpres : hsPresent a (c.b 16) = true) (hvalid : rgnValid a (c.b 16) (c.b 17) = true)
    (hlive : verLive a (c.b 16) (c.b 17) (c.b 18) = true) (hidle : a.rbit (aRkCtl (c.b 16)) 30 = false)
    (hbusy : rgnBusy a (c.b 16) (c.b 17) = false) (hresume : c.bit 19 0 = a.rbit (aRkCtl (c.b 16)) 29) :
    bodyRekey c a = .long { a := c.b 16 } (startRekey (c.b 16) (c.b 17) (c.b 18) (a.rbit (aRkCtl (c.b 16)) 29)
      ((a.put (aRkCtl (c.b 16)) 16 8 (c.b 18)).put (aRkCtl (c.b 16)) 0 4 (c.b 17))) := by
  simp only [bodyRekey, hpres, hvalid, hlive, hidle, hbusy, hresume, bne_self_eq_false, Bool.not_true, Bool.or_self,
    Bool.false_eq_true, if_false]

end

/-- Settles O6: each command's own checks pass, and its body answers what the rule says. -/
theorem regionCommandsComplete : Obligations.RegionCommandsComplete := by
  unfold Obligations.RegionCommandsComplete
  rintro c s a h r rfl rfl
  refine ⟨?set, ?clear, ?zfill, ?rekey⟩
  case set =>
    rintro rfl hpass hpres hvalid hfixed hbusy hrules hkey e rfl
    exact exec_rgnSet_of_body hpass (bodyRgnSet_free hpres hvalid hfixed hbusy hrules hkey)
  case clear =>
    intro hpass hpres hfixed hbusy
    exact congrArg Host.Outcome.next (runCmd_ok hpass rfl (bodyRgnClear_free hpres hfixed hbusy))
  case zfill =>
    rintro rfl hpass hpres hvalid hbusy hrekey
    exact congrArg Host.Outcome.next (runCmd_long hpass rfl (bodyRgnZfill_idle hpres hvalid hbusy hrekey))
  case rekey =>
    rintro rfl hpass hpres hvalid hlive hidle hbusy hresume
    exact congrArg Host.Outcome.next (runCmd_long hpass rfl (bodyRekey_idle hpres hvalid hlive hidle hbusy hresume))

end Sys2Proof.Proofs
end

section
/-! PROOFS. What reports and faults leave alone: packets, counters, interrupts, asynchronous records and taps reach neither memory
nor the control loops nor the registers of memory and governor; a fault may halt slip domains besides. -/

namespace Sys2Proof.Proofs

open Sys2Proof Sys2Proof.Machine Sys2Proof.Laws

/-- Registers that no report writes: those of the MEM block and of the governor. -/
def spared (k : Nat) : Prop := (bMem ≤ k ∧ k < bLnk) ∨ (bObs + 0x10000 ≤ k ∧ k < bObs + 0x11000)

theorem not_spared_of_low {k : Nat} (h : k < bMem) : ¬ spared k := by
  unfold spared bMem bLnk bObs at *; omega

theorem not_spared_of_high {k : Nat} (h : bObs + 0x11000 ≤ k) : ¬ spared k := by
  unfold spared bMem bLnk bObs at *; omega

/-- The registers of a channel lie between the two. -/
theorem not_spared_of_chan {n o : Nat} (hn : n < 24) (ho : o < 0x100) : ¬ spared (bObs + 0x100 * n + o) := by
  unfold spared bMem bLnk bObs; omega

/-- What `t` keeps of `s` when reports alone lead from `s` to `t`; with `H`, faults that halt slip domains may stand among
them. -/
structure Reported (H : Prop) (s t : State) : Prop where
  pwr : t.pwr = s.pwr
  mem : t.mem = s.mem
  fab : t.fab = s.fab
  used : t.obs.used = s.obs.used
  doms : H ∨ t.doms = s.doms
  regs : H ∨ ∀ k, spared k → t.reg k = s.reg k

/-- The fields that `Reported` speaks of. -/
def unreported (s : State) := (s.pwr, s.mem, s.fab, s.obs.used, s.doms, s.regs)

section

variable {H : Prop} {s₀ s t : State}

theorem Reported.refl (H : Prop) (s : State) : Reported H s s := ⟨rfl, rfl, rfl, rfl, .inr rfl, .inr fun _ _ => rfl⟩

/-- Without halts the registers of memory and governor read as before. -/
theorem Reported.reg (h : Reported False s t) {k : Nat} (hk : spared k) : t.reg k = s.reg k := h.regs.resolve_left id k hk

/-- An update of other fields. -/
theorem Reported.same (hs : Reported H s₀ s) (e : unreported t = unreported s := by rfl) : Reported H s₀ t := by
  simp only [unreported, Prod.mk.injEq] at e
  obtain ⟨hpwr, hmem, hfab, hused, hdoms, hregs⟩ := e
  exact
    { pwr := hpwr.trans hs.pwr
      mem := hmem.trans hs.mem
      fab := hfab.trans hs.fab
      used := hused.trans hs.used
      doms := hs.doms.imp_right hdoms.trans
      regs := hs.regs.imp_right fun h k hk => by rw [State.reg, hregs]; exact h k hk }

/-! ### Control structure -/

protected theorem Reported.ite {c : Prop} {_ : Decidable c} {x y : State} (hx : Reported H s₀ x) (hy : Reported H s₀ y) :
    Reported H s₀ (if c then x else y) := by split <;> assumption
protected theorem Reported.forN {n} {f : Nat → State → State} (hs : Reported H s₀ s)
    (hf : ∀ i t, Reported H s₀ t → Reported H s₀ (f i t)) : Reported H s₀ (forN n f s) := forN_keeps hf hs
protected theorem Reported.forL {β : Type} {l : List β} {f : β → State → State} (hs : Reported H s₀ s)
    (hf : ∀ b ∈ l, ∀ t, Reported H s₀ t → Reported H s₀ (f b t)) : Reported H s₀ (forL l f s) :=
  List.foldlRecOn l _ hs fun t ht b hb => hf b hb t ht

/-! ### The updates that reach what `Reported` speaks of -/

/-- A register that is not spared, or any register where faults may halt a domain. -/
protected theorem Reported.setReg {a v} (hs : Reported H s₀ s) (ha : H ∨ ¬ spared a) : Reported H s₀ (s.setReg a v) where
  pwr := hs.pwr
  mem := hs.mem
  fab := hs.fab
  used := hs.used
  doms := hs.doms
  regs := ha.elim .inl fun ha => hs.regs.imp_right fun h k hk => by
    have hne : k ≠ a := fun e => ha (e ▸ hk)
    rw [setReg_reg_ne _ _ hne, h k hk]
protected theorem Reported.put {a lo w v} (hs : Reported H s₀ s) (ha : H ∨ ¬ spared a) : Reported H s₀ (s.put a lo w v) :=
  hs.setReg ha
protected theorem Reported.setBit {a i b} (hs : Reported H s₀ s) (ha : H ∨ ¬ spared a) : Reported H s₀ (s.setBit a i b) :=
  hs.put ha
protected theorem Reported.countSat {a lo w n} (hs : Reported H s₀ s) (ha : H ∨ ¬ spared a) :
    Reported H s₀ (s.countSat a lo w n) := hs.put ha
/-- The run of a slip domain is for faults alone. -/
protected theorem Reported.setDomRt {d r} (hs : Reported True s₀ s) : Reported True s₀ (setDomRt d r s) :=
  { hs with doms := .inl ⟨⟩ }

protected theorem Reported.emit {e} (hs : Reported H s₀ s) : Reported H s₀ (s.emit e) := hs.same
protected theorem Reported.setFnRt {f r} (hs : Reported H s₀ s) : Reported H s₀ (setFnRt f r s) := hs.same
protected theorem Reported.setChRt {n r} (hs : Reported H s₀ s) : Reported H s₀ (setChRt n r s) := hs.same
protected theorem Reported.setCtr {a r} (hs : Reported H s₀ s) : Reported H s₀ (setCtr a r s) := hs.same
protected theorem Reported.setClap {r} (hs : Reported H s₀ s) : Reported H s₀ (setClap r s) := hs.same
protected theorem Reported.setTapRt {u r} (hs : Reported H s₀ s) : Reported H s₀ (setTapRt u r s) := hs.same

/-! ### Interrupts and error flags -/

protected theorem Reported.msixSend {f v} (hs : Reported H s₀ s) : Reported H s₀ (msixSend f v s) := hs.setFnRt.ite hs.emit
/-- An interrupt of a function that the device has. -/
protected theorem Reported.raise {f v} (hs : Reported H s₀ s) (hf : H ∨ f ≤ 8) : Reported H s₀ (raise f v s) :=
  have hisr : H ∨ ¬ spared (if v < 32 then aIsrL f else aIsrH f) := hf.imp_right fun hf => by
    refine not_spared_of_low ?_
    unfold aIsrL aIsrH bDev bMem
    split <;> omega
  (hs.setBit hisr).ite (hs.setBit hisr).msixSend
protected theorem Reported.errFlag {flag fn src wher} (hs : Reported H s₀ s) : Reported H s₀ (errFlag flag fn src wher s) :=
  have hlow {k : Nat} (hk : k < bMem := by decide) : H ∨ ¬ spared k := .inr (not_spared_of_low hk)
  have hs := (hs.setBit hlow).ite (((hs.setBit hlow).setBit hlow).ite ((((hs.setBit hlow).setReg hlow).setReg hlow).setReg hlow))
  hs.ite (hs.raise (.inr (Nat.zero_le 8)))

/-! ### Replies -/

/-- Function-local registers lie above the others (R647). -/
theorem not_spared_local (f o : Nat) : ¬ spared (fnBase f + o) :=
  not_spared_of_high (by unfold fnBase bObs; omega)

/-- The registers of a ring pair. -/
theorem not_spared_ring (f k o : Nat) : ¬ spared (aRqCtl f k + o) := by
  simp only [aRqCtl, Nat.add_assoc]
  exact not_spared_local _ _

protected theorem Reported.refreshPair {f k} (hs : Reported H s₀ s) : Reported H s₀ (refreshPair f k s) :=
  have hstat : H ∨ ¬ spared (aRqStat f k) := .inr (not_spared_ring _ _ _)
  (hs.put hstat).setBit hstat
protected theorem Reported.writeReply {f k irq b} (hs : Reported H s₀ s) (hf : H ∨ f ≤ 8) :
    Reported H s₀ (writeReply f k irq b s) :=
  have hstat : H ∨ ¬ spared (aRqStat f k) := .inr (not_spared_ring _ _ _)
  have htail : H ∨ ¬ spared (aCqTail f k) := .inr (not_spared_ring _ _ _)
  have hposted := (hs.emit.put htail).setBit htail
  ((hs.setBit hstat).put hstat).emit.errFlag.ite ((hposted.raise hf).ite hposted)
protected theorem Reported.postRing {f k irq b} (hs : Reported H s₀ s) (hf : H ∨ f ≤ 8) :
    Reported H s₀ (postRing f k irq b s) :=
  hs.ite (hs.setFnRt.refreshPair.ite (hs.writeReply hf))
protected theorem Reported.asyncTo {f status part kind inst sc} (hs : Reported H s₀ s) (hf : H ∨ f ≤ 8) :
    Reported H s₀ (asyncTo f status part kind inst sc s) :=
  (hs.postRing hf).ite (hs.countSat (.inr (not_spared_ring _ _ _)))

theorem lt_of_mem_maskBits {n m i : Nat} (h : i ∈ maskBits n m) : i < n := List.mem_range.1 (List.mem_filter.1 h).1

/-- A partition's function is PF0 or one of the eight VFs (R584). -/
theorem le_of_mem_partFns {mask f : Nat} (h : f ∈ partFns s mask) : f ≤ 8 := by
  obtain ⟨p, hp, rfl⟩ := List.mem_map.1 (List.mem_eraseDups.1 h)
  have hp8 := lt_of_mem_maskBits hp
  unfold partFn
  split <;> omega

protected theorem Reported.asyncParts {status kind inst sc mask} (hs : Reported H s₀ s) :
    Reported H s₀ (asyncParts status kind inst sc mask s) :=
  hs.forL fun _ hf _ ht => ht.asyncTo (.inr (le_of_mem_partFns hf))
protected theorem Reported.policyAsync {part l} (hs : Reported H s₀ s) : Reported H s₀ (policyAsync part l s) := by
  unfold policyAsync
  split
  · exact hs.asyncParts
  · exact hs.asyncTo (.inr (Nat.zero_le 8))

/-! ### Counters and packets -/

/-- The registers of a counter lie in the CNT block. -/
theorem not_spared_ctr {a : Nat} (ha : bCnt ≤ a) : ¬ spared (a + 12) :=
  not_spared_of_high (by unfold bCnt bObs at *; omega)
theorem bCnt_le_aCntSel (g u i : Nat) : bCnt ≤ aCntSel g u i := by unfold aCntSel; split <;> [omega; split <;> omega]

protected theorem Reported.noteCross {a old new} (hs : Reported H s₀ s) : Reported H s₀ (noteCross a old new s) :=
  hs.forN fun _ _ ht => ht.setClap.ite ht
protected theorem Reported.addCtr {a n} (hs : Reported H s₀ s) (ha : bCnt ≤ a) : Reported H s₀ (addCtr a n s) :=
  hs.ite (have hs := (hs.setBit (.inr (not_spared_ctr ha))).ite hs; by
    dsimp only
    split
    · exact hs.setCtr
    · exact hs.setCtr.noteCross)
protected theorem Reported.countIn {as ok code n} (hs : Reported H s₀ s) (has : ∀ a ∈ as, bCnt ≤ a) :
    Reported H s₀ (countIn as ok code n s) :=
  hs.forL fun a ha _ ht => (ht.addCtr (has a ha)).ite ht
/-- The counters of a group. -/
theorem bCnt_le_of_mem_group {g u n a : Nat} (h : a ∈ (List.range n).map (aCntSel g u)) : bCnt ≤ a := by
  obtain ⟨i, -, rfl⟩ := List.mem_map.1 h
  exact bCnt_le_aCntSel g u i
protected theorem Reported.countUnit {u code n} (hs : Reported H s₀ s) : Reported H s₀ (countUnit u code n s) :=
  hs.countIn fun _ => bCnt_le_of_mem_group
protected theorem Reported.countCluster {cl code inst n} (hs : Reported H s₀ s) :
    Reported H s₀ (countCluster cl code inst n s) :=
  hs.countIn fun _ => bCnt_le_of_mem_group
protected theorem Reported.countDevice {code inst n} (hs : Reported H s₀ s) : Reported H s₀ (countDevice code inst n s) :=
  hs.countIn fun _ => bCnt_le_of_mem_group
protected theorem Reported.watchRecord {k} (hs : Reported H s₀ s) : Reported H s₀ (watchRecord k s) :=
  hs.forN fun _ _ ht => ht.setClap.ite ht
protected theorem Reported.loseTo {n cause len} (hs : Reported H s₀ s) (hn : n < 24) : Reported H s₀ (loseTo n cause len s) :=
  (hs.setChRt.countSat (.inr (not_spared_of_chan hn (by decide)))).countSat (.inr (not_spared_of_chan hn (by decide)))
protected theorem Reported.stage {k} (hs : Reported H s₀ s) : Reported H s₀ (stage k s) :=
  hs.watchRecord.same.ite (hs.watchRecord.countCluster.forL fun _ hn _ ht =>
    ht.loseTo (List.mem_range.1 (List.mem_filter.1 hn).1))
protected theorem Reported.stagePolicy {unit loop prevailed yielded part inst origin req app} (hs : Reported H s₀ s) :
    Reported H s₀ (stagePolicy unit loop prevailed yielded part inst origin req app s) := hs.stage

/-! ### Taps -/

protected theorem Reported.tapLost {u} (hs : Reported H s₀ s) : Reported H s₀ (tapLost u s) :=
  ((hs.countSat (.inr (not_spared_of_high (by unfold aTapL; omega)))).ite hs).countUnit
/-- An unscored event enters its tap, or is lost there (R350). -/
protected theorem Reported.plainEvent {code u arg} (hs : Reported H s₀ s) : Reported H s₀ (plainEvent code u arg s) :=
  hs.setTapRt.ite hs.tapLost

end

end Sys2Proof.Proofs
end

section
/-! PROOFS. Sweeps (R295, R296, R627): the end of an initialisation or zero-fill sweep and of a rekey sweep. -/

namespace Sys2Proof.Proofs

open Sys2Proof Sys2Proof.Machine Sys2Proof.Laws

/-! ### The registers of a region and of a rekey sweep (Tables 8-10 and 8-11) -/

theorem definedMask_rgnA : ∀ h < 8, ∀ r < 16, definedMask (aRgnA h r) = 0xFEFF3FFF#32 := by decide
theorem definedMask_rkCtl : ∀ h < 8, definedMask (aRkCtl h) = 0xE0FF000F#32 := by decide

theorem spared_rgnA {h r : Nat} (hh : h < 8) (hr : r < 16) : spared (aRgnA h r) :=
  .inl ⟨by unfold aRgnA; omega, by unfold aRgnA bMem bLnk; omega⟩

/-! ### The end of a zero-fill sweep -/

/-- The region holds zeros under its key, INIT_BUSY and ZFILL are clear, and the sweep has left its event (R295, Table 12-17). -/
def swept (h r : Nat) (s : State) : State :=
  plainEvent 0x16 (0x868 + h) r (((zeroRegion h r s).setBit (aRgnA h r) 26 false).setBit (aRgnA h r) 25 false)

section

variable {h r : Nat} {s : State}

theorem swept_mem : (swept h r s).mem = (zeroRegion h r s).mem := (Reported.refl False _).plainEvent.mem

theorem rbit_swept (hh : h < 8) (hr : r < 16) (i : Nat) : (swept h r s).rbit (aRgnA h r) i =
    (((zeroRegion h r s).setBit (aRgnA h r) 26 false).setBit (aRgnA h r) 25 false).rbit (aRgnA h r) i := by
  rw [State.rbit, swept, (Reported.refl False _).plainEvent.reg (spared_rgnA hh hr), State.rbit]

theorem swept_initBusy (hh : h < 8) (hr : r < 16) : (swept h r s).rbit (aRgnA h r) 26 = false := by
  have hbusy : fmask 26 1 &&& definedMask (aRgnA h r) = fmask 26 1 := by rw [definedMask_rgnA h hh _ hr]; decide
  rw [rbit_swept hh hr, rbit_setBit_apart _ _ (by decide) hbusy, rbit_setBit_same _ _ (by decide) hbusy]

theorem swept_zfill (hh : h < 8) (hr : r < 16) : (swept h r s).rbit (aRgnA h r) 25 = false := by
  have hzfill : fmask 25 1 &&& definedMask (aRgnA h r) = fmask 25 1 := by rw [definedMask_rgnA h hh _ hr]; decide
  rw [rbit_swept hh hr, rbit_setBit_same _ _ (by decide) hzfill]

/-- SWEEP_END of a sweep that runs: RGN_SET and RGN_ZFILL of the region end (R627). -/
theorem exec_sweepEnd_busy (hh : h < 8) (hr : r < 16) (hbusy : rgnBusy s h r = true) (hsafe : inSafe s = false) :
    exec (.sweepEnd h r) s = .next (forL ((swept h r s).host.outst.filter (fun o => o.acc &&
      (decide (o.op = 0x30) || decide (o.op = 0x32)) && decide (o.a = 16 * h + r)))
      (fun o t => finishO o sOk (if o.op = 0x30 then leBytes 8 (rgnUsable t h r) else []) t) (swept h r s)) := by
  show execSweepEnd h r s = _
  simp only [execSweepEnd, hh, hr, hbusy, hsafe, decide_true, Bool.not_true, Bool.or_self, Bool.false_eq_true, if_false]
  rfl

end

/-! ### The end of a rekey sweep -/

/-- Every line stands under the new version, which is KEY_VER, and no sweep is marked (R296). -/
def rekeyed (h : Nat) (k : RekeyRt) (unread : List Nat) (s : State) : State :=
  setRekey h none ((((rekeyLines h k.region k.ver unread s).2.2.put (aRgnA h k.region) 16 8 k.ver).setBit
    (aRkCtl h) 30 false).setReg (aRkPtr h) 0)

section

variable {h : Nat} {k : RekeyRt} {unread : List Nat} {s : State}

theorem rekeyed_cells : (rekeyed h k unread s).mem.cells = (rekeyLines h k.region k.ver unread s).2.2.mem.cells := rfl

theorem rekeyed_rekey : tabGet (fun _ => none) (rekeyed h k unread s).mem.rekey h = none :=
  tabGet_set_same (fun _ => none) h none _

theorem rekeyed_rkPtr : (rekeyed h k unread s).reg (aRkPtr h) = 0 := by
  rw [rekeyed, setRekey_reg, setReg_reg_same]
  exact BitVec.zero_and

theorem rekeyed_running (hh : h < 8) : (rekeyed h k unread s).rbit (aRkCtl h) 30 = false := by
  have hne : aRkCtl h ≠ aRkPtr h := by unfold aRkCtl aRkPtr; omega
  rw [rekeyed, State.rbit, setRekey_reg, setReg_reg_ne _ _ hne]
  exact rbit_setBit_same _ _ (by decide) (by rw [definedMask_rkCtl h hh]; decide)

theorem rekeyed_keyVer (hh : h < 8) (hr : k.region < 16) (hver : k.ver < 256) :
    (rekeyed h k unread s).rf (aRgnA h k.region) 16 8 = k.ver := by
  have hptr : aRgnA h k.region ≠ aRkPtr h := by unfold aRgnA aRkPtr; omega
  have hctl : aRgnA h k.region ≠ aRkCtl h := by unfold aRgnA aRkCtl; omega
  have hmask : fmask 16 8 &&& definedMask (aRgnA h k.region) = fmask 16 8 := by rw [definedMask_rgnA h hh _ hr]; decide
  rw [rekeyed, State.rf, setRekey_reg, setReg_reg_ne _ _ hptr, reg_setBit_ne _ _ _ hctl]
  exact (rf_put_same _ _ (by decide) hmask).trans (Nat.mod_eq_of_lt hver)

/-- REKEY_END of a sweep that runs: REKEY_REGION ends with the counts of lines rewritten and poisoned (R627). -/
theorem exec_rekeyEnd_running (hh : h < 8) (hrekey : tabGet (fun _ => none) s.mem.rekey h = some k)
    (hrun : s.rbit (aRkCtl h) 30 = true) (hsafe : inSafe s = false) :
    exec (.rekeyEnd h unread) s = .next (forL ((rekeyed h k unread s).host.outst.filter (fun o => o.acc &&
      decide (o.op = 0x33) && decide (o.a = h))) (fun o t =>
        finishO o sOk (leBytes 4 (rekeyLines h k.region k.ver unread s).1 ++
          leBytes 4 (rekeyLines h k.region k.ver unread s).2.1) t) (rekeyed h k unread s)) := by
  show execRekeyEnd h unread s = _
  simp only [execRekeyEnd, hh, hrekey, hrun, hsafe, decide_true, Bool.not_true, Bool.or_self, Bool.false_eq_true, if_false]
  rfl

end

/-- Settles O7: the states `swept` and `rekeyed` are those in which the waiting commands then end. -/
theorem sweepsComplete : Obligations.SweepsComplete := by
  unfold Obligations.SweepsComplete
  refine fun h r s hh hsafe => ⟨fun hr hbusy => ?_, fun k unread hrekey hrun hr hver => ?_⟩
  · exact ⟨swept h r s, swept_mem, swept_initBusy hh hr, swept_zfill hh hr, exec_sweepEnd_busy hh hr hbusy hsafe⟩
  · exact ⟨rekeyed h k unread s, rekeyed_cells, rekeyed_keyVer hh hr hver, rekeyed_running hh, rekeyed_rkPtr, rekeyed_rekey,
      exec_rekeyEnd_running hh hrekey hrun hsafe⟩

end Sys2Proof.Proofs
end

section
/-! PROOFS. What a halt and the safe state leave alone (R419, R761, Table 24-3): memory, fabric and the control loops. -/

namespace Sys2Proof.Proofs

open Sys2Proof Sys2Proof.Machine Sys2Proof.Laws

variable {s₀ s t : State}

/-- A fault may write any register and raise any interrupt. -/
theorem halting {P : Prop} : True ∨ P := .inl ⟨⟩

/-! ### Replies and records -/

protected theorem Reported.raisePart {pfVec vfVec split p} (hs : Reported True s₀ s) :
    Reported True s₀ (raisePart pfVec vfVec split p s) :=
  ((hs.raise halting).ite (hs.raise halting)).ite ((hs.raise halting).raise halting)
protected theorem Reported.postReply {c op status more res} (hs : Reported True s₀ s) :
    Reported True s₀ (postReply c op status more res s) := by
  have hmbx {b} : Reported True s₀ (writeMbxReply c.fn b s) := hs.forN fun _ _ ht => ht.setReg halting
  unfold postReply
  split
  · exact hs.postRing halting
  · exact hs.ite ((hmbx.setBit halting).ite ((((hmbx.setBit halting).setBit halting).setBit halting).raise halting))
protected theorem Reported.refreshCall {c} (hs : Reported True s₀ s) : Reported True s₀ (refreshCall c s) := by
  unfold refreshCall
  split
  · exact hs.refreshPair
  · exact hs
protected theorem Reported.setOutst {l} (hs : Reported True s₀ s) : Reported True s₀ (setOutst l s) := hs.same
protected theorem Reported.finish {c op status res} (hs : Reported True s₀ s) : Reported True s₀ (finish c op status res s) :=
  hs.setOutst.countDevice.postReply.refreshCall
protected theorem Reported.finishWhere {p status} (hs : Reported True s₀ s) : Reported True s₀ (finishWhere p status s) :=
  hs.forL fun _ _ _ ht => ht.finish
protected theorem Reported.addFault {d f} (hs : Reported True s₀ s) : Reported True s₀ (addFault d f s) := hs.ite hs.setDomRt
protected theorem Reported.pushRecord {b l} (hs : Reported True s₀ s) : Reported True s₀ (pushRecord b l s) := hs.same
protected theorem Reported.nextSeq (hs : Reported True s₀ s) : Reported True s₀ (nextSeq s) := hs.same
protected theorem Reported.recordParts {f mask wher sc ctx} (hs : Reported True s₀ s) :
    Reported True s₀ (recordParts f mask wher sc ctx s) := hs.forL fun _ _ _ ht => ht.pushRecord
protected theorem Reported.recordDev {f} (hs : Reported True s₀ s) : Reported True s₀ (recordDev f s) := hs.pushRecord

/-! ### The checker -/

protected theorem Reported.setClRt {d c r} (hs : Reported True s₀ s) : Reported True s₀ (setClRt d c r s) := hs.setDomRt
protected theorem Reported.scfCapture {d c checker kind cls unit sc} (hs : Reported True s₀ s) :
    Reported True s₀ (scfCapture d c checker kind cls unit sc s) :=
  (hs.setBit halting).ite ((hs.setReg halting).setReg halting)
protected theorem Reported.flamAndFault {d c f} (hs : Reported True s₀ s) : Reported True s₀ (flamAndFault d c f s) :=
  have hs : Reported True s₀ (emitFlam d c f s) := (hs.stage.countSat halting).countUnit.countCluster.setClRt
  hs.scfCapture.addFault.ite hs
protected theorem Reported.emitCheckpoint {d cl k tk r final halted} (hs : Reported True s₀ s) :
    Reported True s₀ (emitCheckpoint d cl k tk r final halted s) :=
  (hs.scfCapture.addFault.ite hs).stage.setClRt
protected theorem Reported.closeOne {d cl r} (hs : Reported True s₀ s) : Reported True s₀ (closeOne d cl r s) :=
  have hs := hs.setClRt.forL fun _ _ _ ht => ht.flamAndFault
  hs.emitCheckpoint.ite hs
protected theorem Reported.closeUpto {d cl r upto} (hs : Reported True s₀ s) : Reported True s₀ (closeUpto d cl r upto s) :=
  hs.forN fun _ _ ht => ht.closeOne
protected theorem Reported.forward {x} (hs : Reported True s₀ s) : Reported True s₀ (forward x s) :=
  have hs := hs.forL fun _ _ _ ht => ht.countCluster
  .forL (by
    split
    · exact hs
    · dsimp only
      split
      · exact hs
      · exact hs.ite (hs.flamAndFault.ite hs.setClRt)) fun _ _ _ ht => ht.stage
protected theorem Reported.flushTaps {mask} (hs : Reported True s₀ s) : Reported True s₀ (flushTaps mask s) :=
  (hs.forL fun _ _ _ ht => ht.setTapRt).forL fun _ _ _ ht => ht.forward
protected theorem Reported.closeHalted {d r upto} (hs : Reported True s₀ s) : Reported True s₀ (closeHalted d r upto s) :=
  (hs.flushTaps.forL fun _ _ _ ht => ht.closeUpto).forL fun _ _ _ ht => ht.emitCheckpoint

/-! ### The halt of a slip domain -/

protected theorem Reported.endSlip {d faulted} (hs : Reported True s₀ s) : Reported True s₀ (endSlip d faulted s) := by
  unfold endSlip
  dsimp only
  split
  · exact hs
  · exact hs.setDomRt.ite hs.setDomRt.stage
protected theorem Reported.putParts {a lo w v mask} (hs : Reported True s₀ s) : Reported True s₀ (putParts a lo w v mask s) :=
  hs.forL fun _ _ _ ht => ht.put halting
protected theorem Reported.setPln {d st ctx pend} (hs : Reported True s₀ s) : Reported True s₀ (setPln d st ctx pend s) :=
  hs.putParts.putParts.putParts
protected theorem Reported.clearRun {d} (hs : Reported True s₀ s) : Reported True s₀ (clearRun d s) :=
  (hs.setDomRt.forL fun _ _ _ ht => ht.setBit halting).forL fun _ _ _ ht => ht.forN fun _ _ hu => hu.put halting
protected theorem Reported.holdStrikes {mask} (hs : Reported True s₀ s) : Reported True s₀ (holdStrikes mask s) :=
  hs.forL fun _ _ _ ht => ht.same
protected theorem Reported.reportFault {d ctx f} (hs : Reported True s₀ s) : Reported True s₀ (reportFault d ctx f s) :=
  hs.nextSeq.recordParts.stage
protected theorem Reported.haltCore {d ctx sc dev} (hs : Reported True s₀ s) : Reported True s₀ (haltCore d ctx sc dev s) := by
  unfold haltCore
  extract_lets fs s₁ s₂ s₃
  have h₂ : Reported True s₀ s₂ := hs.endSlip.forL fun _ _ _ ht => ht.reportFault
  have h₃ : Reported True s₀ s₃ := by
    unfold s₃
    split
    · exact h₂
    · exact h₂.recordParts.stage
  exact h₃.finishWhere.finishWhere.clearRun.holdStrikes.setPln.putParts.setDomRt.asyncParts.forL fun _ _ _ ht =>
    ht.raisePart
protected theorem Reported.haltClose {d} (hs : Reported True s₀ s) : Reported True s₀ (haltClose d s).2.2 := by
  unfold haltClose
  dsimp only
  split
  · exact hs.closeHalted
  · exact hs.flushTaps
protected theorem Reported.haltDomain {d dev} (hs : Reported True s₀ s) : Reported True s₀ (haltDomain d dev s) :=
  hs.haltClose.haltCore

/-! ### The device safe state -/

protected theorem Reported.safeMemory (hs : Reported True s₀ s) : Reported True s₀ (safeMemory s) :=
  (hs.forN fun _ _ ht => ((ht.setBit halting).setBit halting).ite ht).forN fun _ _ ht =>
    ((ht.setBit halting).setBit halting).ite ht
protected theorem Reported.dropStart {p} (hs : Reported True s₀ s) : Reported True s₀ (dropStart p s) :=
  hs.ite hs.setDomRt.putParts
protected theorem Reported.safeEntry {f} (hs : Reported True s₀ s) : Reported True s₀ (safeEntry f s) :=
  have hs := hs.nextSeq.setBit halting
  (hs.recordDev.raise halting).ite
    (have hs := ((hs.forL fun _ _ _ ht => ht.haltDomain).forN fun _ _ ht => ht.dropStart).recordDev
     have hs := (hs.stage.ite hs).forN fun _ _ ht => ht.emit
     have hs := (hs.put halting).setClap.safeMemory.finishWhere
     (((hs.setBit halting).setBit halting).setBit halting).emit.raise halting)
protected theorem Reported.deviceFault {kind unit detail injected} (hs : Reported True s₀ s) :
    Reported True s₀ (deviceFault kind unit detail injected s) :=
  hs.safeEntry.ite (hs.nextSeq.recordDev.stage.raise halting)

end Sys2Proof.Proofs
end

section
/-! PROOFS. The loops of the manager (R263, R288, R366, R373, R741 to R752, R757): what each reads, decides and writes. -/

namespace Sys2Proof.Proofs

open Sys2Proof Sys2Proof.Machine Sys2Proof.Laws

/-! ### Registers written in order -/

theorem forN_succ {σ : Type} (n : Nat) (f : Nat → σ → σ) (s : σ) : forN (n + 1) f s = f n (forN n f s) := by
  rw [forN, List.range_succ, List.foldl_append, List.foldl_cons, List.foldl_nil, forN]

section

variable {a : Nat → Nat} (v : Nat → Word) (s : State)

/-- Writes of distinct registers, each of which then holds its own value. -/
theorem reg_forN_setReg (ha : Function.Injective a) {n p : Nat} (hp : p < n) :
    (forN n (fun i t => t.setReg (a i) (v i)) s).reg (a p) = v p &&& definedMask (a p) := by
  induction n with
  | zero => exact absurd hp (Nat.not_lt_zero p)
  | succ n ih =>
    rw [forN_succ]
    obtain hlt | rfl := Nat.lt_succ_iff_lt_or_eq.1 hp
    · rw [setReg_reg_ne _ _ (ha.ne hlt.ne), ih hlt]
    · rw [setReg_reg_same]

theorem reg_forN_setReg_ne {n k : Nat} (hk : ∀ i, k ≠ a i) : (forN n (fun i t => t.setReg (a i) (v i)) s).reg k = s.reg k :=
  forN_keeps (P := fun t : State => t.reg k = s.reg k) (fun i t ht => by rw [setReg_reg_ne _ _ (hk i), ht]) rfl

end

/-! ### Decisions and their reports -/

/-- A decision reaches the registers of its loop and reports (R739). -/
protected theorem Reported.applyDec {H : Prop} {s₀ s : State} {l i d} (hs : Reported H s₀ s) :
    Reported H s₀ (applyDec l i d s) := by
  have hpwr {j : Nat} : H ∨ ¬ spared (aPwr l i j) :=
    .inr (not_spared_of_high (by unfold aPwr bPwr bObs; omega))
  have hreport : H ∨ 0 ≤ 8 := .inr (Nat.zero_le 8)
  unfold applyDec
  dsimp only
  split
  · exact hs.setReg hpwr
  · exact (hs.setReg hpwr).ite (((hs.setReg hpwr).stagePolicy.setBit hpwr).policyAsync.raise hreport)

/-! ### THERMAL (R745, R757, R767) -/

theorem definedMask_pwrTj : ∀ i < 9, definedMask (aPwrTj i) = BitVec.allOnes 32 := by decide

theorem aPwrTj_injective : Function.Injective aPwrTj := fun i j h => by unfold aPwrTj at h; omega

/-- What a sensor's register then holds: bit 31 for a reading, and the reading. -/
def tjWord (r : ThermIn) (i : Nat) : Word :=
  match r.tj.getD i none with
  | some b => BitVec.ofNat 32 (2 ^ 31 + b.toNat)
  | none => 0

/-- The temperature that counts for a sensor: 105 °C for one that does not report (R757). -/
def tjRead (r : ThermIn) (i : Nat) : Int := match r.tj.getD i none with | some b => b.toInt | none => 105

/-- Power of the rails in W, as far as the register holds it. -/
def railPower (r : ThermIn) : Nat := min ((r.rails.map (fun x => x.1 * x.2)).foldl (· + ·) 0 / 1000000) 0xFFFF

section

variable (r : ThermIn) (s : State)

theorem readSensors_eq : readSensors r s =
    (forN 9 (fun i t => t.setReg (aPwrTj i) (tjWord r i)) s).setReg aPwrPower (BitVec.ofNat 32 (railPower r)) := by
  have hstep : (fun i (t : State) => match r.tj.getD i none with
      | some b => t.setReg (aPwrTj i) (BitVec.ofNat 32 (2 ^ 31 + b.toNat))
      | none => t.setReg (aPwrTj i) 0) = fun i t => t.setReg (aPwrTj i) (tjWord r i) := by
    funext i t
    unfold tjWord
    cases r.tj.getD i none <;> rfl
  rw [← hstep]
  rfl

theorem readSensors_pwr : (readSensors r s).pwr = s.pwr := by
  rw [readSensors_eq, setReg_pwr]
  exact forN_keeps (P := fun t : State => t.pwr = s.pwr) (fun _ _ ht => ht) rfl

theorem readSensors_fuse : (readSensors r s).fuse = s.fuse := by
  rw [readSensors_eq, setReg_fuse]
  exact forN_keeps (P := fun t : State => t.fuse = s.fuse) (fun _ _ ht => ht) rfl

theorem readSensors_lim : (readSensors r s).reg aPwrLim = s.reg aPwrLim := by
  rw [readSensors_eq, setReg_reg_ne _ _ (by decide), reg_forN_setReg_ne _ _ fun i => by unfold aPwrLim aPwrTj; omega]

theorem readSensors_power : (readSensors r s).rf aPwrPower 0 16 = railPower r := by
  have hfit : railPower r < 2 ^ 16 := Nat.lt_succ_of_le (Nat.min_le_right _ _)
  rw [readSensors_eq, State.rf, setReg_reg_same, fld_and_mask _ _ (by decide), fld, BitVec.toNat_ofNat]
  omega

theorem readSensors_tj {i : Nat} (hi : i < 9) : (readSensors r s).reg (aPwrTj i) = tjWord r i := by
  have hne : aPwrTj i ≠ aPwrPower := by unfold aPwrTj aPwrPower; omega
  rw [readSensors_eq, setReg_reg_ne _ _ hne, reg_forN_setReg _ _ aPwrTj_injective hi, definedMask_pwrTj i hi,
    BitVec.and_allOnes]

theorem tjOf_readSensors {i : Nat} (hi : i < 9) : tjOf (readSensors r s) i = tjRead r i := by
  rw [tjOf, State.rbit, State.rf, readSensors_tj r s hi, tjWord, tjRead]
  cases r.tj.getD i none with
  | none => rfl
  | some b =>
    have hb := b.isLt
    have hset : bit (BitVec.ofNat 32 (2 ^ 31 + b.toNat)) 31 = true := by
      rw [bit_eq_fld, decide_eq_true_iff, fld, BitVec.toNat_ofNat]
      omega
    have hval : fld (BitVec.ofNat 32 (2 ^ 31 + b.toNat)) 0 8 = b.toNat := by
      rw [fld, BitVec.toNat_ofNat]
      omega
    simp only [hset, hval, if_true, BitVec.ofNat_toNat, BitVec.setWidth_eq]

end

/-- Entries written for the indices below `n` that pass a test. -/
theorem tabGet_foldl_set {α : Type} [DecidableEq α] (d : Nat → α) (ok : Nat → Bool) (v : Nat → α) (t : Tab α) {n p : Nat}
    (hp : p < n) (hok : ok p = true) :
    tabGet d ((List.range n).foldl (fun t i => if ok i then tabSet d i (v i) t else t) t) p = v p := by
  induction n with
  | zero => exact absurd hp (Nat.not_lt_zero p)
  | succ n ih =>
    rw [List.range_succ, List.foldl_append, List.foldl_cons, List.foldl_nil]
    obtain hlt | rfl := Nat.lt_succ_iff_lt_or_eq.1 hp
    · split
      · rw [tabGet_set_ne _ _ _ hlt.ne, ih hlt]
      · exact ih hlt
    · rw [if_pos hok, tabGet_set_same]

/-- One period's integral terms (R745), from the readings that the registers of `s` hold. -/
def integrated (s : State) : State :=
  setPwr { s.pwr with
    therm := (List.range 8).foldl (fun t p => if partPresent s p then tabSet (fun _ => 0) p
      (clamp255 (((tabGet (fun _ => 0) s.pwr.therm p : Nat) : Int) + 4 * (tjOf s p - tjTarget s))) t else t) s.pwr.therm
    power := clamp255 ((s.pwr.power : Int) + ceilHalf ((s.rf aPwrPower 0 16 : Nat) - (s.rf aPwrLim 0 10 : Nat))) } s

/-- The rest of the period: sensors that have stopped reporting, the throttles, the trip. -/
def throttled (s : State) : State :=
  thermTrip (forN 8 (fun p s => if partPresent s p then applyDec 4 p (thermDec s p) s else s) (reportSensors s))

theorem exec_thermalLoop (r : ThermIn) (s : State) :
    exec (.thermalLoop r) s = .next (throttled (integrated (readSensors r s))) := rfl

section

variable (s : State)

theorem reportSensors_pwr : ∃ bad, (reportSensors s).pwr = { s.pwr with sensorBad := bad } :=
  ⟨_, ((Reported.refl True (setPwr _ s)).forL fun _ _ _ ht => ht.deviceFault).pwr⟩

theorem thermTrip_pwr : (thermTrip s).pwr = s.pwr := by
  have hs := Reported.refl True s
  refine Reported.pwr (H := True) ?_
  unfold thermTrip
  dsimp only
  split
  · exact hs.ite hs.same.deviceFault
  · exact hs.same.ite hs

/-- Reports and throttles keep the integral terms. -/
theorem throttled_pwr : ∃ bad, (throttled s).pwr = { s.pwr with sensorBad := bad } := by
  obtain ⟨bad, hbad⟩ := reportSensors_pwr s
  have happly := (Reported.refl True (reportSensors s)).forN (n := 8)
    (f := fun p t => if partPresent t p then applyDec 4 p (thermDec t p) t else t) fun _ _ ht => ht.applyDec.ite ht
  exact ⟨bad, (thermTrip_pwr _).trans (happly.pwr.trans hbad)⟩

end

/-- THERMAL_LOOP moves the power term by half the excess of power over its limit, rounded up. -/
theorem thermalLoop_power (r : ThermIn) (s : State) : (throttled (integrated (readSensors r s))).pwr.power =
    clamp255 ((s.pwr.power : Int) + ceilHalf ((railPower r : Nat) - (s.rf aPwrLim 0 10 : Nat))) := by
  obtain ⟨bad, hbad⟩ := throttled_pwr (integrated (readSensors r s))
  rw [hbad]
  simp only [integrated, setPwr_pwr, readSensors_pwr, readSensors_power]
  rw [State.rf, readSensors_lim, State.rf]

/-- THERMAL_LOOP moves the term of a present partition by four times its excess over the target. -/
theorem thermalLoop_therm (r : ThermIn) (s : State) {p : Nat} (hp : p < 8) (hpres : partPresent s p = true) :
    tabGet (fun _ => 0) (throttled (integrated (readSensors r s))).pwr.therm p =
      clamp255 (((tabGet (fun _ => 0) s.pwr.therm p : Nat) : Int) + 4 * (tjRead r p - (s.rf aPwrLim 24 8 : Nat))) := by
  obtain ⟨bad, hbad⟩ := throttled_pwr (integrated (readSensors r s))
  have hpres' : partPresent (readSensors r s) p = true := by
    rw [← hpres]
    simp only [partPresent, hsPresent, readSensors_fuse]
  have htarget : tjTarget (readSensors r s) = (s.rf aPwrLim 24 8 : Nat) := by
    rw [tjTarget, State.rf, readSensors_lim, State.rf]
  rw [hbad]
  simp only [integrated, setPwr_pwr]
  rw [tabGet_foldl_set _ _ (fun p => clamp255 _) _ hp hpres', readSensors_pwr, tjOf_readSensors r s (by omega), htarget]

/-! ### VOLTAGE (R741 to R744) and LINK_EQ (R750) -/

theorem exec_voltageLoop_on {s : State} {rail : Nat} {early settled : Bool} {v : Nat} {d : Dec} (hrail : rail < 3)
    (hon : avsOn s = true) (hv : v = lpValue s 3 rail)
    (hd : d = decide3 s 3 rail (railMin s rail) (railMax s rail)
      { val := if early then v + 5 else if settled then v - 5 else v }) :
    exec (.voltageLoop rail early settled) s = .next (if d.val = v then applyDec 3 rail d s else setRail rail d.val d s) := by
  subst hv hd
  show execVoltageLoop rail early settled s = _
  simp only [execVoltageLoop, hrail, hon, decide_true, Bool.not_true, Bool.false_eq_true, if_false]

theorem exec_regulatorTimeout_on {s : State} {rail : Nat} (hrail : rail < 3) (hon : avsOn s = true) :
    exec (.regulatorTimeout rail) s = .next (deviceFault 7 0x876 rail false s) := by
  show execRegulatorTimeout rail s = _
  simp only [execRegulatorTimeout, hrail, hon, decide_true, Bool.not_true, Bool.false_eq_true, if_false, if_true]

theorem exec_linkEq_up {s : State} {n code : Nat} (hn : n < 16) (hpres : portPresent s n = true) (hup : lnkState s n = stUp) :
    exec (.linkEq n code) s = .next (applyDec 5 n (decide3 s 5 n 0 15 { val := min code 15 }) s) := by
  show execLinkEq n code s = _
  simp only [execLinkEq, hn, hpres, hup, ne_eq, not_true_eq_false, decide_true, decide_false, Bool.not_true, Bool.or_self,
    Bool.false_eq_true, if_false]

/-! ### Governor (R366, R373, R752) -/

theorem definedMask_govStat : ∀ h < 8, definedMask (aGovStat h) = 0x8F0F00FF#32 := by decide

theorem spared_govStat {h : Nat} (hh : h < 8) : spared (aGovStat h) :=
  .inr ⟨by unfold aGovStat; omega, by unfold aGovStat; omega⟩

theorem govLoop_defined {h : Nat} (hh : h < 8) : fmask 24 4 &&& definedMask (aGovStat h) = fmask 24 4 := by
  rw [definedMask_govStat h hh]
  decide

/-- What a new bound of half-stack h leaves: memory, fabric, the slots counted, and the loop's own value. -/
structure GovKept (h : Nat) (s t : State) : Prop where
  mem : t.mem = s.mem
  fab : t.fab = s.fab
  used : t.obs.used = s.obs.used
  loop : govLoop t h = govLoop s h

section

variable {h : Nat} {s₀ s t x y : State} (hh : h < 8)

theorem GovKept.refl (h : Nat) (s : State) : GovKept h s s := ⟨rfl, rfl, rfl, rfl⟩

protected theorem GovKept.ite {c : Prop} {_ : Decidable c} (hx : GovKept h s₀ x) (hy : GovKept h s₀ y) :
    GovKept h s₀ (if c then x else y) := by split <;> assumption

include hh

/-- A field beside that of the loop's value. -/
protected theorem GovKept.put {lo w v} (hs : GovKept h s₀ s) (hlo : lo + w ≤ 24 ∨ 28 ≤ lo) :
    GovKept h s₀ (s.put (aGovStat h) lo w v) where
  mem := hs.mem
  fab := hs.fab
  used := hs.used
  loop := (rf_put_apart s v (by omega) (govLoop_defined hh)).trans hs.loop

/-- Reports keep it: they write no register of the governor. -/
protected theorem GovKept.reported (hs : GovKept h s₀ s) (ht : Reported False s t) : GovKept h s₀ t where
  mem := ht.mem.trans hs.mem
  fab := ht.fab.trans hs.fab
  used := ht.used.trans hs.used
  loop := by rw [← hs.loop, govLoop, State.rf, ht.reg (spared_govStat hh), govLoop, State.rf]

/-- A conflict's packet and its flag. -/
protected theorem GovKept.policyFlag {unit loop up down part inst origin req app} (hs : GovKept h s₀ s) :
    GovKept h s₀ ((stagePolicy unit loop up down part inst origin req app s).setBit (aGovStat h) 31 true) :=
  (hs.reported hh (Reported.refl False s).stagePolicy).put hh (by decide)

theorem govKept_refreshGov (origin : Nat) (s : State) : GovKept h s (refreshGov origin h s) := by
  have hpeak : GovKept h s (s.put (aGovStat h) 0 8 (peakNow s h)) := (GovKept.refl h s).put hh (by decide)
  have heff {v} : GovKept h s ((s.put (aGovStat h) 0 8 (peakNow s h)).put (aGovStat h) 16 4 v) := hpeak.put hh (by decide)
  refine .ite hpeak ?_
  dsimp only
  split
  · exact heff
  · exact
      have hflag := heff.policyFlag hh
      .ite (hflag.reported hh ((Reported.refl False _).policyAsync.raise (.inr (Nat.zero_le 8)))) hflag

end

/-- The loop's next value (R752): up by one while a ring's channel was full, down by one while less than half of the slots
were used. -/
def govNext (s : State) (h : Nat) : Nat :=
  if (List.range 24).any (fun n => ringOn s n h && (s.obs.fullSeen.testBit n || s.rbit (aChStat n) 31)) then min 10 (govLoop s h + 1)
  else if 2 * tabGet (fun _ => 0) s.obs.used h < 1250 * govEff s h then max 2 (govLoop s h - 1) else govLoop s h

/-- The counts of the period that has ended start again. -/
def govRestarted (h : Nat) (s : State) : State :=
  { s with obs := { s.obs with fullSeen := maskOf ((maskBits 24 s.obs.fullSeen).filter (fun n => !ringOn s n h)),
                               used := tabSet (fun _ => 0) h 0 s.obs.used } }

section

variable {h : Nat} {s : State}

theorem govLoop_lt (s : State) (h : Nat) : govLoop s h < 16 := Nat.mod_lt _ (by decide)

theorem govNext_lt : govNext s h < 16 := by
  have hlt := govLoop_lt s h
  unfold govNext
  split
  · omega
  · split <;> omega

theorem exec_governorLoop_ready (hh : h < 8) (hpres : hsPresent s h = true) (hready : mrpReady s = true) :
    exec (.governorLoop h) s = .next (refreshGov 0 h ((govRestarted h s).put (aGovStat h) 24 4 (govNext s h))) := by
  show execGovernorLoop h s = _
  simp only [execGovernorLoop, hh, hpres, hready, decide_true, Bool.not_true, Bool.or_self, Bool.false_eq_true, if_false]
  rfl

theorem governorLoop_loop (hh : h < 8) :
    govLoop (refreshGov 0 h ((govRestarted h s).put (aGovStat h) 24 4 (govNext s h))) h = govNext s h := by
  rw [(govKept_refreshGov hh 0 _).loop]
  exact (rf_put_same _ _ (by decide) (govLoop_defined hh)).trans (Nat.mod_eq_of_lt govNext_lt)

end

/-! ### REFRESH (R263, R288, R751, R757) -/

theorem definedMask_memRef : ∀ k < 4, definedMask (aMemRef k) = BitVec.allOnes 32 := by decide

theorem spared_memRef {k : Nat} (hk : k < 4) : spared (aMemRef k) :=
  .inl ⟨by unfold aMemRef; omega, by unfold aMemRef bMem bLnk; omega⟩

theorem testBit_foldl_or (l : List Nat) (m i : Nat) :
    (l.foldl (fun a j => a ||| 2 ^ j) m).testBit i = (m.testBit i || decide (i ∈ l)) := by
  induction l generalizing m with
  | nil => simp
  | cons j l ih => simp [ih, Nat.testBit_two_pow, Bool.or_assoc, eq_comm]

theorem testBit_maskOf (l : List Nat) (i : Nat) : (maskOf l).testBit i = decide (i ∈ l) := by
  simp [maskOf, testBit_foldl_or]

/-- Bit k of a mask of the stacks replaced. -/
def stackMask (k m : Nat) (b : Bool) : Nat :=
  maskOf ((maskBits 4 m).filter (fun j => decide (j ≠ k))) ||| (if b then 2 ^ k else 0)

theorem testBit_stackMask (k m : Nat) (b : Bool) : (stackMask k m b).testBit k = b := by
  rw [stackMask, Nat.testBit_or, testBit_maskOf]
  cases b <;> simp

/-- A reading that stands in its register, and whether it asks for the hard limit. -/
def stackRead (k t : Nat) (hard : Bool) (s : State) : State :=
  setPwr { s.pwr with stackBad := 0, hot := stackMask k s.pwr.hot hard } (s.put (aMemRef k) 24 8 t)

/-- The decision under that limit, and the register's rate bit. -/
def refreshed (k : Nat) (hard : Bool) (s : State) : State :=
  (applyDec 6 k (decide3 s 6 k (if hard then 2 else 1) 2 { val := 1 }) s).setBit (aMemRef k) 0
    (decide ((decide3 s 6 k (if hard then 2 else 1) 2 { val := 1 }).val = 2))

section

variable {k t : Nat} {hard : Bool} {s : State}

theorem rf_put_memRef (hk : k < 4) (ht : t ≤ 255) : (s.put (aMemRef k) 24 8 t).rf (aMemRef k) 24 8 = t :=
  (rf_put_same _ _ (by decide) (by rw [definedMask_memRef k hk]; decide)).trans (Nat.mod_eq_of_lt (Nat.lt_succ_of_le ht))

theorem rf_stackRead (hk : k < 4) (ht : t ≤ 255) : (stackRead k t hard s).rf (aMemRef k) 24 8 = t := by
  rw [stackRead, State.rf, setPwr_reg, ← State.rf, rf_put_memRef hk ht]

/-- REFRESH_RATE of a temperature read without error: the limit holds from 85 °C on, and once it does from 80 °C on. -/
theorem exec_refreshRate_read (hk : k < 4) (hpres : hsPresent s (2 * k) = true) (ht : t ≤ 255) (hgood : s.pwr.stackBad = 0)
    (hhard : hard = (decide (85 ≤ t) || (decide (80 ≤ t) && s.pwr.hot.testBit k))) :
    exec (.refreshRate k (some t)) s = .next (refreshed k hard (stackRead k t hard s)) := by
  have hread : fld ((s.put (aMemRef k) 24 8 t).reg (aMemRef k)) 24 8 = t := rf_put_memRef hk ht
  have hbad : maskOf ((maskBits 4 0).filter (fun j => decide (j ≠ k))) = 0 := rfl
  subst hhard
  show execRefreshRate k (some t) s = _
  simp only [execRefreshRate, hk, hpres, hgood, hbad, Nat.min_eq_left ht, stackTemp, setPwr_pwr, Nat.zero_testBit, State.rf,
    setPwr_reg, hread, decide_true, Bool.not_true, Bool.false_eq_true, if_false, Option.isNone_some, Bool.false_and]
  rfl

/-- What the decision leaves of a reading: the temperature, the limit's state, memory, fabric and slip domains. -/
theorem rf_refreshed (hk : k < 4) : (refreshed k hard s).rf (aMemRef k) 24 8 = s.rf (aMemRef k) 24 8 := by
  have hmask : fmask 24 8 &&& definedMask (aMemRef k) = fmask 24 8 := by rw [definedMask_memRef k hk]; decide
  rw [refreshed, rf_setBit_apart _ _ (by decide) hmask, State.rf, (Reported.refl False s).applyDec.reg (spared_memRef hk),
    State.rf]

theorem refreshed_pwr : (refreshed k hard s).pwr = s.pwr := (Reported.refl False s).applyDec.pwr
theorem refreshed_mem : (refreshed k hard s).mem = s.mem := (Reported.refl False s).applyDec.mem
theorem refreshed_fab : (refreshed k hard s).fab = s.fab := (Reported.refl False s).applyDec.fab
theorem refreshed_doms : (refreshed k hard s).doms = s.doms := (Reported.refl False s).applyDec.doms.resolve_left id

end

/-! ### Windows and edges (R747) -/

section

variable {s : State} {d : Nat} (hd : d < 8) (hpres : partPresent s d = true)

include hd hpres

theorem exec_throttleWindow_present : exec (.throttleWindow d) s = .next (openWindow (domLow s d) s) := by
  show execThrottleWindow d s = _
  simp only [execThrottleWindow, hd, hpres, decide_true, Bool.not_true, Bool.false_eq_true, if_false, if_true]

theorem exec_fclkEdge_present : exec (.fclkEdge d) s = .next (fclkStep (domLow s d) s) := by
  show execFclkEdge d s = _
  simp only [execFclkEdge, hd, hpres, decide_true, Bool.not_true, Bool.false_eq_true, if_false, if_true]

end

/-- Settles O40: each loop's period answers the state that its rule names, and reports leave what it set. -/
theorem loopEventsComplete : Obligations.LoopEventsComplete := by
  unfold Obligations.LoopEventsComplete
  refine ⟨?thermal, fun s rail v early settled d => exec_voltageLoop_on, fun s rail => exec_regulatorTimeout_on, ?governor,
    fun s n code => exec_linkEq_up, ?refresh, fun s d => exec_throttleWindow_present, fun s d => exec_fclkEdge_present⟩
  case thermal =>
    exact fun s r => ⟨_, exec_thermalLoop r s, thermalLoop_power r s, fun p hp => thermalLoop_therm r s hp⟩
  case governor =>
    intro s h hh hpres hready
    have hkept := govKept_refreshGov hh 0 ((govRestarted h s).put (aGovStat h) 24 4 (govNext s h))
    refine ⟨_, exec_governorLoop_ready hh hpres hready, ?_, hkept.mem, hkept.fab, governorLoop_loop hh⟩
    rw [hkept.used]
    exact tabGet_set_same (fun _ => 0) h 0 s.obs.used
  case refresh =>
    intro s k t hk hpres ht hgood
    refine ⟨_, exec_refreshRate_read hk hpres ht hgood rfl, ?_, ?_, refreshed_mem, refreshed_fab, refreshed_doms⟩
    · exact (rf_refreshed hk).trans (rf_stackRead hk ht)
    · rw [refreshed_pwr]
      exact testBit_stackMask ..

end Sys2Proof.Proofs
end

section
/-! PROOFS. Link commands (R315, R320, R336, R340, R631): control and ownership of a port, its query, capture and impairments. -/

namespace Sys2Proof.Proofs

open Sys2Proof Sys2Proof.Machine Sys2Proof.Laws

section

variable {c : Call} {s : State}

theorem bodyLinkCtl_valid (hpres : portPresent s (c.b 16) = true) (hpmd : c.b 18 < 4 ∨ c.b 18 = 0xFF) :
    bodyLinkCtl c s = .done sOk [] (portControl (c.b 16) (c.bit 17 0) (c.bit 17 1) (c.bit 17 2)
      (if c.b 18 = 0xFF then s else s.put (aLnkCtl (c.b 16)) 27 2 (c.b 18))) := by
  have hvalid : (decide (4 ≤ c.b 18) && decide (c.b 18 ≠ 0xFF)) = false := by
    rcases hpmd with h | h <;> simp [h]
  simp only [bodyLinkCtl, hpres, hvalid, Bool.not_true, Bool.false_eq_true, if_false]

/-- LINK_ASSIGN waits for no resident context that names the port (R328). -/
theorem bodyLinkAssign_free (hpres : portPresent s (c.b 16) = true) (hpart : partPresent s (c.b 18) = true)
    (hfree : ownFixed s (c.b 16) (c.b 18) = false) :
    bodyLinkAssign c s = .done sOk [] (assignPort (c.b 16) (c.bit 17 0) (c.b 18) s) := by
  simp only [bodyLinkAssign, hpres, hpart, hfree, Bool.not_true, Bool.or_self, Bool.false_eq_true, if_false]

theorem bodyLinkQuery_valid (hpres : portPresent s (c.b 16) = true) (hlow : 1 ≤ c.b 17) (hhigh : c.b 17 ≤ 4) :
    bodyLinkQuery c s = .done sOk (leBytes 4 (s.reg (aLnkStat (c.b 16))).toNat ++ leBytes 4 (s.reg (aLnkWlat (c.b 16))).toNat ++
      leBytes 4 (s.reg (aLnkLat (c.b 16) (c.b 17))).toNat ++ leBytes 4 (s.reg (aLnkPeer (c.b 16))).toNat) s := by
  have hclass : ¬ (c.b 17 = 0 ∨ 4 < c.b 17) := by omega
  simp only [bodyLinkQuery, hpres, hclass, Bool.not_true, Bool.false_eq_true, if_false, List.map_cons, List.map_nil,
    List.flatten_cons, List.flatten_nil, List.append_nil, List.append_assoc]

theorem bodyLinkCapture_valid (hpres : portPresent s (c.b 16) = true) (hmode : capModeOk s (c.b 18) = true) (hkinds : c.b 19 < 8)
    (hseed : c.le 20 4 < 2 ^ 31 ∨ c.le 20 4 = 2 ^ 32 - 1) {e : State}
    (he : e = s.setReg (aLnkCap (c.b 16)) (BitVec.ofNat 32 (b2n (c.bit 17 0) * 2 ^ 31 + b2n (c.bit 17 1) * 2 ^ 30 +
      c.b 18 * 2 ^ 28 + c.b 19 * 2 ^ 25 + b2n (c.bit 17 2) * 2 ^ 24))) :
    bodyLinkCapture c s = .done sOk []
      (if c.le 20 4 = 2 ^ 32 - 1 then e else e.setReg (aLnkPat (c.b 16)) (BitVec.ofNat 32 (c.le 20 4))) := by
  have hseedOk : (decide (2 ^ 31 ≤ c.le 20 4) && decide (c.le 20 4 ≠ 2 ^ 32 - 1)) = false := by
    rcases hseed with h | h
    · rw [decide_eq_false h.not_ge, Bool.false_and]
    · rw [h, decide_eq_false (not_not_intro rfl), Bool.and_false]
  simp only [bodyLinkCapture, hpres, hmode, hkinds.not_ge, hseedOk, ← he, decide_false, Bool.not_true, Bool.or_self,
    Bool.false_eq_true, if_false]

/-- LINK_IMPAIR writes its records while no context runs in the port's slip domain (R336). -/
theorem bodyLinkImpair_idle (hpres : portPresent s (c.b 16) = true) (hlow : 1 ≤ c.b 18) (hhigh : c.b 18 ≤ 4)
    (hend : c.b 17 + c.b 18 ≤ 32) (hkinds : ∀ i < c.b 18, c.le (24 + 8 * i) 4 / 2 ^ 28 < 6)
    (hidle : portRuns s (c.b 16) = false) :
    bodyLinkImpair c s = .done sOk [] (forN (c.b 18) (fun i t =>
      (t.setReg (aLnkImpA (c.b 16) (c.b 17 + i)) (BitVec.ofNat 32 (c.le (24 + 8 * i) 4))).setReg
        (aLnkImpB (c.b 16) (c.b 17 + i)) (BitVec.ofNat 32 (c.le (28 + 8 * i) 4))) s) := by
  have hsome : c.b 18 ≠ 0 := Nat.one_le_iff_ne_zero.1 hlow
  have hreserved : (List.range (c.b 18)).any (fun i => decide (6 ≤ c.le (24 + 8 * i) 4 / 2 ^ 28)) = false := by
    simpa using hkinds
  simp only [bodyLinkImpair, hpres, hsome, hhigh.not_gt, hend.not_gt, hreserved, hidle, decide_false, Bool.not_true,
    Bool.or_self, Bool.false_eq_true, if_false]

end

/-- Settles O19: each command passes its own checks, and its body answers what the rule says. -/
theorem linkCommandsComplete : Obligations.LinkCommandsComplete := by
  unfold Obligations.LinkCommandsComplete
  rintro c s n rfl hpres
  refine ⟨?ctl, ?assign, ?query, ?capture, ?impair⟩
  case ctl =>
    exact fun hpass hpmd => congrArg Host.Outcome.next (runCmd_ok hpass rfl (bodyLinkCtl_valid hpres hpmd))
  case assign =>
    exact fun hpass hpart hfree => congrArg Host.Outcome.next (runCmd_ok hpass rfl (bodyLinkAssign_free hpres hpart hfree))
  case query =>
    exact fun hpass hlow hhigh => congrArg Host.Outcome.next (runCmd_ok hpass rfl (bodyLinkQuery_valid hpres hlow hhigh))
  case capture =>
    exact fun hpass hmode hkinds hseed _ he =>
      congrArg Host.Outcome.next (runCmd_ok hpass rfl (bodyLinkCapture_valid hpres hmode hkinds hseed he))
  case impair =>
    exact fun hpass hlow hhigh hend hkinds hidle =>
      congrArg Host.Outcome.next (runCmd_ok hpass rfl (bodyLinkImpair_idle hpres hlow hhigh hend hkinds hidle))

end Sys2Proof.Proofs
end

section
/-! PROOFS. Peal and Toll commands (R236, R249, R328, R344, R348, R631, R632): the ring of the device, its routes, and the
settings of Toll. -/

namespace Sys2Proof.Proofs

open Sys2Proof Sys2Proof.Machine Sys2Proof.Laws

section

variable {c : Call} {s : State}

/-! ### The ring -/

/-- PEAL_SET changes the device ID while every port is down (R328). -/
theorem bodyPealSet_mayWrite (hdown : c.bit 16 0 = true → portsDown s = true) {e f : State}
    (he : e = if c.bit 16 0 then s.setReg aPealId (BitVec.ofNat 32 (c.le 18 2)) else s)
    (hf : f = if c.bit 16 1 then e.setReg aPealTag (BitVec.ofNat 32 (c.le 20 4)) else e) :
    bodyPealSet c s = .done sOk [] (if c.bit 16 2 then
      demoteHold (f.setReg aPealCtl (BitVec.ofNat 32 (b2n (c.bit 24 0) * 2 ^ 31 + c.b 25))) else f) := by
  have hmay : (c.bit 16 0 && !portsDown s) = false := by
    rw [Bool.and_eq_false_imp]
    exact fun hid => by rw [hdown hid, Bool.not_true]
  subst he hf
  rw [bodyPealSet, hmay]
  rfl

/-- PEAL_ROUTE whose valid routes name present ports (R348). -/
theorem bodyPealRoute_valid (hsome : 1 ≤ c.le 18 2) (hend : c.le 16 2 + c.le 18 2 ≤ 1024) {b : List Byte}
    (hread : c.input s (c.le 24 8) (c.le 18 2) = .ok b)
    (hports : ∀ i < c.le 18 2, (byteAt b i).testBit 4 = true → portPresent s (byteAt b i % 16) = true) :
    bodyPealRoute c s = .done sOk [] (forN (c.le 18 2) (fun i t =>
      t.setReg (aPealRt (c.le 16 2 + i)) (BitVec.ofNat 32 (byteAt b i % 32))) s) := by
  have hnone : c.le 18 2 ≠ 0 := Nat.one_le_iff_ne_zero.1 hsome
  have habsent : (List.range (c.le 18 2)).any (fun i => (byteAt b i).testBit 4 && !portPresent s (byteAt b i % 16)) = false := by
    simpa using hports
  simp only [bodyPealRoute, hnone, hend.not_gt, hread, habsent, decide_false, Bool.or_self, Bool.false_eq_true, if_false]

/-! ### TOLL_SET with one select bit -/

/-- Select bit 0: TOL_CTL takes the fields of the command (R236). -/
theorem bodyTollSet_ctl (hsel : c.b 16 = 1) (hsrc : c.b 17 ≤ 2) (hport : c.b 18 ≤ 15) (hinterval : c.b 19 ≤ 10) :
    bodyTollSet c s = .done sOk [] (writeTolCtl { fn := c.fn, src := c.src, key := aTolCtl, op := some 0x67 }
      (BitVec.ofNat 32 (c.b 19 * 2 ^ 24 + c.b 18 * 2 ^ 20 + c.b 17 * 2 ^ 18 + b2n (c.bit 20 0) * 2 ^ 17 +
        b2n (c.bit 20 1) * 2 ^ 16 + c.le 22 2)) s) := by
  simp [bodyTollSet, hsel, hsrc, hport, hinterval, Nat.testBit]

/-- Select bit 2: the limit of HOLDOVER, 1 s to 3,600 s. -/
theorem bodyTollSet_hold (hsel : c.b 16 = 4) (hlow : 1 ≤ c.le 28 2) (hhigh : c.le 28 2 ≤ 3600) :
    bodyTollSet c s = .done sOk [] (s.setReg aTolHold (BitVec.ofNat 32 (c.le 28 2))) := by
  have hsome : c.le 28 2 ≠ 0 := Nat.one_le_iff_ne_zero.1 hlow
  simp [bodyTollSet, hsel, hsome, hhigh, Nat.testBit]

/-- Select bit 3: the second that the next PPS edge sets, where a LINK does not set it (R249). -/
theorem bodyTollSet_second (hsel : c.b 16 = 8) (hroot : tollSrc s ≠ 2) :
    bodyTollSet c s = .done sOk [] { s with toll := { s.toll with setSec := some (c.le 32 4 % 2 ^ 32) } } := by
  simp [bodyTollSet, hsel, writeSetsec, hroot, setToll, Nat.testBit]

/-- Select bit 4: the asymmetry of a present port. -/
theorem bodyTollSet_asym (hsel : c.b 16 = 16) (hpres : portPresent s (c.b 36) = true) :
    bodyTollSet c s = .done sOk [] (s.setReg (aTolAsym (c.b 36)) (BitVec.ofNat 32 (c.le 38 2))) := by
  simp [bodyTollSet, hsel, hpres, Nat.testBit]

end

/-- Settles O20: each command passes its own checks, and its body answers what the rule says. -/
theorem pealAndTollCommandsComplete : Obligations.PealAndTollCommandsComplete := by
  unfold Obligations.PealAndTollCommandsComplete
  intro c s
  refine ⟨?peal, ?route, ?set, fun hpass => congrArg Host.Outcome.next (runCmd_ok hpass rfl rfl)⟩
  case peal =>
    exact fun hpass hdown _ _ he hf => congrArg Host.Outcome.next (runCmd_ok hpass rfl (bodyPealSet_mayWrite hdown he hf))
  case route =>
    exact fun hpass hsome hend _ hread hports =>
      congrArg Host.Outcome.next (runCmd_ok hpass rfl (bodyPealRoute_valid hsome hend hread hports))
  case set =>
    intro hpass
    have hset {e : State} (hbody : bodyTollSet c s = .done sOk [] e) : exec (.tollSet c) s = .next (replied 0x67 c [] e) :=
      congrArg Host.Outcome.next (runCmd_ok hpass rfl hbody)
    exact ⟨fun hsel hsrc hport hint => hset (bodyTollSet_ctl hsel hsrc hport hint),
      fun hsel hlow hhigh => hset (bodyTollSet_hold hsel hlow hhigh), fun hsel hroot => hset (bodyTollSet_second hsel hroot),
      fun hsel hpres => hset (bodyTollSet_asym hsel hpres)⟩

end Sys2Proof.Proofs
end

section
/-! PROOFS. What refutes O36: SRC of a sent frame reads PEAL_ID after the migration engine has worked for the frame, and a reply
that this work posts can write PEAL_ID when the command names a function that the device does not have. -/

namespace Sys2Proof.Proofs

open Sys2Proof Sys2Proof.Machine Sys2Proof.Laws

/-! ### A reply that writes PEAL_ID -/

/-- The function number at which the arithmetic of the ISR addresses arrives at PEAL_ID. No such function exists, but the statement
ranges over all states, and so over those whose outstanding commands name it. -/
def strayFn : Nat := (aPealId - aIsrL 0) / 0x10

/-- MIGRATE on port 0, from the mailbox of that function, about to send the second flit of its image's first chunk. -/
def strayMigration : Outst :=
  { op := 0x83, acc := true, b := 3, call := { fn := strayFn, via := .mailbox, part := 0, param := zeros 48 }, data := zeros 64 ++ [1] }

/-- Port 0 is UP, and region 0 of half-stack 0 is protected. -/
def portUpOverRegion : State := (State.reset.put (aLnkStat 0) 28 4 stUp).setBit (aRgnA 0 0) 30 true

/-- The same with the migration outstanding, and with a tag line that marks the chunk's first line as poisoned. -/
def strayState : State :=
  setOutst [strayMigration] (setCell (tagDla portUpOverRegion 0 0 1) (List.replicate 128 1) portUpOverRegion)

theorem strayState_port : portPresent strayState 0 = true ∧ lnkState strayState 0 = stUp ∧ devId strayState = 0 := by
  decide +kernel

/-- The reply that ends the migration raises vector 2 of its function, and this ISR bit is bit 2 of DEV_ID. -/
theorem devId_strayReply : devId (finishO strayMigration sIntegrity [] strayState) = 4 := by decide +kernel

/-! ### The frame -/

/-- Whatever frame this is, it carries the source `src`. -/
def carriesSrc (src : Nat) : Emit → Bool
  | .frame _ f => decide (f.src = src)
  | _ => true

/-- Every frame sent on the way to the outcome's state carries the source `src`. -/
def sendsFrom (src : Nat) : Host.Outcome State Fault Refusal → Bool
  | .next t => t.out.all (carriesSrc src)
  | _ => true

theorem src_of_sendsFrom {src n : Nat} {o : Host.Outcome State Fault Refusal} {t : State} {f : Frame}
    (h : sendsFrom src o = true) (ho : o = .next t) (hf : Emit.frame n f ∈ t.out) : f.src = src := by
  subst ho
  exact of_decide_eq_true (List.all_eq_true.1 h _ hf)

/-- The read for the migration's next flit meets the poisoned line (R278) and ends the command, and then SRC is taken. -/
theorem exec_frameSend_stray :
    sendsFrom (devId (finishO strayMigration sIntegrity [] strayState)) (exec (.frameSend 0) strayState) = true := by
  decide +kernel

/-- Refutes O36: its clause on FRAME_SEND asks for the device ID of the state before, in any state at all. In `strayState` the
migration that would fill the frame's free slots ends with an error, and the interrupt of its reply to the function `strayFn` lands
in PEAL_ID: the frame leaves with device ID 4, where the state before has 0. -/
theorem not_linkEventsComplete : ¬ Obligations.LinkEventsComplete := by
  unfold Obligations.LinkEventsComplete
  intro h
  obtain ⟨hpres, hup, hdev⟩ := strayState_port
  obtain ⟨-, hsend, -⟩ := h strayState 0 (by decide) hpres
  obtain ⟨t, f, hnext, hframe, -, -, hsrc, -⟩ := hsend (hup ▸ by decide) hup.le
  rw [src_of_sendsFrom exec_frameSend_stray hnext hframe, devId_strayReply, hdev] at hsrc
  exact absurd hsrc (by decide)

end Sys2Proof.Proofs
end

section
/-! PROOFS. Trace channel commands (R355 to R359, R458, R630): CH_CONFIG, CH_WINDOW and CH_ENABLE. -/

namespace Sys2Proof.Proofs

open Sys2Proof Sys2Proof.Machine Sys2Proof.Laws

section

variable {c : Call} {s : State}

/-- CH_CONFIG of a stopped channel with valid operands writes them. POLICY HOLD needs a channel on which no partition bars it
(R365). -/
theorem bodyChConfig_valid (hpres : chanPresent s (c.b 16) = true) (hpf : c.fn = 0 ∨ (c.b 17 / 2 % 4 = 0 ∧ c.b 20 = 0))
    {portOk : Bool}
    (hport : portOk = (if c.b 17 / 2 % 4 = 1 then false else if c.b 17 / 2 % 4 = 2 then true else s.rbit (aChCtl (c.b 16)) 29))
    (hsink : sinkRefused s (c.b 16) (c.b 18) portOk = none) (hkind : c.b 17 / 2 % 4 ≠ 3) (hexpLow : 12 ≤ c.b 19)
    (hexpHigh : c.b 19 ≤ 24) (hbuf : c.b 20 ≤ 16) (hcls : c.le 24 4 < 2 ^ 10)
    (hrange : ∀ i, i < 2 → c.le (28 + 4 * i) 4 / 2 ^ 28 = 0 ∧ c.le (28 + 4 * i) 4 / 2 ^ 12 % 16 = 0)
    (hvariant : ¬ (s.fuse.variant = 2 ∧ (c.le 24 4).testBit 4 = true)) (hspace : c.b 20 = 0 ∨ bufSum s (c.b 16) (c.b 20) ≤ 64)
    (hoff : chOn s (c.b 16) = false) (hkey : ¬ ((c.le 24 4).testBit 4 = true ∧ dataBarred s (c.b 16) = true)) {e : State}
    (he : e = (((((((if c.b 20 = 0 then s else s.put (aChCtl (c.b 16)) 16 5 (c.b 20)).setBit (aChCtl (c.b 16)) 29 portOk).put
      (aChCtl (c.b 16)) 26 3 (c.b 18)).put (aChCtl (c.b 16)) 21 5 (c.b 19)).setReg (aChCls (c.b 16)) (BitVec.ofNat 32 (c.le 24 4))).setReg
      (aChUr (c.b 16) 0) (BitVec.ofNat 32 (c.le 28 4))).setReg (aChUr (c.b 16) 1) (BitVec.ofNat 32 (c.le 32 4))))
    (hhold : c.bit 17 0 = true → holdBar e (c.b 16) = none) :
    bodyChConfig c s = .done sOk [] (refreshFull (c.b 16) (e.setBit (aChCtl (c.b 16)) 30 (c.bit 17 0))) := by
  subst hport
  obtain ⟨hhigh0, hlow0⟩ := hrange 0 (by decide)
  obtain ⟨hhigh1, hlow1⟩ := hrange 1 (by decide)
  have hmayPort : ¬ (c.fn ≠ 0 ∧ (c.b 17 / 2 % 4 ≠ 0 ∨ c.b 20 ≠ 0)) := by omega
  have hdataOk : (decide (s.fuse.variant = 2) && (c.le 24 4).testBit 4) = false := by
    rwa [← Bool.not_eq_true, Bool.and_eq_true, decide_eq_true_eq]
  have hkeyOk : ((c.le 24 4).testBit 4 && dataBarred s (c.b 16)) = false := by
    rwa [← Bool.not_eq_true, Bool.and_eq_true]
  have hspaceOk : ¬ (c.b 20 ≠ 0 ∧ 64 < bufSum s (c.b 16) (c.b 20)) := by omega
  have hbar : (if c.bit 17 0 = true then holdBar e (c.b 16) else none) = none := by
    split
    · exact hhold ‹_›
    · rfl
  rw [he] at hbar ⊢
  simp only [bodyChConfig, hpres, if_neg hmayPort, hsink, hkind, hexpLow, hexpHigh, hbuf.not_gt, hcls.not_ge, hhigh0, hlow0, hhigh1,
    hlow1, hdataOk, if_neg hspaceOk, hoff, hkeyOk, decide_true, decide_false, ne_eq, not_true_eq_false, Bool.and_self,
    Bool.not_true, Bool.or_self, Bool.false_and, Bool.false_eq_true, Option.isSome_none, reduceCtorEq, if_false, hbar]

theorem bodyChWindow_valid (hpres : chanPresent s (c.b 16) = true) (hwindow : c.b 17 < 4) (hspace : c.b 18 < 4)
    (htag : c.le 20 2 < 2 ^ 12) (hvariant : ¬ (s.fuse.variant = 2 ∧ c.b 18 ≠ 0)) :
    bodyChWindow c s = .done sOk [] (((s.setReg (aChAwSel (c.b 16) (c.b 17)) (BitVec.ofNat 32 (c.b 18 * 2 ^ 30 + c.le 20 2))).setReg
      (aChAwLo (c.b 16) (c.b 17)) (BitVec.ofNat 32 (c.le 24 4))).setReg (aChAwHi (c.b 16) (c.b 17)) (BitVec.ofNat 32 (c.le 28 4))) := by
  have hvalid : ¬ (4 ≤ c.b 17 ∨ 4 ≤ c.b 18 ∨ 2 ^ 12 ≤ c.le 20 2 ∨ (s.fuse.variant = 2 ∧ c.b 18 ≠ 0)) := by
    simp only [hwindow.not_ge, hspace.not_ge, htag.not_ge, hvariant, or_self, not_false_eq_true]
  simp only [bodyChWindow, hpres, if_neg hvalid, Bool.not_true, Bool.false_eq_true, if_false]

/-- EN of a stopped channel that has a sink, with an engine of its own when its stream goes through one (R359, R489). -/
theorem bodyChEnable_starts (hpres : chanPresent s (c.b 16) = true) (hen : c.bit 17 0 = true) (hoff : chOn s (c.b 16) = false)
    (hsink : chSink s (c.b 16) ≠ 0) (hengine : engineTaken s (c.b 16) = false)
    (hroll : rollOn s (c.b 16) = true → rollAllowed s (c.b 16) (chEngine s (c.b 16)) = true) :
    bodyChEnable c s = .done sOk []
      (if c.bit 17 1 then flushChannel (c.b 16) (enableChannel (c.b 16) s) else enableChannel (c.b 16) s) := by
  have hrollOk : (rollOn s (c.b 16) && !rollAllowed s (c.b 16) (chEngine s (c.b 16))) = false := by
    rw [Bool.and_eq_false_imp]
    exact fun hon => by rw [hroll hon, Bool.not_true]
  simp only [bodyChEnable, hpres, hen, hoff, if_neg hsink, hengine, hrollOk, Bool.not_true, Bool.not_false, Bool.and_self,
    Bool.false_eq_true, if_false, if_true]

/-- EN 0 without FLUSH stops a running channel; its packets are counted once END is written (R359). -/
theorem bodyChEnable_stops (hpres : chanPresent s (c.b 16) = true) (hen : c.bit 17 0 = false) (hflush : c.bit 17 1 = false)
    (hon : chOn s (c.b 16) = true) :
    bodyChEnable c s = .done sOk (leBytes 6 ((chRt (disableChannel (c.b 16) 1 s) (c.b 16)).packets % 2 ^ 48))
      (disableChannel (c.b 16) 1 s) := by
  simp only [bodyChEnable, hpres, hen, hflush, hon, Bool.not_true, Bool.not_false, Bool.and_self, Bool.false_eq_true, if_false,
    if_true]

/-- FLUSH of a channel that runs on (R458). -/
theorem bodyChEnable_flushes (hpres : chanPresent s (c.b 16) = true) (hen : c.bit 17 0 = true) (hon : chOn s (c.b 16) = true)
    (hflush : c.bit 17 1 = true) : bodyChEnable c s = .done sOk [] (flushChannel (c.b 16) s) := by
  simp only [bodyChEnable, hpres, hen, hflush, hon, Bool.not_true, Bool.and_false, Bool.false_and, Bool.false_eq_true, if_false,
    if_true]

end

/-- Settles O16: each command passes its own checks, and its body answers what the rule says. -/
theorem channelCommandsComplete : Obligations.ChannelCommandsComplete := by
  unfold Obligations.ChannelCommandsComplete
  rintro c s e n rfl hpres
  refine ⟨?config, ?window, ?enable⟩
  case config =>
    intro hpass hpf _ hport hsink hkind hexpLow hexpHigh hbuf hcls hrange hvariant hspace hoff hkey he hhold
    exact congrArg Host.Outcome.next (runCmd_ok hpass rfl (bodyChConfig_valid hpres hpf hport hsink hkind hexpLow hexpHigh hbuf hcls
      hrange hvariant hspace hoff hkey he hhold))
  case window =>
    exact fun hpass hwindow hspace htag hvariant =>
      congrArg Host.Outcome.next (runCmd_ok hpass rfl (bodyChWindow_valid hpres hwindow hspace htag hvariant))
  case enable =>
    intro hpass
    have henable {res : List Byte} {e : State} (hbody : bodyChEnable c s = .done sOk res e) :
        exec (.chEnable c) s = .next (replied 0x52 c res e) :=
      congrArg Host.Outcome.next (runCmd_ok hpass rfl hbody)
    exact ⟨fun hen hoff hsink hengine hroll => henable (bodyChEnable_starts hpres hen hoff hsink hengine hroll),
      fun hen hflush hon => henable (bodyChEnable_stops hpres hen hflush hon),
      fun hen hon hflush => henable (bodyChEnable_flushes hpres hen hon hflush)⟩

end Sys2Proof.Proofs
end

section
/-! PROOFS. Register rows of the observation side (R359, R436, R439, R444, R446 to R448, R458, R463, R467, R470): what a write that
passes its tests does. -/

namespace Sys2Proof.Proofs

open Sys2Proof Sys2Proof.Machine Sys2Proof.Laws

/-! ### Channels -/

theorem definedMask_chCtl : ∀ n < 24, definedMask (aChCtl n) = 0xFFFF0000#32 := by decide
theorem definedMask_snkCfg : ∀ n < 24, definedMask (aSnkCfg n) = 0xB00001FF#32 := by decide

section

variable {n : Nat} {w : RegW} {v : Word} {s : State}

/-- PORT_OK as a write by function `f` leaves it: PF0 alone writes it (R355). -/
def portOkWritten (f n : Nat) (v : Word) (s : State) : State := if f = 0 then s.setBit (aChCtl n) 29 (bit v 29) else s

theorem portOkWritten_of_ite (f : Nat) : (if f = 0 then s.setBit (aChCtl n) 29 (bit v 29) else s) = portOkWritten f n v s := rfl

/-- OBS_CH_n_CTL after PORT_OK, EXP and POLICY are written, before EN acts. -/
def channelWritten (f n : Nat) (v : Word) (s : State) : State :=
  ((portOkWritten f n v s).put (aChCtl n) 21 5 (fld v 21 5)).setBit (aChCtl n) 30 (bit v 30)

/-- PORT_OK is bit 29 alone. -/
theorem portOkWritten_rf {f lo wd : Nat} (hapart : 29 < lo ∨ lo + wd ≤ 29)
    (hm : fmask lo wd &&& definedMask (aChCtl n) = fmask lo wd) :
    (portOkWritten f n v s).rf (aChCtl n) lo wd = s.rf (aChCtl n) lo wd := by
  unfold portOkWritten
  split
  · exact rf_setBit_apart s _ hapart hm
  · rfl

/-- A write that keeps BUF and SINK, with a valid EXP and no new HOLD, writes the other fields, and then EN starts or stops the
channel (R355, R359). -/
theorem writeChCtl_keeps (hn : n < 24) (hbuf : fld v 16 5 = s.rf (aChCtl n) 16 5) (hsink : fld v 26 3 = s.rf (aChCtl n) 26 3)
    (hport : w.fn ≠ 0 → bit v 29 = s.rbit (aChCtl n) 29) (hexpLow : 12 ≤ fld v 21 5) (hexpHigh : fld v 21 5 ≤ 24)
    (hhold : bit v 30 = true → s.rbit (aChCtl n) 30 = true) {e : State} (he : e = channelWritten w.fn n v s) :
    writeChCtl n w v s =
      if bit v 31 && !chOn s n then
        (if chSink e n = 0 || engineTaken e n then refuse flagState w e else enableChannel n e)
      else if !bit v 31 && chOn s n then disableChannel n 1 e
      else refreshFull n e := by
  have hmask := definedMask_chCtl n hn
  have hmayPort : ¬ (w.fn ≠ 0 ∧ (fld v 16 5 ≠ s.rf (aChCtl n) 16 5 ∨ bit v 29 ≠ s.rbit (aChCtl n) 29)) :=
    fun ⟨hvf, hchanged⟩ => hchanged.elim (· hbuf) (· (hport hvf))
  have hbufKept : (portOkWritten w.fn n v s).rf (aChCtl n) 16 5 = fld v 16 5 :=
    (portOkWritten_rf (by decide) (by rw [hmask]; decide)).trans hbuf.symm
  have hsinkKept : (portOkWritten w.fn n v s).rf (aChCtl n) 26 3 = fld v 26 3 :=
    (portOkWritten_rf (by decide) (by rw [hmask]; decide)).trans hsink.symm
  have hpolicyKept : ((portOkWritten w.fn n v s).put (aChCtl n) 21 5 (fld v 21 5)).rbit (aChCtl n) 30 = s.rbit (aChCtl n) 30 := by
    rw [rbit_put_apart _ _ (by decide) (by rw [hmask]; decide), rbit_eq_rf, portOkWritten_rf (by decide) (by rw [hmask]; decide),
      ← rbit_eq_rf]
  have hnoHold : (bit v 30 && !s.rbit (aChCtl n) 30) = false := by
    rw [Bool.and_eq_false_imp]
    exact fun hset => by rw [hhold hset, Bool.not_true]
  subst he
  simp only [writeChCtl, if_neg hmayPort, portOkWritten_of_ite]
  simp only [hbufKept, hsinkKept, hexpLow, hexpHigh, hpolicyKept, hnoHold, or_true, and_self, if_true,
    Bool.false_eq_true, if_false]
  rfl

end

section

variable {n : Nat} {w : Wr} {s e : State}

/-- The row of OBS_CH_n_CTL by the channel's writer (R355). -/
theorem exec_channelEn_takes (hn : n < 24) (h : WriteTakes w.fn (aChCtl n) s) (hwriter : chanWriter s w.fn n = true) :
    exec (.channelEn w n) s = .next (writeChCtl n { fn := w.fn, key := aChCtl n } w.val s) := by
  have hshared : isLocal (aChCtl n) = false := isLocal_eq_false (.inr (by unfold aChCtl bFab bObs; omega))
  show guarded "channel" n 24 (rowWrite (aChCtl n) w s) = _
  rw [guarded_lt hn, rowWrite_shared hshared h, write_chCtl hn rfl, if_pos hwriter]

/-- FLUSH, with ROLL_EN and ENGINE as they are (R458). -/
theorem exec_flush_takes (hn : n < 24) (h : WriteTakes w.fn (aSnkCfg n) s) (hroll : bit w.val 31 = s.rbit (aSnkCfg n) 31)
    (hengine : fld w.val 28 2 = s.rf (aSnkCfg n) 28 2) (hflush : bit w.val 8 = true) :
    exec (.flush w n) s = .next (flushChannel n (s.put (aSnkCfg n) 0 8 (fld w.val 0 8))) := by
  have hshared : isLocal (aSnkCfg n) = false := isLocal_eq_false (.inr (by unfold aSnkCfg bFab bSnk; omega))
  have hmask := definedMask_snkCfg n hn
  have hrollKept : (s.put (aSnkCfg n) 0 8 (fld w.val 0 8)).rbit (aSnkCfg n) 31 = bit w.val 31 :=
    (rbit_put_apart _ _ (by decide) (by rw [hmask]; decide)).trans hroll.symm
  have hengineKept : (s.put (aSnkCfg n) 0 8 (fld w.val 0 8)).rf (aSnkCfg n) 28 2 = fld w.val 28 2 :=
    (rf_put_apart _ _ (by decide) (by rw [hmask]; decide)).trans hengine.symm
  show guarded "channel" n 24 (rowWrite (aSnkCfg n) w s) = _
  rw [guarded_lt hn, rowWrite_shared hshared h, write_snkCfg hn rfl]
  simp only [writeSnkCfg, hrollKept, hengineKept, hflush, decide_true, Bool.and_self, if_true]

end

/-! ### Sinks -/

section

variable {w : Wr} {s : State}

/-- RATE of the parallel port changes only while it is off (R463). -/
theorem exec_snkParEn_takes (h : WriteTakes w.fn aSnkPar s) (hrate : s.rbit aSnkPar 31 = true → fld w.val 29 2 = s.rf aSnkPar 29 2) :
    exec (.snkParEn w) s = .next (s.setReg aSnkPar w.val) := by
  have hmay : (s.rbit aSnkPar 31 && decide (fld w.val 29 2 ≠ s.rf aSnkPar 29 2)) = false := by
    rw [Bool.and_eq_false_imp]
    exact fun hon => decide_eq_false (not_not_intro (hrate hon))
  show rowWrite aSnkPar w s = _
  rw [rowWrite_shared rfl h, write_snkPar rfl, writePar, hmay, if_neg Bool.false_ne_true]

/-- Control rows follow the rise of the serial port's EN, IDLE rows its fall (R467). -/
theorem exec_snkSerEn_takes (h : WriteTakes w.fn aSnkSer s) (hvariant : s.fuse.variant = 0) :
    exec (.snkSerEn w) s = .next (
      if s.rbit aSnkSer 31 = false ∧ bit w.val 31 = true then
        forN 64 (fun _ t => amRow (t.emit (.serCtl none 63))) (s.setReg aSnkSer w.val)
      else if s.rbit aSnkSer 31 = true ∧ bit w.val 31 = false then (s.setReg aSnkSer w.val).emit (.serCtl none 64)
      else s.setReg aSnkSer w.val) := by
  show rowWrite aSnkSer w s = _
  rw [rowWrite_shared rfl h, write_snkSer rfl, writeSer, if_neg (not_not_intro hvariant)]
  simp only [Bool.and_eq_true, Bool.not_eq_true']

/-- RNG_RD within LEN frames behind WR (R470). -/
theorem exec_rngRd_takes {n : Nat} {ing : Bool} (hn : n < (if ing then 16 else 24)) (h : WriteTakes w.fn (aRng ing n 0x18) s)
    (hbehind : (s.reg (aRng ing n 0x14) - w.val).toNat ≤ ringLen s ing n) :
    exec (.rngRd w n ing) s = .next (s.setReg (aRng ing n 0x18) w.val) := by
  have hshared : isLocal (aRng ing n 0x18) = false := isLocal_eq_false (.inr (by unfold aRng bFab bSnk; omega))
  have hwriter {r : RegW} (hkey : r.key = aRng ing n 0x18) : writeBlock r w.val s = writeRngRd ing n r w.val s := by
    cases ing
    case false => exact write_rngRd hn hkey
    case true => exact write_ingRd hn hkey
  show guarded "ring" n (if ing then 16 else 24) (rowWrite (aRng ing n 0x18) w s) = _
  rw [guarded_lt hn, rowWrite_shared hshared h, hwriter rfl, writeRngRd, if_pos hbehind]

/-! ### Clapper -/

theorem exec_clpArm_takes (h : WriteTakes w.fn aClpCtl s) : exec (.clpArm w) s = .next (writeClpCtl w.val s) := by
  show rowWrite aClpCtl w s = _
  rw [rowWrite_shared rfl h, write_clpCtl rfl]

/-- The release of held pins leaves ARM alone. -/
theorem writeClpLevel_armed (l : Nat) : (writeClpLevel l s).rbit aClpCtl 31 = s.rbit aClpCtl 31 := by
  have hne : aClpCtl ≠ aClpOut := by decide
  unfold writeClpLevel
  exact forL_keeps (P := fun t : State => t.rbit aClpCtl 31 = s.rbit aClpCtl 31)
    (fun i t ht => (rbit_setBit_ne t i false 31 hne).trans ht) rfl

/-- What CLP_OUT does once LEVEL has released its pins (R436, R439): closed while ARM is 1, and a WIDTH below 4 is reserved. -/
theorem exec_clpLevelRelease_takes (h : WriteTakes w.fn aClpOut s) {e : State} (he : e = writeClpLevel (fld w.val 0 4) s)
    {lev : Word} (hlev : lev = putFld w.val 0 4 (e.rf aClpOut 0 4)) :
    exec (.clpLevelRelease w) s = .next (
      if s.rbit aClpCtl 31 then
        (if lev &&& definedMask aClpOut = e.reg aClpOut then e else refuse flagState { fn := w.fn, key := aClpOut } e)
      else if fld w.val 24 8 < 4 then
        refuse flagResval { fn := w.fn, key := aClpOut } (e.setReg aClpOut (putFld lev 24 8 (e.rf aClpOut 24 8)))
      else e.setReg aClpOut lev) := by
  have hoffset : aClpOut - bClp = 0x0C := rfl
  have hreserved : clpReserved 0x0C w.val = decide (fld w.val 24 8 < 4) := if_pos rfl
  subst he hlev
  show rowWrite aClpOut w s = _
  rw [rowWrite_shared rfl h, write_clpOut rfl]
  simp only [writeClp, hoffset, hreserved, writeClpLevel_armed, decide_eq_true_eq, if_true]

theorem exec_clpLevelRelease_disarmed (h : WriteTakes w.fn aClpOut s) {e : State} (he : e = writeClpLevel (fld w.val 0 4) s)
    (hdisarmed : s.rbit aClpCtl 31 = false) (hwidth : 4 ≤ fld w.val 24 8) :
    exec (.clpLevelRelease w) s = .next (e.setReg aClpOut (putFld w.val 0 4 (e.rf aClpOut 0 4))) := by
  rw [exec_clpLevelRelease_takes h he rfl, hdisarmed, if_neg Bool.false_ne_true, if_neg hwidth.not_gt]

theorem exec_clpLevelRelease_armed (h : WriteTakes w.fn aClpOut s) {e : State} (he : e = writeClpLevel (fld w.val 0 4) s)
    (harmed : s.rbit aClpCtl 31 = true)
    (hsame : putFld w.val 0 4 (e.rf aClpOut 0 4) &&& definedMask aClpOut = e.reg aClpOut) :
    exec (.clpLevelRelease w) s = .next e := by
  rw [exec_clpLevelRelease_takes h he rfl, if_pos harmed, if_pos hsame]

/-! ### Counters -/

section

variable {c : CtrId} (hok : ctrOk c = true) {a : Nat} (ha : a = aCntSel c.group c.unit c.idx)

include hok ha

/-- The counters of the device lie in the first part of the CNT block, sixteen bytes each (Table 13-5). -/
theorem ctr_place : bCnt ≤ a ∧ a + 0x10 ≤ bCnt + 0x50000 ∧ a % 0x10 = 0 := by
  subst ha
  obtain ⟨group, unit, idx⟩ := c
  simp only [ctrOk, Bool.and_eq_true, Bool.or_eq_true, decide_eq_true_eq] at hok
  obtain ⟨⟨hgroup, hidx⟩, hunit⟩ := hok
  simp only [aCntSel, bCnt]
  obtain rfl | rfl | rfl | rfl : group = 0 ∨ group = 1 ∨ group = 2 ∨ group = 3 := by omega
  · have hidx : idx < 4 := hidx
    rw [if_pos rfl]; omega
  · have hidx : idx < 64 := hidx
    rw [if_neg (by decide), if_neg (by decide)]; omega
  · have hidx : idx < 64 := hidx
    rw [if_neg (by decide), if_neg (by decide)]; omega
  · have hidx : idx < 32 := hidx
    rw [if_neg (by decide), if_pos rfl]; omega

/-- A row on register `r` of a counter reaches the writer of counters, which takes the offset apart again. -/
theorem rowWrite_ctr {r : Nat} (hr : r < 0x10) (h : WriteTakes w.fn (a + r) s) :
    rowWrite (a + r) w s = .next (writeCtr { fn := w.fn, key := a + r } w.val s) ∧
      offOf (a + r) / 16 * 16 = a ∧ offOf (a + r) % 16 = r := by
  obtain ⟨hlow, hhigh, haligned⟩ := ctr_place hok ha
  have hshared : isLocal (a + r) = false := isLocal_eq_false (.inr (by unfold bCnt at hlow; unfold bFab; omega))
  have hoff : offOf (a + r) = a + r := Nat.mod_eq_of_lt (by unfold bCnt at hhigh; omega)
  have hblock : blockOf (a + r) = 10 := by
    unfold bCnt at hlow hhigh
    unfold blockOf bCmd bMbx bFab bBel bTol bMem bLnk bObs bClp bCnt bRol
    repeat rw [if_neg (by omega)]
    exact if_pos (by omega)
  have hcounter : a + r - bCnt < 0x50000 := by omega
  rw [rowWrite_shared hshared h, hoff]
  exact ⟨by simp only [writeBlock, hoff, hblock, writeCnt, if_pos hcounter], by omega, by omega⟩

/-- SEL with a code that Table 13-4 lists: SAMPLE, PART_EN and PART enter, and the code is requested (R441, R444). -/
theorem exec_evselWrite_takes (h : WriteTakes w.fn a s) (hcode : codeOk (ctrGroup a) (ctrUnit a) (fld w.val 0 8) = true) :
    exec (.evselWrite w c) s = .next (writeEvsel a (fld w.val 0 8)
      (((s.setBit a 31 (bit w.val 31)).setBit a 19 (bit w.val 19)).put a 16 3 (fld w.val 16 3))) := by
  obtain ⟨hwrite, hctr, hreg⟩ := rowWrite_ctr hok ha (r := 0) (by decide) h
  show (if ctrOk c then rowWrite (aCntSel c.group c.unit c.idx) w s else _) = _
  rw [if_pos hok, ← ha]
  refine hwrite.trans ?_
  simp only [writeCtr, hctr, hreg, hcode, if_true]

/-- VALH loads the counter with the value staged (R446). -/
theorem exec_valhLoad_takes (h : WriteTakes w.fn (a + 8) s) :
    exec (.valhLoad w c) s = .next (writeValh a (fld w.val 0 16) s) := by
  obtain ⟨hwrite, hctr, hreg⟩ := rowWrite_ctr hok ha (by decide) h
  show (if ctrOk c then rowWrite (aCntSel c.group c.unit c.idx + 8) w s else _) = _
  rw [if_pos hok, ← ha, hwrite]
  simp only [writeCtr, hctr, hreg]

end

/-- CNT_SNAP with GO (R447). -/
theorem exec_cntSnapGo_takes (h : WriteTakes w.fn aCntSnap s) (hgo : bit w.val 31 = true) :
    exec (.cntSnapGo w) s = .next (goSnap (fld w.val 0 11) (s.put aCntSnap 0 11 (fld w.val 0 11))) := by
  show rowWrite aCntSnap w s = _
  rw [rowWrite_shared rfl h, write_cntSnap rfl, writeCntSnap, if_pos hgo]

/-- CNT_FRZ releases each scope where 1 is written (R448). -/
theorem exec_cntFrzRelease_takes (h : WriteTakes w.fn aCntFrz s) :
    exec (.cntFrzRelease w) s = .next (s.setReg aCntFrz (s.reg aCntFrz &&& ~~~ (w.val &&& 0x7FF#32))) := by
  have hfields : regFields aCntFrz = [⟨0, 11, .w1c, 0⟩] := by decide
  have htypes : tyMask [⟨0, 11, .w1c, 0⟩] .rw = 0#32 ∧ tyMask [⟨0, 11, .w1c, 0⟩] .rws = 0#32 ∧
      tyMask [⟨0, 11, .w1c, 0⟩] .rwl = 0#32 ∧ tyMask [⟨0, 11, .w1c, 0⟩] .w1c = 0x7FF#32 ∧
      tyMask [⟨0, 11, .w1c, 0⟩] .w1s = 0#32 := by decide
  obtain ⟨hrw, hrws, hrwl, hw1c, hw1s⟩ := htypes
  show rowWrite aCntFrz w s = _
  rw [rowWrite_shared rfl h, write_cntFrz rfl, writeGeneric_noLock (by rw [hfields, hrwl]; rfl), hfields]
  simp only [writeFields, hrw, hrws, hrwl, hw1c, hw1s, if_neg Bool.false_ne_true, BitVec.or_zero, BitVec.and_zero, BitVec.not_zero,
    BitVec.and_allOnes]

end

/-- Settles O25: each row that passes its tests reaches the writer of its register, which does what the rule says. -/
theorem observationRegisterRowsComplete : Obligations.ObservationRegisterRowsComplete := by
  unfold Obligations.ObservationRegisterRowsComplete
  rintro w s e v rfl
  refine ⟨?channel, exec_snkParEn_takes, exec_snkSerEn_takes, ?flush, fun n ing => exec_rngRd_takes, exec_clpArm_takes,
    fun h he => ⟨exec_clpLevelRelease_disarmed h he, exec_clpLevelRelease_armed h he⟩,
    fun c a hok ha => ⟨exec_evselWrite_takes hok ha, exec_valhLoad_takes hok ha⟩, exec_cntSnapGo_takes,
    exec_cntFrzRelease_takes⟩
  case channel =>
    rintro n hn a rfl h hwriter hbuf hsink hport hexpLow hexpHigh hhold he
    rw [exec_channelEn_takes hn h hwriter, writeChCtl_keeps hn hbuf hsink hport hexpLow hexpHigh hhold he]
    refine ⟨fun hen hoff hsome hengine => ?_, fun hen hon => ?_, fun hsame => ?_⟩
    · simp only [hen, hoff, hsome, hengine, decide_false, Bool.not_false, Bool.and_self, Bool.or_self, Bool.false_eq_true, if_true,
        if_false]
    · simp only [hen, hon, Bool.not_false, Bool.not_true, Bool.and_self, Bool.false_eq_true, if_true, if_false]
    · simp only [hsame, Bool.and_not_self, Bool.not_and_self, Bool.false_eq_true, if_false]
  case flush =>
    rintro n hn a rfl
    exact exec_flush_takes hn

end Sys2Proof.Proofs
end

section
/-! PROOFS. The tap and packet path (R349, R352, R383, R457 to R459, R462 to R475): taps, concentrators, checkers, frames and
sinks, each of which moves what waits one stage on. -/

namespace Sys2Proof.Proofs

open Sys2Proof Sys2Proof.Machine Sys2Proof.Laws

section

variable {s : State}

/-- The oldest record of a tap's queue, when no other record goes before it, reaches its concentrator (R349, R353). -/
theorem exec_tapRecord_first {u : Nat} {data : Bool} {x : TapItem} {r : List TapItem} (hu : u < 0x1000)
    (hqueue : (if data then (tapRt s u).dats else (tapRt s u).evs) = x :: r) (hfirst : tapFirst s u data x = true) :
    exec (.tapRecord u data) s =
      .next (forward x (setTapRt u (if data then { tapRt s u with dats := r } else { tapRt s u with evs := r }) s)) := by
  show execTapRecord u data s = _
  simp only [execTapRecord, hu, hqueue, hfirst, decide_true, Bool.not_true, Bool.false_eq_true, if_false]

theorem exec_packetWrite_staged {k : Pkt} {r : List Pkt} (hstaged : s.obs.staged = k :: r) :
    exec .packetWrite s = .next (clapStops (distribute k { s with obs := { s.obs with staged := r } })) := by
  show execPacketWrite s = _
  simp only [execPacketWrite, hstaged]

/-- The checker of a cluster closes the next score cycle once its domain has reached it (R383). -/
theorem exec_scoreClose_reached {d cl : Nat} {r : Resident} (hd : d < 8) (hcl : cl < 2) (hrun : runCtx s (domLow s d) = some r)
    (hcluster : (domClusters (domMask s (domLow s d))).contains cl = true)
    (hreached : (clRt s (domLow s d) cl).next ≤ relSc s (domLow s d)) (hopen : (clRt s (domLow s d) cl).next < r.ctx.len) :
    exec (.scoreClose d cl) s = .next (closeOne (domLow s d) cl r s) := by
  show execScoreClose d cl s = _
  simp only [execScoreClose, hd, hcl, hrun, hcluster, hreached, hopen, decide_true, Bool.not_true, Bool.and_self,
    Bool.false_eq_true, if_false, if_true]

/-! ### Frames and rings -/

variable {n : Nat}

/-- A frame enters the staging of a sink that has room for it (R457, R459). -/
theorem exec_frameForm_room (hn : n < 24) (hsink : chSink s n ≠ 0) (hroom : stagedFrames s (chSink s n) < stageCap (chSink s n)) :
    exec (.frameForm n) s = .next (if rollStream s n then formRoll n s else formPlain n s) := by
  have hforms : ¬ (chSink s n = 0 ∨ stageCap (chSink s n) ≤ stagedFrames s (chSink s n)) :=
    not_or.2 ⟨hsink, hroom.not_ge⟩
  show execFrameForm n s = _
  simp only [execFrameForm, hn, if_neg hforms, decide_true, Bool.not_true, Bool.false_eq_true, if_false]

theorem exec_flushTimer_set (hn : n < 24) (hset : s.rf (aSnkCfg n) 0 8 ≠ 0) (hpres : chanPresent s n = true) :
    exec (.flushTimer n) s = .next (flushChannel n s) := by
  show execFlushTimer n s = _
  simp only [execFlushTimer, hn, hpres, decide_eq_true hset, decide_true, Bool.not_true, Bool.and_self, Bool.false_eq_true,
    if_false, if_true]

/-- The oldest frame of a channel whose sink is an HBM or a host ring (R469, R471). -/
theorem exec_ringDeliver_channel {f : List Byte × Bool} {r : List (List Byte × Bool)} {ok : Bool} (hn : n < 24)
    (hframes : (chRt s n).frames = f :: r) (hsink : chSink s n = 1 ∨ chSink s n = 2) :
    exec (.ringDeliver n ok) s =
      .next (ringStep false n ok f (fun t => setChRt n { chRt t n with frames := r } t) s) := by
  show execRingDeliver n ok s = _
  simp only [execRingDeliver, if_pos hn, hframes, if_pos hsink]

/-- The oldest frame that a port took in for its ingest ring (R478). -/
theorem exec_ringDeliver_ingest {b : List Byte} {r : List (List Byte)} {ok : Bool} (hn : n < 16)
    (hingest : (linkRt s n).ingest = b :: r) :
    exec (.ringDeliver (n + 32) ok) s =
      .next (ringStep true n ok (b, false) (fun t => setLink n { linkRt t n with ingest := r } t) s) := by
  have hchannel : ¬ n + 32 < 24 := by omega
  have hport : 32 ≤ n + 32 ∧ n + 32 < 48 := by omega
  show execRingDeliver (n + 32) ok s = _
  simp only [execRingDeliver, if_neg hchannel, if_pos hport, Nat.add_sub_cancel, hingest]

/-! ### Parallel and serial ports -/

section

variable {f : List Byte × Bool} {r : List (List Byte × Bool)} {e : State} (hframes : (chRt s n).frames = f :: r)
  (he : e = setChRt n { chRt s n with frames := r } s)

include hframes he

/-- The parallel port sends the oldest frame of the channel whose turn it is (R462, R464). -/
theorem exec_portFrame_parallel (hon : s.rbit aSnkPar 31 = true) (hturn : nextServed s 4 s.obs.lastPar = some n) :
    exec (.portFrame false) s =
      .next (countDevice 0xC8 0 1 (({ e with obs := { e.obs with lastPar := n } } : State).emit (.port false f.1))) := by
  show execPortFrame false s = _
  simp only [execPortFrame, hon, hturn, hframes, he, Bool.not_true, Bool.false_and, Bool.false_eq_true, if_false]

/-- The serial port, when no AM row is due (R466, R467). -/
theorem exec_portFrame_serial (hon : s.rbit aSnkSer 31 = true) (hvariant : s.fuse.variant = 0) (hrows : s.obs.rows < 16384)
    (hturn : nextServed s 5 s.obs.lastSer = some n) :
    exec (.portFrame true) s = .next (countDevice 0xC8 0 1
      (({ e with obs := { e.obs with lastSer := n, rows := e.obs.rows + 8 } } : State).emit (.port true f.1))) := by
  show execPortFrame true s = _
  simp only [execPortFrame, hon, hvariant, hrows.not_ge, hturn, hframes, he, decide_true, decide_false, Bool.not_true,
    Bool.and_self, Bool.and_false, Bool.false_eq_true, if_false, if_true]

end

end

/-- Settles O38: each event does its shared step when its condition holds. -/
theorem observationEventsComplete : Obligations.ObservationEventsComplete := by
  unfold Obligations.ObservationEventsComplete
  refine ⟨fun s u x r hu => ⟨exec_tapRecord_first (data := false) hu, exec_tapRecord_first (data := true) hu⟩,
    fun s k r => exec_packetWrite_staged, fun s d cl r => exec_scoreClose_reached,
    fun s n hn => ⟨exec_frameForm_room hn, exec_flushTimer_set hn, fun f r ok => exec_ringDeliver_channel hn⟩,
    fun s n b r ok => exec_ringDeliver_ingest, ?ports⟩
  case ports =>
    exact fun s n f r hframes => ⟨fun hon hturn e he => exec_portFrame_parallel hframes he hon hturn,
      fun hon hvariant hrows hturn e he => exec_portFrame_serial hframes he hon hvariant hrows hturn⟩

end Sys2Proof.Proofs
end

section
/-! PROOFS. Clapper and counters (R430 to R436, R440 to R447, R451, R630): CLAP_LOAD, CNT_SET and CNT_SNAP, and the events of the
Clapper, of samples and of counters that wrap. -/

namespace Sys2Proof.Proofs

open Sys2Proof Sys2Proof.Machine Sys2Proof.Laws

/-- A short command whose effect has begun and whose final reply waits for it (R447). -/
theorem runCmd_short_begins {op caller body c s o e} (h : Passes op caller c s) (hl : isLong op = false)
    (hb : body c s = .long o e) : runCmd op caller body c s = running op c o e := by
  obtain ⟨hcommon, hcfg, hcaller⟩ := h
  rcases ho : opInfo op with _ | info <;> simp [isLong, ho] at hl <;> simp [runCmd, running, hcommon, ho, hl, hcfg, hcaller, hb]

section

variable {c : Call} {s : State}

/-! ### Commands -/

/-- CLAP_LOAD of an image without reserved values, whose STOP arcs have a unit to count in: the Clapper is disarmed, each word
is written in turn, and ARM comes last. -/
theorem bodyClapLoad_valid {b : List Byte} (hlen : c.le 24 4 = 1040) (hread : c.input s (c.le 16 8) 1040 = .ok b) {offs : List Nat}
    (hoffs : offs = ((List.range 260).map (fun i => 4 * i)).filter
      (fun o => decide (o ≠ 0) && decide (o ≠ 4) && decide (regFields (bClp + o) ≠ [])))
    (hvalid : ∀ o ∈ offs, clpReserved o (imgWord b o) = false)
    (hstop : (∃ i < 8, (imgWord b (0x300 + 8 * i)).getLsbD 1 = true ∧ fld (imgWord b (0x300 + 8 * i)) 16 16 ≠ 0) →
      fld (imgWord b 0x404) 30 2 ≠ 0) :
    bodyClapLoad c s = .done sOk [] (writeClpCtl (if c.bit 28 0 then BitVec.ofNat 32 (2 ^ 31) else 0)
      (forL offs (fun o t => writeClp { key := bClp + o, src := c.src, op := some 0x56 } (imgWord b o) t) (writeClpCtl 0 s))) := by
  have hnoneReserved : offs.any (fun o => clpReserved o (imgWord b o)) = false := List.any_eq_false.2 fun o ho => by simp [hvalid o ho]
  have hstopHasUnit : ((List.range 8).any (fun i => (imgWord b (0x300 + 8 * i)).getLsbD 1 &&
      decide (fld (imgWord b (0x300 + 8 * i)) 16 16 ≠ 0)) && decide (fld (imgWord b 0x404) 30 2 = 0)) = false := by
    rw [Bool.and_eq_false_imp]
    intro hused
    simp only [List.any_eq_true, List.mem_range, Bool.and_eq_true, decide_eq_true_eq] at hused
    exact decide_eq_false (hstop hused)
  subst hoffs
  rw [bodyClapLoad, if_neg (not_not_intro hlen), hread]
  simp only [hnoneReserved, hstopHasUnit, Bool.or_self, Bool.false_eq_true, if_false]

/-- CNT_SET by the counter's writer: SAMPLE, PART_EN and PART, then the code unless it is 0xFF, then the value where it asks for
one (R440, R441, R444, R446). -/
theorem bodyCntSet_valid {e u : State} {a : Nat} (ha : a = aCntSel (c.b 16) (c.le 18 2) (c.b 17)) (hgroup : c.b 16 ≤ 3)
    (hidx : c.b 17 < groupSize (c.b 16)) (hunit : c.le 18 2 < 0x1000) (hwriter : ctrWriter s c.fn a = true)
    (hpres : c.b 16 = 0 → unitPresent s (c.le 18 2) = true)
    (hcode : c.b 20 = 0xFF ∨ codeOk (c.b 16) (c.le 18 2) (c.b 20) = true) (hpart : c.b 22 < 8)
    (he : e = ((s.setBit a 31 (c.bit 21 0)).setBit a 19 (c.bit 21 1)).put a 16 3 (c.b 22))
    (hu : u = if c.b 20 = 0xFF then e else writeEvsel a (c.b 20) e) :
    bodyCntSet c s = .done sOk []
      (if c.bit 21 2 then writeValh a (c.le 28 2) (writeVall a (c.le 24 4) u) else u) := by
  have hpresent : (decide (c.b 16 = 0) && !unitPresent s (c.le 18 2)) = false := by
    rw [Bool.and_eq_false_imp]
    exact fun hzero => by rw [hpres (of_decide_eq_true hzero), Bool.not_true]
  have hlisted : (decide (c.b 20 = 0xFF) || codeOk (c.b 16) (c.le 18 2) (c.b 20)) = true := by
    rw [Bool.or_eq_true, decide_eq_true_eq]
    exact hcode
  subst ha he hu
  simp only [bodyCntSet, hgroup, hidx, hunit, hwriter, hpresent, hlisted, hpart.not_ge, decide_true, decide_false, Bool.or_true,
    Bool.and_self, Bool.or_self, Bool.not_true, Bool.false_eq_true, if_false]

section

variable {scope : Nat} (hscope : scope = c.le 16 2) (hown : c.fn = 0 ∨ scope = 0 ∨ scope = 2 ^ (c.fn - 1)) (hbits : scope < 2 ^ 11)
  (hbuf : c.le 24 8 ≠ 0 → c.outOk (c.le 24 8) (c.le 32 4) = none)

include hscope hown hbits hbuf

/-- What CNT_SNAP comes to once its scope and its buffer are in order: it turns on whether the scope names a present partition. -/
theorem bodyCntSnap_passes {units : Nat} (hunits : units = maskOf ((maskBits 8 scope).filter (partPresent s))) {e : State}
    (he : e = requestSnap scope false s) {o : Outst} (ho : o = { op := 0x58, call := c, acc := true, a := units }) :
    bodyCntSnap c s = if units = 0 then
        .done sOk (leBytes 4 (scopeNeed e scope)) (if c.le 24 8 = 0 then e else
          c.output (c.le 24 8) (((maskBits 11 scope).flatMap (fun b => (scopeCtrs e b).flatMap (snapEntry e))).take
            (min (c.le 32 4) (scopeNeed e scope))) e)
      else .long o (refreshCall c (requestSnap scope false (setOutst (s.host.outst.eraseP (isCall c 0x58) ++ [o]) s))) := by
  have hpermitted : ¬ (c.fn ≠ 0 ∧ c.le 16 2 ≠ 0 ∧ c.le 16 2 ≠ 2 ^ (c.fn - 1)) := by
    rw [← hscope]
    exact fun ⟨hvf, hsome, hforeign⟩ => hown.elim hvf (·.elim hsome hforeign)
  have hbuffer : (if c.le 24 8 = 0 then none else c.outOk (c.le 24 8) (c.le 32 4)) = none := by
    split
    · rfl
    · exact hbuf ‹_›
  subst hunits he ho hscope
  simp only [bodyCntSnap, if_neg hpermitted, hbits.not_ge, hbuffer, if_false]

/-- A snapshot of cluster and device groups alone is taken and copied out at once (log entry 86). -/
theorem bodyCntSnap_noPartition (hnone : maskOf ((maskBits 8 scope).filter (partPresent s)) = 0) {e : State}
    (he : e = requestSnap scope false s) :
    bodyCntSnap c s = .done sOk (leBytes 4 (scopeNeed e scope)) (if c.le 24 8 = 0 then e else
      c.output (c.le 24 8) (((maskBits 11 scope).flatMap (fun b => (scopeCtrs e b).flatMap (snapEntry e))).take
        (min (c.le 32 4) (scopeNeed e scope))) e) := by
  rw [bodyCntSnap_passes hscope hown hbits hbuf rfl he rfl, if_pos hnone]

/-- A snapshot that takes in a partition waits for its next FCLK edge (R447). -/
theorem bodyCntSnap_partition {o : Outst}
    (ho : o = { op := 0x58, call := c, acc := true, a := maskOf ((maskBits 8 scope).filter (partPresent s)) }) (hsome : o.a ≠ 0) :
    bodyCntSnap c s =
      .long o (refreshCall c (requestSnap scope false (setOutst (s.host.outst.eraseP (isCall c 0x58) ++ [o]) s))) := by
  have hunits : o.a = maskOf ((maskBits 8 scope).filter (partPresent s)) := ho ▸ rfl
  rw [bodyCntSnap_passes hscope hown hbits hbuf hunits rfl (hunits ▸ ho), if_neg hsome]

end

end

/-- Settles O18: each command passes its own checks, and its body answers what the rule says. -/
theorem clapperAndCounterCommandsComplete : Obligations.ClapperAndCounterCommandsComplete := by
  unfold Obligations.ClapperAndCounterCommandsComplete
  refine ⟨?load, ?set, ?snap⟩
  case load =>
    exact fun c s b hpass hlen hread offs hoffs hvalid hstop =>
      congrArg Host.Outcome.next (runCmd_ok hpass rfl (bodyClapLoad_valid hlen hread hoffs hvalid hstop))
  case set =>
    exact fun c s e a ha hpass hgroup hidx hunit hwriter hpres hcode hpart he u hu => congrArg Host.Outcome.next
      (runCmd_ok hpass rfl (bodyCntSet_valid ha hgroup hidx hunit hwriter hpres hcode hpart he hu))
  case snap =>
    intro c s e scope hscope hpass hown hbits hbuf he
    exact ⟨fun hnone => congrArg Host.Outcome.next
        (runCmd_ok hpass rfl (bodyCntSnap_noPartition hscope hown hbits hbuf hnone he)),
      fun o ho hsome => congrArg Host.Outcome.next
        (runCmd_short_begins hpass rfl (bodyCntSnap_partition hscope hown hbits hbuf ho hsome))⟩

section

variable {s : State}

/-! ### Pins and matches of the Clapper -/

section

variable {n : Nat} {l : Bool} (hn : n < 4) (hedge : s.clap.inputs.testBit n ≠ l) {ins : Nat}
  (hins : ins = maskOf ((maskBits 4 s.clap.inputs).filter (fun i => decide (i ≠ n))) + (if l then 2 ^ n else 0))

include hn hedge hins

/-- An edge of a CLAP_IN pin changes the inputs; its comparator matches while ARM is 1 and EDGE selects the edge (R433). -/
theorem exec_clapIn_edge :
    exec (.clapIn n l) s = .next (
      if s.rbit aClpCtl 31 && (s.rf aClpExt (2 * n) 2).testBit (if l then 0 else 1) then
        setClap { s.clap with inputs := ins, waits := s.clap.waits ++ [{ src := 4, cmp := 12 + n, stamp := s.toll.now, inputs := ins }] } s
      else setClap { s.clap with inputs := ins } s) := by
  subst hins
  show execClapIn n l s = _
  rw [execClapIn, decide_eq_true hn, if_neg (by decide), if_neg hedge]
  cases l <;> rfl

theorem exec_clapIn_matches (harmed : s.rbit aClpCtl 31 = true)
    (hselects : (s.rf aClpExt (2 * n) 2).testBit (if l then 0 else 1) = true) :
    exec (.clapIn n l) s = .next
      (setClap { s.clap with inputs := ins, waits := s.clap.waits ++ [{ src := 4, cmp := 12 + n, stamp := s.toll.now, inputs := ins }] } s) := by
  rw [exec_clapIn_edge hn hedge hins, harmed, hselects, Bool.and_self, if_pos rfl]

theorem exec_clapIn_disarmed (hdisarmed : s.rbit aClpCtl 31 = false) :
    exec (.clapIn n l) s = .next (setClap { s.clap with inputs := ins } s) := by
  rw [exec_clapIn_edge hn hedge hins, hdisarmed, Bool.false_and, if_neg Bool.false_ne_true]

end

/-- The Clapper takes the match that comes first (R434, R435). -/
theorem exec_clapperMatch_first {m : MatchRt} (hfirst : firstMatch s.clap.waits = some m) :
    exec .clapperMatch s = .next (takeMatch m (setClap { s.clap with waits := s.clap.waits.erase m } s)) := by
  show execClapperMatch s = _
  simp only [execClapperMatch, hfirst]

theorem exec_pulseEnd_running {n : Nat} (hn : n < 4) (hpulse : s.clap.pulse.contains n = true) :
    exec (.pulseEnd n) s =
      .next ((setClap { s.clap with pulse := s.clap.pulse.erase n } s).emit (.pin "CLAP_OUT" n false)) := by
  show execPulseEnd n s = _
  rw [execPulseEnd, decide_eq_true hn, if_neg (by decide), if_pos hpulse]

/-! ### Samples, thresholds and wraps -/

/-- A unit of a slip domain is sampled on a sample boundary of the domain (R442, R443). -/
theorem exec_sample_boundary {u d : Nat} (hu : u < 0x877) (howner : unitOwner s u < 8) (hpres : unitPresent s u = true)
    (hd : d = domLow s (unitOwner s u)) (hacts : actsOn s d = true) (hboundary : atBoundary s d = true) :
    exec (.sample u) s = .next (sampleUnit d u (edgeWork d (endSlip d false s))) := by
  have hsampled : ¬ (8 ≤ unitOwner s u ∨ unitPresent s u = false) := by
    rw [hpres]
    exact fun h => h.elim howner.not_ge nofun
  subst hd
  show execSample u s = _
  simp only [execSample, hu, if_neg hsampled, hacts, hboundary, decide_true, Bool.not_true, Bool.and_self, Bool.false_eq_true,
    if_false, if_true]

theorem exec_groupSample_group {g : Nat} (hlow : 1 ≤ g) (hhigh : g ≤ 3) : exec (.groupSample g) s = .next (sampleGroup g s) := by
  show execGroupSample g s = _
  simp only [execGroupSample, hlow, hhigh, decide_true, Bool.and_self, Bool.not_true, Bool.false_eq_true, if_false]

/-- The comparator of a crossed threshold matches, with the unit whose counter crossed it (R432). -/
theorem exec_threshold_crossed {t u : Nat} (ht : t < 4) (hcrossed : s.clap.crossed.contains t = true)
    (hu : u = ctrUnitOf (thrCtr s t)) :
    exec (.threshold t) s = .next (setClap { s.clap with
      crossed := s.clap.crossed.erase t,
      waits := s.clap.waits ++ [{ src := 3, cmp := 8 + t, unit := u, sc := if u < 0x1000 then unitSc s u else allOnes48,
                                  stamp := s.toll.now, inputs := s.clap.inputs }] } s) := by
  show execThreshold t s = _
  rw [execThreshold, decide_eq_true ht, if_neg (by decide), hcrossed, if_neg (by decide), hu]

section

variable {c : CtrId} (hgroup : c.group ≤ 3) (hidx : c.idx < groupSize c.group) (hunit : c.unit < 0x1000)
  (hwrap : (ctrRt s (aCntSel c.group c.unit c.idx)).wrap = true)

include hgroup hidx hunit hwrap

/-- A counter has wrapped (R445): its unit or its eight of the group emit a packet, unless a sample of the unit is due, which
takes the packet's place. -/
theorem exec_overflow_wrapped :
    exec (.overflow c) s = .next (if c.group = 0 then
        (if onFclk s (aCntSel c.group c.unit c.idx) && atBoundary s (domLow s (unitOwner s c.unit)) && unitSampled s c.unit then s
          else unitPacket 1 c.unit s)
      else groupPacket 1 c.group (c.idx / 8 * 8) s) := by
  show execOverflow c s = _
  simp only [execOverflow, hgroup, hidx, hunit, hwrap, decide_true, Bool.and_self, Bool.not_true, Bool.false_eq_true, if_false]
  split <;> rfl

theorem exec_overflow_unit (hzero : c.group = 0)
    (hdue : onFclk s (aCntSel 0 c.unit c.idx) = false ∨ atBoundary s (domLow s (unitOwner s c.unit)) = false ∨
      unitSampled s c.unit = false) : exec (.overflow c) s = .next (unitPacket 1 c.unit s) := by
  have hnoSample : (onFclk s (aCntSel 0 c.unit c.idx) && atBoundary s (domLow s (unitOwner s c.unit)) && unitSampled s c.unit) = false := by
    rwa [Bool.and_eq_false_iff, Bool.and_eq_false_iff, or_assoc]
  rw [exec_overflow_wrapped hgroup hidx hunit hwrap, if_pos hzero, hzero, hnoSample, if_neg Bool.false_ne_true]

theorem exec_overflow_group (hnonzero : c.group ≠ 0) :
    exec (.overflow c) s = .next (groupPacket 1 c.group (c.idx / 8 * 8) s) := by
  rw [exec_overflow_wrapped hgroup hidx hunit hwrap, if_neg hnonzero]

end

end

/-- Settles O39: each event does its shared step when its condition holds. -/
theorem clapperAndCounterEventsComplete : Obligations.ClapperAndCounterEventsComplete := by
  unfold Obligations.ClapperAndCounterEventsComplete
  exact ⟨fun s n l hn hedge ins hins => ⟨exec_clapIn_matches hn hedge hins, exec_clapIn_disarmed hn hedge hins⟩,
    fun s m => exec_clapperMatch_first, fun s => rfl, fun s n => exec_pulseEnd_running, fun s u d => exec_sample_boundary,
    fun s g => exec_groupSample_group, fun s t u => exec_threshold_crossed,
    fun s c hgroup hidx hunit hwrap =>
      ⟨exec_overflow_unit hgroup hidx hunit hwrap, exec_overflow_group hgroup hidx hunit hwrap⟩⟩

end Sys2Proof.Proofs
end

section
/-! PROOFS. Sinks and governor settings (R366, R462, R467, R472, R473, R476, R479, R630): RING_SET, SINK_PORT and GOV_SET. -/

namespace Sys2Proof.Proofs

open Sys2Proof Sys2Proof.Machine Sys2Proof.Laws

section

variable {c : Call} {s e : State}

/-- RING_SET of an idle ring set without a Roll engine, its operands and its place in range: the set's registers take them
(R472, R473, R479). -/
theorem bodyRingSet_valid {n : Nat} {ing : Bool} {ctl : Word} (hing : ing = c.bit 16 7) (hn : n = c.b 16 % 32)
    (hctl : ctl = BitVec.ofNat 32 (b2n (c.bit 17 0) * 2 ^ 31 + c.b 18 % 16 * 2 ^ 27 + b2n (c.bit 17 1) * 2 ^ 26 +
      c.b 19 % 8 * 2 ^ 23 + c.b 20 % 16 * 2 ^ 19 + (if ing then b2n (c.bit 17 2) * 2 ^ 18 + b2n (c.bit 17 3) * 2 ^ 17 else 0)))
    (hpres : if ing then portPresent s n = true else chanPresent s n = true) (hbusy : ringBusy s ing n = false)
    (hwm : c.b 18 < 16) (hhs : c.b 19 < 8) (hrgn : c.b 20 < 16) (heng : c.b 22 < 4)
    (hchan : ing = false → c.bit 17 2 = false ∧ c.bit 17 3 = false) (hroll : c.bit 21 0 = false) (hmin : 16 ≤ c.le 32 4)
    (hmax : c.le 32 4 ≤ 2 ^ 24) (halign : c.le 40 8 % 8 = 0)
    (hhbm : ringHbm s ing n ctl = true → ringFits s ing n ctl (c.le 24 8) (c.le 32 4) = true)
    (hhost : ringHost s ing n ctl = true → c.le 24 8 % 4096 = 0)
    (he : e = (((((s.setReg (aRng ing n 0) ctl).setReg (aRng ing n 8) (BitVec.ofNat 32 (c.le 24 8))).setReg (aRng ing n 12)
      (BitVec.ofNat 32 (c.le 24 8 / 2 ^ 32))).setReg (aRng ing n 0x10) (BitVec.ofNat 32 (c.le 32 4))).setReg (aRng ing n 0x1C)
      (BitVec.ofNat 32 (c.le 40 8))).setReg (aRng ing n 0x20) (BitVec.ofNat 32 (c.le 40 8 / 2 ^ 32))) :
    bodyRingSet c s = .done sOk []
      (if ing then (if !s.rbit (aRng ing n 0) 17 && c.bit 17 3 then e.setReg (aRng ing n 0x14) 0 else e)
       else ((e.setBit (aSnkCfg n) 31 false).put (aSnkCfg n) 28 2 (c.b 22)).put (aSnkCfg n) 0 8 (c.b 23)) := by
  have hplaced : (ringHbm s ing n ctl && !ringFits s ing n ctl (c.le 24 8) (c.le 32 4)) = false := by
    rw [Bool.and_eq_false_imp]
    exact fun h => by rw [hhbm h, Bool.not_true]
  have hpaged : (ringHost s ing n ctl && decide (c.le 24 8 % 4096 ≠ 0)) = false := by
    rw [Bool.and_eq_false_imp]
    exact fun h => decide_eq_false (not_not_intro (hhost h))
  have hkept : (!ing && (c.bit 17 2 || c.bit 17 3)) = false := by
    rw [Bool.and_eq_false_imp]
    intro h
    obtain ⟨htwo, hthree⟩ := hchan (Bool.not_eq_true' _ ▸ h)
    rw [htwo, hthree, Bool.or_self]
  have hlength : ¬ (c.le 32 4 < 16 ∨ 2 ^ 24 < c.le 32 4 ∨ c.le 40 8 % 8 ≠ 0) := by omega
  have hthere : (if ing then !portPresent s n else !chanPresent s n) = false := by
    cases ing <;> simpa using hpres
  subst hing hn he
  simp only [bodyRingSet, ← hctl, hthere, hbusy, hwm.not_ge, hhs.not_ge, hrgn.not_ge, heng.not_ge, hkept, hroll, if_neg hlength,
    hplaced, hpaged, Bool.and_false, Bool.false_and, Bool.false_eq_true, false_and, or_self, if_false]

/-- SINK_PORT of the remote sink names a present port (R476). -/
theorem bodySinkPort_remote (hkind : c.b 16 = 3) (hport : portPresent s (c.b 18) = true) :
    bodySinkPort c s = .done sOk [] (s.setReg aSnkRem (BitVec.ofNat 32 (b2n (c.bit 17 0) * 2 ^ 31 + c.b 18))) := by
  simp [bodySinkPort, hkind, hport]

/-- SINK_PORT of the parallel port: an enabled port keeps its width until it is disabled (R462). -/
theorem bodySinkPort_parallel (hkind : c.b 16 = 4) (hwidth : c.b 18 < 4)
    (hkeep : s.rbit aSnkPar 31 = true → c.bit 17 0 = true → c.b 18 = s.rf aSnkPar 29 2) :
    bodySinkPort c s = .done sOk []
      (s.setReg aSnkPar (BitVec.ofNat 32 (b2n (c.bit 17 0) * 2 ^ 31 + c.b 18 * 2 ^ 29))) := by
  have hsame : (s.rbit aSnkPar 31 && c.bit 17 0 && decide (c.b 18 ≠ s.rf aSnkPar 29 2)) = false := by
    rw [Bool.and_eq_false_imp, Bool.and_eq_true]
    exact fun ⟨hon, hen⟩ => decide_eq_false (not_not_intro (hkeep hon hen))
  simp only [bodySinkPort, hkind, hwidth.not_ge, hsame, Nat.reduceEqDiff, false_and, Bool.false_eq_true, if_false, if_true]

/-- SINK_PORT of the serial port of PU8 (R467). -/
theorem bodySinkPort_serial (hkind : c.b 16 = 5) (hvariant : s.fuse.variant = 0) (hrate : c.b 18 < 16) :
    bodySinkPort c s = .done sOk [] (writeSer (BitVec.ofNat 32 (b2n (c.bit 17 0) * 2 ^ 31 + c.b 18)) s) := by
  simp only [bodySinkPort, hkind, hvariant, hrate.not_ge, Nat.reduceEqDiff, ne_eq, not_true_eq_false, and_false, if_false, if_true]

/-- GOV_SET with bounds and a hint in range, none of which yields: they are written and the level follows (R366, R373). -/
theorem bodyGovSet_unopposed {h mn mx hint : Nat} (hh : h = c.b 16) (hlt : h < 8) (hpres : hsPresent s h = true)
    (hown : c.fn = 0 ∨ (c.fn = h + 1 ∧ c.b 17 = 0xFF ∧ c.b 18 = 0xFF)) (hmn : mn = if c.b 17 = 0xFF then govMin s h else c.b 17)
    (hmx : mx = if c.b 18 = 0xFF then govMax s h else c.b 18) (hhint : hint = if c.b 19 = 0xFF then govHint s h else c.b 19)
    (hhigh : mx ≤ 10) (hlow : mn ≤ mx) (hlevel : hint ≤ 10 ∨ hint = 15)
    (he : e = (((s.put (aGov h) 20 4 mn).put (aGov h) 24 4 mx).put (aGov h) 16 4 hint).put (aGovStat h) 0 8
      (peakNow (((s.put (aGov h) 20 4 mn).put (aGov h) 24 4 mx).put (aGov h) 16 4 hint) h))
    (hconf : (govDec e h).conf = none) :
    bodyGovSet c s = .done sOk [bite (govEff (refreshGov 0 h e) h)] (refreshGov 0 h e) := by
  have hmine : (decide (c.fn ≠ 0) && !(decide (h + 1 = c.fn) && decide (c.b 17 = 0xFF) && decide (c.b 18 = 0xFF))) = false := by
    rcases hown with hpf | ⟨hvf, hmin, hmax⟩
    · simp [hpf]
    · simp [hvf, hmin, hmax]
  have hrange : ¬ (10 < mx ∨ mx < mn ∨ (!(decide (hint ≤ 10) || decide (hint = 15))) = true) := by
    simp only [Bool.not_eq_true', Bool.or_eq_false_iff, decide_eq_false_iff_not]
    omega
  subst hh he
  simp only [bodyGovSet, ← hmn, ← hmx, ← hhint, hlt.not_ge, hpres, hmine, if_neg hrange, hconf, Bool.not_true, Bool.false_eq_true,
    if_false]

end

/-- Settles O17: each command passes its own checks, and its body answers what the rule says. -/
theorem sinkCommandsComplete : Obligations.SinkCommandsComplete := by
  unfold Obligations.SinkCommandsComplete
  refine ⟨?ring, ?port, ?gov⟩
  case ring =>
    intro c s e n ing ctl hing hn hpass hctl hpres hbusy hwm hhs hrgn heng hchan hroll hmin hmax halign hhbm hhost he
    exact congrArg Host.Outcome.next (runCmd_ok hpass rfl (bodyRingSet_valid hing hn hctl hpres hbusy hwm hhs hrgn heng hchan hroll
      hmin hmax halign hhbm hhost he))
  case port =>
    intro c s hpass
    have hport {e : State} (hbody : bodySinkPort c s = .done sOk [] e) : exec (.sinkPort c) s = .next (replied 0x54 c [] e) :=
      congrArg Host.Outcome.next (runCmd_ok hpass rfl hbody)
    exact ⟨fun hkind hpres => hport (bodySinkPort_remote hkind hpres),
      fun hkind hwidth hkeep => hport (bodySinkPort_parallel hkind hwidth hkeep),
      fun hkind hvariant hrate => hport (bodySinkPort_serial hkind hvariant hrate)⟩
  case gov =>
    intro c s e h mn mx hint hh hpass hlt hpres hown hmn hmx hhint hhigh hlow hlevel he hconf
    exact congrArg Host.Outcome.next (runCmd_ok hpass rfl (bodyGovSet_unopposed hh hlt hpres hown hmn hmx hhint hhigh hlow hlevel he
      hconf))

end Sys2Proof.Proofs
end

section
/-! PROOFS. The frame of a reply (R594, R600, R610, R691): which registers it may write, and what it keeps of the host side. -/

namespace Sys2Proof.Proofs

open Sys2Proof Sys2Proof.Machine Sys2Proof.Laws

/-- Registers that a reply may write: the interrupt causes, the device error log, the counters, and what is function-local. -/
def replyWrites (k : Nat) : Prop :=
  0x10000000 ≤ k ∨ (bDev + 0x200 ≤ k ∧ k < bDev + 0x290) ∨ (aDevErrl ≤ k ∧ k ≤ aErrCapC) ∨ (bCnt ≤ k ∧ k < bRol)

/-- What leads from `s` to `t` is replies: other registers, the list of outstanding commands, NumVFs and the answering of
configuration requests read as before, and beside registers only the host side, counters, the Clapper's inputs and what has been
sent out may differ. -/
structure ReplyOnly (s t : State) : Prop where
  shape : ∃ regs out host ctrs clap, t = { s with regs := regs, out := out, host := host, ctrs := ctrs, clap := clap }
  vfs : t.host.numVf = s.host.numVf
  ready : t.host.cfgReady = s.host.cfgReady
  outst : t.host.outst = s.host.outst
  regs : ∀ k, ¬ replyWrites k → t.reg k = s.reg k

/-- The fields that `ReplyOnly` guards. -/
def unreplied (s : State) := (s.regs, s.host.numVf, s.host.cfgReady, s.host.outst)

section

variable {s₀ s t : State}

theorem ReplyOnly.refl (s : State) : ReplyOnly s s := ⟨⟨s.regs, s.out, s.host, s.ctrs, s.clap, rfl⟩, rfl, rfl, rfl, fun _ _ => rfl⟩

/-- An update of the open fields alone. -/
theorem ReplyOnly.same (hs : ReplyOnly s₀ s)
    (hshape : ∃ regs out host ctrs clap, t = { s with regs := regs, out := out, host := host, ctrs := ctrs, clap := clap })
    (e : unreplied t = unreplied s := by rfl) : ReplyOnly s₀ t := by
  simp only [unreplied, Prod.mk.injEq] at e
  obtain ⟨hregs, hvfs, hready, houtst⟩ := e
  exact
    { shape := by
        obtain ⟨_, _, _, _, _, rfl⟩ := hs.shape
        obtain ⟨_, _, _, _, _, rfl⟩ := hshape
        exact ⟨_, _, _, _, _, rfl⟩
      vfs := hvfs.trans hs.vfs
      ready := hready.trans hs.ready
      outst := houtst.trans hs.outst
      regs := fun k hk => by rw [State.reg, hregs]; exact hs.regs k hk }

/-! ### Control structure and single updates -/

protected theorem ReplyOnly.ite {c : Prop} {_ : Decidable c} {x y : State} (hx : ReplyOnly s₀ x) (hy : ReplyOnly s₀ y) :
    ReplyOnly s₀ (if c then x else y) := by split <;> assumption
protected theorem ReplyOnly.forN {n} {f : Nat → State → State} (hs : ReplyOnly s₀ s)
    (hf : ∀ i t, ReplyOnly s₀ t → ReplyOnly s₀ (f i t)) : ReplyOnly s₀ (forN n f s) := forN_keeps hf hs
protected theorem ReplyOnly.forL {β : Type} {l : List β} {f : β → State → State} (hs : ReplyOnly s₀ s)
    (hf : ∀ b ∈ l, ∀ t, ReplyOnly s₀ t → ReplyOnly s₀ (f b t)) : ReplyOnly s₀ (forL l f s) :=
  List.foldlRecOn l _ hs fun t ht b hb => hf b hb t ht

protected theorem ReplyOnly.setReg {a v} (hs : ReplyOnly s₀ s) (ha : replyWrites a) : ReplyOnly s₀ (s.setReg a v) where
  shape := by obtain ⟨_, _, _, _, _, rfl⟩ := hs.shape; exact ⟨_, _, _, _, _, rfl⟩
  vfs := hs.vfs
  ready := hs.ready
  outst := hs.outst
  regs := fun k hk => by
    have hne : k ≠ a := fun e => hk (e ▸ ha)
    rw [setReg_reg_ne _ _ hne, hs.regs k hk]
protected theorem ReplyOnly.put {a lo w v} (hs : ReplyOnly s₀ s) (ha : replyWrites a) : ReplyOnly s₀ (s.put a lo w v) := hs.setReg ha
protected theorem ReplyOnly.setBit {a i b} (hs : ReplyOnly s₀ s) (ha : replyWrites a) : ReplyOnly s₀ (s.setBit a i b) := hs.put ha
protected theorem ReplyOnly.emit {e} (hs : ReplyOnly s₀ s) : ReplyOnly s₀ (s.emit e) := hs.same ⟨_, _, _, _, _, rfl⟩
protected theorem ReplyOnly.setFnRt {f r} (hs : ReplyOnly s₀ s) : ReplyOnly s₀ (setFnRt f r s) := hs.same ⟨_, _, _, _, _, rfl⟩
protected theorem ReplyOnly.setCtr {a r} (hs : ReplyOnly s₀ s) : ReplyOnly s₀ (setCtr a r s) := hs.same ⟨_, _, _, _, _, rfl⟩
protected theorem ReplyOnly.setClap {r} (hs : ReplyOnly s₀ s) : ReplyOnly s₀ (setClap r s) := hs.same ⟨_, _, _, _, _, rfl⟩

/-! ### Counters -/

/-- The registers of a device counter. -/
theorem replyWrites_deviceCtr {a : Nat} (h : a ∈ (List.range 32).map (aCntSel 3 0)) : replyWrites (a + 12) := by
  obtain ⟨i, hi, rfl⟩ := List.mem_map.1 h
  have hlt : i < 32 := List.mem_range.1 hi
  refine .inr (.inr (.inr ?_))
  simp only [aCntSel, bCnt, bRol]
  constructor <;> simp <;> omega

protected theorem ReplyOnly.noteCross {a old new} (hs : ReplyOnly s₀ s) : ReplyOnly s₀ (noteCross a old new s) :=
  hs.forN fun _ _ ht => ht.setClap.ite ht
protected theorem ReplyOnly.addCtr {a n} (hs : ReplyOnly s₀ s) (ha : replyWrites (a + 12)) : ReplyOnly s₀ (addCtr a n s) :=
  hs.ite (have hs := (hs.setBit ha).ite hs; by
    dsimp only
    split
    · exact hs.setCtr
    · exact hs.setCtr.noteCross)
/-- A device event counts in the device counters alone. -/
protected theorem ReplyOnly.countDevice {code inst n} (hs : ReplyOnly s₀ s) : ReplyOnly s₀ (countDevice code inst n s) :=
  hs.forL fun _ ha _ ht => (ht.addCtr (replyWrites_deviceCtr ha)).ite ht

/-! ### Interrupts and error flags -/

protected theorem ReplyOnly.msixSend {f v} (hs : ReplyOnly s₀ s) : ReplyOnly s₀ (msixSend f v s) := hs.setFnRt.ite hs.emit
/-- An interrupt of a function that the device has. -/
protected theorem ReplyOnly.raise {f v} (hs : ReplyOnly s₀ s) (hf : f ≤ 8) : ReplyOnly s₀ (raise f v s) :=
  have hisr : replyWrites (if v < 32 then aIsrL f else aIsrH f) := by
    refine .inr (.inl ?_)
    unfold aIsrL aIsrH bDev
    split <;> omega
  (hs.setBit hisr).ite (hs.setBit hisr).msixSend
protected theorem ReplyOnly.errFlag {flag fn src wher} (hs : ReplyOnly s₀ s) : ReplyOnly s₀ (errFlag flag fn src wher s) :=
  have hlog {k : Nat} (hk : aDevErrl ≤ k ∧ k ≤ aErrCapC := by decide) : replyWrites k := .inr (.inr (.inl hk))
  have hs := (hs.setBit hlog).ite (((hs.setBit hlog).setBit hlog).ite ((((hs.setBit hlog).setReg hlog).setReg hlog).setReg hlog))
  hs.ite (hs.raise (Nat.zero_le 8))

/-! ### Replies -/

/-- Function-local registers lie above the others (R647). -/
theorem replyWrites_local {f k : Nat} (h : fnBase f ≤ k) : replyWrites k := .inl (by unfold fnBase at h; omega)
theorem replyWrites_rqStat {f k : Nat} : replyWrites (aRqStat f k) := replyWrites_local (f := f) (by unfold aRqStat aRqCtl; omega)
theorem replyWrites_cqTail {f k : Nat} : replyWrites (aCqTail f k) := replyWrites_local (f := f) (by unfold aCqTail aRqCtl; omega)
theorem replyWrites_mbxStat {f : Nat} : replyWrites (aMbxStat f) := replyWrites_local (f := f) (by unfold aMbxStat; omega)
theorem replyWrites_mbxReply {f i : Nat} : replyWrites (aMbxReply f i) := replyWrites_local (f := f) (by unfold aMbxReply; omega)

protected theorem ReplyOnly.refreshPair {f k} (hs : ReplyOnly s₀ s) : ReplyOnly s₀ (refreshPair f k s) :=
  (hs.put replyWrites_rqStat).setBit replyWrites_rqStat
protected theorem ReplyOnly.writeReply {f k irq b} (hs : ReplyOnly s₀ s) (hf : f ≤ 8) : ReplyOnly s₀ (writeReply f k irq b s) :=
  have hposted := (hs.emit.put replyWrites_cqTail).setBit replyWrites_cqTail
  ((hs.setBit replyWrites_rqStat).put replyWrites_rqStat).emit.errFlag.ite ((hposted.raise hf).ite hposted)
protected theorem ReplyOnly.postRing {f k irq b} (hs : ReplyOnly s₀ s) (hf : f ≤ 8) : ReplyOnly s₀ (postRing f k irq b s) :=
  hs.ite (hs.setFnRt.refreshPair.ite (hs.writeReply hf))
protected theorem ReplyOnly.postReply {c : Call} {op status more res} (hs : ReplyOnly s₀ s) (hf : c.fn ≤ 8) :
    ReplyOnly s₀ (postReply c op status more res s) := by
  have hmbx {b} : ReplyOnly s₀ (writeMbxReply c.fn b s) := hs.forN fun _ _ ht => ht.setReg replyWrites_mbxReply
  have hstat {x : State} {i v} (hx : ReplyOnly s₀ x) : ReplyOnly s₀ (x.setBit (aMbxStat c.fn) i v) := hx.setBit replyWrites_mbxStat
  unfold postReply
  split
  · exact hs.postRing hf
  · exact hs.ite ((hstat hmbx).ite ((hstat (hstat (hstat hmbx))).raise hf))
protected theorem ReplyOnly.refreshCall {c} (hs : ReplyOnly s₀ s) : ReplyOnly s₀ (refreshCall c s) := by
  unfold refreshCall
  split
  · exact hs.refreshPair
  · exact hs

end

/-- A final reply of a function that the device has: the command is outstanding no more, and the rest is the reply's (R600). -/
theorem replyOnly_finish {c : Call} {op st : Nat} {res : List Byte} {s : State} (hf : c.fn ≤ 8) :
    ReplyOnly (setOutst (s.host.outst.eraseP (isCall c op)) s) (finish c op st res s) :=
  ((ReplyOnly.refl _).countDevice.postReply hf).refreshCall

/-- Settles O48: from the state without the command on, a reply reaches what `ReplyOnly` leaves open, and nothing else. -/
theorem repliesChangeHostSideOnly : Obligations.RepliesChangeHostSideOnly := by
  unfold Obligations.RepliesChangeHostSideOnly
  rintro c op st res s t hf rfl
  obtain ⟨⟨regs, out, host, ctrs, clap, hshape⟩, hvfs, -, houtst, hregs⟩ := replyOnly_finish (op := op) (st := st) (res := res) (s := s) hf
  refine ⟨?_, ?_, ?_, ?_, ?_, ?_, ?_, ?_, ?_, ?_, ?_, ?_, ?_, hvfs, houtst, fun k hlocal hisr hlog hctr => hregs k ?_⟩
  case refine_14 => unfold replyWrites; omega
  all_goals rw [hshape]; rfl

end Sys2Proof.Proofs
end

section
/-! PROOFS. Roll engines (R488, R510 to R512): ROLL_GRANT, ROLL_JOB, the end of a job, and the blocks of a trace stream. -/

namespace Sys2Proof.Proofs

open Sys2Proof Sys2Proof.Machine Sys2Proof.Laws

/-- Bits that a mask leaves out do not show in a field outside it. -/
theorem fld_or_masked (x y m : Word) {lo w : Nat} (h : fmask lo w &&& m = 0) : fld (x ||| (y &&& m)) lo w = fld x lo w := by
  apply Nat.eq_of_testBit_eq
  intro j
  rw [testBit_fld, testBit_fld, BitVec.getLsbD_or, BitVec.getLsbD_and]
  by_cases hj : j < w
  · by_cases h32 : lo + j < 32
    · have hbit := congrArg (fun z => z.getLsbD (lo + j)) h
      simp only [BitVec.getLsbD_and, getLsbD_fmask, h32, Nat.le_add_right, Nat.add_lt_add_iff_left, hj, decide_true,
        Bool.and_self, Bool.true_and, BitVec.ofNat_eq_ofNat, BitVec.getLsbD_zero] at hbit
      rw [hbit, Bool.and_false, Bool.or_false]
    · rw [BitVec.getLsbD_of_ge m _ (Nat.le_of_not_lt h32), Bool.and_false, Bool.or_false]
  · simp only [hj, decide_false, Bool.false_and]

theorem fld_ofNat (v lo w : Nat) : fld (BitVec.ofNat 32 v) lo w = v % 2 ^ 32 / 2 ^ lo % 2 ^ w := by
  rw [fld, BitVec.toNat_ofNat]

/-! ### The registers of an engine (Table 15-6) -/

section

variable {r : Nat} (hr : r < 4)

include hr

theorem definedMask_jobCtl : definedMask (aRol r 0x10) = 0xFFFFFF80#32 := by
  have h : ∀ r < 4, definedMask (aRol r 0x10) = 0xFFFFFF80#32 := by decide
  exact h r hr
theorem definedMask_jobSrc : definedMask (aRol r 0x14) = 0x0FFFFFFF#32 := by
  have h : ∀ r < 4, definedMask (aRol r 0x14) = 0x0FFFFFFF#32 := by decide
  exact h r hr
theorem definedMask_jobLen : definedMask (aRol r 0x18) = BitVec.allOnes 32 := by
  have h : ∀ r < 4, definedMask (aRol r 0x18) = BitVec.allOnes 32 := by decide
  exact h r hr
theorem definedMask_jobDst : definedMask (aRol r 0x1C) = 0x0FFFFFFF#32 := by
  have h : ∀ r < 4, definedMask (aRol r 0x1C) = 0x0FFFFFFF#32 := by decide
  exact h r hr
theorem definedMask_jobMax : definedMask (aRol r 0x20) = BitVec.allOnes 32 := by
  have h : ∀ r < 4, definedMask (aRol r 0x20) = BitVec.allOnes 32 := by decide
  exact h r hr

end

theorem aRol_ne {r x y : Nat} (h : x ≠ y) : aRol r x ≠ aRol r y := by unfold aRol; omega

theorem engine_lt {s : State} {r : Nat} (h : enginePresent s r = true) : r < 4 := by
  have hcount : engineCount s ≤ 4 := by
    unfold engineCount
    split <;> decide
  rw [enginePresent, Bool.and_eq_true, decide_eq_true_eq] at h
  exact h.1.trans_le hcount

/-! ### ROLL_GRANT -/

section

variable {c : Call} {s a : State}

theorem bodyRollGrant_idle (hpres : enginePresent s (c.b 16) = true) (hbind : c.b 17 ≤ 1)
    (hgrant : c.b 18 = 8 ∨ c.b 18 = 15 ∨ (c.b 18 < 8 ∧ partPresent s (c.b 18) = true)) (hidle : rolIdle s (c.b 16) = true) :
    bodyRollGrant c s = .done sOk [] ((s.put (aRol (c.b 16) 0) 30 2 (c.b 17)).put (aRol (c.b 16) 0) 24 4 (c.b 18)) := by
  have hto : grantOk (c.b 18) = true := by
    rw [grantOk, Bool.or_eq_true, decide_eq_true_eq, decide_eq_true_eq]
    omega
  have hpart : (decide (c.b 18 < 8) && !partPresent s (c.b 18)) = false := by
    rcases hgrant with h | h | ⟨-, h⟩ <;> simp [h]
  simp only [bodyRollGrant, bindOk, hpres, hbind, hto, hpart, hidle, decide_true, Bool.not_true, Bool.or_self, Bool.false_eq_true,
    if_false]

/-! ### ROLL_JOB -/

/-- The word that ROLL_JOB writes into ROL_r_JCTL (Table 15-7). -/
def jobWord (c : Call) : Nat :=
  b2n (c.bit 17 0) * 2 ^ 29 + b2n (c.bit 17 1) * 2 ^ 28 + c.b 18 * 2 ^ 24 + c.b 19 * 2 ^ 20 + c.b 20 * 2 ^ 16 + (c.b 21 % 8) * 2 ^ 7

/-- The job registers hold the command's operands; DONE keeps (R510). -/
def jobLoaded (c : Call) (r : Nat) (a : State) : State :=
  (((((a.setReg (aRol r 0x10) (BitVec.ofNat 32 (jobWord c) ||| (a.reg (aRol r 0x10) &&& 0x00000800#32))).setReg (aRol r 0x14)
    (BitVec.ofNat 32 (c.le 24 4))).setReg (aRol r 0x18) (BitVec.ofNat 32 (c.le 32 4))).setReg (aRol r 0x1C)
    (BitVec.ofNat 32 (c.le 28 4))).setReg (aRol r 0x20) (BitVec.ofNat 32 (c.le 36 4))).setReg (aRol r 0x24)
    (BitVec.ofNat 32 (c.b 22 * 2 ^ 28 + c.le 40 4))

/-- The frame lemmas are applied one after the other: by computation alone the kernel would compare the register tables. -/
theorem jobLoaded_frame (c : Call) (r : Nat) (a : State) : (jobLoaded c r a).mem = a.mem ∧ (jobLoaded c r a).host = a.host ∧
    (jobLoaded c r a).out = a.out ∧ (jobLoaded c r a).fab = a.fab := by
  simp -implicitDefEqProofs only [jobLoaded, setReg_mem, setReg_host, setReg_out, setReg_fab, and_self]

/-- The job that a command describes (R510): a tenant's engine works in its own half-stack. -/
def jobAsked (c : Call) (a : State) (r : Nat) : JobCfg :=
  { enc := c.bit 17 0, salvage := c.bit 17 1, src := c.b 18, dst := c.b 19, err := c.b 20,
    hs := if rolGrant a r < 8 then rolGrant a r else c.b 21, srcOff := 64 * c.le 24 4, dstOff := 64 * c.le 28 4,
    len := c.le 32 4, max := c.le 36 4, errExp := c.b 22, errOff := 64 * c.le 40 4 }

theorem bodyRollJob_free {r : Nat} (hreg : r = c.b 16) (hpres : enginePresent a r = true) (hsrc : c.b 18 < 16) (hdst : c.b 19 < 16)
    (herr : c.b 20 < 16) (hhs : c.b 21 < 8) (hexp : c.b 22 < 16) (hsrcOff : c.le 24 4 < 2 ^ 28) (hdstOff : c.le 28 4 < 2 ^ 28)
    (herrOff : c.le 40 4 < 2 ^ 28) (hok : jobOk a r (jobAsked c a r) = true) (hresident : rollResident a r = false)
    (hbusy : rolBusy a r = false) (hwaits : jobWaits a (jobAsked c a r) = false) :
    bodyRollJob c a = .long { a := r } (startJob r (jobLoaded c r a)) := by
  subst hreg
  unfold jobAsked at hok hwaits
  simp only [bodyRollJob, jobLoaded, jobWord, hpres, hsrc.not_ge, hdst.not_ge, herr.not_ge, hhs.not_ge, hexp.not_ge, hsrcOff.not_ge,
    hdstOff.not_ge, herrOff.not_ge, hok, hresident, hbusy, hwaits, decide_false, Bool.not_true, Bool.or_self, Bool.false_eq_true,
    if_false]

section

variable {r : Nat} (hr : r < 4)

include hr

/-- A field of ROL_r_JCTL other than DONE is the command's. -/
theorem rf_jobLoaded_ctl {lo w : Nat} (hm : fmask lo w &&& 0xFFFFFF80#32 = fmask lo w) (hdone : fmask lo w &&& 0x00000800#32 = 0) :
    (jobLoaded c r a).rf (aRol r 0x10) lo w = jobWord c % 2 ^ 32 / 2 ^ lo % 2 ^ w := by
  rw [jobLoaded, State.rf, setReg_reg_ne _ _ (aRol_ne (by decide)), setReg_reg_ne _ _ (aRol_ne (by decide)),
    setReg_reg_ne _ _ (aRol_ne (by decide)), setReg_reg_ne _ _ (aRol_ne (by decide)), setReg_reg_ne _ _ (aRol_ne (by decide)),
    setReg_reg_same, definedMask_jobCtl hr, fld_and_mask _ _ hm, fld_or_masked _ _ _ hdone, fld_ofNat]

theorem jobLoaded_encode (hsrc : c.b 18 < 16) (hdst : c.b 19 < 16) (herr : c.b 20 < 16) :
    (jobLoaded c r a).rbit (aRol r 0x10) 29 = c.bit 17 0 := by
  rw [rbit_eq_rf, rf_jobLoaded_ctl hr (by decide) (by decide), jobWord]
  cases c.bit 17 0 <;> cases c.bit 17 1 <;> simp only [b2n, Bool.false_eq_true, if_true, if_false, decide_eq_true_eq,
    decide_eq_false_iff_not] <;> omega
theorem jobLoaded_salvage (hsrc : c.b 18 < 16) (hdst : c.b 19 < 16) (herr : c.b 20 < 16) :
    (jobLoaded c r a).rbit (aRol r 0x10) 28 = c.bit 17 1 := by
  rw [rbit_eq_rf, rf_jobLoaded_ctl hr (by decide) (by decide), jobWord]
  cases c.bit 17 0 <;> cases c.bit 17 1 <;> simp only [b2n, Bool.false_eq_true, if_true, if_false, decide_eq_true_eq,
    decide_eq_false_iff_not] <;> omega
theorem jobLoaded_src (hsrc : c.b 18 < 16) (hdst : c.b 19 < 16) (herr : c.b 20 < 16) :
    (jobLoaded c r a).rf (aRol r 0x10) 24 4 = c.b 18 := by
  rw [rf_jobLoaded_ctl hr (by decide) (by decide), jobWord]
  cases c.bit 17 0 <;> cases c.bit 17 1 <;> simp only [b2n, Bool.false_eq_true, if_true, if_false] <;> omega
theorem jobLoaded_dst (hdst : c.b 19 < 16) (herr : c.b 20 < 16) : (jobLoaded c r a).rf (aRol r 0x10) 20 4 = c.b 19 := by
  rw [rf_jobLoaded_ctl hr (by decide) (by decide), jobWord]
  omega

theorem jobLoaded_srcOff (hoff : c.le 24 4 < 2 ^ 28) : (jobLoaded c r a).rf (aRol r 0x14) 0 28 = c.le 24 4 := by
  rw [jobLoaded, State.rf, setReg_reg_ne _ _ (aRol_ne (by decide)), setReg_reg_ne _ _ (aRol_ne (by decide)),
    setReg_reg_ne _ _ (aRol_ne (by decide)), setReg_reg_ne _ _ (aRol_ne (by decide)), setReg_reg_same, definedMask_jobSrc hr,
    fld_and_mask _ _ (by decide), fld_ofNat]
  omega
theorem jobLoaded_len : (jobLoaded c r a).reg (aRol r 0x18) = BitVec.ofNat 32 (c.le 32 4) := by
  rw [jobLoaded, setReg_reg_ne _ _ (aRol_ne (by decide)), setReg_reg_ne _ _ (aRol_ne (by decide)),
    setReg_reg_ne _ _ (aRol_ne (by decide)), setReg_reg_same, definedMask_jobLen hr, BitVec.and_allOnes]
theorem jobLoaded_dstOff (hoff : c.le 28 4 < 2 ^ 28) : (jobLoaded c r a).rf (aRol r 0x1C) 0 28 = c.le 28 4 := by
  rw [jobLoaded, State.rf, setReg_reg_ne _ _ (aRol_ne (by decide)), setReg_reg_ne _ _ (aRol_ne (by decide)), setReg_reg_same,
    definedMask_jobDst hr, fld_and_mask _ _ (by decide), fld_ofNat]
  omega
theorem jobLoaded_max : (jobLoaded c r a).reg (aRol r 0x20) = BitVec.ofNat 32 (c.le 36 4) := by
  rw [jobLoaded, setReg_reg_ne _ _ (aRol_ne (by decide)), setReg_reg_same, definedMask_jobMax hr, BitVec.and_allOnes]

end

end

/-! ### The end of a job -/

/-- The registers of a job that has run (R511): BUSY is clear, DONE is set, the counts stand. -/
def jobMarked (r : Nat) (x : JobSt) (len : Nat) (s : State) : State :=
  countDevice 0xC9 0 x.blocks ((((((((s.setBit (aRol r 0x10) 30 false).setBit (aRol r 0x10) 10 x.stopped).put (aRol r 0x10) 12 4
    x.first).setBit (aRol r 0x10) 11 true).setReg (aRol r 0x28) (BitVec.ofNat 32 len)).setReg (aRol r 0x2C)
    (BitVec.ofNat 32 x.blocks)).setReg (aRol r 0x30) (BitVec.ofNat 32 x.errs.length)).countSat (aRol r 4) 0 16 x.fell)

/-- The counters lie below the engines. -/
theorem not_replyWrites_rol {r : Nat} (hr : r < 4) : ¬ replyWrites (aRol r 0x10) := by
  unfold replyWrites aRol bRol bDev aDevErrl aErrCapC bCnt bDev
  omega

theorem rbit_jobMarked {r : Nat} (hr : r < 4) (x : JobSt) (len : Nat) (s : State) (i : Nat) :
    (jobMarked r x len s).rbit (aRol r 0x10) i = ((((s.setBit (aRol r 0x10) 30 false).setBit (aRol r 0x10) 10 x.stopped).put
      (aRol r 0x10) 12 4 x.first).setBit (aRol r 0x10) 11 true).rbit (aRol r 0x10) i := by
  rw [State.rbit, jobMarked, (ReplyOnly.refl _).countDevice.regs _ (not_replyWrites_rol hr), State.countSat,
    reg_put_ne _ _ _ _ (aRol_ne (by decide)), setReg_reg_ne _ _ (aRol_ne (by decide)), setReg_reg_ne _ _ (aRol_ne (by decide)),
    setReg_reg_ne _ _ (aRol_ne (by decide)), State.rbit]

theorem jobMarked_busy {r : Nat} (hr : r < 4) (x : JobSt) (len : Nat) (s : State) :
    (jobMarked r x len s).rbit (aRol r 0x10) 30 = false := by
  have hm : fmask 30 1 &&& definedMask (aRol r 0x10) = fmask 30 1 := by rw [definedMask_jobCtl hr]; decide
  rw [rbit_jobMarked hr, rbit_setBit_apart _ _ (by decide) hm, rbit_put_apart _ _ (by decide) hm,
    rbit_setBit_apart _ _ (by decide) hm, rbit_setBit_same _ _ (by decide) hm]

theorem jobMarked_done {r : Nat} (hr : r < 4) (x : JobSt) (len : Nat) (s : State) :
    (jobMarked r x len s).rbit (aRol r 0x10) 11 = true := by
  rw [rbit_jobMarked hr, rbit_setBit_same _ _ (by decide) (by rw [definedMask_jobCtl hr]; decide)]

/-- ROLL_JOB_DONE of a running job: what it has come to stands in the registers, and the command that began it ends (R511, R512). -/
theorem exec_rollJobDone_busy {r : Nat} {s : State} (hr : r < 4) (hbusy : jobBusy s r = true) (hsafe : inSafe s = false) :
    ∃ x len u st res, exec (.rollJobDone r) s = .next (jobIrq r (forL ((jobMarked r x len u).host.outst.filter
      (fun o => o.acc && decide (o.op = 0x37) && decide (o.a = r))) (fun o t => finishO o st res t) (jobMarked r x len u))) := by
  show ∃ x len u st res, execRollJobDone r s = _
  simp only [execRollJobDone, hr, hbusy, hsafe, decide_true, Bool.not_true, Bool.or_self, Bool.false_eq_true, if_false]
  exact ⟨_, _, _, _, _, rfl⟩

/-! ### Stream blocks -/

/-- ROLL_BLOCK of an engine without DMA occurrences serves its channel's stream (R489). -/
theorem exec_rollBlock_stream {r n ev : Nat} {s : State} (hr : r < 4) (hpres : enginePresent s r = true) (hocc : rollOccs s r = [])
    (hev : ev ≠ 2) (hstream : rolStream s r = some n) : exec (.rollBlock r ev) s = .next (rollChanBlock r n ev s) := by
  show execRollBlock r ev s = _
  simp only [execRollBlock, hr, hpres, hocc, hev, List.map_nil, List.eraseDups_nil, forL, List.foldl_nil, hstream, decide_true,
    decide_false, Bool.false_and, Bool.not_true, Bool.false_eq_true, if_false]

/-- Settles O10: each command's body answers what the rule says, and the registers read what was written. -/
theorem rollEnginesComplete : Obligations.RollEnginesComplete := by
  unfold Obligations.RollEnginesComplete
  refine ⟨?grant, ?job, ?done, fun r n ev s hr hpres hocc hev => exec_rollBlock_stream hr hpres hocc hev⟩
  case grant =>
    rintro c s r rfl hpass hpres hbind hgrant hidle
    exact congrArg Host.Outcome.next (runCmd_ok hpass rfl (bodyRollGrant_idle hpres hbind hgrant hidle))
  case job =>
    intro c s a r j hreg ha hpass hpres hsrc hdst herr hhs hexp hsrcOff hdstOff herrOff hj hok hresident hbusy hwaits
    have hr := engine_lt hpres
    obtain rfl : j = jobAsked c a r := hj
    have hbody := bodyRollJob_free hreg hpres hsrc hdst herr hhs hexp hsrcOff hdstOff herrOff hok hresident hbusy hwaits
    have hbegin : exec (.rollJob c) s = .next (running 0x37 c { a := r } (startJob r (jobLoaded c r a))) := by
      subst ha
      exact congrArg Host.Outcome.next (runCmd_long hpass rfl hbody)
    obtain ⟨hmem, hhost, hout, hfab⟩ := jobLoaded_frame c r a
    exact ⟨jobLoaded c r a, hbegin, jobLoaded_encode hr hsrc hdst herr, jobLoaded_salvage hr hsrc hdst herr,
      jobLoaded_src hr hsrc hdst herr, jobLoaded_dst hr hdst herr, jobLoaded_srcOff hr hsrcOff, jobLoaded_len hr,
      jobLoaded_dstOff hr hdstOff, jobLoaded_max hr, hmem, hhost, hout, hfab⟩
  case done =>
    intro r s hr hbusy hsafe
    obtain ⟨x, len, u, st, res, hdone⟩ := exec_rollJobDone_busy hr hbusy hsafe
    exact ⟨jobMarked r x len u, st, res, jobMarked_busy hr x len u, jobMarked_done hr x len u, hdone⟩

end Sys2Proof.Proofs
end

section
/-! PROOFS. The common frame of host commands (R599, R616 to R618, R623): every opcode runs in it, a descriptor that fails a test of
Table 18-7 has no effect but its reply, and the safe state serves Table 19-1 alone. The step takes the front command. -/

namespace Sys2Proof.Proofs

open Sys2Proof Sys2Proof.Machine Sys2Proof.Laws

/-- Settles O52: each opcode, defined or not, is run by `runCmd`, which ends a descriptor that fails a test with its status. -/
theorem failedTestsHaveNoEffect : Obligations.FailedTestsHaveNoEffect := by
  unfold Obligations.FailedTestsHaveNoEffect
  intro op e c s hfails
  dsimp only [runOpcode, execNop, execErrlogRead, execPartQuery, execKeyDiscard, execRingSet, execTollQuery, afterExec]
  split <;> exact runCmd_refused hfails

/-- The safe state comes before Table 18-7 (R623). -/
theorem commonTests_safe {op : Nat} {c : Call} {s : State} (hsafe : inSafe s = true) (hdef : (opInfo op).isSome = true)
    (hout : op ∉ safeOps) : commonTests op c s = some sFault := by
  obtain ⟨o, ho⟩ := Option.isSome_iff_exists.1 hdef
  have hnot : safeOps.contains op = false := by simpa using hout
  simp only [commonTests, ho, hsafe, hnot, Bool.not_false, Bool.and_self, if_true]

/-- Settles O53: outside Table 19-1 the first common test already fails in the safe state. -/
theorem safeStateServesTable19x1 : Obligations.SafeStateServesTable19x1 := by
  unfold Obligations.SafeStateServesTable19x1
  exact fun op c s hsafe hdef hout => failedTestsHaveNoEffect op _ c s (commonTests_safe hsafe hdef hout)

/-- Settles O41: the front command is matched, and the queue's rest is what the state already holds. -/
theorem stepRunsFrontCommand : Obligations.StepRunsFrontCommand := by
  unfold Obligations.StepRunsFrontCommand
  exact fun c s => rfl

end Sys2Proof.Proofs
end

section
/-! PROOFS. Offsets that show nothing (R3, R584, R646, R650). -/

namespace Sys2Proof.Proofs

open Sys2Proof Sys2Proof.Machine Sys2Proof.Laws

section

variable {f o : Nat} {s : State}

/-- A VF that is not enabled, or whose partition is absent, reaches no register (R584, R650). -/
theorem reaches_absent (hf : f ≠ 0) (habsent : partPresent s (f - 1) = false ∨ s.host.numVf < f) : reaches s f o = false := by
  rcases habsent with h | h
  · simp only [reaches, hf, h, decide_false, Bool.false_and, Bool.or_self, Bool.and_false]
  · simp only [reaches, fnEnabled, h.not_ge, decide_false, Bool.false_and]

/-- What an access meets where nothing lies. -/
theorem access_absent (h : regFields (keyOf f o) = [] ∨ regPresent s f o = false ∨ reaches s f o = false) (src : Nat) (v : Word) :
    readReg f o s = (0, s) ∧ writeReg f src o v s = s := by
  have hnone : (decide (regFields (keyOf f o) = []) || !regPresent s f o || !reaches s f o) = true := by
    rcases h with h | h | h <;> simp [h]
  constructor
  · simp only [readReg, hnone, Bool.true_or, if_true]
  · simp only [writeReg, hnone, if_true]

end

/-- Settles O54: each of the three cases fails the first test of every access. -/
theorem absentRegistersReadZero : Obligations.AbsentRegistersReadZero := by
  unfold Obligations.AbsentRegistersReadZero
  intro f src o v s h
  exact access_absent (h.imp_right (·.imp_right fun ⟨hf, habsent⟩ => reaches_absent hf habsent)) src v

end Sys2Proof.Proofs
end

section
/-! PROOFS. Partitions (R525, R527, R528, R533 to R535, R625): the commands of a partition, and the phases of a holder change. -/

namespace Sys2Proof.Proofs

open Sys2Proof Sys2Proof.Machine Sys2Proof.Laws

/-! ### Commands -/

section

variable {c : Call} {s a : State}

/-- R527 accepts a change of present partitions that are FREE or HELD, while no other change runs. -/
theorem assignBad_none {mask tenant : Nat} (hmask : mask ≠ 0) (htenant : tenant ≠ 0xFFFF) (hholder : a.holder = none)
    (hparts : ∀ q ∈ maskBits 8 mask, partPresent a q = true ∧ partState a q ≤ 1) (hrun : oneRun mask tenant a = true) :
    assignBad mask tenant a = none := by
  have hpresent : (maskBits 8 mask).all (partPresent a) = true := List.all_eq_true.2 fun q hq => (hparts q hq).1
  have hsettled : (maskBits 8 mask).all (fun q => decide (partState a q ≤ 1) ||
      (decide (partState a q = 4) && decide (tenant = 0))) = true :=
    List.all_eq_true.2 fun q hq => by rw [decide_eq_true (hparts q hq).2, Bool.true_or]
  simp only [assignBad, firstFail, hpresent, hholder, hsettled, hrun, hmask, htenant, Option.isNone_none, ne_eq, not_false_eq_true,
    decide_true, Bool.and_self, if_true]

theorem bodyPartAssign_accepted (hmask : c.b 16 ≠ 0) (htenant : c.le 18 2 ≠ 0xFFFF) (hholder : a.holder = none)
    (hparts : ∀ q ∈ maskBits 8 (c.b 16), partPresent a q = true ∧ partState a q ≤ 1) (hrun : oneRun (c.b 16) (c.le 18 2) a = true) :
    bodyPartAssign c a = .long {} (startChange (c.b 16) (c.le 18 2) (c.bit 17 0) a) := by
  simp only [bodyPartAssign, assignBad_none hmask htenant hholder hparts hrun]

theorem bodyPartReset_settled (hchange : partState a c.part.toNat ≠ 2) (hreset : partState a c.part.toNat ≠ 3) :
    bodyPartReset c a = .long {} (startReset c.part.toNat (c.bit 16 0) false a) := by
  simp only [bodyPartReset, hchange, hreset, decide_false, Bool.or_self, Bool.false_eq_true, if_false]

theorem bodyPartExpert_settled (hchange : partState s c.part.toNat ≠ 2) :
    bodyPartExpert c s = .done sOk [] (refreshVfEn (s.setBit (aPartCtl c.part.toNat) 29 (c.bit 16 0))) := by
  simp only [bodyPartExpert, if_neg hchange]

end

/-- Settles O2: each command passes its own checks, and its body answers what the rule says. -/
theorem partitionCommandsComplete : Obligations.PartitionCommandsComplete := by
  unfold Obligations.PartitionCommandsComplete
  rintro c s a p rfl
  refine ⟨?query, ?assign, ?reset, ?expert⟩
  case query => exact fun hpass => congrArg Host.Outcome.next (runCmd_ok hpass rfl rfl)
  case assign =>
    rintro rfl hpass hmask htenant hholder hparts hrun
    exact congrArg Host.Outcome.next (runCmd_long hpass rfl (bodyPartAssign_accepted hmask htenant hholder hparts hrun))
  case reset =>
    rintro rfl hpass hchange hreset
    exact congrArg Host.Outcome.next (runCmd_long hpass rfl (bodyPartReset_settled hchange hreset))
  case expert =>
    exact fun hpass hchange => congrArg Host.Outcome.next (runCmd_ok hpass rfl (bodyPartExpert_settled hchange))

/-! ### The phases of a holder change -/

/-- The end of a phase does that phase's work (log entry 41). -/
theorem exec_holderChangePhaseEnd_running {s : State} {h : HolderRt} (hh : s.holder = some h) (bad : Byte) :
    exec (.holderChangePhaseEnd bad) s = .next (phaseWork h bad.toNat s) := by
  show execHolderChangePhaseEnd bad s = _
  simp only [execHolderChangePhaseEnd, hh]

/-- The zero-fill writes memory and ZF of the partitions, and so the safe state stays what it was (R534). -/
theorem inSafe_zeroFilled (mask : Nat) (s : State) :
    inSafe (forL (maskBits 8 mask) (fun p t => (if inSafe t then t else zeroStack p t).setBit (aPartStat p) 27 false) s) =
      inSafe s := by
  have hstack (p : Nat) (t : State) : (zeroStack p t).reg aSafStat = t.reg aSafStat :=
    forN_keeps (P := fun u : State => u.reg aSafStat = t.reg aSafStat)
      (fun m u hu => by
        split
        · exact hu
        · exact forN_keeps (P := fun u : State => u.reg aSafStat = t.reg aSafStat) (fun _ _ hv => hv) hu) rfl
  have hall : (forL (maskBits 8 mask) (fun p t => (if inSafe t then t else zeroStack p t).setBit (aPartStat p) 27 false) s).reg
      aSafStat = s.reg aSafStat := by
    refine List.foldlRecOn (motive := fun t : State => t.reg aSafStat = s.reg aSafStat) _ _ rfl fun t ht p hp => ?_
    have hp8 := lt_of_mem_maskBits hp
    have hne : aSafStat ≠ aPartStat p := by unfold aSafStat aPartStat bSaf bDev; omega
    rw [reg_setBit_ne _ _ _ hne]
    split
    · exact ht
    · rw [hstack, ht]
  rw [inSafe, State.rbit, hall, inSafe, State.rbit]

/-- ZFILL outside the safe state (R534). -/
theorem exec_zfill_running {s : State} {h : HolderRt} (hh : s.holder = some h) (hphase : h.phase = 5) (hsafe : inSafe s = false) :
    exec .zfill s = .next (setHolder { h with phase := 6 }
      (forL (maskBits 8 h.mask) (fun p t => (if inSafe t then t else zeroStack p t).setBit (aPartStat p) 27 false) s)) := by
  show execZfill s = _
  simp only [execZfill, hh, hphase, inSafe_zeroFilled, hsafe, ne_eq, not_true_eq_false, Bool.false_eq_true, if_false]

/-- Settles O30: each phase's end is its case of `phaseWork`, and the zero-fill has its own event. -/
theorem holderChangePhasesComplete : Obligations.HolderChangePhasesComplete := by
  unfold Obligations.HolderChangePhasesComplete
  intro s h bad hh
  refine ⟨exec_holderChangePhaseEnd_running hh bad, ?halt, ?quiesce, ?keys, ?scrub, ?assign, exec_zfill_running hh⟩
  case assign => exact fun hphase hsafe => by simp only [phaseWork, hphase, hsafe, Bool.false_eq_true, if_false]
  all_goals exact fun hphase => by simp only [phaseWork, hphase]

end Sys2Proof.Proofs
end

section
/-! PROOFS. What refutes O58: the end of a holder change replies to the PART_ASSIGN that began it, and a reply can write the
PART_STAT of a partition when the command names a function that the device does not have. -/

namespace Sys2Proof.Proofs

open Sys2Proof Sys2Proof.Machine Sys2Proof.Laws

/-- The function number at which the arithmetic of the upper ISR addresses arrives at PART_STAT_0. No such function exists, but the
statement ranges over all states, and so over those whose outstanding commands name it. -/
def assignStrayFn : Nat := (aPartStat 0 - aIsrH 0) / 0x10

/-- PART_ASSIGN from a ring pair of that function whose completion vector lies in the upper ISR. -/
def strayAssign : Outst := { op := 0x11, acc := true, call := { fn := assignStrayFn, via := .ring 32 } }

/-- The assignment of partition 0 to no tenant, about to take effect. -/
def freeing : HolderRt := { mask := 1, tenant := 0, phase := 6 }

/-- The same with that command outstanding, and with its ring pair enabled. -/
def assignStrayState : State :=
  setFnRt assignStrayFn { bme := true } { State.reset with
    holder := some freeing
    host := { State.reset.host with numVf := assignStrayFn, outst := [strayAssign] }
    regs := [(aRqCtl assignStrayFn 32, 0x80000000#32)] }

/-- The tenant that partition 0 shows in the outcome's state. -/
def tenantAfter : Host.Outcome State Fault Refusal → Option Nat
  | .next t => some (t.rf (aPartStat 0) 0 16)
  | _ => none

/-- The completion interrupt of the final reply sets bit 0 of PART_STAT_0. -/
theorem tenantAfter_strayAssign : tenantAfter (exec (.holderChangePhaseEnd 0) assignStrayState) = some 1 := by decide +kernel

/-- Refutes O58: its clause on PART_STAT ranges over states whose outstanding PART_ASSIGN names any function at all. In
`assignStrayState` partition 0 is given to no tenant, and the interrupt of the final reply leaves tenant 1 there. -/
theorem not_holderChangesCount : ¬ Obligations.HolderChangesCount := by
  unfold Obligations.HolderChangesCount
  intro h
  obtain ⟨t, hnext, -, hassigned, -⟩ := h assignStrayState freeing rfl rfl (by decide +kernel) rfl
  have hone := tenantAfter_strayAssign
  rw [hnext, tenantAfter, (hassigned 0 (by decide) (by decide)).2] at hone
  exact absurd hone (by decide)

end Sys2Proof.Proofs
end

section
/-! PROOFS. Slip domains by command (R192, R626, R637, R749): PLAN_START, PLAN_SWITCH, PLAN_STOP and PLAN_CLEAR. -/

namespace Sys2Proof.Proofs

open Sys2Proof Sys2Proof.Machine Sys2Proof.Laws

section

variable {c : Call} {s a : State}

/-- Where no resume target waits there is none to discard (R730). -/
theorem dropResume_none {p : Nat} (h : (domRt s p).resume = none) : dropResume p s = s := by
  simp only [dropResume, h, Option.isSome_none, Bool.false_and, Bool.false_eq_true, if_false]

/-- The start that PLAN_START without a Toll time keeps for its edge (R183, R637). -/
def startWaiting (c : Call) (p : Nat) (r : Resident) (a : State) : State :=
  setPend r.mask r.id (setDomRt p { domRt a p with
    pend := some { ctx := r.id, mask := r.mask, fclass := c.b 17, reason := 2, atToll := none, job := c.job,
                   jobKey := (holderKeys a p).job.getD [] } } a)

/-- PLAN_START of a resident context whose partitions are idle, at a class the context lists and no pin bars (R626, R749). -/
theorem bodyPlanStart_idle {r : Resident} (hres : findResident a c.part.toNat (c.b 16) = some r)
    (hidle : ∀ q ∈ maskBits 8 r.mask, startPending a q = false ∧ plnState a q = stIdle) (hmig : migrates a c.part.toNat = false)
    (htest : selfTesting a r.mask = false) (hextest : extest a = false) (hvalid : isInvalid a r = false)
    (hunits : failedUnit a r.ctx = false) (hlow : 1 ≤ c.b 17) (hhigh : c.b 17 ≤ 4) (hclass : r.ctx.fmask.testBit (c.b 17 - 1) = true)
    (hresume : (domRt a c.part.toNat).resume = none) (hnow : c.bit 18 0 = false) (hports : portsUp a r.ctx = true)
    (hkey : needsJobKey r.ctx = true → (holderKeys a c.part.toNat).job.isSome = true) (hpin : pinBars a c.part.toNat (c.b 17) = false) :
    bodyPlanStart c a = .long { a := c.part.toNat } (startWaiting c c.part.toNat r a) := by
  have hfree : (maskBits 8 r.mask).any (startPending a) = false :=
    List.any_eq_false.2 fun q hq => Bool.eq_false_iff.1 (hidle q hq).1
  have hrest : (maskBits 8 r.mask).any (fun q => decide (plnState a q ≠ stIdle)) = false :=
    List.any_eq_false.2 fun q hq => by rw [(hidle q hq).2]; decide
  have hkeyed : (needsJobKey r.ctx && (holderKeys a c.part.toNat).job.isNone) = false := by
    rw [Bool.and_eq_false_imp]
    exact fun h => Option.isNone_eq_false_iff.2 (hkey h)
  simp only [bodyPlanStart, startWaiting, hres, hfree, hrest, hmig, htest, hextest, hvalid, hunits, hlow.not_gt, hhigh.not_gt, hclass,
    hresume, hnow, hports, hkeyed, hpin, dropResume_none hresume, decide_false, Bool.not_false, Bool.not_true, Bool.and_false,
    Bool.false_and, Bool.or_self, Bool.false_eq_true, if_false]

/-- PLAN_SWITCH of a running domain to a context of its own PART_MASK (R188, R626). -/
theorem bodyPlanSwitch_running {r : Resident} (hdom : domLow a c.part.toNat = c.part.toNat) (hrun : plnState a c.part.toNat = stRun)
    (hpend : (domRt a c.part.toNat).pend = none) (hextest : extest a = false)
    (htarget : switchTarget a c.part.toNat (c.b 16) = some r) (hvalid : isInvalid a r = false) (hhigh : c.b 17 ≤ 4)
    (hclass : c.b 17 ≠ 0 → r.ctx.fmask.testBit (c.b 17 - 1) = true ∧ pinBars a c.part.toNat (c.b 17) = false) :
    bodyPlanSwitch c a = .long { a := c.part.toNat } (askSwitch c.part.toNat r.id (c.b 17) a) := by
  have hlisted : (decide (c.b 17 ≠ 0) && !r.ctx.fmask.testBit (c.b 17 - 1)) = false := by
    rw [Bool.and_eq_false_imp, decide_eq_true_eq]
    exact fun h => by rw [(hclass h).1, Bool.not_true]
  have hfree : (decide (c.b 17 ≠ 0) && pinBars a c.part.toNat (c.b 17)) = false := by
    rw [Bool.and_eq_false_imp, decide_eq_true_eq]
    exact fun h => (hclass h).2
  have hrunning : (decide (stRun = stSwitch)) = false := by decide
  simp only [bodyPlanSwitch, hdom, hrun, hpend, hextest, htarget, hvalid, hhigh.not_gt, hlisted, hfree, hrunning, ne_eq,
    not_true_eq_false, Option.isSome_none, decide_false, Bool.or_self, Bool.false_eq_true, if_false]

theorem bodyPlanStop_running (hdom : domLow a c.part.toNat = c.part.toNat) (hidle : plnState a c.part.toNat ≠ stIdle)
    (hhalted : plnState a c.part.toNat ≠ stHalted) : bodyPlanStop c a = .long { a := c.part.toNat } a := by
  simp only [bodyPlanStop, hdom, hidle, hhalted, ne_eq, not_true_eq_false, decide_false, Bool.or_self, Bool.false_eq_true, if_false]

theorem bodyPlanClear_halted (hdom : domLow s c.part.toNat = c.part.toNat) (hhalted : plnState s c.part.toNat = stHalted) :
    bodyPlanClear c s = .done sOk [] (clearDomain c.part.toNat s) := by
  simp only [bodyPlanClear, hdom, hhalted, ne_eq, not_true_eq_false, if_false]

end

/-- Settles O5: each command passes its own checks, and its body answers what the rule says. -/
theorem planRunCommandsComplete : Obligations.PlanRunCommandsComplete := by
  unfold Obligations.PlanRunCommandsComplete
  rintro c s a p rfl
  refine ⟨?start, ?switch, ?stop, ?clear⟩
  case start =>
    rintro rfl hpass r hres hidle hmig htest hextest hvalid hunits hlow hhigh hclass hresume hnow hports hkey hpin
    exact congrArg Host.Outcome.next (runCmd_long hpass rfl (bodyPlanStart_idle hres hidle hmig htest hextest hvalid hunits hlow hhigh
      hclass hresume hnow hports hkey hpin))
  case switch =>
    rintro rfl hpass hdom hrun hpend hextest r htarget hvalid hhigh hclass
    exact congrArg Host.Outcome.next (runCmd_long hpass rfl (bodyPlanSwitch_running hdom hrun hpend hextest htarget hvalid hhigh
      hclass))
  case stop =>
    rintro rfl hpass hdom hidle hhalted
    exact congrArg Host.Outcome.next (runCmd_long hpass rfl (bodyPlanStop_running hdom hidle hhalted))
  case clear =>
    exact fun hpass hdom hhalted => congrArg Host.Outcome.next (runCmd_ok hpass rfl (bodyPlanClear_halted hdom hhalted))

end Sys2Proof.Proofs
end

section
/-! PROOFS. MEM_READ and MEM_WRITE (R606, R627). -/

namespace Sys2Proof.Proofs

open Sys2Proof Sys2Proof.Machine Sys2Proof.Laws

section

variable {c : Call} {a : State}

/-- Both commands accept lines of a valid region on which no sweep runs. -/
theorem memArgs_none (hpres : hsPresent a (c.b 16) = true) (hvalid : rgnValid a (c.b 16) (c.b 17) = true)
    (hbusy : rgnBusy a (c.b 16) (c.b 17) = false) (hoff : c.le 24 8 % 64 = 0) (hlen : c.le 32 4 % 64 = 0) (hmin : 64 ≤ c.le 32 4)
    (hmax : c.le 32 4 ≤ 2 ^ 24) (hfit : c.le 24 8 + c.le 32 4 ≤ rgnUsable a (c.b 16) (c.b 17)) : memArgs c a = none := by
  simp only [memArgs, firstFail, hpres, hvalid, hbusy, hoff, hlen, hmin, hmax, hfit, decide_true, Bool.and_self, Bool.not_false, if_true]

/-- MEM_READ whose lines all read without error. -/
theorem bodyMemRead_clean (hargs : memArgs c a = none) (hbuf : c.outOk (c.le 40 8) (c.le 32 4) = none) (herr : c.bufErr = false)
    {b : List Byte} {t : State} (hread : readFrom 1 (c.b 16) (c.b 17) (c.le 24 8) (c.le 32 4) a = ((0, 0, b), t)) :
    bodyMemRead c a = .done sOk (zeros 8) (c.output (c.le 40 8) b t) := by
  simp only [bodyMemRead, hargs, hbuf, herr, hread, ne_eq, not_true_eq_false, Bool.false_eq_true, if_false]
  rfl

/-- MEM_WRITE whose lines all take their bytes. -/
theorem bodyMemWrite_clean (hargs : memArgs c a = none) {b : List Byte} {n : Nat} {t : State}
    (hin : c.input a (c.le 40 8) (c.le 32 4) = .ok b)
    (hwrite : writeFrom 1 (c.b 16) (c.b 17) (c.le 24 8) b a = ((0, 0, n), t)) :
    bodyMemWrite c a = .done sOk (zeros 8 ++ leBytes 4 n) t := by
  simp only [bodyMemWrite, hargs, hin, hwrite]
  rfl

end

/-- Settles O8: both commands pass their checks, and their bodies answer what the accesses return. -/
theorem memoryAccessCommandsComplete : Obligations.MemoryAccessCommandsComplete := by
  unfold Obligations.MemoryAccessCommandsComplete
  rintro c s a h r rfl rfl hpres hvalid hbusy hoff hlen hmin hmax hfit
  have hargs := memArgs_none hpres hvalid hbusy hoff hlen hmin hmax hfit
  refine ⟨?read, ?write⟩
  case read =>
    rintro rfl hpass hbuf herr b t hread
    exact congrArg Host.Outcome.next (runCmd_long_ok hpass rfl (bodyMemRead_clean hargs hbuf herr hread))
  case write =>
    rintro rfl hpass b n t hin hwrite
    exact congrArg Host.Outcome.next (runCmd_long_ok hpass rfl (bodyMemWrite_clean hargs hin hwrite))

end Sys2Proof.Proofs
end

section
/-! PROOFS. Reports and sessions (R552 to R556): ATTEST, KEY_SESSION and the expiry of a session. -/

namespace Sys2Proof.Proofs

open Sys2Proof Sys2Proof.Machine Sys2Proof.Laws

section

variable {c : Call} {a : State}

/-- ATTEST with room for a report answers the one signed now. -/
theorem bodyAttest_room (hlen : 4096 ≤ c.le 56 4) (hout : c.outOk (c.le 48 8) (c.le 56 4) = none) {b : List Byte} {t : State}
    (hsign : signReport c.fn (c.bytes 16 32) none a = (b, t)) :
    bodyAttest c a = .done sOk (leBytes 4 b.length ++ leBytes 4 t.trust.reports) (c.output (c.le 48 8) b t) := by
  simp only [bodyAttest, hlen.not_gt, if_false, hout, hsign]

/-- A report counts itself. -/
theorem signReport_reports {f : Nat} {nonce b : List Byte} {x : Option (Nat × Nat × List Byte)} {t : State}
    (hsign : signReport f nonce x a = (b, t)) : t.trust.reports = a.trust.reports + 1 := by
  obtain ⟨-, rfl⟩ := Prod.mk.inj hsign
  rfl

/-- KEY_SESSION with room for a report: the session takes the next SID and the next draw, and its report carries the point. -/
theorem bodyKeySession_room (hlen : 4096 ≤ c.le 56 4) (hout : c.outOk (c.le 48 8) (c.le 56 4) = none) {x : SessRt} {t u : State}
    (hx : x = { sid := a.trust.sids + 1, nonce := c.bytes 16 32, gen := genOf a (holderIdx c), tenant := tenantH a (holderIdx c),
                scalar := privKey (beNat (Config.random a.freeCtr)) })
    (ht : t = refreshHolder (holderIdx c) (setSession (holderIdx c) (some x) (setTrust { a.trust with sids := a.trust.sids + 1 } a.bump)))
    {b : List Byte} (hsign : signReport c.fn (c.bytes 16 32) (some (x.sid, c.part.toNat, Config.pubPoint x.scalar)) t = (b, u)) :
    bodyKeySession c a = .done sOk (leBytes 4 x.sid ++ leBytes 4 b.length) (c.output (c.le 48 8) b u) := by
  subst hx ht
  simp only [bodyKeySession, hlen.not_gt, if_false, hout, hsign]

end

/-- Settles O11: the bodies sign the report the statement names, and a holder's session closes as it expires. -/
theorem reportsAndSessionsComplete : Obligations.ReportsAndSessionsComplete := by
  unfold Obligations.ReportsAndSessionsComplete
  refine ⟨fun c s a hlen hout => ⟨?attest, ?session⟩, fun h s hlt => ?expiry⟩
  case attest =>
    rintro rfl hpass b t hsign
    exact ⟨signReport_reports hsign,
      congrArg Host.Outcome.next (runCmd_long_ok hpass rfl (bodyAttest_room hlen hout hsign))⟩
  case session =>
    rintro rfl hpass h d x t rfl rfl rfl ht b u hsign
    exact congrArg Host.Outcome.next (runCmd_long_ok hpass rfl (bodyKeySession_room hlen hout rfl ht hsign))
  case expiry =>
    show execSessionExpiry h s = _
    simp only [execSessionExpiry, hlt, decide_true, Bool.not_true, Bool.false_eq_true, if_false]

end Sys2Proof.Proofs
end

section
/-! PROOFS. The keys of a holder (R557 to R560): KEY_INSTALL, KEY_COMMIT, KEY_DISCARD and KEY_DELETE. -/

namespace Sys2Proof.Proofs

open Sys2Proof Sys2Proof.Machine Sys2Proof.Laws

section

variable {c : Call} {s a : State} {h : Nat}

/-- A LONG command whose body ends at once, or fails, as `P` says. -/
theorem runCmd_long_ite_fail {op caller body res st res' e e'} {P : Prop} [Decidable P] (hpass : PassesLong op caller c s)
    (hl : isLong op = true) (hb : body c (accepted op c s) = if P then .done sOk res e else .fail st res' e') :
    runCmd op caller body c s = if P then replied op c res e else finish c op st res' e' := by
  split at hb <;> rename_i hP
  · rw [if_pos hP]; exact runCmd_long_ok hpass hl hb
  · rw [if_neg hP]; exact runCmd_long_fail hpass hl hb

/-- A LONG command whose body begins, or fails, as `P` says. -/
theorem runCmd_long_ite_begins {op caller body o st res' e e'} {P : Prop} [Decidable P] (hpass : PassesLong op caller c s)
    (hl : isLong op = true) (hb : body c (accepted op c s) = if P then .long o e else .fail st res' e') :
    runCmd op caller body c s = if P then running op c o e else finish c op st res' e' := by
  split at hb <;> rename_i hP
  · rw [if_pos hP]; exact runCmd_long hpass hl hb
  · rw [if_neg hP]; exact runCmd_long_fail hpass hl hb

/-- KEY_INSTALL of a well-formed message of the open session, with types its holder may install: the session closes, and either
every key unwraps and the staging area is replaced, or the command ends with E_AUTH (R557, R558). -/
theorem bodyKeyInstall_wellFormed {b : List Byte} {es ks} {x : SessRt} {t : State}
    (hin : c.input a (c.le 16 8) (c.le 24 4) = .ok b)
    (hes : es = (List.range (byteAt b 9)).map (fun i => (b.drop (128 + 48 * i)).take 48))
    (hlen : c.le 24 4 = 128 + 48 * byteAt b 9) (hpos : 1 ≤ byteAt b 9) (hmax : byteAt b 9 ≤ 8) (hpart : byteAt b 8 = c.part.toNat)
    (hmagic : b.take 4 = [0x53, 0x58, 0x4B, 0x4D]) (hres : (b.drop 10).take 6 = zeros 6) (hrest : (b.drop 113).take 15 = zeros 15)
    (hok : es.all entryOk = true) (hsess : sessMatch a (holderIdx c) (leAt b 4 4) = some x) (ht : t = closeSession (holderIdx c) a)
    (htypes : ∀ e ∈ es, typeBad t (holderIdx c) (byteAt e 0) = none)
    (hks : ks = es.map (fun e => (byteAt e 0, byteAt e 1,
      keyUnwrap (kekOf x (holderIdx c) ((b.drop 16).take 97) (byteAt e 0) (byteAt e 1)) (e.drop 8)))) :
    bodyKeyInstall c a =
      if Config.pointOk ((b.drop 16).take 97) && ks.all (fun k => k.2.2.isSome) then
        .done sOk [] (refreshHolder (holderIdx c)
          (setKeys (holderIdx c) { keySlots t (holderIdx c) with staged := ks.map (fun k => (k.1, k.2.1, k.2.2.getD [])) } t))
      else .fail sAuth [] t := by
  have hnone : es.findSome? (fun e => typeBad t (holderIdx c) (byteAt e 0)) = none := List.findSome?_eq_none_iff.2 htypes
  have hany : ks.any (fun k => k.2.2.isNone) = !ks.all (fun k => k.2.2.isSome) := by
    simp only [List.not_all_eq_any_not, Option.not_isSome]
  subst ht
  simp only [bodyKeyInstall, hin]
  simp only [← hes, hlen, hpart, hmagic, hres, hrest, hok, hsess, hnone, ← hks, hany, hmax.not_gt,
    Nat.ne_of_gt hpos, ne_eq, not_true_eq_false, decide_false, Bool.not_true, Bool.or_self, Bool.false_eq_true, if_false, CmdRes.no,
    ← Bool.not_and]
  cases Config.pointOk ((b.drop 16).take 97) && ks.all (fun k => k.2.2.isSome) <;> rfl

/-- KEY_COMMIT of staged keys none of whose versions is live, with room for the memory keys among them (R559). -/
theorem bodyKeyCommit_fits (hheld : ¬ (holderIdx c < 8 ∧ partState s (holderIdx c) = 2)) (hstaged : (keySlots s (holderIdx c)).staged ≠ [])
    (hfresh : ∀ x ∈ (keySlots s (holderIdx c)).staged, x.1 = 1 → memLive (keySlots s (holderIdx c)) x.2.1 = false)
    (hroom : (keySlots s (holderIdx c)).mem.length +
      (((keySlots s (holderIdx c)).staged.filter (fun x => decide (x.1 = 1))).map (fun x => x.2.1)).eraseDups.length ≤ 4) {e : State}
    (he : e = refreshHolder (holderIdx c) (setKeys (holderIdx c)
      { (keySlots s (holderIdx c)).staged.foldl (fun k x => commitOne x k) (keySlots s (holderIdx c)) with staged := [] } s)) :
    bodyKeyCommit c s = .done sOk []
      (if (keySlots s (holderIdx c)).staged.any (fun x => decide (x.1 = 2)) then newLinkKey (holderIdx c) e else e) := by
  have hnotLive : ((((keySlots s (holderIdx c)).staged.filter (fun x => decide (x.1 = 1))).map (fun x => x.2.1)).eraseDups).any
      (memLive (keySlots s (holderIdx c))) = false := by
    refine List.any_eq_false.2 fun v hv => Bool.eq_false_iff.1 ?_
    obtain ⟨x, hx, rfl⟩ := List.mem_map.1 (List.mem_eraseDups.1 hv)
    obtain ⟨hmem, htype⟩ := List.mem_filter.1 hx
    exact hfresh x hmem (of_decide_eq_true htype)
  have hstate : (decide (holderIdx c < 8) && decide (partState s (holderIdx c) = 2)) = false := by
    rw [← Bool.decide_and, decide_eq_false hheld]
  subst he
  simp only [bodyKeyCommit, hstate, decide_eq_false hstaged, hnotLive, hroom.not_gt, Bool.or_self, Bool.false_eq_true, if_false]

/-- KEY_DELETE of a live version that no region of the half-stack and no rekey sweep of it uses (R560). -/
theorem bodyKeyDelete_unused (hlive : memLive (keySlots s c.part.toNat) (c.b 16) = true) (hused : verUsed s c.part.toNat (c.b 16) = false) :
    bodyKeyDelete c s = .done sOk [] (refreshKeys c.part.toNat (setKeys c.part.toNat { keySlots s c.part.toNat with
      mem := (keySlots s c.part.toNat).mem.filter (fun m => decide (m.2.1 ≠ c.b 16)) } s)) := by
  simp only [bodyKeyDelete, hlive, hused, Bool.not_true, Bool.false_eq_true, if_false]

end

/-- Settles O12: each command passes its own checks, and KEY_INSTALL follows what its keys unwrap to. -/
theorem keyCommandsComplete : Obligations.KeyCommandsComplete := by
  unfold Obligations.KeyCommandsComplete
  rintro c s a h rfl
  refine ⟨?install, ?commit, ?discard, ?delete⟩
  case install =>
    rintro rfl hpass b n es ks x t hin rfl hes hlen hpos hmax hpart hmagic hres hrest hok hsess ht htypes hks
    exact congrArg Host.Outcome.next (runCmd_long_ite_fail hpass rfl (bodyKeyInstall_wellFormed hin hes hlen hpos hmax hpart hmagic hres
      hrest hok hsess ht htypes hks))
  case commit =>
    rintro hpass hheld hstaged hfresh hroom e he
    exact congrArg Host.Outcome.next (runCmd_ok hpass rfl (bodyKeyCommit_fits hheld hstaged hfresh hroom he))
  case discard => exact fun hpass => congrArg Host.Outcome.next (runCmd_ok hpass rfl rfl)
  case delete =>
    exact fun hpass hlive hused => congrArg Host.Outcome.next (runCmd_ok hpass rfl (bodyKeyDelete_unused hlive hused))

end Sys2Proof.Proofs
end

section
/-! PROOFS. The trust record (R562, R563, R567, R569, R570): enrolment, removal and the end of an update. -/

namespace Sys2Proof.Proofs

open Sys2Proof Sys2Proof.Machine Sys2Proof.Laws

section

variable {c : Call} {a : State}

/-- The branches of a negated test, in the order of the test. -/
theorem ite_bnot {α : Type} (b : Bool) (x y : α) : (if !b then x else y) = if b then y else x := by
  cases b <;> rfl

/-- An update begins where none runs, the OTP has increments left and the flash works (R567). -/
theorem startUpdate_free (hbusy : recBusy a = false) (hleft : recLeft a.trust ≠ 0) (hflash : a.trust.flashOk = true) (r : RecRt) (n : Nat) :
    startUpdate r n a = .long { c := n, data := recordOf a (a.trust.recOtp + 1) r } (a.setBit aTruStat 31 true) := by
  simp only [startUpdate, hbusy, hleft, hflash, decide_false, Bool.not_true, Bool.or_self, Bool.false_eq_true, if_false]

/-- SET_ENROL of a well-formed message of the operator's session, for a set that is not enrolled, with room for it: the session
closes, and either the owner's signature and the set's key hold and the update begins, or the command ends with E_AUTH (R562). -/
theorem bodySetEnrol_new {b e : List Byte} {x : SessRt} {t : State} {key : Option (List Byte)}
    (hin : c.input a (c.le 16 8) (c.le 24 4) = .ok b) (hlen : c.le 24 4 = 384)
    (hres1 : (b.drop 25).take 7 = zeros 7) (hres2 : (b.drop 129).take 7 = zeros 7) (hres3 : (b.drop 281).take 7 = zeros 7)
    (he : e = (b.drop 136).take 48) (htype : byteAt e 0 = 5) (hok : entryOk e = true)
    (hsess : sessMatch a 8 (leAt b 0 4) = some x) (ht : t = closeSession 8 a)
    (hkey : key = keyUnwrap (kekOf x 8 ((b.drop 32).take 97) 5 0) (e.drop 8)) (hmember : byteAt b 24 < 64)
    (hnew : ∀ y ∈ t.trust.entries.sets, y.id ≠ (b.drop 4).take 16) (hroom : t.trust.entries.sets.length < 8)
    (hbusy : recBusy t = false) (hleft : recLeft t.trust ≠ 0) (hflash : t.trust.flashOk = true) :
    bodySetEnrol c a =
      if Config.ecdsaVerify ((b.drop 184).take 97) (Config.sha384 ((b.drop 4).take 21 ++ ident t ++ x.nonce ++ e.drop 8))
            ((b.drop 288).take 48) ((b.drop 336).take 48) && Config.pointOk ((b.drop 32).take 97) && key.isSome then
        .long { c := byteAt b 24, data := recordOf t (t.trust.recOtp + 1) { t.trust.entries with
          sets := t.trust.entries.sets ++ [{ id := (b.drop 4).take 16, gen := leAt b 20 4, member := byteAt b 24,
                                             owner := (b.drop 184).take 97, wrapped := keyWrap (kSeal t) (key.getD []) }] } }
          (t.setBit aTruStat 31 true)
      else .fail sAuth [] t := by
  have hfind : t.trust.entries.sets.find? (fun y => decide (y.id = (b.drop 4).take 16)) = none :=
    List.find?_eq_none.2 fun y hy => by rw [decide_eq_false (hnew y hy)]; exact Bool.false_ne_true
  have hany : t.trust.entries.sets.any (fun y => decide (y.id = (b.drop 4).take 16)) = false :=
    List.any_eq_false.2 fun y hy => by rw [decide_eq_false (hnew y hy)]; exact Bool.false_ne_true
  simp only [bodySetEnrol, hin]
  simp only [← he, hlen, hres1, hres2, hres3, htype, hok, hsess, ← ht, ← hkey, hmember.not_ge, hfind, hroom.not_ge, bodySetEnrol.go, hany,
    startUpdate_free hbusy hleft hflash, ne_eq, not_true_eq_false, decide_false, Bool.not_true, Bool.or_self, Bool.false_eq_true,
    if_false, CmdRes.no, ← Option.not_isSome, ← Bool.not_and, ite_bnot]

/-- SET_LEAVE of an enrolled set (R563). -/
theorem bodySetLeave_enrolled (hbusy : recBusy a = false) (hleft : recLeft a.trust ≠ 0) (hflash : a.trust.flashOk = true)
    (hset : ∃ y ∈ a.trust.entries.sets, y.id = c.bytes 16 16) :
    bodySetLeave c a = .long { data := recordOf a (a.trust.recOtp + 1) { a.trust.entries with
      sets := a.trust.entries.sets.filter (fun y => decide (y.id ≠ c.bytes 16 16)) } } (a.setBit aTruStat 31 true) := by
  have hany : a.trust.entries.sets.any (fun y => decide (y.id = c.bytes 16 16)) = true := by
    simpa only [List.any_eq_true, decide_eq_true_eq] using hset
  simp only [bodySetLeave, hany, startUpdate_free hbusy hleft hflash, Bool.not_true, Bool.false_eq_true, if_false]

/-- A point of 97 bytes that its table lacks joins it (R570). -/
theorem enrolKey_new (hbusy : recBusy a = false) (hleft : recLeft a.trust ≠ 0) (hflash : a.trust.flashOk = true) {b : List Byte}
    (hin : c.input a (c.le 16 8) (c.le 24 4) = .ok b) (hlen : c.le 24 4 = 97) {l : List (List Byte)} {n : Nat} (hnew : b ∉ l)
    (hroom : l.length < n) (upd : List (List Byte) → RecRt) :
    enrolKey c a l n upd = if Config.pointOk b then
        .long { data := recordOf a (a.trust.recOtp + 1) (upd (l ++ [b])) } (a.setBit aTruStat 31 true)
      else .fail sParam [] a := by
  have hcontains : l.contains b = false := by rwa [← Bool.not_eq_true, List.contains_iff_mem]
  simp only [enrolKey, hin]
  simp only [hlen, hcontains, hroom.not_ge, startUpdate_free hbusy hleft hflash, ne_eq, not_true_eq_false, decide_false, Bool.false_or,
    Bool.or_false, if_false, CmdRes.no, ite_bnot]

/-- A key with the digest of the operands leaves its table (R570). -/
theorem revokeKey_free (hbusy : recBusy a = false) (hleft : recLeft a.trust ≠ 0) (hflash : a.trust.flashOk = true)
    (l : List (List Byte)) (upd : List (List Byte) → RecRt) :
    revokeKey c a l upd = if l.any (fun k => decide (Config.sha384 k = c.bytes 16 48)) then
        .long { data := recordOf a (a.trust.recOtp + 1) (upd (l.filter (fun k => decide (Config.sha384 k ≠ c.bytes 16 48)))) }
          (a.setBit aTruStat 31 true)
      else .fail sParam [] a := by
  simp only [revokeKey, startUpdate_free hbusy hleft hflash, CmdRes.no, ite_bnot]

end

/-- Settles O13: every enrolment or removal that passes starts one update, whose end activates its record or leaves the OTP. -/
theorem trustRecordCommandsComplete : Obligations.TrustRecordCommandsComplete := by
  unfold Obligations.TrustRecordCommandsComplete
  refine ⟨fun c s a hbusy hleft hflash => ⟨?enrol, ?leave, fun b hin hlen => ⟨?tool, ?debug⟩, ?toolOut, ?debugOut⟩,
    fun i o s ho => ⟨?verified, ?failed⟩⟩
  case enrol =>
    rintro rfl hpass b e x t key hin hlen hres1 hres2 hres3 he htype hok hsess ht hkey hmember hnew hroom htbusy htleft htflash
    exact congrArg Host.Outcome.next (runCmd_long_ite_begins hpass rfl (bodySetEnrol_new hin hlen hres1 hres2 hres3 he htype hok hsess
      ht hkey hmember hnew hroom htbusy htleft htflash))
  case leave =>
    rintro rfl hpass hset
    exact congrArg Host.Outcome.next (runCmd_long hpass rfl (bodySetLeave_enrolled hbusy hleft hflash hset))
  case tool =>
    rintro rfl hpass hnew hroom
    exact congrArg Host.Outcome.next (runCmd_long_ite_begins hpass rfl (enrolKey_new hbusy hleft hflash hin hlen hnew hroom _))
  case debug =>
    rintro rfl hpass hnew hroom
    exact congrArg Host.Outcome.next (runCmd_long_ite_begins hpass rfl (enrolKey_new hbusy hleft hflash hin hlen hnew hroom _))
  case toolOut =>
    rintro rfl hpass
    exact congrArg Host.Outcome.next (runCmd_long_ite_begins hpass rfl (revokeKey_free hbusy hleft hflash _ _))
  case debugOut =>
    rintro rfl hpass
    exact congrArg Host.Outcome.next (runCmd_long_ite_begins hpass rfl (revokeKey_free hbusy hleft hflash _ _))
  case verified =>
    rintro t rfl
    show execRecordUpdateDone i true s = _
    simp only [execRecordUpdateDone, ho, if_true]
    rfl
  case failed =>
    show execRecordUpdateDone i false s = _
    simp only [execRecordUpdateDone, ho, Bool.false_eq_true, if_false]
    rfl

end Sys2Proof.Proofs
end

section
/-! PROOFS. Debug authorisation (R571, R572): nonces and tokens. -/

namespace Sys2Proof.Proofs

open Sys2Proof Sys2Proof.Machine Sys2Proof.Laws

section

variable {c : Call} {s a : State}

/-- DBG_NONCE with a buffer for it draws and keeps a nonce (R571). -/
theorem bodyDbgNonce_buffer (hout : c.outOk (c.le 24 8) 32 = none) :
    bodyDbgNonce c s = .done sOk [] (c.output (c.le 24 8) (padTo 32 (Config.random s.freeCtr))
      (setTrust { s.trust with nonce := some (padTo 32 (Config.random s.freeCtr)) } s.bump)) := by
  simp only [bodyDbgNonce, hout]

/-- What an admission leaves in the trust state (R572). -/
theorem admitToken_trust (b : List Byte) (s : State) : (admitToken b s).2.trust = { s.trust with
    token := some ((admitToken b s).1, leAt b 6 2, leAt b 88 4), admitted := (admitToken b s).1, lastDigest := Config.sha384 b,
    lastKey := (b.drop 92).take 48 } := rfl

/-- DBG_ADMIT of a token of the right layout consumes the nonce, and admits the token when its checks pass (R571, R572). -/
theorem bodyDbgAdmit_layout {b : List Byte} (hin : c.input a (c.le 16 8) (c.le 24 4) = .ok b) (hlen : c.le 24 4 = 240)
    (hmagic : b.take 6 = [0x53, 0x58, 0x44, 0x54, 1, 0]) (hscope : leAt b 6 2 < 4) (hmin : 1 ≤ leAt b 88 4)
    (hmax : leAt b 88 4 ≤ 86400) (hres : (b.drop 140).take 4 = zeros 4) :
    bodyDbgAdmit c a = match tokenBad b a with
      | some e => .fail e [] (setTrust { a.trust with nonce := none } a)
      | none => .done sOk (leBytes 2 (admitToken b (setTrust { a.trust with nonce := none } a)).1)
          (admitToken b (setTrust { a.trust with nonce := none } a)).2 := by
  simp only [bodyDbgAdmit, hin]
  simp only [hlen, hmagic, hscope.not_ge, Nat.ne_of_gt hmin, hmax.not_gt, hres, ne_eq, not_true_eq_false, decide_false, Bool.or_self,
    Bool.false_eq_true, if_false] <;> rfl

/-- DBG_END of an active token (R572). -/
theorem bodyDbgEnd_active (htoken : s.trust.token ≠ none) : bodyDbgEnd c s = .done sOk [] (endToken s) := by
  simp only [bodyDbgEnd, Option.isNone_eq_false_iff.2 (Option.isSome_iff_ne_none.2 htoken), Bool.false_eq_true, if_false]

end

/-- Settles O14: DBG_ADMIT follows the checks of the token, the other rows have one answer each. -/
theorem debugTokensComplete : Obligations.DebugTokensComplete := by
  unfold Obligations.DebugTokensComplete
  refine ⟨fun c s a => ⟨?nonce, ?token, ?finish⟩, fun s => ⟨?expiry, rfl⟩⟩
  case nonce =>
    rintro hpass hout n rfl
    exact congrArg Host.Outcome.next (runCmd_ok hpass rfl (bodyDbgNonce_buffer hout))
  case token =>
    rintro rfl hpass b t hin hlen hmagic hscope hmin hmax hres rfl
    refine ⟨?_, ?_, rfl, congrArg Host.Outcome.next ?_⟩
    · rw [admitToken_trust]; rfl
    · rw [admitToken_trust]
    · have hbody := bodyDbgAdmit_layout hin hlen hmagic hscope hmin hmax hres
      cases hbad : tokenBad b (accepted 0x87 c s) <;> rw [hbad] at hbody
      case none => exact runCmd_long_ok hpass rfl hbody
      case some e => exact runCmd_long_fail hpass rfl hbody
  case finish => exact fun hpass htoken => congrArg Host.Outcome.next (runCmd_ok hpass rfl (bodyDbgEnd_active htoken))
  case expiry =>
    intro htoken
    show execTokenExpiry s = _
    simp only [execTokenExpiry, Option.isNone_eq_false_iff.2 (Option.isSome_iff_ne_none.2 htoken), Bool.false_eq_true, if_false]

end Sys2Proof.Proofs
end

section
/-! PROOFS. Weight packages (R564, R565). -/

namespace Sys2Proof.Proofs

open Sys2Proof Sys2Proof.Machine Sys2Proof.Laws

section

variable {c : Call} {s a t : State}

/-- What WEIGHT_UNWRAP answers for a header that reads without an error: the extents, the tenant and the content key in turn. -/
theorem bodyWeightUnwrap_header {hd : List Byte} (hsrcPos : 1 ≤ c.b 16) (hsrcMax : c.b 16 ≤ 14) (hdstPos : 1 ≤ c.b 17)
    (hdstMax : c.b 17 ≤ 14) (hne : c.b 16 ≠ c.b 17) (hsrc : rgnValid a c.part.toNat (c.b 16) = true)
    (hdst : rgnValid a c.part.toNat (c.b 17) = true) (hoff : c.le 32 8 % 128 = 0)
    (hfit : c.le 24 8 + 128 ≤ rgnUsable a c.part.toNat (c.b 16)) (hsrcFree : rgnBusy a c.part.toNat (c.b 16) = false)
    (hdstFree : rgnBusy a c.part.toNat (c.b 17) = false)
    (hread : readFrom 1 c.part.toNat (c.b 16) (c.le 24 8) 128 a = ((0, 0, hd), t)) :
    bodyWeightUnwrap c a =
      if packageOk hd ∧ c.le 24 8 + packageLen (leAt hd 40 8) ≤ rgnUsable a c.part.toNat (c.b 16) ∧
          c.le 32 8 + (leAt hd 40 8 + 127) / 128 * 128 ≤ rgnUsable a c.part.toNat (c.b 17) then
        if leAt hd 6 2 = 0 ∨ leAt hd 6 2 = tenantOf a c.part.toNat then
          match packageKey a hd with
          | none => .fail sAuth [] a
          | some k => .long { a := c.part.toNat, data := padTo 32 k ++ hd } a
        else .fail sPerm [] a
      else .fail sParam [] a := by
  have hfits : (!packageOk hd || decide (rgnUsable a c.part.toNat (c.b 16) < c.le 24 8 + packageLen (leAt hd 40 8)) ||
      decide (rgnUsable a c.part.toNat (c.b 17) < c.le 32 8 + (leAt hd 40 8 + 127) / 128 * 128)) =
      !decide (packageOk hd ∧ c.le 24 8 + packageLen (leAt hd 40 8) ≤ rgnUsable a c.part.toNat (c.b 16) ∧
        c.le 32 8 + (leAt hd 40 8 + 127) / 128 * 128 ≤ rgnUsable a c.part.toNat (c.b 17)) := by
    simp only [Bool.decide_and, Bool.not_and, Bool.decide_eq_true, ← decide_not, Nat.not_le, Bool.or_assoc]
  simp only [bodyWeightUnwrap, hsrcPos, hsrcMax, hdstPos, hdstMax, hne, hsrc, hdst, hoff, hfit.not_gt, hsrcFree, hdstFree, hread, ne_eq,
    not_true_eq_false, decide_true, decide_false, Bool.and_self, Bool.not_true, Bool.or_self, Bool.false_eq_true, if_false, CmdRes.no]
  rw [hfits, ite_bnot]
  simp only [decide_eq_true_eq, ← not_or, ite_not] <;> rfl

/-- The end of a package of one chunk follows what the chunk opens to and what its write answers (R565). -/
theorem execWeightUnwrapDone_one {i plen full : Nat} {o : Outst} {x : Option (List Byte) × State} (ho : outstAt s i [0x49] = some o)
    (hplen : plen = leAt (o.data.drop 32) 40 8) (hpos : 1 ≤ plen) (hmax : plen ≤ 2 ^ 20) (hfull : full = (plen + 127) / 128 * 128)
    (hx : x = openChunk o.a (o.call.b 16) (o.call.le 24 8) (o.data.take 32) (o.data.drop 32) 0 1 plen s) :
    execWeightUnwrapDone i s = .next (match x.1 with
      | none => finishO o sIntegrity (zeros 12) (writeFrom 1 o.a (o.call.b 17) (o.call.le 32 8) (zeros full) x.2).2
      | some b =>
        let w := writeFrom 1 o.a (o.call.b 17) (o.call.le 32 8) (padTo full b) x.2
        if w.1.1 = 0 ∨ w.1.1 = 6 then finishO o sOk (leBytes 8 plen ++ leBytes 4 1) w.2
        else finishO o sIntegrity (zeros 12) w.2) := by
  have hzeros : leBytes 8 0 ++ leBytes 4 0 = zeros 12 := by decide
  have hone : (plen + 2 ^ 20 - 1) / 2 ^ 20 = 1 := by omega
  simp only [execWeightUnwrapDone, ho, ← hplen, hone, List.range_one, List.foldl_cons, List.foldl_nil, ← hx, Bool.false_eq_true, if_false,
    Nat.mul_zero, Nat.add_zero, Nat.sub_zero, Nat.min_eq_right hmax, ← hfull]
  obtain ⟨opened, u⟩ := x
  cases opened with
  | none => simp only [hzeros, if_true]
  | some b =>
    simp only [ne_eq, ← not_or, ite_not]
    split
    · simp only [Bool.false_eq_true, if_false, Nat.zero_add]
    · simp only [hzeros, if_true]

end

/-- Settles O15: WEIGHT_UNWRAP answers the first check that fails, and the end of one chunk what its tag says. -/
theorem weightPackagesComplete : Obligations.WeightPackagesComplete := by
  unfold Obligations.WeightPackagesComplete
  refine ⟨?unwrap, fun i o s x plen full ho hplen hpos hmax hfull hx => execWeightUnwrapDone_one ho hplen hpos hmax hfull hx⟩
  rintro c s a t p hd rfl rfl hpass hsrcPos hsrcMax hdstPos hdstMax hne hsrc hdst hoff hfit hsrcFree hdstFree hread
  have hbody := bodyWeightUnwrap_header hsrcPos hsrcMax hdstPos hdstMax hne hsrc hdst hoff hfit hsrcFree hdstFree hread
  refine congrArg Host.Outcome.next (?_ : runCmd 0x49 callV bodyWeightUnwrap c s = _)
  split at hbody <;> rename_i hfits
  · rw [if_pos hfits]
    split at hbody <;> rename_i htenant
    · rw [if_pos htenant]
      cases hkey : packageKey (accepted 0x49 c s) hd <;> rw [hkey] at hbody
      case none => exact runCmd_long_fail hpass rfl hbody
      case some k => exact runCmd_long hpass rfl hbody
    · rw [if_neg htenant]
      exact runCmd_long_fail hpass rfl hbody
  · rw [if_neg hfits]
    exact runCmd_long_fail hpass rfl hbody

end Sys2Proof.Proofs
end

section
/-! PROOFS. Accesses to registers (R253, R634, R648, R651, R652): REG_READ, REG_WRITE, BAR0 writes and latching reads. -/

namespace Sys2Proof.Proofs

open Sys2Proof Sys2Proof.Machine Sys2Proof.Laws

section

variable {c : Call} {s t : State}

theorem bodyRegRead_args (hargs : regArgs c 4 = true) :
    bodyRegRead c s = .done sOk (regReads c.fn (c.b 20) (c.le 16 4) s).1 (regReads c.fn (c.b 20) (c.le 16 4) s).2 := by
  simp only [bodyRegRead, hargs, Bool.not_true, Bool.false_eq_true, if_false]

/-- REG_WRITE none of whose writes is refused. -/
theorem bodyRegWrite_unrefused {n : Nat} (hargs : regArgs c 8 = true) (hwrites : regWrites c (c.b 20) 0 s = (n, none, t)) :
    bodyRegWrite c s = .done sOk [bite n] t := by
  simp only [bodyRegWrite, hargs, hwrites, Bool.not_true, Bool.false_eq_true, if_false]

/-- A BAR0 write of 4 or 8 aligned bytes inside an enabled function's BAR0 (R586, R651). -/
theorem execRegisterWrite_aligned {a : Acc} (hfn : a.fn ≤ 8) (hoff : a.off < bar0Size a.fn) (hen : fnEnabled s a.fn = true)
    (hwidth : a.width = 4 ∨ a.width = 8) (haligned : a.off % a.width = 0) {u : State}
    (hu : u = bar0Write a.fn 0 a.off (BitVec.ofNat 32 a.val.toNat) s) :
    execRegisterWrite a s = .next (runMail a.fn s
      (if a.width = 8 then bar0Write a.fn 0 (a.off + 4) (BitVec.ofNat 32 (a.val.toNat / 2 ^ 32)) u else u)) := by
  have hshape : ((decide (a.width = 4) || decide (a.width = 8)) && decide (a.off % a.width = 0)) = true := by
    rw [← Bool.decide_or, decide_eq_true hwidth, decide_eq_true haligned, Bool.and_self]
  simp only [execRegisterWrite, hfn.not_gt, hoff.not_ge, hen, hshape, hu, Bool.not_true, Bool.false_eq_true, if_false]

/-- A read that the tests of R646 and R649 let through. -/
theorem rowRead_shown {f o : Nat} (hfn : f ≤ 8) (hen : fnEnabled s f = true) (hpart : f = 0 ∨ partPresent s (f - 1) = true)
    (hlocal : isLocal o = false) (hfields : regFields o ≠ []) (hpres : regPresent s f o = true) (hsees : vfSees o = true)
    (hreads : f = 0 ∨ vfReads s f o = true) : rowRead f o s = .next ((readLatch o s).emit (.read f o (shown s o))) := by
  have hreach : reaches s f o = true := by
    rcases hpart with rfl | hpart
    · simp only [reaches, hen, decide_true, Bool.true_or, Bool.and_self]
    · simp only [reaches, hen, hpart, hsees, Bool.and_self, Bool.or_true]
  have hmay : (decide (f = 0) || vfReads s f o) = true := by
    rwa [Bool.or_eq_true, decide_eq_true_eq]
  simp only [rowRead, readReg, keyOf_shared hlocal, hfn.not_gt, hen, decide_eq_false hfields, hpres, hreach, hmay, Bool.not_true, Bool.or_self,
    Bool.false_eq_true, if_false]

/-- TOL_NOWL shows the lower half of the Toll and latches the upper (R253). -/
theorem exec_tolNowlRead_shown {f : Nat} (hfn : f ≤ 8) (hen : fnEnabled s f = true) (hpart : f = 0 ∨ partPresent s (f - 1) = true) :
    exec (.tolNowlRead f) s = .next ((setToll { s.toll with latHi := BitVec.ofNat 32 (s.toll.now.toNat / 2 ^ 32) } s).emit
      (.read f aTolNowL (BitVec.ofNat 32 s.toll.now.toNat))) :=
  rowRead_shown hfn hen hpart (by decide) (by decide) rfl (by decide) (.inr rfl)

/-! CLK_p_FCL of each partition, as the tests and the reading of the TOL block take its offset apart. -/

section

variable (s) {p : Nat} (hp : p < 8)

include hp

theorem clkFcL_place : isLocal (aClkFcL p) = false ∧ regFields (aClkFcL p) ≠ [] ∧ vfSees (aClkFcL p) = true := by
  revert p; decide

theorem regPresent_clkFcL (f : Nat) : regPresent s f (aClkFcL p) = partPresent s p := by
  interval_cases p <;> rfl

theorem vfReads_clkFcL {f : Nat} (hown : p = f - 1) : vfReads s f (aClkFcL p) = true := by
  have hrange : (decide (aClkFcL (f - 1) ≤ aClkFcL p) && decide (aClkFcL p < aClkFcL (f - 1) + 0x40)) = true := by
    rw [← hown, decide_eq_true (Nat.le_refl _), decide_eq_true (Nat.lt_add_of_pos_right (by decide)), Bool.and_self]
  have hblock : blockOf (aClkFcL p) = 5 := by interval_cases p <;> rfl
  simp only [vfReads, hblock, hrange, Bool.or_true]

theorem shown_clkFcL : shown s (aClkFcL p) = BitVec.ofNat 32 (fcOf s p).toNat := by
  interval_cases p <;> rfl

theorem readLatch_clkFcL : readLatch (aClkFcL p) s = setPartRt p { partRt s p with
    latFch := BitVec.ofNat 32 ((fcOf s p).toNat / 2 ^ 32), latScl := BitVec.ofNat 32 (scOf s p).toNat,
    latSch := BitVec.ofNat 32 ((scOf s p).toNat / 2 ^ 32) } s := by
  interval_cases p <;> rfl

end

/-- CLK_p_FCL shows the lower half of the frame count of `p` and latches what the three registers after it show (R253). -/
theorem exec_clkFclRead_shown {f p : Nat} (hfn : f ≤ 8) (hen : fnEnabled s f = true) (hpart : f = 0 ∨ partPresent s (f - 1) = true)
    (hp : p < 8) (hpres : partPresent s p = true) (hown : f = 0 ∨ p = f - 1) :
    exec (.clkFclRead f p) s = .next ((setPartRt p { partRt s p with
        latFch := BitVec.ofNat 32 ((fcOf s p).toNat / 2 ^ 32), latScl := BitVec.ofNat 32 (scOf s p).toNat,
        latSch := BitVec.ofNat 32 ((scOf s p).toNat / 2 ^ 32) } s).emit (.read f (aClkFcL p) (BitVec.ofNat 32 (fcOf s p).toNat))) := by
  show guarded "partition" p 8 (rowRead f (aClkFcL p) s) = _
  obtain ⟨hlocal, hfields, hsees⟩ := clkFcL_place hp
  rw [guarded_lt hp, rowRead_shown hfn hen hpart hlocal hfields ((regPresent_clkFcL s hp f).trans hpres) hsees
    (hown.imp_right (vfReads_clkFcL s hp)), shown_clkFcL s hp, readLatch_clkFcL s hp]

end

/-- Settles O23: the commands run their accesses, and each latching read passes the tests of R646 and R649. -/
theorem registerAccessesComplete : Obligations.RegisterAccessesComplete := by
  unfold Obligations.RegisterAccessesComplete
  refine ⟨fun c s hargs hpass => congrArg Host.Outcome.next (runCmd_ok hpass rfl (bodyRegRead_args hargs)),
    fun c s t n hargs hpass hwrites => ?write, fun a s hfn hoff hen => ⟨fun hwidth haligned => ?four, fun hwidth haligned => ?eight⟩,
    fun f s hfn hen hpart => ⟨exec_tolNowlRead_shown hfn hen hpart, fun p => exec_clkFclRead_shown hfn hen hpart⟩⟩
  case write =>
    show Host.Outcome.next (runMail c.fn s (runCmd 0xF1 callA bodyRegWrite c s)) = _
    rw [runCmd_ok hpass rfl (bodyRegWrite_unrefused hargs hwrites)]
  case four =>
    refine (execRegisterWrite_aligned hfn hoff hen (.inl hwidth) (by rwa [hwidth]) rfl).trans ?_
    rw [hwidth, if_neg (by decide)]
  case eight =>
    refine (execRegisterWrite_aligned hfn hoff hen (.inr hwidth) (by rwa [hwidth]) rfl).trans ?_
    rw [if_pos hwidth]

end Sys2Proof.Proofs
end

section
/-! PROOFS. Where commands come from (R592 to R596, R601, R610, R689): ring pairs and the mailbox. -/

namespace Sys2Proof.Proofs

open Sys2Proof Sys2Proof.Machine Sys2Proof.Laws

section

variable {f k : Nat} {d buf : List Byte} {re be : Bool} {s e : State} (hf : f ≤ 8) (hk : k < pairCount f) (htakes : pairTakes s f k = true)

include hf hk htakes

/-- A pair that holds no descriptor reads the next one: it stops on a read error, else it runs the descriptor, or holds it when
FENCE asks and earlier commands are not final (R595, R601). -/
theorem execDescriptorFetch_next (hfree : ∀ c ∈ (fnRt s f).fenced, c.via ≠ .ring k) (hoffered : offered s f k ≠ 0)
    (he : e = s.put (aSqHead f k) 0 12 ((s.rf (aSqHead f k) 0 12 + 1) % 2 ^ s.rf (aRqCtl f k) 16 4)) {c : Call}
    (hc : c = callOf f (.ring k) (padTo 64 d) buf be) :
    execDescriptorFetch f k d re buf be s = .next (
      if re then setFnRt f { fnRt s f with stopped := k :: (fnRt s f).stopped } ((s.setBit (aRqStat f k) 30 true).put (aRqStat f k) 28 2 2)
      else if c.flags.getLsbD 0 && decide (outCount e f k ≠ 0) then setFnRt f { fnRt s f with
          fenced := (fnRt s f).fenced ++ [{ c with param := c.param ++ [bite (byteAt (padTo 64 d) 0)] }] } e
      else runMail f e (runOpcode (byteAt (padTo 64 d) 0) c e)) := by
  subst he hc
  have hnone : (fnRt s f).fenced.find? (fun c => decide (c.via = .ring k)) = none :=
    List.find?_eq_none.2 fun c hc => by rw [decide_eq_false (hfree c hc)]; exact Bool.false_ne_true
  simp only [execDescriptorFetch, hf.not_gt, hk.not_ge, htakes, hnone, hoffered, Bool.not_true, Bool.false_eq_true, if_false]
  split
  · rfl
  · split <;> rfl

/-- The one descriptor that a pair holds runs once its earlier commands are final (R601). -/
theorem execDescriptorFetch_held {c : Call} (hheld : (fnRt s f).fenced = [c]) (hvia : c.via = .ring k) (hout : outCount s f k = 0)
    (he : e = setFnRt f { fnRt s f with fenced := [] } s) :
    execDescriptorFetch f k d re buf be s = .next (runMail f s (runOpcode (fenceOp c) { c with param := c.param.take 48 } e)) := by
  have hfind : (fnRt s f).fenced.find? (fun c => decide (c.via = .ring k)) = some c := by
    rw [hheld, List.find?_cons, decide_eq_true hvia]
  have herase : (fnRt s f).fenced.erase c = [] := by rw [hheld, List.erase_cons_head]
  simp only [execDescriptorFetch, hf.not_gt, hk.not_ge, htakes, hfind, hout, herase, he, ne_eq, not_true_eq_false, Bool.not_true,
    Bool.false_eq_true, if_false]

end

section

variable {w : Wr} {s e : State}

/-- A function's MBX registers have the fields of the block (R647). -/
theorem regFields_mbx (f : Nat) {x : Nat} (hx : x < 0x100000) (haligned : x % 4 = 0) :
    regFields (fnBase f + bMbx + x) = mbxFields x := by
  have hoff : offOf (fnBase f + bMbx + x) = bMbx + x := by unfold offOf fnBase bMbx; omega
  have hblock : blockOf (bMbx + x) = 2 := by
    rw [blockOf, if_neg (by unfold bCmd bMbx; omega), if_neg (by omega), if_pos (by unfold bMbx bFab; omega)]
  have hlocal : ¬ fnBase f + bMbx + x < 0x10000000 := by unfold fnBase; omega
  have hword : ¬ (bMbx + x) % 4 ≠ 0 := by unfold bMbx; omega
  simp only [regFields, hoff, hblock, if_neg hlocal, if_neg hword, Nat.add_sub_cancel_left]

/-- MBX_STAT has BUSY and DONE. -/
theorem definedMask_mbxStat {f i : Nat} (hi : i = 30 ∨ i = 31) : fmask i 1 &&& definedMask (aMbxStat f) = fmask i 1 := by
  have hfields : regFields (aMbxStat f) = mbxFields 4 := regFields_mbx f (by decide) rfl
  rw [definedMask, hfields]
  rcases hi with rfl | rfl <;> decide

/-- GO of an idle mailbox that may take it sets BUSY and clears DONE (R689). -/
theorem writeMbxCtl_idle {f : Nat} {v : Word} (hgo : bit v 31 = true) (hexpert : expertOf s f = true)
    (hidle : s.rbit (aMbxStat f) 31 = false) :
    writeMbxCtl f v s = (s.setBit (aMbxStat f) 31 true).setBit (aMbxStat f) 30 false := by
  simp only [writeMbxCtl, hgo, hexpert, hidle, Bool.not_true, Bool.true_eq_false, Bool.false_eq_true, and_false, if_false]

/-- GO of an idle mailbox sets BUSY, and the request it submits runs (R689). -/
theorem exec_mbxGo_takes (htakes : WriteTakes w.fn bMbx s) (hgo : bit w.val 31 = true) (hphase : s.boot.phase ≠ 4)
    (hexpert : expertOf s w.fn = true) (hidle : s.rbit (aMbxStat w.fn) 31 = false)
    (he : e = (s.setBit (aMbxStat w.fn) 31 true).setBit (aMbxStat w.fn) 30 false) :
    exec (.mbxGo w) s = .next (runOpcode (byteAt (mbxDesc e w.fn) 0) (callOf w.fn .mailbox (mbxDesc e w.fn) [] false) e) := by
  have hwrite : writeReg w.fn 0 bMbx w.val s = e := by
    have hoff : offOf (keyOf w.fn bMbx) = bMbx := offOf_keyOf (by decide)
    rw [writeReg_takes htakes, writeBlock_at 2 (by rw [hoff]; decide)]
    simp only [writeMbx, hoff, Nat.sub_self, if_true, writeMbxCtl_idle hgo hexpert hidle, he]
  have hbusy : mbxBusy e w.fn = true := by
    rw [mbxBusy, he, rbit_setBit_apart _ _ (by decide) (definedMask_mbxStat (.inr rfl)),
      rbit_setBit_same _ _ (by decide) (definedMask_mbxStat (.inr rfl))]
  have hwas : mbxBusy s w.fn = false := hidle
  have hboot : e.boot.phase ≠ 4 := by
    rw [he, State.setBit, State.put, setReg_boot, State.setBit, State.put, setReg_boot]
    exact hphase
  show execMbxGo w s = _
  simp only [execMbxGo, htakes.1.not_gt, hwrite, runMail, hbusy, hwas, hboot, ne_eq, not_false_eq_true, decide_true, Bool.not_false, Bool.and_self, if_true, if_false]

end

/-- Settles O27: a pair that may take a descriptor takes the held or the next one, and GO runs MBX_DESC. -/
theorem commandSourcesComplete : Obligations.CommandSourcesComplete := by
  unfold Obligations.CommandSourcesComplete
  refine ⟨?next, fun f k d buf re be s e c hf hk htakes hheld hvia hout he =>
    execDescriptorFetch_held hf hk htakes hheld hvia hout he, ?mailbox⟩
  case next =>
    intro f k d buf re be s e hf hk htakes hfree hoffered
    refine ⟨?_, ?_⟩
    · rintro rfl
      exact (execDescriptorFetch_next hf hk htakes hfree hoffered rfl rfl).trans (by rw [if_pos rfl])
    · rintro rfl he c hc
      have hfetch := execDescriptorFetch_next (re := false) hf hk htakes hfree hoffered he hc
      rw [if_neg Bool.false_ne_true] at hfetch
      refine ⟨fun hruns => ?_, fun hfence hout => ?_⟩
      · have hrun : ¬ (c.flags.getLsbD 0 && decide (outCount e f k ≠ 0)) = true := by
          rw [Bool.and_eq_true, decide_eq_true_eq]
          exact fun ⟨hfence, hout⟩ => hruns.elim (Bool.eq_false_iff.1 · hfence) hout
        exact hfetch.trans (by rw [if_neg hrun])
      · exact hfetch.trans (by rw [if_pos (by rw [hfence, decide_eq_true hout, Bool.and_self])])
  case mailbox =>
    rintro w s e f rfl htakes hgo hphase hexpert hidle he
    exact exec_mbxGo_takes htakes hgo hphase hexpert hidle he

end Sys2Proof.Proofs
end

section
/-! PROOFS. The BAR2 aperture (R659, R662 to R665). -/

namespace Sys2Proof.Proofs

open Sys2Proof Sys2Proof.Machine Sys2Proof.Laws

/-- The flags of an aperture do not touch expert control. -/
theorem expertOf_b2wFlag {f : Nat} (hf : f ≤ 8) (l : List Nat) (s : State) : expertOf (b2wFlag f l s) f = expertOf s f := by
  have hlow : ∀ k < 0x10000000, (b2wFlag f l s).reg k = s.reg k := fun k hk =>
    forL_keeps (P := fun t : State => t.reg k = s.reg k)
      (fun i t ht => by
        have hne : k ≠ aB2wStat f := by unfold aB2wStat fnBase; omega
        rw [State.setBit, State.put, setReg_reg_ne _ _ hne, ht]) rfl
  have hpart : aPartCtl (f - 1) < 0x10000000 := by unfold aPartCtl bDev; omega
  simp only [expertOf, State.rbit, hlow aCmdExpert (by decide), hlow _ hpart]

section

variable {f addr len : Nat} {data : List Byte} {en : List Bool} {s : State} (hf : f ≤ 8) (hen : fnEnabled s f = true)

include hf hen

/-- A read that passes its tests answers the lines of its window, and flags poison (R662, R663). -/
theorem execBar2Access_readServed (hshape : b2wShape addr len = true) (hres : (b2wTest s f addr len false).res = 3) :
    execBar2Access f addr false len data en s = .next (
      match b2wRead (b2wHs s f (addr / 2 ^ 28)) (b2wRgn s f (addr / 2 ^ 28)) (b2wOffset s f addr) len
        (b2wFlag f (b2wTest s f addr len false).flags s) with
      | (b, bad, t) => (if bad.any id then b2wFlag f [29] t else t).emit (.bar2 f b bad false)) := by
  simp only [execBar2Access, hf.not_gt, hen, hshape, hres, Bool.not_true, Bool.false_eq_true, if_false, if_true]

/-- A read that fails a test answers zeros and sets the flags of the test (R662). -/
theorem execBar2Access_readRefused (hshape : b2wShape addr len = true) (hres : (b2wTest s f addr len false).res ≠ 3) :
    execBar2Access f addr false len data en s =
      .next ((b2wFlag f (b2wTest s f addr len false).flags s).emit (.bar2 f (zeros len) [] false)) := by
  simp only [execBar2Access, hf.not_gt, hen, hshape, hres, Bool.not_true, Bool.false_eq_true, if_false]

/-- A write that passes its tests writes line by line, each counted (R662, R663, R665). -/
theorem execBar2Access_writeServed (hshape : b2wShape addr data.length = true) (hres : (b2wTest s f addr data.length true).res = 3)
    {h r off m : Nat} (hh : h = b2wHs s f (addr / 2 ^ 28)) (hr : r = b2wRgn s f (addr / 2 ^ 28)) (hoff : off = b2wOffset s f addr)
    (hm : m = (off + data.length - 1) / 128 - off / 128 + 1) :
    execBar2Access f addr true len data en s = .next (b2wCount h r m (forN m (fun i t => b2wLine h r off data en (off / 128 + i) t)
      (b2wFlag f (b2wTest s f addr data.length true).flags s))) := by
  subst hh hr hoff hm
  simp only [execBar2Access, hf.not_gt, hen, hshape, hres, Bool.not_true, Bool.false_eq_true, if_false, if_true]

/-- A write that fails a test is dropped, and sets the flags of the test (R662). -/
theorem execBar2Access_writeRefused (hshape : b2wShape addr data.length = true) (hres : (b2wTest s f addr data.length true).res ≠ 3)
    (hexpert : expertOf s f = true) :
    execBar2Access f addr true len data en s = .next (b2wFlag f (b2wTest s f addr data.length true).flags s) := by
  simp only [execBar2Access, hf.not_gt, hen, hshape, hres, expertOf_b2wFlag hf, hexpert, Bool.not_true, Bool.and_false, Bool.false_eq_true,
    if_false, if_true]

/-- A read that is not served in time is answered by a timeout (R664). -/
theorem execBar2ReadTimeout_passed (hshape : b2wShape addr 1 = true) (hres : (b2wTest s f addr 1 false).res = 3) :
    execBar2ReadTimeout f addr s = .next ((b2wFlag f [28] s).emit (.bar2 f [] [] true)) := by
  simp only [execBar2ReadTimeout, hf.not_gt, hen, hshape, hres, decide_true, Bool.and_self, Bool.not_true, Bool.false_eq_true, if_false,
    if_true]

end

/-- Settles O28: an access is answered by what its tests say. -/
theorem apertureAccessesComplete : Obligations.ApertureAccessesComplete := by
  unfold Obligations.ApertureAccessesComplete
  rintro f addr len data en s hf hen k h r off rfl hh hr hoff
  refine ⟨fun hshape hres => ?_, execBar2Access_readRefused hf hen,
    fun hshape hres m hm => execBar2Access_writeServed hf hen hshape hres hh hr hoff hm, execBar2Access_writeRefused hf hen,
    execBar2ReadTimeout_passed hf hen⟩
  subst hh hr hoff
  exact execBar2Access_readServed hf hen hshape hres

end Sys2Proof.Proofs
end

section
/-! PROOFS. PCIe configuration of the functions (R584, R588, R607 to R610, R676, R709). -/

namespace Sys2Proof.Proofs

open Sys2Proof Sys2Proof.Machine Sys2Proof.Laws

/-! ### What a PCIe reset of a function keeps -/

/-- What leads from `s` to `t` touches neither memory, fabric, slip domains nor partitions, nor whether configuration requests are
answered. -/
structure PcieOnly (s t : State) : Prop where
  mem : t.mem = s.mem
  fab : t.fab = s.fab
  doms : t.doms = s.doms
  parts : t.parts = s.parts
  ready : t.host.cfgReady = s.host.cfgReady

theorem PcieOnly.refl (s : State) : PcieOnly s s := ⟨rfl, rfl, rfl, rfl, rfl⟩

theorem PcieOnly.trans {s t u : State} (h : PcieOnly s t) (h' : PcieOnly t u) : PcieOnly s u :=
  ⟨h'.mem.trans h.mem, h'.fab.trans h.fab, h'.doms.trans h.doms, h'.parts.trans h.parts, h'.ready.trans h.ready⟩

theorem ReplyOnly.pcieOnly {s t : State} (h : ReplyOnly s t) : PcieOnly s t := by
  obtain ⟨⟨_, _, _, _, _, hshape⟩, -, hready, -, -⟩ := h
  constructor
  case ready => exact hready
  all_goals rw [hshape]

theorem pcieOnly_setFnRt (f : Nat) (r : FnRt) (s : State) : PcieOnly s (setFnRt f r s) := ⟨rfl, rfl, rfl, rfl, rfl⟩
theorem pcieOnly_setOutst (l : List Outst) (s : State) : PcieOnly s (setOutst l s) := ⟨rfl, rfl, rfl, rfl, rfl⟩

theorem pcieOnly_finishO {o : Outst} {st : Nat} {res : List Byte} {s : State} (hf : o.call.fn ≤ 8) : PcieOnly s (finishO o st res s) :=
  (pcieOnly_setOutst _ s).trans (replyOnly_finish hf).pcieOnly

theorem pcieOnly_clearFnLocal (f : Nat) (pcie : Bool) (s : State) : PcieOnly s (clearFnLocal f pcie s) := ⟨rfl, rfl, rfl, rfl, rfl⟩

/-- A function that the device has loses its PCIe state (R584). -/
theorem pcieOnly_resetVf {f : Nat} (hf : f ≤ 8) (s : State) : PcieOnly s (resetVf f s) := by
  have hfinish (l : List Outst) (hl : ∀ o ∈ l, o.call.fn = f) (u : State) : PcieOnly u (forL l (fun o t => finishO o sState [] t) u) :=
    List.foldlRecOn l _ (PcieOnly.refl u) fun t ht o ho => ht.trans (pcieOnly_finishO ((hl o ho).trans_le hf))
  have hown (l : List Outst) : ∀ o ∈ l.filter (fun o => o.acc && decide (o.call.fn = f)), o.call.fn = f := fun o ho => by
    obtain ⟨-, hmine⟩ := List.mem_filter.1 ho
    rw [Bool.and_eq_true, decide_eq_true_eq] at hmine
    exact hmine.2
  exact (((pcieOnly_setFnRt ..).trans (hfinish _ (hown _) _)).trans (pcieOnly_clearFnLocal f true _)).trans (pcieOnly_setFnRt ..)

/-! ### NumVFs -/

theorem pcieOnly_setNumVf (n : Nat) (s : State) : PcieOnly s (setNumVf n s) := by
  have hvfs : PcieOnly s (forN 8 (fun k t => if n < k + 1 ∧ k + 1 ≤ s.host.numVf then resetVf (k + 1) t else t) s) :=
    List.foldlRecOn (List.range 8) _ (PcieOnly.refl s) fun t ht k hk => by
      dsimp only
      split
      · exact ht.trans (pcieOnly_resetVf (List.mem_range.1 hk) t)
      · exact ht
  exact hvfs.trans ⟨rfl, rfl, rfl, rfl, rfl⟩

theorem setNumVf_numVf (n : Nat) (s : State) : (setNumVf n s).host.numVf = n := rfl

theorem setNumVf_shown {n : Nat} (hn : n ≤ 8) (s : State) : (setNumVf n s).rf aDevPcie 9 4 = n := by
  rw [setNumVf, rf_put_same _ _ (by decide) (by decide), Nat.mod_eq_of_lt (by omega)]

/-! ### PF0 -/

theorem pcieOnly_resetPf0 (s : State) : PcieOnly s (resetPf0 s) := (pcieOnly_setOutst _ s).trans (pcieOnly_clearFnLocal 0 true _)
theorem resetPf0_numVf (s : State) : (resetPf0 s).host.numVf = s.host.numVf := rfl

/-- PF0 holds no reply and masters no bus after its reset (R608). -/
theorem resetPf0_fn (s : State) : fnRt (resetPf0 s) 0 = { flr := (fnRt (mutePf0 s) 0).flr } := by
  rw [resetPf0, clearFnLocal, fnRt_setFnRt_same]
  rfl

/-! ### The rows -/

section

variable {f : Nat} {s : State}

/-- Bus Master Enable of a function outside a function-level reset (R607, R610). -/
theorem execBusMasterEnable_enabled (hf : f ≤ 8) (hen : fnEnabled s f = true) (hflr : (fnRt s f).flr = false) (en : Bool) :
    execBusMasterEnable f en s = .next (if en then flushMsix f (flushHeld f (setFnRt f { fnRt s f with bme := en } s))
      else setFnRt f { fnRt s f with bme := en } s) := by
  simp only [execBusMasterEnable, hf.not_gt, hen, hflr, Bool.not_true, Bool.or_self, Bool.false_eq_true, if_false]

theorem execMsixUnmask_function (hf : f ≤ 8) (hen : fnEnabled s f = true) :
    execMsixUnmask f none s = .next (flushMsix f (setFnRt f { fnRt s f with msixMask := false } s)) := by
  simp only [execMsixUnmask, hf.not_gt, hen, Bool.not_true, Bool.false_eq_true, if_false]

theorem execMsixUnmask_vector (hf : f ≤ 8) (hen : fnEnabled s f = true) {v : Nat} (hv : v < vecCount f) :
    execMsixUnmask f (some v) s =
      .next (flushMsix f (setFnRt f { fnRt s f with vmask := (fnRt s f).vmask &&& ~~~ BitVec.ofNat 64 (2 ^ v) } s)) := by
  simp only [execMsixUnmask, hf.not_gt, hen, hv.not_ge, Bool.not_true, Bool.false_eq_true, if_false]

/-- A function-level reset of a VF outside every change and reset of its partition is a partition reset where the partition is
held, else it ends the VF's own commands (R607). -/
theorem execFunctionReset_vf {p : Nat} (hp : p < 8) (hpres : partPresent s p = true) (hflr : (fnRt s (p + 1)).flr = false) {e : State}
    (he : e = setFnRt (p + 1) { fnRt s (p + 1) with flr := true } s) (hsw : partState s p ≠ 2) (hreset : partState s p ≠ 3) :
    execFunctionReset (p + 1) s = .next (if held s p then startReset p false true e
      else clearFnLocal (p + 1) true (finishWhere (fun o => o.acc && decide (o.call.fn = p + 1)) sState e)) := by
  have hin : (decide (1 ≤ p + 1) && decide (p + 1 < 9)) = true := by
    rw [decide_eq_true (Nat.le_add_left 1 p), decide_eq_true (Nat.succ_lt_succ hp), Bool.and_self]
  have hstate : partState (setFnRt (p + 1) { fnRt s (p + 1) with flr := true } s) p = partState s p := rfl
  have hheld : held (setFnRt (p + 1) { fnRt s (p + 1) with flr := true } s) p = held s p := rfl
  subst he
  simp only [execFunctionReset, hin, Nat.add_sub_cancel, hpres, hflr, hstate, hsw, hreset, hheld, Bool.not_true, Bool.or_self, decide_false,
    Bool.false_eq_true, if_false]
  split <;> rfl

/-- The end of a partition reset, or of a VF's own (R539). -/
theorem execPartitionResetEnd_resetting {p : Nat} (hp : p < 8) (bad : Bool) (h : partState s p = 3) :
    execPartitionResetEnd p bad s = .next (endReset p bad s) := by
  simp only [execPartitionResetEnd, hp, h, decide_true, Bool.not_true, Bool.false_eq_true, if_false, if_true]

theorem execPartitionResetEnd_vf {p : Nat} (hp : p < 8) (bad : Bool) (hreset : partState s p ≠ 3) (hsw : partState s p ≠ 2)
    (hflr : (fnRt s (p + 1)).flr = true) :
    execPartitionResetEnd p bad s = .next (setFnRt (p + 1) { fnRt s (p + 1) with flr := false } s) := by
  simp only [execPartitionResetEnd, hp, hreset, hsw, hflr, ne_eq, not_false_eq_true, decide_true, Bool.and_self, Bool.not_true,
    Bool.false_eq_true, if_false, if_true]

/-- DEV_PCIE shows the trained rate and width beside NumVFs (R676). -/
theorem linkTrained_shown {r w : Nat} (hr : r < 8) (hw : w < 64) (s : State) :
    ((s.put aDevPcie 0 3 r).put aDevPcie 3 6 w).rf aDevPcie 0 3 = r ∧ ((s.put aDevPcie 0 3 r).put aDevPcie 3 6 w).rf aDevPcie 3 6 = w ∧
      ((s.put aDevPcie 0 3 r).put aDevPcie 3 6 w).rf aDevPcie 9 4 = s.rf aDevPcie 9 4 := by
  have hrate : fmask 0 3 &&& definedMask aDevPcie = fmask 0 3 := by decide
  have hwidth : fmask 3 6 &&& definedMask aDevPcie = fmask 3 6 := by decide
  have hvfs : fmask 9 4 &&& definedMask aDevPcie = fmask 9 4 := by decide
  refine ⟨?_, ?_, ?_⟩
  · rw [rf_put_apart _ _ (by decide) hrate, rf_put_same _ _ (by decide) hrate, Nat.mod_eq_of_lt (show r < 2 ^ 3 from hr)]
  · rw [rf_put_same _ _ (by decide) hwidth, Nat.mod_eq_of_lt (show w < 2 ^ 6 from hw)]
  · rw [rf_put_apart _ _ (by decide) hvfs, rf_put_apart _ _ (by decide) hvfs]

theorem linkTrained_reg {r w k : Nat} (hk : k ≠ aDevPcie) (s : State) :
    ((s.put aDevPcie 0 3 r).put aDevPcie 3 6 w).reg k = s.reg k := by
  rw [reg_put_ne _ _ _ _ hk, reg_put_ne _ _ _ _ hk]

end

/-- Settles O29: each row is answered by the function's state, and no PCIe reset reaches memory, domains or partitions. -/
theorem pcieFunctionsComplete : Obligations.PcieFunctionsComplete := by
  unfold Obligations.PcieFunctionsComplete
  have hpcie (s : State) : PcieOnly s (pcieReset s) := (pcieOnly_setNumVf 0 s).trans (pcieOnly_resetPf0 _)
  refine ⟨fun f s hf hen => ⟨fun hflr => ⟨execBusMasterEnable_enabled hf hen hflr false, execBusMasterEnable_enabled hf hen hflr true⟩,
      execMsixUnmask_function hf hen, fun v => execMsixUnmask_vector hf hen⟩,
    ?numVfs, fun s p hp hpres hflr e he hsw hreset => ?flr,
    fun s p bad hp => ⟨execPartitionResetEnd_resetting hp bad, execPartitionResetEnd_vf hp bad⟩, ?pf0, fun s => ⟨?hot, ?perst⟩,
    fun s r w hr hw => ?trained, ?release, fun s ir => rfl⟩
  case numVfs =>
    intro n s hn
    have hkept := pcieOnly_setNumVf n s
    exact ⟨setNumVf n s, if_neg hn.not_gt, setNumVf_numVf n s, setNumVf_shown hn s, hkept.mem, hkept.fab, hkept.doms, hkept.parts⟩
  case flr =>
    have hrow := execFunctionReset_vf hp hpres hflr he hsw hreset
    exact ⟨fun hheld => hrow.trans (by rw [if_pos hheld]), fun hfree => hrow.trans (by rw [hfree, if_neg Bool.false_ne_true])⟩
  case pf0 =>
    intro s
    exact ⟨pcieReset s, rfl, (resetPf0_numVf _).trans (setNumVf_numVf 0 s), by rw [pcieReset, resetPf0_fn], by rw [pcieReset, resetPf0_fn],
      (hpcie s).mem, (hpcie s).doms, (hpcie s).parts⟩
  case hot =>
    exact ⟨pcieReset s, rfl, (resetPf0_numVf _).trans (setNumVf_numVf 0 s), (hpcie s).ready, (hpcie s).mem, (hpcie s).doms, (hpcie s).parts⟩
  case perst =>
    exact ⟨_, rfl, (resetPf0_numVf _).trans (setNumVf_numVf 0 s), rfl, (hpcie s).mem, (hpcie s).doms, (hpcie s).parts⟩
  case trained =>
    obtain ⟨hrate, hwidth, hvfs⟩ := linkTrained_shown hr hw s
    exact ⟨_, rfl, hrate, hwidth, hvfs, fun k hk => linkTrained_reg hk s, rfl⟩
  case release => exact fun s hphase => congrArg Host.Outcome.next (if_pos hphase)

end Sys2Proof.Proofs
end

section
/-! PROOFS. Power loops, fault records and self-test by command (R632, R633, R738 to R740, R772, R773). -/

namespace Sys2Proof.Proofs

open Sys2Proof Sys2Proof.Machine Sys2Proof.Laws

section

variable {c : Call} {s e : State}

/-- PWR_PIN within the range of a loop that is present, with a pin that does not yield (R738, R740). -/
theorem bodyPwrPin_inForce (hmin : 3 ≤ c.b 16) (hmax : c.b 16 ≤ 7) (hi : c.b 17 < lpCount (c.b 16))
    (hpres : lpPresent s (c.b 16) (c.b 17) = true) (hbounds : boundsOk (c.b 16) (c.le 20 4) (c.le 24 4) = true)
    (hone : ¬ (c.bit 18 0 = true ∧ c.bit 18 1 = true)) {f : State}
    (hf : f = s.setReg (aPwr (c.b 16) (c.b 17) 1) (BitVec.ofNat 32 (c.le 24 4 * 2 ^ 16 + c.le 20 4)))
    (he : e = if c.bit 18 0 then f.setBit (aPwr (c.b 16) (c.b 17) 3) 31 true
      else if c.bit 18 1 then f.setBit (aPwr (c.b 16) (c.b 17) 3) 31 false else f)
    (hyields : pinYields e (c.b 16) (c.b 17) = none) :
    bodyPwrPin c s = .done sOk (leBytes 4 (lpValue e (c.b 16) (c.b 17))) e := by
  have hexclusive : (c.bit 18 0 && c.bit 18 1) = false := by
    rwa [← Bool.not_eq_true, Bool.and_eq_true]
  simp only [bodyPwrPin, hmin, hmax, hi.not_ge, hpres, hbounds, hexclusive, ← hf, ← he, hyields, decide_true, decide_false, Bool.and_self,
    Bool.not_true, Bool.or_self, Bool.false_eq_true, if_false]

/-- PWR_HINT of a loop's own partition, with a hint that does not yield (R739, R740). -/
theorem bodyPwrHint_inForce (hhints : lpTakesHints (c.b 16) = true) (hi : c.b 17 < lpCount (c.b 16)) (hpart : c.b 17 = c.part.toNat)
    (hbounds : boundsOk (c.b 16) (c.le 20 4) (c.le 24 4) = true)
    (he : e = (s.setReg (aPwr (c.b 16) (c.b 17) 2) (BitVec.ofNat 32 (c.le 24 4 * 2 ^ 16 + c.le 20 4))).setBit (aPwr (c.b 16) (c.b 17) 3) 30
      (c.bit 18 0)) (hyields : hintYields e (c.b 16) (c.b 17) = none) :
    bodyPwrHint c s = .done sOk (leBytes 4 (lpValue e (c.b 16) (c.b 17))) e := by
  have hown : ¬ c.b 17 ≠ c.part.toNat := not_not_intro hpart
  simp only [bodyPwrHint, hhints, hi.not_ge, if_neg hown, hbounds, ← he, hyields, decide_false, Bool.not_true, Bool.or_self,
    Bool.false_eq_true, if_false]

/-- PWR_QUERY of a loop that the function may see (R738). -/
theorem bodyPwrQuery_visible (hmin : 3 ≤ c.b 16) (hmax : c.b 16 ≤ 7) (hi : c.b 17 < lpCount (c.b 16))
    (hfn : c.fn = 0 ∨ lpPart s (c.b 16) (c.b 17) = some (c.fn - 1)) (hpres : lpPresent s (c.b 16) (c.b 17) = true) {b : Nat × Nat}
    (hb : b = if lpPinned s (c.b 16) (c.b 17) then (lpPinLo s (c.b 16) (c.b 17), lpPinHi s (c.b 16) (c.b 17)) else pwrLimits (c.b 16)) :
    bodyPwrQuery c s = .done sOk (leBytes 4 (lpValue s (c.b 16) (c.b 17)) ++ leBytes 4 b.1 ++ leBytes 4 b.2 ++
      [bite (s.rf (aPwr (c.b 16) (c.b 17) 0) 28 4)]) s := by
  have hsees : ¬ (c.fn ≠ 0 ∧ lpPart s (c.b 16) (c.b 17) ≠ some (c.fn - 1)) := fun ⟨hvf, hother⟩ => hfn.elim hvf hother
  subst hb
  simp only [bodyPwrQuery, hmin, hmax, hi.not_ge, if_neg hsees, hpres, decide_true, decide_false, Bool.and_self, Bool.not_true, Bool.or_self,
    Bool.false_eq_true, if_false]

/-- FAULT_READ of a buffer that the function may read (R773). -/
theorem bodyFaultRead_readable (hfn : c.fn = 0 ∨ c.fn = c.b 16 + 1) (hdev : c.b 16 = 0xFF → c.fn = 0)
    (hpart : c.b 16 ≠ 0xFF → partPresent s (c.b 16) = true) (hout : c.outOk (c.le 24 8) (c.le 32 4) = none) {r : List (List Byte)}
    (hr : r = (faultBuf s (if c.b 16 = 0xFF then devBuf else c.b 16)).recs) :
    bodyFaultRead c s = .done sOk (leBytes 4 r.length ++ leBytes 4 (32 * r.length))
      (c.output (c.le 24 8) ((r.flatMap id).take (min (c.le 32 4) (32 * r.length))) s) := by
  have hoperator : (decide (c.b 16 = 0xFF) && decide (c.fn ≠ 0)) = false := by
    rw [Bool.and_eq_false_imp, decide_eq_true_eq]
    exact fun h => decide_eq_false (not_not_intro (hdev h))
  have hpresent : (decide (c.b 16 ≠ 0xFF) && !partPresent s (c.b 16)) = false := by
    rw [Bool.and_eq_false_imp, decide_eq_true_eq]
    exact fun h => by rw [hpart h, Bool.not_true]
  have hown : (decide (c.b 16 ≠ 0xFF) && decide (c.fn ≠ 0) && decide (c.fn ≠ c.b 16 + 1)) = false := by
    rw [Bool.and_assoc, ← Bool.decide_and, decide_eq_false (fun h : c.fn ≠ 0 ∧ c.fn ≠ c.b 16 + 1 => hfn.elim h.1 h.2), Bool.and_false]
  subst hr
  simp only [bodyFaultRead, hoperator, hpresent, hown, hout, Bool.false_eq_true, if_false]

/-- SELFTEST of idle partitions begins (R772). -/
theorem bodySelftest_idle (hidle : ∀ p ∈ maskBits 8 (c.b 16), partPresent s p = true ∧ plnState s p = stIdle) :
    bodySelftest c s = .long {} (s.setBit aSafStat 28 true) := by
  have hpresent : (maskBits 8 (c.b 16)).any (fun p => !partPresent s p) = false :=
    List.any_eq_false.2 fun p hp => by rw [(hidle p hp).1]; decide
  have hstopped : (maskBits 8 (c.b 16)).any (fun p => decide (plnState s p ≠ stIdle)) = false :=
    List.any_eq_false.2 fun p hp => by rw [(hidle p hp).2]; decide
  simp only [bodySelftest, hpresent, hstopped, Bool.false_eq_true, if_false]

end

/-- Settles O21: each command passes its own checks. -/
theorem powerAndFaultCommandsComplete : Obligations.PowerAndFaultCommandsComplete := by
  unfold Obligations.PowerAndFaultCommandsComplete
  refine ⟨fun c s e l i hl hi => ?loops, fun c s r hpass hfn hdev hpart hout hr => ?fault, fun c s a ha hpass hidle => ?test⟩
  case loops =>
    subst hl hi
    refine ⟨?pin, ?hint, ?query⟩
    case pin =>
      intro hpass hmin hmax hi hpres hbounds hone f hf he hyields
      exact congrArg Host.Outcome.next (runCmd_ok hpass rfl (bodyPwrPin_inForce hmin hmax hi hpres hbounds hone hf he hyields))
    case hint =>
      intro hpass hhints hi hpart hbounds he hyields
      exact congrArg Host.Outcome.next (runCmd_ok hpass rfl (bodyPwrHint_inForce hhints hi hpart hbounds he hyields))
    case query =>
      intro hpass hmin hmax hi hfn hpres b hb
      exact congrArg Host.Outcome.next (runCmd_ok hpass rfl (bodyPwrQuery_visible hmin hmax hi hfn hpres hb))
  case fault => exact congrArg Host.Outcome.next (runCmd_ok hpass rfl (bodyFaultRead_readable hfn hdev hpart hout hr))
  case test =>
    subst ha
    exact congrArg Host.Outcome.next (runCmd_long hpass rfl (bodySelftest_idle hidle))

end Sys2Proof.Proofs
end

section
/-! PROOFS. Drain images, migration and restore by command (R716, R719, R720, R724, R725, R728). -/

namespace Sys2Proof.Proofs

open Sys2Proof Sys2Proof.Machine Sys2Proof.Laws

/-- What a LONG command leaves, by the answer of its body (R600, R618). -/
def answered (op : Nat) (c : Call) : CmdRes → State
  | .fail st res e => finish c op st res e
  | .done st res e => finish c op st res (mark c op e)
  | .long o e => running op c o e

theorem runCmd_answered {op caller body} {c : Call} {s : State} (hpass : PassesLong op caller c s) (hl : isLong op = true) :
    runCmd op caller body c s = answered op c (body c (accepted op c s)) := by
  rw [runCmd_long_eq hpass hl]
  cases body c (accepted op c s) <;> rfl

section

variable {c : Call} {a : State}

/-- DRAIN of a domain into a region with room for its image: a resting domain is captured now, a running one at its stop (R716). -/
theorem bodyDrain_room (hdom : domLow a c.part.toNat = c.part.toNat) (hregion : drainRegion a c.part.toNat (c.b 16) (c.le 24 8) = true)
    (hbusy : drainBusy a c 0x82 c.part.toNat = false) (hstart : ∀ q ∈ maskBits 8 (domMask a c.part.toNat), startPending a q = false)
    (hroom : c.le 24 8 + imgLen (chunkCount a (domMask a c.part.toNat) (c.bit 17 0)) ≤ rgnUsable a c.part.toNat (c.b 16)) :
    bodyDrain c a = if plnState a c.part.toNat = stIdle ∨ plnState a c.part.toNat = stHalted then
        .long { a := c.part.toNat, b := 1, data := leBytes 8 (drawId a) }
          { a.bump with caps := captureDom c.part.toNat (drawId a) allOnes48 a.bump :: a.caps.filter (fun x => decide (x.id ≠ drawId a)) }
      else .long { a := c.part.toNat, b := 0, data := leBytes 8 (drawId a) } a.bump := by
  have hfree : (maskBits 8 (domMask a c.part.toNat)).any (startPending a) = false :=
    List.any_eq_false.2 fun q hq => Bool.eq_false_iff.1 (hstart q hq)
  simp only [bodyDrain, hdom, hregion, hbusy, hfree, hroom.not_gt, ne_eq, not_true_eq_false, Bool.not_true, Bool.or_self,
    Bool.false_eq_true, if_false, ← Bool.decide_or, decide_eq_true_eq]
  split <;> rename_i hrest
  · rw [decide_eq_true hrest]; rfl
  · rw [decide_eq_false hrest]; rfl

/-- No other transfer uses the port of the call (Table 19-13). -/
theorem port_free {op n : Nat} {l : List Outst}
    (hfree : ∀ o ∈ l, o.acc = true → (o.op = 0x83 ∨ o.op = 0x84) → o.call.b 17 = n → isCall c op o = true) :
    l.any (fun o => o.acc && (decide (o.op = 0x83) || decide (o.op = 0x84)) && decide (o.call.b 17 = n) && !isCall c op o) = false := by
  refine List.any_eq_false.2 fun o ho hbusy => ?_
  simp only [Bool.and_eq_true, Bool.or_eq_true, decide_eq_true_eq, Bool.not_eq_true'] at hbusy
  obtain ⟨⟨⟨hacc, hop⟩, hport⟩, hother⟩ := hbusy
  rw [hfree o ho hacc hop hport] at hother
  cases hother

/-- MIGRATE follows what stands in the region, then the job key and the port (R724). -/
theorem bodyMigrate_region (hport : portPresent a (c.b 17) = true) (hdom : domLow a c.part.toNat = c.part.toNat)
    (hregion : drainRegion a c.part.toNat (c.b 16) (c.le 24 8) = true) (hbusy : drainBusy a c 0x83 c.part.toNat = false)
    (hfree : ∀ o ∈ a.host.outst, o.acc = true → (o.op = 0x83 ∨ o.op = 0x84) → o.call.b 17 = c.b 17 → isCall c 0x83 o = true) :
    bodyMigrate c a = match completeImage c.part.toNat (c.b 16) (c.le 24 8) a with
      | (none, t) => .fail sState [] t
      | (some hdr, t) => match (holderKeys a c.part.toNat).job with
        | none => .fail sKey [] t
        | some k => if migPort a c.part.toNat (c.b 17) (c.le 18 2) then
            .long { a := c.part.toNat, data := hdr ++ migKey k ((hdr.drop 56).take 8) (a.rf aPealId 0 10) (c.le 18 2) } t
          else .fail sState [] t := by
  simp only [bodyMigrate, hport, hdom, hregion, hbusy, port_free hfree, ne_eq, not_true_eq_false, decide_false, Bool.not_true,
    Bool.or_self, Bool.false_eq_true, if_false, ite_bnot, CmdRes.no]
  obtain ⟨img, t⟩ := completeImage c.part.toNat (c.b 16) (c.le 24 8) a
  cases img <;> rfl

/-- MIGRATE_RECV with a job key on a port that may receive waits for OFFER (R725). -/
theorem bodyMigrateRecv_ready (hport : portPresent a (c.b 17) = true) (hdom : domLow a c.part.toNat = c.part.toNat)
    (hregion : drainRegion a c.part.toNat (c.b 16) (c.le 24 8) = true) (hbusy : drainBusy a c 0x84 c.part.toNat = false)
    (hfree : ∀ o ∈ a.host.outst, o.acc = true → (o.op = 0x83 ∨ o.op = 0x84) → o.call.b 17 = c.b 17 → isCall c 0x84 o = true)
    {k : List Byte} (hkey : (holderKeys a c.part.toNat).job = some k) (hmig : migPort a c.part.toNat (c.b 17) (c.le 18 2) = true) :
    bodyMigrateRecv c a = .long { a := c.part.toNat, data := zeros 128 ++ k } a := by
  simp only [bodyMigrateRecv, hport, hdom, hregion, hbusy, port_free hfree, hkey, hmig, ne_eq, not_true_eq_false, decide_false,
    Bool.not_true, Bool.or_self, Bool.false_eq_true, if_false]

/-- RESTORE into an idle domain follows the image's header, its chunks, and whose it is (R728, R729). -/
theorem bodyRestore_idle (hdom : domLow a c.part.toNat = c.part.toNat)
    (hregion : drainRegion a c.part.toNat (c.b 16) (c.le 24 8) = true) (hbusy : drainBusy a c 0x85 c.part.toNat = false)
    (hidle : plnState a c.part.toNat = stIdle) :
    bodyRestore c a = match completeImage c.part.toNat (c.b 16) (c.le 24 8) a with
      | (none, t) => .fail sState [] t
      | (some hdr, t) =>
        if byteAt hdr 8 ≠ a.fuse.stepping ∨ byteAt hdr 7 ≠ domMask a c.part.toNat ∨ (byteAt hdr 6).testBit 2 = true ∨
            ((byteAt hdr 6).testBit 1 = true ∧ imageCtx a c.part.toNat hdr = none) then .fail sState [] t
        else match readChunks c.part.toNat (c.b 16) (c.le 24 8) ((hdr.drop 56).take 8) (leAt hdr 64 4) 0 [] true t with
          | (_, false, u) => .fail sIntegrity [] u
          | (bs, true, u) =>
            if leAt hdr 12 2 ≠ tenantOf a c.part.toNat ∨ ((capOf a hdr bs).streams ≠ [] ∧ (holderKeys a c.part.toNat).job = none) then
              .fail sKey [] u
            else .long { a := c.part.toNat, data := hdr ++ bs.flatMap (fun b => leBytes 4 b.length ++ b) } u := by
  simp only [bodyRestore, hdom, hregion, hbusy, hidle, ne_eq, not_true_eq_false, decide_false, Bool.not_true, Bool.or_self,
    Bool.false_eq_true, if_false, CmdRes.no]
  obtain ⟨img, t⟩ := completeImage c.part.toNat (c.b 16) (c.le 24 8) a
  cases img with
  | none => rfl
  | some hdr =>
    simp only [Bool.or_eq_true, Bool.and_eq_true, decide_eq_true_eq, Option.isNone_iff_eq_none, or_assoc]
    split
    · rfl
    · obtain ⟨bs, whole, u⟩ := readChunks c.part.toNat (c.b 16) (c.le 24 8) ((hdr.drop 56).take 8) (leAt hdr 64 4) 0 [] true t
      cases whole <;> rfl

end

section

variable {s : State} {i : Nat} {o : Outst}

/-- DRAIN_DONE of a captured drain writes the image into its region (R719, R720). -/
theorem execDrainDone_captured (ho : outstAt s i [0x82] = some o) (hcaptured : o.b = 1) {d : DrainCap}
    (hcap : s.caps.find? (fun d => decide (d.id = leNat o.data)) = some d) {n : Nat}
    (hn : n = imgLen (chunkCount s d.mask (o.call.bit 17 0))) (hvalid : rgnValid s o.a (o.call.b 16) = true)
    (hkind : rgnKind s o.a (o.call.b 16) = 4) (hfit : o.call.le 24 8 + n ≤ rgnUsable s o.a (o.call.b 16)) :
    execDrainDone i s = .next (match writeImage o.a (o.call.b 16) (o.call.le 24 8) (o.call.bit 17 0) d s with
      | (0, t) => finishO o sOk (leBytes 8 n) t
      | (_ + 1, t) => finishO o sIntegrity [] t) := by
  subst hn
  have hnow : ¬ (o.b = 0 ∧ (plnState s o.a = stHalted ∨ plnState s o.a = stIdle)) := by rw [hcaptured]; exact fun h => by cases h.1
  simp only [execDrainDone, ho, if_neg hnow, hcap, hvalid, hkind, hfit.not_gt, ne_eq, not_true_eq_false, decide_false, Bool.not_true,
    Bool.or_self, Bool.false_eq_true, if_false]
  obtain ⟨code, t⟩ := writeImage o.a (o.call.b 16) (o.call.le 24 8) (o.call.bit 17 0) d s
  cases code <;> rfl

theorem execMigrateTimeout_ended (ho : outstAt s i [0x83] = some o) (hend : o.c = 1) :
    execMigrateTimeout i s = .next (finishO o sTimeout [] s) := by
  simp only [execMigrateTimeout, ho, hend, decide_true, Bool.true_or, if_true]

theorem execStall_offered (ho : outstAt s i [0x84] = some o) (hoffer : o.c = 1) : execStall i s = .next (migDiscard o 5 s) := by
  simp only [execStall, ho, hoffer, if_true]

theorem execOfferTimeout_waiting (ho : outstAt s i [0x84] = some o) (hwait : o.c = 0) :
    execOfferTimeout i s = .next (finishO o sTimeout [] s) := by
  simp only [execOfferTimeout, ho, hwait, if_true]

/-- RESTORE_DONE of an image without SRAM, its domain still idle (R729). -/
theorem execRestoreDone_idle (ho : outstAt s i [0x85] = some o) (hidle : plnState s o.a = stIdle) (hpend : (domRt s o.a).pend = none)
    {hdr : List Byte} {bs : List (List Byte)} (hhdr : hdr = o.data.take 128) (hbs : bs = keptBodies (leAt hdr 64 4) (o.data.drop 128))
    (hsram : (byteAt hdr 6).testBit 0 = false) :
    execRestoreDone i s = .next (finishO o sOk [] (refreshWaiters o.a
      (loadDom o.a hdr (capOf s hdr bs) (loadCap o.a hdr (capOf s hdr bs) s)))) := by
  simp only [execRestoreDone, ho, hidle, hpend, ← hhdr, ← hbs, hsram, ne_eq, not_true_eq_false, Option.isSome_none, decide_false,
    Bool.or_self, Bool.false_eq_true, if_false]

section

variable {n : Nat} {m : MigMsg} (hn : n < 16) (hon : migOn s n = some o) (hup : migUp s n (o.call.le 18 2) = true) (hsafe : inSafe s = false)
  (hmagic : m.hdr.take 4 = [0x53, 0x58, 0x4D, 0x47]) (hfrom : leAt m.hdr 6 2 = o.call.le 18 2) (hto : leAt m.hdr 8 2 = s.rf aPealId 0 10)

include hn hon hup hsafe hmagic hfrom hto

/-- A message of the transfer's own device reaches the sender (R724). -/
theorem execMigrationMessage_sender (hop : o.op = 0x83) (hid : (m.hdr.drop 12).take 8 = (o.data.drop 56).take 8) :
    execMigrationMessage n m s = .next (if byteAt m.hdr 4 = 4 then finishO o sOk [] s
      else if byteAt m.hdr 4 = 5 then finishO o sIntegrity [] s else s) := by
  simp only [execMigrationMessage, hn, hon, hup, hsafe, hmagic, hfrom, hto, hop, hid, ne_eq, not_true_eq_false, decide_true, decide_false,
    Bool.not_true, Bool.or_self, Bool.false_eq_true, if_false, if_true]

/-- A message of the transfer's own device reaches the receiver (R725). -/
theorem execMigrationMessage_receiver (hop : o.op = 0x84) :
    execMigrationMessage n m s = .next (match byteAt m.hdr 4 with
      | 1 => if o.c = 0 then takeOffer o m s else migDiscard o 4 s
      | 2 => if o.c = 1 then takeChunk o m s else s
      | 3 => if o.c = 1 then takeEnd o m s else s
      | _ => s) := by
  have hreceiver : ¬ o.op = 0x83 := by rw [hop]; decide
  simp only [execMigrationMessage, hn, hon, hup, hsafe, hmagic, hfrom, hto, if_neg hreceiver, ne_eq, not_true_eq_false, decide_true,
    decide_false, Bool.not_true, Bool.or_self, Bool.false_eq_true, if_false] <;> rfl

end

end

/-- Settles O22: each command follows its checks and what the region holds; each end answers what was done. -/
theorem drainAndMigrationComplete : Obligations.DrainAndMigrationComplete := by
  unfold Obligations.DrainAndMigrationComplete
  refine ⟨fun c s a p off hp hoff => ?commands, fun s i o => ⟨?drained, execMigrateTimeout_ended, execStall_offered, execOfferTimeout_waiting, ?restored⟩,
    fun s n m o hn hon hup hsafe hmagic hfrom hto => ⟨fun hop hid => ?sender, fun hop => ?receiver⟩⟩
  case commands =>
    subst hp hoff
    refine ⟨?drain, ?migrate, ?receive, ?restore⟩
    case drain =>
      rintro rfl hpass hdom hregion hbusy hstart hroom
      refine congrArg Host.Outcome.next ((runCmd_answered hpass rfl).trans ?_)
      rw [bodyDrain_room hdom hregion hbusy hstart hroom]
      split <;> rfl
    case migrate =>
      rintro rfl hpass hport hdom hregion hbusy hfree
      refine congrArg Host.Outcome.next ((runCmd_answered hpass rfl).trans ?_)
      rw [bodyMigrate_region hport hdom hregion hbusy hfree]
      obtain ⟨img, t⟩ := completeImage c.part.toNat (c.b 16) (c.le 24 8) (accepted 0x83 c s)
      cases img with
      | none => rfl
      | some hdr =>
        cases (holderKeys (accepted 0x83 c s) c.part.toNat).job with
        | none => rfl
        | some k => dsimp only; split <;> rfl
    case receive =>
      rintro rfl hpass hport hdom hregion hbusy hfree k hkey hmig
      exact congrArg Host.Outcome.next (runCmd_long hpass rfl (bodyMigrateRecv_ready hport hdom hregion hbusy hfree hkey hmig))
    case restore =>
      rintro rfl hpass hdom hregion hbusy hidle
      refine congrArg Host.Outcome.next ((runCmd_answered hpass rfl).trans ?_)
      rw [bodyRestore_idle hdom hregion hbusy hidle]
      obtain ⟨img, t⟩ := completeImage c.part.toNat (c.b 16) (c.le 24 8) (accepted 0x85 c s)
      cases img with
      | none => rfl
      | some hdr =>
        dsimp only
        split
        · rfl
        · obtain ⟨bs, whole, u⟩ := readChunks c.part.toNat (c.b 16) (c.le 24 8) ((hdr.drop 56).take 8) (leAt hdr 64 4) 0 [] true t
          cases whole with
          | false => rfl
          | true => dsimp only; split <;> rfl
  case drained =>
    rintro ho hcaptured d hcap n off hn rfl hvalid hkind hfit
    exact execDrainDone_captured ho hcaptured hcap hn hvalid hkind hfit
  case restored =>
    intro ho hidle hpend hdr bs hhdr hbs hsram
    exact execRestoreDone_idle ho hidle hpend hhdr hbs hsram
  case sender =>
    have hrow := execMigrationMessage_sender hn hon hup hsafe hmagic hfrom hto hop hid
    exact ⟨fun htype => hrow.trans (by rw [if_pos htype]), fun htype => hrow.trans (by rw [htype, if_neg (by decide), if_pos rfl])⟩
  case receiver =>
    have hrow := execMigrationMessage_receiver hn hon hup hsafe hmagic hfrom hto hop
    refine ⟨fun htype hc => ?_, fun htype hc => ?_, fun htype hc => ?_⟩ <;> refine hrow.trans ?_ <;> rw [htype] <;>
      exact congrArg Host.Outcome.next (if_pos hc)

end Sys2Proof.Proofs
end

section
/-! PROOFS. A warm reset leaves no command running (R704, Table 20-5). -/

namespace Sys2Proof.Proofs

open Sys2Proof Sys2Proof.Machine Sys2Proof.Laws

/-- No command is outstanding. -/
def NoneRuns (s : State) : Prop := s.host.outst = []

section

variable {s : State} (h : NoneRuns s)

/-! ### Control structure and single updates -/

protected theorem NoneRuns.ite {c : Prop} {_ : Decidable c} {x y : State} (hx : NoneRuns x) (hy : NoneRuns y) :
    NoneRuns (if c then x else y) := by split <;> assumption

include h

protected theorem NoneRuns.forN {n : Nat} {f : Nat → State → State} (hf : ∀ i t, NoneRuns t → NoneRuns (f i t)) :
    NoneRuns (forN n f s) := forN_keeps hf h
protected theorem NoneRuns.forL {β : Type} {l : List β} {f : β → State → State} (hf : ∀ b t, NoneRuns t → NoneRuns (f b t)) :
    NoneRuns (forL l f s) := forL_keeps hf h

protected theorem NoneRuns.setReg {a v} : NoneRuns (s.setReg a v) := h
protected theorem NoneRuns.put {a lo w v} : NoneRuns (s.put a lo w v) := h.setReg
protected theorem NoneRuns.setBit {a i b} : NoneRuns (s.setBit a i b) := h.put
protected theorem NoneRuns.clearReg {a} : NoneRuns (s.clearReg a) := h.setReg
protected theorem NoneRuns.emit {e} : NoneRuns (s.emit e) := h
protected theorem NoneRuns.fab {r} : NoneRuns { s with fab := r } := h
protected theorem NoneRuns.dmas {r} : NoneRuns { s with dmas := r } := h
protected theorem NoneRuns.obs {r} : NoneRuns { s with obs := r } := h
protected theorem NoneRuns.setDomRt {d r} : NoneRuns (setDomRt d r s) := h
protected theorem NoneRuns.setQueueRt {q r} : NoneRuns (setQueueRt q r s) := h
protected theorem NoneRuns.setNet {n} : NoneRuns (setNet n s) := h
protected theorem NoneRuns.setChRt {n r} : NoneRuns (setChRt n r s) := h
protected theorem NoneRuns.setLink {n r} : NoneRuns (setLink n r s) := h
protected theorem NoneRuns.setClap {r} : NoneRuns (setClap r s) := h
protected theorem NoneRuns.setKeys {i k} : NoneRuns (setKeys i k s) := h
protected theorem NoneRuns.setTrust {t} : NoneRuns (setTrust t s) := h
protected theorem NoneRuns.setFnRt {f r} : NoneRuns (setFnRt f r s) := h
protected theorem NoneRuns.dropRegs {p} : NoneRuns (s.dropRegs p) := h
protected theorem NoneRuns.putParts {a lo w v mask} : NoneRuns (putParts a lo w v mask s) := h.forL fun _ _ h => h.put
protected theorem NoneRuns.coverRegs {p} : NoneRuns (s.coverRegs p) := h.forL fun _ _ h => h.setReg

/-! ### Commands that end: there are none -/

theorem NoneRuns.finishWhere_eq {p st} : finishWhere p st s = s := by
  rw [NoneRuns] at h
  rw [finishWhere, h]
  rfl
protected theorem NoneRuns.finishWhere {p st} : NoneRuns (finishWhere p st s) := by rwa [h.finishWhere_eq]
protected theorem NoneRuns.endPushes {mask} : NoneRuns (endPushes mask s) := by
  rw [NoneRuns] at h
  rw [endPushes, h]
  exact h
protected theorem NoneRuns.freeLoads {d} : NoneRuns (freeLoads d s) := by
  rw [NoneRuns] at h
  rw [freeLoads, h]
  rfl

/-! ### A domain that stops -/

protected theorem NoneRuns.dropHeldStrikes {mask} : NoneRuns (dropHeldStrikes mask s) :=
  h.forL fun _ _ h => h.setQueueRt.forL fun e t ht => by
    split
    · exact ht.setBit
    · exact ht
protected theorem NoneRuns.emptyQueues {mask} : NoneRuns (emptyQueues mask s) :=
  h.forL fun _ _ h => h.forN fun _ _ h => h.setQueueRt.ite h.setQueueRt.put
protected theorem NoneRuns.markOld {mask} : NoneRuns (markOld mask s) := h
protected theorem NoneRuns.clearNet {mask count} : NoneRuns (clearNet mask count s) :=
  have hcounted : NoneRuns (if count then _ else s) := (h.forL fun _ _ h => h.put.ite h).ite h
  hcounted.setNet.setBit.ite hcounted.setNet
protected theorem NoneRuns.clearCus {mask} : NoneRuns (clearCus mask s) := h.fab.setBit.ite h.fab
protected theorem NoneRuns.clearMus {mask} : NoneRuns (clearMus mask s) := h.fab.setBit.ite h.fab
protected theorem NoneRuns.planBoundary {d} : NoneRuns (planBoundary d s) :=
  h.dropHeldStrikes.emptyQueues.markOld.clearNet.clearCus.clearMus.endPushes.freeLoads.setDomRt
protected theorem NoneRuns.clearRun {d} : NoneRuns (clearRun d s) :=
  (h.setDomRt.forL fun _ _ h => h.setBit).forL fun _ _ h => h.forN fun _ _ h => h.put
protected theorem NoneRuns.warmStop {d} : NoneRuns (warmStop d s) :=
  h.clearRun.planBoundary.setDomRt.putParts.putParts.putParts.putParts

/-! ### Functions, channels, engines, ports, keys -/

protected theorem NoneRuns.clearFnLocal {f pcie} : NoneRuns (clearFnLocal f pcie s) := h.dropRegs.setFnRt
protected theorem NoneRuns.dropChannel {n} : NoneRuns (dropChannel n s) := h.setChRt.setBit
protected theorem NoneRuns.abortEngines {p ungrant} : NoneRuns (abortEngines p ungrant s) := by
  refine h.forN fun r t ht => .ite ?_ ht
  extract_lets ended dropped aborted
  have hended : NoneRuns ended := ht.setBit.setBit.finishWhere.ite ht
  have hdropped : NoneRuns dropped := hended.forN fun _ _ h => h.dropChannel.ite h
  have haborted : NoneRuns aborted := hdropped.dmas
  exact haborted.put.ite haborted
protected theorem NoneRuns.warmPort {n} : NoneRuns (warmPort n s) := h.put.setLink
protected theorem NoneRuns.strapPmd : NoneRuns (strapPmd s) := h.forN fun _ _ h => h.put
protected theorem NoneRuns.refreshHolder {i} : NoneRuns (refreshHolder i s) := h.setReg.setReg.ite h
protected theorem NoneRuns.closeSession {i} : NoneRuns (closeSession i s) := h.setTrust.refreshHolder
protected theorem NoneRuns.warmKeys : NoneRuns (warmKeys s) :=
  have hstaged : NoneRuns (forN 9 (fun i t => dropStaging i t) s) := h.forN fun _ _ h => h.setKeys.closeSession
  hstaged.setTrust.clearReg.setBit.setTrust.ite hstaged.setTrust

end

/-! ### The whole reset -/

theorem refreshSvc_unready {s : State} (h : mrpReady s = false) : refreshSvc s = s := by
  simp only [refreshSvc, h, Bool.not_false, Bool.true_or, if_true]

theorem mrpReady_cleared (s : State) : (s.setBit aDevStatus 31 false).rbit aDevStatus 31 = false :=
  rbit_setBit_same s _ (by decide) (by decide)

/-- A warm reset of a booted device ends with the MRP not ready, from a state where no command runs (R704). -/
theorem warmReset_booted {s : State} (h : s.boot.phase = 3) :
    ∃ x, NoneRuns x ∧ warmReset s = setBoot { x.boot with phase := 5 } (x.setBit aDevStatus 31 false) := by
  have hhost : ¬ s.boot.phase = 4 := by rw [h]; decide
  have hearly : ¬ s.boot.phase < 3 := by rw [h]; decide
  rw [warmReset, if_neg hhost, if_neg hearly]
  extract_lets settled emptied record test stopped fns chans obs unstaged pins clapped engines ports straps keyed boot
  have hstopped : NoneRuns stopped := (show NoneRuns emptied from rfl).setBit.setBit.forL fun _ _ h => h.warmStop
  have hfns : NoneRuns fns := hstopped.forN fun _ _ h => h.clearFnLocal
  have hchans : NoneRuns chans := hfns.forN fun _ _ h => h.dropChannel.setBit
  have hpins : NoneRuns pins := hchans.obs.forN fun _ _ h => h.emit
  have hengines : NoneRuns engines := hpins.setClap.forN fun _ _ h => h.abortEngines
  have hports : NoneRuns ports := hengines.forN fun _ _ h => h.warmPort
  have hkeyed : NoneRuns keyed := hports.coverRegs.strapPmd.warmKeys
  unfold boot
  clear_value keyed
  exact ⟨keyed, hkeyed, refreshSvc_unready (mrpReady_cleared keyed)⟩

end Sys2Proof.Proofs
end

section
/-! PROOFS. Power, cold boot, warm reset, host recovery and MRP_READY (R700 to R712, R735, R782). -/

namespace Sys2Proof.Proofs

open Sys2Proof Sys2Proof.Machine Sys2Proof.Laws

section

variable {s : State}

/-! ### Loss of power -/

/-- A cut record update touches trust alone, and never FW_SVN of the OTP (R568). -/
theorem settleRecord_keeps (s : State) :
    (settleRecord s).fuse.variant = s.fuse.variant ∧ (settleRecord s).trust.fwOtp = s.trust.fwOtp := by
  unfold settleRecord
  split
  · exact ⟨rfl, rfl⟩
  · refine ⟨rfl, ?_⟩
    show (putSlot _ _ s.trust).fwOtp = s.trust.fwOtp
    unfold putSlot
    split <;> rfl

/-! ### Cold boot -/

/-- What leads from `s` to `t` keeps NumVFs and the slip domains. -/
def KeepsRun (s t : State) : Prop := t.host.numVf = s.host.numVf ∧ t.doms = s.doms

theorem KeepsRun.trans {s t u : State} (h : KeepsRun s t) (h' : KeepsRun t u) : KeepsRun s u := ⟨h'.1.trans h.1, h'.2.trans h.2⟩

theorem keepsRun_strapPmd (s : State) : KeepsRun s (strapPmd s) :=
  forN_keeps (P := KeepsRun s) (fun _ _ ht => ht.trans ⟨rfl, rfl⟩) ⟨rfl, rfl⟩
theorem keepsRun_errFlag (flag fn src wher : Nat) (s : State) : KeepsRun s (errFlag flag fn src wher s) := by
  obtain ⟨⟨_, _, _, _, _, hshape⟩, hvfs, -, -, -⟩ := (ReplyOnly.refl s).errFlag (flag := flag) (fn := fn) (src := src) (wher := wher)
  exact ⟨hvfs, by rw [hshape]⟩
theorem keepsRun_measure (img : List Byte) (src : Nat) (s : State) : KeepsRun s (Machine.measure img src s) := by
  unfold Machine.measure
  extract_lets cfg u
  split <;> exact ⟨rfl, rfl⟩

/-- Steps 1 to 3 of a boot end with an image measured, or with the ROM awaiting the host; without readable flash it awaits the
host (R706, R710). -/
theorem bootSteps_ends (s : State) : KeepsRun s (bootSteps s) ∧ ((bootSteps s).boot.phase = 2 ∨ (bootSteps s).boot.phase = 4) ∧
    (s.boot.found.flashOk = false → (bootSteps s).boot.phase = 4) := by
  unfold bootSteps
  extract_lets b strap strapped flashed trust u
  have hflashed : KeepsRun s flashed := by
    have hstrapped : KeepsRun s strapped := KeepsRun.trans (t := s.setReg aDevStrap strap) ⟨rfl, rfl⟩ (keepsRun_strapPmd _)
    unfold flashed
    split
    · exact hstrapped
    · exact hstrapped.trans (keepsRun_errFlag ..)
  have hu : KeepsRun s u := hflashed.trans ⟨rfl, rfl⟩
  have hnoFlash : s.boot.found.flashOk = false →
      (if b.flashOk && decide (fld strap 0 2 = 0) then fwPick u b.fwA b.fwB else none) = none := fun h => by
    rw [show b.flashOk = false from h, Bool.false_and, if_neg Bool.false_ne_true]
  split
  next hpick =>
    exact ⟨(hu.trans (keepsRun_measure ..)).trans ⟨rfl, rfl⟩, .inl rfl, fun h => by rw [hnoFlash h] at hpick; cases hpick⟩
  next hpick =>
    exact ⟨(hu.trans (keepsRun_measure ..)).trans ⟨rfl, rfl⟩, .inl rfl, fun h => by rw [hnoFlash h] at hpick; cases hpick⟩
  next => exact ⟨hu.trans ⟨rfl, rfl⟩, .inr rfl, fun _ => rfl⟩

/-! ### Resets, recovery, MRP_READY -/

theorem execWarmReset_booted (h : s.boot.phase = 3) :
    execWarmReset s = .next (warmReset (setBoot { s.boot with rstLow := true } s)) := by
  have hon : ¬ s.boot.phase = 0 := by rw [h]; decide
  have hfirst : ¬ (setBoot { s.boot with rstLow := true } s).boot.phase = 5 := by
    rw [show (setBoot { s.boot with rstLow := true } s).boot.phase = s.boot.phase from rfl, h]; decide
  rw [execWarmReset, if_neg hon]
  exact congrArg Host.Outcome.next (if_neg hfirst)

section

variable {off len total : Nat} {img : List Byte} (hphase : s.boot.phase = 4) (hbusy : s.rbit (aMbxStat 0) 31 = true)
  (hoff : off = (s.reg (aMbxDesc 0 1)).toNat) (hlen : len = (s.reg (aMbxDesc 0 2)).toNat) (htotal : total = s.rf (aMbxDesc 0 3) 0 31)
  (himg : img = spliceAt (padTo (max s.boot.image.length off) s.boot.image) off (mbxInBytes s 0 0 len))

include hphase hbusy hoff hlen htotal

/-- A piece outside its image, or of no valid length, is refused (R710). -/
theorem execRecoveryPiece_refused
    (hbad : s.reg (aMbxDesc 0 0) ≠ 0x43525853#32 ∨ len = 0 ∨ 65536 < len ∨ total < off + len) :
    execRecoveryPiece s = .next (pieceDone sParam s) := by
  have hrefused : (decide (s.reg (aMbxDesc 0 0) ≠ 0x43525853#32) || decide (len = 0) || decide (65536 < len) ||
      decide (total < off + len)) = true := by
    simpa only [Bool.or_eq_true, decide_eq_true_eq, or_assoc] using hbad
  simp only [execRecoveryPiece, hphase, hbusy, ← hoff, ← hlen, ← htotal, hrefused, ne_eq, not_true_eq_false, decide_false, Bool.not_true,
    Bool.or_self, Bool.false_eq_true, if_false, if_true]

include himg

/-- A good piece joins the image; the last one boots it when it is admissible (R710, R711). -/
theorem execRecoveryPiece_taken (hmagic : s.reg (aMbxDesc 0 0) = 0x43525853#32) (hmin : 1 ≤ len) (hmax : len ≤ 65536)
    (hfit : off + len ≤ total) :
    execRecoveryPiece s = .next (if s.rbit (aMbxDesc 0 3) 31 then
        if fwOk s (padTo total img) then pieceDone sOk (setBoot { s.boot with phase := 2, image := [] } (Machine.measure (padTo total img) 2 s))
        else pieceDone sAuth (setBoot { s.boot with image := [] } s)
      else pieceDone sOk (setBoot { s.boot with image := img } s)) := by
  simp only [execRecoveryPiece, hphase, hbusy, ← hoff, ← hlen, ← htotal, ← himg, hmagic, Nat.ne_of_gt hmin, hmax.not_gt, hfit.not_gt, ne_eq,
    not_true_eq_false, decide_false, Bool.not_true, Bool.or_self, Bool.false_eq_true, if_false, ite_bnot]
  split
  · split <;> rfl
  · rfl

end

/-- MRP_READY of a boot or of a warm reset, with SYS_RST_N high (R712). -/
theorem execMrpReady_waiting {r : ReadyIn} (hrst : s.boot.rstLow = false) (hphase : s.boot.phase = 2 ∨ s.boot.phase = 5) {e : State}
    (he : e = setBoot { s.boot with phase := 3 } (if s.boot.phase = 2 then fillRegs r s else s)) :
    execMrpReady r s = .next (settleSafe (decide (s.boot.phase = 2)) r.hold
      (startGov ((e.setBit aDevStatus 31 true).put aDevStatus 28 2 (svcLevel e)))) := by
  have hwaits : (decide (s.boot.phase = 2) || decide (s.boot.phase = 5)) = true := by
    rwa [← Bool.decide_or, decide_eq_true_eq]
  simp only [execMrpReady, hrst, hwaits, Bool.not_true, Bool.or_self, Bool.false_eq_true, if_false, decide_eq_true_eq, he]

end

/-- Settles O31: what each end of power and each step of a boot leaves. -/
theorem bootAndResetsComplete : Obligations.BootAndResetsComplete := by
  unfold Obligations.BootAndResetsComplete
  refine ⟨fun s => ?loss, fun s b hheld => ?held, fun s b htest hrst => ?cold, fun s hphase htest => ?release,
    fun s hphase => ⟨execWarmReset_booted hphase, ?warm⟩, fun s hphase hsafe hcause => ?watchdog,
    fun s hphase hbusy off len total img hoff hlen htotal himg => ⟨?refused, ?taken⟩,
    fun s r hrst hphase e he => ?ready, fun s r hrst hphase e he => ?booted⟩
  case loss =>
    obtain ⟨hvariant, hotp⟩ := settleRecord_keeps s
    exact ⟨_, rfl, rfl, rfl, rfl, rfl, hvariant, hotp, rfl⟩
  case held =>
    have hhold : (b.testEn || b.rstLow) = true := by rwa [Bool.or_eq_true]
    exact ⟨_, congrArg Host.Outcome.next (if_pos hhold), rfl, rfl, rfl, rfl, rfl⟩
  case cold =>
    have hgoes : ¬ (b.testEn || b.rstLow) = true := by rw [htest, hrst]; decide
    obtain ⟨⟨hvfs, hdoms⟩, hphase, hflash⟩ := bootSteps_ends (setBoot { phase := 1, rstLow := b.rstLow, found := b }
      (((unpowered s).emit (.pin "GONG_N" 0 false)).setBit aSafStat 29 ((unpowered s).emit (.pin "GONG_N" 0 false)).safe.reqLow))
    exact ⟨_, congrArg Host.Outcome.next (if_neg hgoes), hphase, hflash, hvfs, hdoms⟩
  case release =>
    have hgoes : (decide ((setBoot { s.boot with rstLow := false } s).boot.phase = 1) &&
        !(setBoot { s.boot with rstLow := false } s).boot.found.testEn) = true := by
      rw [decide_eq_true (show (setBoot { s.boot with rstLow := false } s).boot.phase = 1 from hphase),
        show (setBoot { s.boot with rstLow := false } s).boot.found.testEn = false from htest]
      rfl
    exact congrArg Host.Outcome.next (if_pos hgoes)
  case warm =>
    rintro e rfl
    obtain ⟨x, hidle, hreset⟩ := warmReset_booted (s := setBoot { s.boot with rstLow := true } s) hphase
    rw [hreset]
    exact ⟨rfl, mrpReady_cleared x, hidle⟩
  case watchdog =>
    refine congrArg Host.Outcome.next (if_pos ?_)
    rw [hphase, hsafe, hcause]
    rfl
  case refused => exact execRecoveryPiece_refused hphase hbusy hoff hlen htotal
  case taken =>
    intro hmagic hmin hmax hfit
    have hrow := execRecoveryPiece_taken hphase hbusy hoff hlen htotal himg hmagic hmin hmax hfit
    exact ⟨fun hmore => hrow.trans (by rw [hmore, if_neg Bool.false_ne_true]), fun hlast => hrow.trans (by rw [if_pos hlast])⟩
  case ready =>
    have hwarm : ¬ s.boot.phase = 2 := by rw [hphase]; decide
    refine (execMrpReady_waiting (e := e) hrst (.inr hphase) (by rw [if_neg hwarm]; exact he)).trans ?_
    rw [decide_eq_false hwarm]
  case booted =>
    refine (execMrpReady_waiting (e := e) hrst (.inl hphase) (by rw [if_pos hphase]; exact he)).trans ?_
    rw [decide_eq_true hphase]

end Sys2Proof.Proofs
end

section
/-! PROOFS. What a command answers: a next state, or a fault where an operand names nothing of the device. -/

namespace Sys2Proof.Proofs

open Sys2Proof Sys2Proof.Machine Sys2Proof.Laws

/-- Command `i` may end with `o`: a next state, or, when `i` is not well-formed, the fault that names what the device lacks. -/
def Answers (i : Instr) (o : Out) : Prop :=
  (∃ t, o = .next t) ∨ (wellFormed i = false ∧ ∃ w n, o = .fault (.noSuchInstance w n))

section

variable {i : Instr} {o y : Out} {x : Operand} {what : String} {n k : Nat}

theorem Answers.next {t : State} : Answers i (.next t) := .inl ⟨t, rfl⟩

theorem Answers.ite {P : Prop} {_ : Decidable P} {a b : Out} (ha : Answers i a) (hb : Answers i b) : Answers i (if P then a else b) := by
  split <;> assumption

/-! ### Tests of an operand -/

/-- An operand that names nothing makes a command ill-formed. -/
theorem Answers.missing (hx : x ∈ operands i) (hbad : ¬ x.ok = true) : Answers i (.fault (.noSuchInstance what n)) :=
  .inr ⟨List.all_eq_false.2 ⟨x, hx, hbad⟩, _, _, rfl⟩

/-- A test that an operand's own test implies. -/
theorem Answers.unless {b : Bool} (hx : x ∈ operands i) (hy : Answers i y) (hb : x.ok = true → b = true := by exact id) :
    Answers i (if !b then .fault (.noSuchInstance what n) else y) := by
  cases b with
  | false => exact .missing hx fun hok => Bool.false_ne_true (hb hok)
  | true => exact hy

theorem Answers.beyond {P : Prop} {_ : Decidable P} (hx : x ∈ operands i) (hP : x.ok = true → ¬ P) (hy : Answers i y) :
    Answers i (if P then .fault (.noSuchInstance what n) else y) := by
  split
  next h => exact .missing hx fun hok => hP hok h
  next => exact hy

theorem Answers.function {f : Nat} (hx : .fn f ∈ operands i) (hy : Answers i y) :
    Answers i (if 8 < f then .fault (.noSuchInstance what n) else y) :=
  .beyond hx (fun hok => (of_decide_eq_true hok : f ≤ 8).not_gt) hy

theorem Answers.rowWrite {w : Wr} {r : Nat} {s : State} (hx : .wr w ∈ operands i) : Answers i (rowWrite r w s) :=
  .beyond hx (fun hok => (of_decide_eq_true hok : w.fn ≤ 8).not_gt) .next

theorem Answers.rowRead {f r : Nat} {s : State} (hx : .fn f ∈ operands i) : Answers i (rowRead f r s) := .function hx (.ite .next .next)

theorem Answers.guarded {count : Nat} (hx : x ∈ operands i) (hy : Answers i y)
    (hlt : x.ok = true → k < count := by exact of_decide_eq_true) : Answers i (guarded what k count y) := by
  unfold Machine.guarded
  split
  next => exact hy
  next h => exact .missing hx fun hok => h (hlt hok)

end

/-- The first operand of a command, and the second. -/
theorem mem_fst {α : Type} {a : α} {l : List α} : a ∈ a :: l := List.mem_cons_self
theorem mem_snd {α : Type} {a b : α} {l : List α} : a ∈ b :: a :: l := List.mem_cons_of_mem _ List.mem_cons_self

/-! ### Rows that look something up before they act -/

section

variable {s : State}

theorem holderChangePhaseEnd_answers {bad : Byte} : Answers (.holderChangePhaseEnd bad) (execHolderChangePhaseEnd bad s) := by
  unfold execHolderChangePhaseEnd
  split <;> exact .next

theorem zfill_answers : Answers .zfill (execZfill s) := by
  unfold execZfill
  split
  · exact .next
  · exact .ite .next .next

theorem tollStart_answers {d : Nat} : Answers (.tollStart d) (execTollStart d s) := by
  unfold execTollStart
  refine .unless mem_fst ?_
  split
  · exact .next
  · split
    · exact .next
    · exact .next

theorem classChangeDone_answers {d : Nat} : Answers (.classChangeDone d) (execClassChangeDone d s) := by
  refine .unless mem_fst ?_
  dsimp only
  split <;> exact .next

theorem rekeyEnd_answers {h : Nat} {unread : List Nat} : Answers (.rekeyEnd h unread) (execRekeyEnd h unread s) := by
  refine .unless mem_fst ?_
  split
  · exact .next
  · exact .ite .next .next

theorem migrationMessage_answers {port : Nat} {m : MigMsg} : Answers (.migrationMessage port m) (execMigrationMessage port m s) := by
  refine .unless mem_fst ?_
  split
  · exact .next
  · exact .ite .next (.ite .next .next)

theorem arrival_answers {q : Nat} : Answers (.arrival q) (execArrival q s) := by
  refine .unless mem_fst ?_
  split
  · exact .next
  · exact .ite .next .next

theorem waitTimeout_answers {d k : Nat} : Answers (.waitTimeout d k) (execWaitTimeout d k s) := by
  refine .unless mem_fst ?_
  dsimp only
  split <;> exact .next

theorem dmaComplete_answers {d ri occ : Nat} : Answers (.dmaComplete d ri occ) (execDmaComplete d ri occ s) := by
  refine .unless mem_fst ?_
  dsimp only
  split <;> exact .next

theorem hbmReadReturn_answers {d ri occ line fault : Nat} :
    Answers (.hbmReadReturn d ri occ line fault) (execHbmReadReturn d ri occ line fault s) := by
  refine .unless mem_fst ?_
  dsimp only
  split
  · exact .next
  · exact .ite .next (.ite .next .next)

theorem dresp_answers {port : Nat} {m : TollMsg} : Answers (.dresp port m) (execDresp port m s) := by
  refine .unless mem_fst (.ite .next ?_)
  split
  · exact .next
  · exact .ite .next (.ite .next .next)

theorem ppsEdge_answers : Answers .ppsEdge (execPpsEdge s) := by
  refine .ite .next (.ite .next ?_)
  dsimp only
  split <;> exact .next

theorem tapRecord_answers {unit : Nat} {data : Bool} : Answers (.tapRecord unit data) (execTapRecord unit data s) := by
  refine .unless mem_fst ?_
  dsimp only
  split <;> exact .next

theorem packetWrite_answers : Answers .packetWrite (execPacketWrite s) := by
  unfold execPacketWrite
  split <;> exact .next

theorem scoreClose_answers {d cluster : Nat} : Answers (.scoreClose d cluster) (execScoreClose d cluster s) := by
  refine .unless mem_fst (.unless mem_snd ?_)
  dsimp only
  split
  · exact .next
  · exact .ite .next .next

theorem clapperMatch_answers : Answers .clapperMatch (execClapperMatch s) := by
  unfold execClapperMatch
  split <;> exact .next

theorem portFrame_answers {serial : Bool} : Answers (.portFrame serial) (execPortFrame serial s) := by
  refine .ite .next ?_
  dsimp only
  split
  · exact .next
  · split
    · exact .next
    · exact .next

/-- A ring is a channel's, or an ingest port's from 32. -/
theorem ringDeliver_answers {n : Nat} {ok : Bool} : Answers (.ringDeliver n ok) (execRingDeliver n ok s) := by
  unfold execRingDeliver
  split
  next => split <;> exact .next
  next hch =>
    split
    next => split <;> exact .next
    next hing => exact .missing mem_fst (by simpa [Operand.ok] using ⟨Nat.not_lt.1 hch, fun h => Nat.not_lt.1 fun h' => hing ⟨h, h'⟩⟩)

theorem msixUnmask_answers {fn : Nat} {vec : Option Nat} : Answers (.msixUnmask fn vec) (execMsixUnmask fn vec s) := by
  refine .function mem_fst (.ite .next ?_)
  dsimp only
  split
  next => exact .next
  next v => exact .beyond (x := .vector fn (some v)) mem_snd (fun hok => (of_decide_eq_true hok : v < vecCount fn).not_ge) .next

theorem descriptorFetch_answers {fn k : Nat} {desc buf : List Byte} {readErr bufErr : Bool} :
    Answers (.descriptorFetch fn k desc readErr buf bufErr) (execDescriptorFetch fn k desc readErr buf bufErr s) := by
  refine .function mem_fst (.beyond mem_snd (fun hok => (of_decide_eq_true hok : k < pairCount fn).not_ge) (.ite .next ?_))
  dsimp only
  split
  · exact .ite .next .next
  · exact .ite .next (.ite .next (.ite .next .next))

/-! ### Ends of outstanding commands -/

theorem bellWaitEnd_answers {k : Nat} : Answers (.bellWaitEnd k) (execBellWaitEnd k s) := by
  unfold execBellWaitEnd; split <;> exact .next

theorem bellWaitTimeout_answers {k : Nat} : Answers (.bellWaitTimeout k) (execBellWaitTimeout k s) := by
  unfold execBellWaitTimeout; split <;> exact .next

theorem planAdmitDone_answers {k : Nat} : Answers (.planAdmitDone k) (execPlanAdmitDone k s) := by
  unfold execPlanAdmitDone; split <;> exact .next

theorem contextLoadDone_answers {k bad : Nat} : Answers (.contextLoadDone k bad) (execContextLoadDone k bad s) := by
  unfold execContextLoadDone
  split
  · exact .next
  · refine .ite .next ?_
    dsimp only
    split <;> exact .next

theorem pushWordEnter_answers {k : Nat} : Answers (.pushWordEnter k) (execPushWordEnter k s) := by
  unfold execPushWordEnter
  split
  · exact .next
  · exact .ite .next .next

theorem pushTimeout_answers {k : Nat} : Answers (.pushTimeout k) (execPushTimeout k s) := by
  unfold execPushTimeout; split <;> exact .next

theorem migrateTimeout_answers {k : Nat} : Answers (.migrateTimeout k) (execMigrateTimeout k s) := by
  unfold execMigrateTimeout; split <;> exact .next

theorem stall_answers {k : Nat} : Answers (.stall k) (execStall k s) := by
  unfold execStall; split <;> exact .next

theorem offerTimeout_answers {k : Nat} : Answers (.offerTimeout k) (execOfferTimeout k s) := by
  unfold execOfferTimeout; split <;> exact .next

theorem drainDone_answers {k : Nat} : Answers (.drainDone k) (execDrainDone k s) := by
  unfold execDrainDone
  split
  · exact .next
  · dsimp only
    split
    · exact .next
    · exact .ite .next .next

theorem restoreDone_answers {k : Nat} : Answers (.restoreDone k) (execRestoreDone k s) := by
  unfold execRestoreDone
  split
  · exact .next
  · exact .ite .next .next

theorem selftestDone_answers {k : Nat} {failed : List Nat} : Answers (.selftestDone k failed) (execSelftestDone k failed s) := by
  unfold execSelftestDone; split <;> exact .next

theorem recordUpdateDone_answers {k : Nat} {ok : Bool} : Answers (.recordUpdateDone k ok) (execRecordUpdateDone k ok s) := by
  unfold execRecordUpdateDone
  split
  · exact .next
  · exact .ite .next .next

theorem weightUnwrapDone_answers {k : Nat} : Answers (.weightUnwrapDone k) (execWeightUnwrapDone k s) := by
  unfold execWeightUnwrapDone; split <;> exact .next

/-! ### Rows with a test of their own shape -/

theorem functionReset_answers {fn : Nat} : Answers (.functionReset fn) (execFunctionReset fn s) := by
  unfold execFunctionReset
  split
  next h =>
    by_cases hfn : fn < 9
    · exact .missing (x := .above 0 fn) mem_snd fun hok => by simp [hfn, Nat.pos_iff_ne_zero.1 (of_decide_eq_true hok)] at h
    · exact .missing mem_fst fun hok => hfn (of_decide_eq_true hok)
  next => exact .ite .next (.ite .next (.ite .next .next))

theorem counterWrite_answers {i : Instr} {ctr : CtrId} {w : Wr} {r : Nat} (hw : .wr w ∈ operands i) (hc : .ctr 0x877 ctr ∈ operands i) :
    Answers i (if ctrOk ctr then rowWrite r w s else .fault (.noSuchInstance "counter" ctr.idx)) := by
  split
  next => exact .rowWrite hw
  next h => exact .missing hc fun hok => h (by simp only [Operand.ok, Bool.and_eq_true] at hok; simpa [ctrOk] using hok.1)

theorem overflow_answers {ctr : CtrId} : Answers (.overflow ctr) (execOverflow ctr s) :=
  .unless mem_fst (.ite .next (.ite .next .next)) fun hok => by
    simp only [Operand.ok, Bool.and_eq_true] at hok ⊢
    obtain ⟨⟨⟨hg, hi⟩, -⟩, hu⟩ := hok
    exact ⟨⟨hg, hi⟩, hu⟩

theorem registerWrite_answers {a : Acc} : Answers (.registerWrite a) (execRegisterWrite a s) :=
  .beyond mem_fst (fun hok => by simp [Operand.ok] at hok; omega)
    (.beyond mem_fst (fun hok => by simp [Operand.ok] at hok; omega) (.ite .next (.ite .next .next)))

theorem bar2Access_answers {fn addr len : Nat} {write : Bool} {data : List Byte} {en : List Bool} :
    Answers (.bar2Access fn addr write len data en) (execBar2Access fn addr write len data en s) :=
  .function mem_fst (.unless mem_snd (.ite .next (.ite (.ite .next .next) (.ite .next .next))))

end

/-- What a command answers. Rows that no group names answer a next state whatever they find. -/
theorem exec_answers (i : Instr) (s : State) : Answers i (exec i s) := by
  cases i with
  -- a BAR0 write that one row performs
  | partSwitchGo w | belStrk w | snkParEn w | snkSerEn w | clpArm w | clpLevelRelease w | cntSnapGo w | cntFrzRelease w | tolCtlSrc w
  | tolSetsec w | safRselGo w | devLock w | safEnter w => exact .rowWrite mem_fst
  | mbxGo w => exact .beyond mem_fst (fun hok => (of_decide_eq_true hok : w.fn ≤ 8).not_gt) .next
  | partCtlReset w | plnSwitchGo w | memRkctlGo w | jctlGo w | channelEn w | retrain w | injectionArm w | doorbell w | cqHeadWrite w | rqEn w
  | rngRd w | flush w | b2wCtl w => exact .guarded mem_snd (.rowWrite mem_fst)
  | imrWrite w f => exact .guarded (x := .fn f) mem_snd (.rowWrite mem_fst) fun hok => Nat.lt_succ_of_le (of_decide_eq_true hok)
  | memRgna w h r => exact .guarded (x := .below 8 h) mem_snd (.guarded (x := .below 16 r) (by simp [operands]) (.rowWrite mem_fst))
  | evselWrite w | valhLoad w => exact counterWrite_answers mem_fst mem_snd
  | registerWrite => exact registerWrite_answers
  -- a BAR0 read that one row performs
  | tolNowlRead => exact .rowRead mem_fst
  | clkFclRead => exact .guarded mem_snd (.rowRead mem_fst)
  -- one test of an operand, then a next state
  | idleStrikeApply | classLock | switchEnd | runEnd | sessionExpiry | throttleWindow | slipEnd | slipLimit | slotSwitch | dotStep | agRun
  | agAccess | eccWriteBack | route | steer | creditLate | dmaIssue | linkDown | train | trainTimeout | autoRetrain | pulseEnd | groupSample
  | frameForm | flushTimer | fclkEdge | frameLock | regulatorTimeout | clockLoss
  | periodicSelftest => exact .unless mem_fst .next
  -- one test of an operand, then of the state
  | rollJobDone | governorLoop | linkEq | refreshRate | clapIn | sample | threshold | latreq | dreq | syncSend | release | voltageLoop
  | frameSend | sync | tx | rollBlock => exact .unless mem_fst (.ite .next .next)
  | hello | latrsp | partitionResetEnd => exact .unless mem_fst (.ite .next (.ite .next .next))
  | frameReceive => exact .unless mem_fst (.ite .next (.ite (.ite .next (.ite .next (.ite .next .next))) (.ite .next .next)))
  | sweepEnd => exact .unless mem_fst (.unless mem_snd (.ite .next .next))
  | busMasterEnable => exact .function mem_fst (.ite .next .next)
  | bar2ReadTimeout => exact .function mem_fst (.unless mem_snd (.ite .next .next))
  | numvfsWrite n => exact .beyond mem_fst (fun hok => Nat.not_lt.2 (Nat.lt_succ_iff.1 (of_decide_eq_true hok : n < 9))) .next
  -- a test of the state
  | mrpReady | warmReset | watchdogExpiry | tollRefclkReturn => exact .ite .next .next
  | recoveryPiece => exact .ite .next (.ite .next (.ite .next (.ite .next .next)))
  -- what the row looks up decides
  | holderChangePhaseEnd => exact holderChangePhaseEnd_answers
  | zfill => exact zfill_answers
  | tollStart => exact tollStart_answers
  | classChangeDone => exact classChangeDone_answers
  | rekeyEnd => exact rekeyEnd_answers
  | migrationMessage => exact migrationMessage_answers
  | arrival => exact arrival_answers
  | waitTimeout => exact waitTimeout_answers
  | dmaComplete => exact dmaComplete_answers
  | hbmReadReturn => exact hbmReadReturn_answers
  | dresp => exact dresp_answers
  | ppsEdge => exact ppsEdge_answers
  | tapRecord => exact tapRecord_answers
  | packetWrite => exact packetWrite_answers
  | scoreClose => exact scoreClose_answers
  | clapperMatch => exact clapperMatch_answers
  | portFrame => exact portFrame_answers
  | ringDeliver => exact ringDeliver_answers
  | msixUnmask => exact msixUnmask_answers
  | descriptorFetch => exact descriptorFetch_answers
  | bellWaitEnd => exact bellWaitEnd_answers
  | bellWaitTimeout => exact bellWaitTimeout_answers
  | planAdmitDone => exact planAdmitDone_answers
  | contextLoadDone => exact contextLoadDone_answers
  | pushWordEnter => exact pushWordEnter_answers
  | pushTimeout => exact pushTimeout_answers
  | migrateTimeout => exact migrateTimeout_answers
  | stall => exact stall_answers
  | offerTimeout => exact offerTimeout_answers
  | drainDone => exact drainDone_answers
  | restoreDone => exact restoreDone_answers
  | selftestDone => exact selftestDone_answers
  | recordUpdateDone => exact recordUpdateDone_answers
  | weightUnwrapDone => exact weightUnwrapDone_answers
  | functionReset => exact functionReset_answers
  | overflow => exact overflow_answers
  | bar2Access => exact bar2Access_answers
  | _ => exact .next

/-- Settles O46: a command faults only in a test of an operand, which the operand's own test implies. -/
theorem commandsNeverRefuse : Obligations.CommandsNeverRefuse := fun i s => exec_answers i s

/-- Settles O45: no operand of a well-formed command fails its test. -/
theorem wellFormedCommandsComplete : Obligations.WellFormedCommandsComplete := by
  intro i s hwf
  rcases exec_answers i s with hnext | ⟨hbad, -⟩
  · exact hnext
  · exact absurd hwf (Bool.eq_false_iff.1 hbad)

end Sys2Proof.Proofs
end
